-- ==== Sys2Proof/Word.lean ====
section
/-! DEFINITION. Bytes, byte strings, bit fields of naturals and the sparse tables every part of the
state is kept in. Nothing here is specific to the Silga Mawaec. -/

namespace Sys2Proof

/-- One byte of a packet, a frame or a memory. -/
abbrev Byte := BitVec 8

/-- A byte string, lowest offset first. -/
abbrev Bytes := List Byte

/-- A 64-bit result word (R99). -/
abbrev Word64 := BitVec 64

/-- A sparse table: entries by ascending key; a key that is not listed has no entry. -/
abbrev Tbl (α : Type) := List (Nat × α)

/-- The entry of key `k`, if there is one. -/
def Tbl.find {α : Type} : Tbl α → Nat → Option α
  | [], _ => none
  | (j, v) :: t, k => if j = k then some v else Tbl.find t k

/-- The entry of key `k`, or `d` where the table lists none. -/
def Tbl.get {α : Type} (t : Tbl α) (k : Nat) (d : α) : α := (Tbl.find t k).getD d

/-- Put an entry, keeping ascending keys ascending. -/
def Tbl.put {α : Type} : Tbl α → Nat → α → Tbl α
  | [], k, v => [(k, v)]
  | (j, w) :: t, k, v =>
    if j < k then (j, w) :: Tbl.put t k v
    else if j = k then (k, v) :: t
    else (k, v) :: (j, w) :: t

/-- Remove the entry of key `k`. -/
def Tbl.del {α : Type} (t : Tbl α) (k : Nat) : Tbl α := t.filter (fun e => e.1 != k)

/-- Whether the table lists key `k`. -/
def Tbl.has {α : Type} (t : Tbl α) (k : Nat) : Bool := (Tbl.find t k).isSome

/-- Change the entry of key `k`, starting from `d` where none is listed. -/
def Tbl.upd {α : Type} (t : Tbl α) (k : Nat) (d : α) (f : α → α) : Tbl α :=
  Tbl.put t k (f (Tbl.get t k d))

/-- Change every listed entry. -/
def Tbl.mapVal {α : Type} (t : Tbl α) (f : Nat → α → α) : Tbl α := t.map (fun e => (e.1, f e.1 e.2))

/-- The keys listed. -/
def Tbl.keys {α : Type} (t : Tbl α) : List Nat := t.map Prod.fst

/-- The entries listed, without their keys. -/
def Tbl.vals {α : Type} (t : Tbl α) : List α := t.map Prod.snd

/-- Put several entries from one function of the key. -/
def Tbl.putAll {α : Type} (t : Tbl α) (ks : List Nat) (f : Nat → α) : Tbl α :=
  ks.foldl (fun acc k => Tbl.put acc k (f k)) t

/-- Keys strictly ascending. -/
def Tbl.sorted {α : Type} : Tbl α → Bool
  | [] => true
  | [_] => true
  | (j, _) :: (k, w) :: t => decide (j < k) && Tbl.sorted ((k, w) :: t)

/-- Bits [lo + n - 1 : lo] of a natural. -/
def bits (v lo n : Nat) : Nat := v / 2 ^ lo % 2 ^ n

/-- Bit `i` of a natural. -/
def bit (v i : Nat) : Bool := v / 2 ^ i % 2 == 1

/-- 1 for true, 0 for false. -/
def b2n (b : Bool) : Nat := if b then 1 else 0

/-- A bit mask with bit `i` set exactly where `f i` holds, for `i < n`. -/
def maskOf (n : Nat) (f : Nat → Bool) : Nat :=
  (List.range n).foldl (fun acc i => acc + (if f i then 2 ^ i else 0)) 0

/-- The positions of the bits set in `v`, below `n`, ascending. -/
def bitsSet (n v : Nat) : List Nat := (List.range n).filter (bit v)

/-- Set bit `i` of `v` (no change where it is set). -/
def setBit (v i : Nat) : Nat := if bit v i then v else v + 2 ^ i

/-- Clear bit `i` of `v`. -/
def clrBit (v i : Nat) : Nat := if bit v i then v - 2 ^ i else v

/-- The byte at offset `i`; 0 beyond the end. -/
def byteAt (b : Bytes) (i : Nat) : Nat := (b.getD i 0).toNat

/-- `n` bytes from offset `i`, least significant first (R14). -/
def le (b : Bytes) : Nat → Nat → Nat
  | _, 0 => 0
  | i, n + 1 => byteAt b i + 256 * le b (i + 1) n

/-- `n` bytes from offset `i`, most significant first (Silga link and Cleosh). -/
def be (b : Bytes) (i n : Nat) : Nat :=
  (List.range n).foldl (fun acc k => acc * 256 + byteAt b (i + k)) 0

/-- `n` bytes of `v`, least significant first. -/
def leBytes : Nat → Nat → Bytes
  | 0, _ => []
  | n + 1, v => BitVec.ofNat 8 v :: leBytes n (v / 256)

/-- `n` bytes of `v`, most significant first. -/
def beBytes (n v : Nat) : Bytes := (leBytes n v).reverse

/-- `n` zero bytes. -/
def zeros (n : Nat) : Bytes := List.replicate n 0

/-- The `n` bytes from offset `i`. -/
def bytesAt (b : Bytes) (i n : Nat) : Bytes := (b.drop i).take n

/-- `b` cut or zero-padded to exactly `n` bytes. -/
def padTo (n : Nat) (b : Bytes) : Bytes := b.take n ++ zeros (n - b.length)

/-- The characters of a string as ASCII bytes. -/
def ascii (s : String) : Bytes := s.toList.map (fun c => BitVec.ofNat 8 c.toNat)

/-- `v` as a 64-bit result word. -/
def w64 (v : Nat) : Word64 := BitVec.ofNat 64 v

/-- Increment saturating at `2 ^ n - 1`. -/
def satInc (n v : Nat) : Nat := min (v + 1) (2 ^ n - 1)

/-- Addition saturating at `2 ^ n - 1`. -/
def satAdd (n v k : Nat) : Nat := min (v + k) (2 ^ n - 1)

/-- `a / b` rounded up. -/
def ceilDiv (a b : Nat) : Nat := (a + b - 1) / b

/-- A signed value as `n` bits of two's complement. -/
def toTwos (n : Nat) (v : Int) : Nat := (v % (2 ^ n : Int)).toNat

/-- `n` bits of two's complement as a signed value. -/
def ofTwos (n v : Nat) : Int := if v < 2 ^ (n - 1) then (v : Int) else (v : Int) - 2 ^ n

/-- A signed value limited to `n` bits of two's complement. -/
def satSigned (n : Nat) (v : Int) : Int :=
  max (-(2 ^ (n - 1) : Int)) (min v ((2 ^ (n - 1) : Int) - 1))

/-- Bitwise exclusive or of naturals below `2 ^ 64`. -/
def xor64 (a b : Nat) : Nat := Nat.xor a b

/-- The first element that satisfies `p`, with its index counted from `i`. -/
def findIdxFrom {α : Type} (p : α → Bool) : List α → Nat → Option (Nat × α)
  | [], _ => none
  | x :: t, i => if p x then some (i, x) else findIdxFrom p t (i + 1)

/-- The list without repeated values, first occurrences kept in order. -/
def nubNat : List Nat → List Nat
  | [] => []
  | x :: t => x :: (nubNat t).filter (· != x)

/-- The least natural of a list, if there is one. -/
def minNat? : List Nat → Option Nat
  | [] => none
  | x :: t => match minNat? t with
    | none => some x
    | some y => some (min x y)

end Sys2Proof
end

