-- ==== Sys2Proof/Syntax.lean ====
section
/-! DEFINITION. The commands of the block: one constructor of `Instr` for each row of
spec/opcode_table.json, with the operands its rule gives it. The table gives no row any bits, so the
operands stand here as the rules name them: a host command carries its packet's function, ring and
parameter bytes (R95, R96); a frame, flit, burst or datagram carries its bytes; an event carries what
the outside world or a sensor supplies. -/

namespace Sys2Proof

/-- How the module's reads and writes of host memory for a command end (R76, R89). -/
inductive Dma where
  | ok          -- every read and write succeeds
  | readFault   -- the read of the parameter block or data buffer fails
  | cplFault    -- the write of the completion entry fails
deriving DecidableEq, Repr

/-- A host command as the module starts it (R95 to R97): who issued it, on which ring, and its
parameter bytes: packet bytes 16 to 63 for an inline command, the copied block for one by pointer. -/
structure Req where
  /-- issuing function: 0 the PF, n the VF n -/
  fn     : Fin 64
  /-- ring of the function, 0 to 15 -/
  ring   : Fin 16
  /-- SEQ byte of the packet -/
  seq    : Fin 256
  /-- TAG of the packet -/
  tag    : Nat
  /-- SLICE field of the packet -/
  slice  : Nat
  /-- inline bytes 16 to 63, or the pointer block -/
  params : Bytes
  /-- host buffer that the command reads besides its block (OPT_STATE_LOAD, R275) -/
  data   : Bytes
  /-- how the host-memory accesses of the command end -/
  dma    : Dma
deriving DecidableEq, Repr

/-- What loses or regains its light on the transparent plane (R132). -/
inductive Monitor where
  | source (k : Fin 32)     -- monitor source k feeds positions 32k to 32k + 31 (R126)
  | inTap  (p : Fin 1024)   -- input tap photodiode of a sending position
  | outTap (o : Fin 1024)   -- output tap photodiode of a receiving position
deriving DecidableEq, Repr

/-- Cause of a warm restart (R420, R448). -/
inductive RestartCause where
  | maintExit   -- MAINT_EXIT with RESTART (planned)
  | cleosh      -- Cleosh RESTART KIND 0 (planned)
  | watchdog    -- newt-core watchdog (unplanned)
  | fault       -- firmware fault (unplanned)
deriving DecidableEq, Repr

/-- What a PTP message brings (R341). -/
inductive PtpMsg where
  | announce (master : Nat)      -- Announce of a candidate master, by clockIdentity
  | sync (offset : Int)          -- Sync or Follow_Up giving an offset measurement in ns
  | delayResp (pathDelay : Nat)  -- Delay_Resp giving the mean path delay in ns
  | management                   -- a management message
deriving DecidableEq, Repr

/-- How the 54 V input is lost (R481). -/
inductive InputLoss where
  | below42 | below36 | overvoltage
deriving DecidableEq, Repr

/-- What a cold start finds (R417 to R419, R456, R457, R303). -/
structure ColdStart where
  /-- the strap bits accepted: hall 4, rack 6, parity 1 as [10:0]; none where no stable window came -/
  straps       : Option Nat
  /-- trust store and tadpole loader verify (step 2) -/
  loaderOk     : Bool
  /-- slot A and slot B verify (checks 2 to 6 of R431) -/
  slotOk       : Bool × Bool
  /-- base-die SRAM holds the tables (step 4) -/
  sramOk       : Bool
  /-- HBM stacks that fail their training or test -/
  badStacks    : List Nat
  /-- skink units that fail their known-answer test -/
  badUnits     : List Nat
  /-- newt cores that fail their self-test -/
  badCores     : List Nat
  /-- start-up steps that exceeded their bound, with the ms taken -/
  lateSteps    : List (Nat × Nat)
  /-- the recorder region passes its memory test -/
  recorderOk   : Bool
  /-- frog controllers (0 to 15 TF, 16 to 23 GF) whose image hash mismatched twice (R422) -/
  badFrogs     : List Nat
deriving DecidableEq, Repr

/-- A Cleosh message after reassembly (R425 to R427). -/
structure CMsg where
  /-- session it belongs to -/
  sess  : Nat
  /-- message number -/
  msgId : Nat
  /-- body, without SIG_LEN and signature -/
  body  : Bytes
  /-- signature of a signed message -/
  sig   : Bytes
deriving DecidableEq, Repr

/-- Where a register access goes (R78, R81). -/
inductive RegTarget where
  /-- PF BAR0 offset -/
  | pf (off : Nat)
  /-- BAR0 offset of VF n -/
  | vf (n : Fin 64) (off : Nat)
  /-- BAR2 offset of function n, 0 the PF (R386) -/
  | bar2 (n : Fin 64) (off : Nat)
  /-- VF Enable and NumVFs of the SR-IOV capability: the first n VFs are enabled (R74) -/
  | sriov
deriving DecidableEq, Repr

/-- The commands and events of spec/opcode_table.json, in its order. -/
inductive Instr where
  -- host commands (R102)
  | identify (r : Req)
  | nop (r : Req)
  | functionQuery (r : Req)
  | sliceCreate (r : Req)
  | sliceAssign (r : Req)
  | sliceQuery (r : Req)
  | sliceReset (r : Req)
  | sliceDelete (r : Req)
  | portAdmit (r : Req)
  | standingSet (r : Req)
  | chartLoad (r : Req)
  | chartQuery (r : Req)
  | chartCommit (r : Req)
  | chartCommitComplete (slice : Fin 64)
  | chartRelease (r : Req)
  | passageLoad (r : Req)
  | passageArm (r : Req)
  | passageDoorbell (r : Req)
  | passagePark (r : Req)
  | passageResume (r : Req)
  | passageAbort (r : Req)
  | passageUnload (r : Req)
  | passageQuery (r : Req)
  | fmWindowSet (r : Req)
  | qpCreate (r : Req)
  | qpDestroy (r : Req)
  | qpDrained (qp : Fin 262144)
  | qpQuery (r : Req)
  | optBind (r : Req)
  | optUnbind (r : Req)
  | optStateLoad (r : Req)
  | optStateDump (r : Req)
  | stateTransferEnd (slice : Fin 64) (tensor : Nat) (done : Nat)
  | progLoad (r : Req)
  | progUnload (r : Req)
  | residualClear (r : Req)
  | calGet (r : Req)
  | calRun (r : Req)
  | calConfig (r : Req)
  | calQuery (r : Req)
  | timeGet (r : Req)
  | timeStatus (r : Req)
  | timeConfig (r : Req)
  | triggerSet (r : Req)
  | ctrSelect (r : Req)
  | ctrSnapshot (r : Req)
  | traceConfig (r : Req)
  | traceArm (r : Req)
  | traceStop (r : Req)
  | traceQuery (r : Req)
  | logRead (r : Req)
  | logNonce (r : Req)
  | logClear (r : Req)
  | fwQuery (r : Req)
  | attest (r : Req)
  | keyList (r : Req)
  | measurements (r : Req)
  | maintEnter (r : Req)
  | maintDrainDone
  | maintExit (r : Req)
  | mirrorSet (r : Req)
  | laserSet (r : Req)
  | breakSet (r : Req)
  | coreResume (r : Req)
  -- rings and registers
  | commandFetch (fn : Fin 64) (ring : Fin 16) (entry : Option Bytes) (block : Option Bytes)
      (data : Bytes) (dma : Dma)
  | commandTimeout (fn : Fin 64) (ring : Fin 16)
  | ringDrainDone (fn : Fin 64) (ring : Fin 16)
  | hifRingCmdDb (fn : Fin 64) (ring : Fin 16) (value : Nat)
  | hifRingCplDb (fn : Fin 64) (ring : Fin 16) (value : Nat)
  | hifRingStepDb (fn : Fin 64) (ring : Fin 16) (value : Nat)
  | hifRingCtrlResume (fn : Fin 64) (ring : Fin 16) (value : Nat)
  | ringEnable (fn : Fin 64) (ring : Fin 16) (value : Nat)
  | ringDisable (fn : Fin 64) (ring : Fin 16) (value : Nat)
  | stepModeSet (fn : Fin 64) (ring : Fin 16) (value : Nat)
  | stepModeClear (fn : Fin 64) (ring : Fin 16) (value : Nat)
  | statusPageEnable (fn : Fin 64) (value : Nat)
  | registerWrite (t : RegTarget) (wide : Bool) (value : Nat)
  | registerReadClear (t : RegTarget) (wide : Bool)
  | astNowSRead
  | bar0BadAccess (fn : Fin 64) (write : Bool)
  | statusPageRefresh (faulted : List Nat)
  | functionLevelReset (fn : Fin 64)
  | pcieLinkDown
  -- passages
  | legComplete (slice : Fin 64) (pid : Fin 256)
  | waypointFire (slice : Fin 64) (pid : Fin 256)
  | timeTriggerOpen (slice : Fin 64) (pid : Fin 256)
  | legTimeout (slice : Fin 64) (pid : Fin 256)
  | waypointReady (g : Fin 64) (frame : Bytes)
  | abortSignal (g : Fin 64) (frame : Bytes)
  | dataFrame (p : Fin 256) (vc : Fin 8) (frame : Bytes)
  | globalLegFrame (g : Fin 64) (vc : Fin 8) (seq : Fin 65536) (frame : Bytes)
  | stripeFreed (slice : Fin 64)
  | optimizerPassComplete (slice : Fin 64) (pid : Fin 256)
  -- terminated ports
  | signalDetect (p : Fin 256)
  | trainFlit (p : Fin 256) (flit : Bytes)
  | trainingTimeout (p : Fin 256)
  | failedPortRetry (p : Fin 256)
  | flitReceived (p : Fin 256) (flit : Bytes)
  | codewordUncorrectable (p : Fin 256) (flits : Nat)
  | retryReq (p : Fin 256) (flit : Bytes)
  | retryReqRepeat (p : Fin 256)
  | syncLoss (p : Fin 256) (lane : Fin 4)
  | noGoodCrcTimeout (p : Fin 256)
  | signalLoss (p : Fin 256)
  | sessionHoldExpiry (p : Fin 256)
  | fecDegraded (p : Fin 256) (above : Bool)
  | hailSend (p : Fin 256)
  | hail (p : Fin 256) (flit : Bytes)
  | sync
  | delayReq (p : Fin 256) (flit : Bytes)
  | nak (p : Fin 256) (frame : Bytes)
  -- control frames of the standing stream
  | ackRecord (g : Fin 64) (frame : Bytes)
  | nakRecord (g : Fin 64) (frame : Bytes)
  | preambleRequest (g : Fin 64) (frame : Bytes)
  | foreignLight (g : Fin 64) (frame : Bytes)
  | credit (g : Fin 64) (frame : Bytes)
  -- colour plane
  | burstHeader (g : Fin 64) (header : Option Bytes) (hailFlit : Bytes)
  | compassSlot
  | retuneLockTimeout (g : Fin 64)
  | wavelengthError (l : Fin 72) (measChannel : Fin 64) (freqErr : Int)
  | relockAttemptEnd (l : Fin 72) (ok : Bool) (thermal : Bool)
  | spareTakeoverDone (group : Fin 8)
  | foreignPilot (g : Fin 64) (rack : Fin 64)
  | gateFault (l : Fin 72)
  | cablingCheckFrame (heard : List (Nat × Nat))
  | holdoverMarginStep
  | ringHeaterUpdate (errs : List Int)
  | colourSequencerFault
  | gfControllerLost (gf : Fin 8)
  -- transparent plane
  | tfBatchSlot (tf : Fin 16)
  | mirrorAcquiring (out : Fin 1024) (ident : Fin 1024)
  | mirrorSettled (out : Fin 1024) (loss : Nat)
  | mirrorParked (m : Fin 2048)
  | loopFrame (out : Fin 1024) (dx0 dy0 dx1 dy1 : Int)
  | identityCheck (out : Fin 1024) (ident : Fin 1024)
  | monitorBandDetect (t : Fin 768) (power : Int)
  | monitorBandClear (t : Fin 768)
  | monitorLoss (what : Monitor) (lost : Bool)
  | mirrorNotFollowing (m : Fin 2048)
  | latchReadback (m : Fin 2048) (x y : Nat)
  | driverOvercurrent (m : Fin 2048)
  | hvSupplyLost (b : Bool)
  | hvSupplyRestored (b : Bool)
  | tfWatchdog (tf : Fin 16)
  | tfReloaded (tf : Fin 16)
  | openPath (k : Fin 104)
  | pathClosed (k : Fin 104)
  -- discovery
  | portLit (t : Fin 768)
  | portDark (t : Fin 768)
  | probeStart (t : Fin 768)
  | probeTimeout (t : Fin 768)
  | silentRetry (t : Fin 768)
  | positionLost (slice : Fin 64) (a : Fin 80)
  | strapSample (levels : Nat)
  -- time
  | ptpMessage (m : PtpMsg)
  | ppsEdge (offset : Int)
  | disciplineLost
  | holdoverExpiry
  | unqualifiedExpiry
  | masterChange (master : Nat) (offset : Int)
  | timeStep (masterTime : Nat)
  | timeAcquisitionEnd
  | counterSnapshotTrigger (i : Fin 16)
  | sextantSweepTrigger (i : Fin 16)
  | snapshotWritten
  -- calibration and thermal control
  | calTemperatureTrigger (region : Fin 32) (temp : Int)
  | darkPass (l : Fin 72) (cut : Bool)
  | calDeadline (l : Fin 72)
  | calRunJudged (region : Fin 32) (tables : List (Nat × Bool)) (temp : Int) (moved : Nat)
  | calRerun (region : Fin 32)
  | correctionCommit (region : Fin 32) (table : Fin 16)
  | calStoreWrite (region : Fin 32) (table : Fin 16) (ok : Bool)
  | feedforwardUpdate (power : Nat) (coolant : Int)
  | terminatedHeaterUpdate (engine : Fin 4) (errs : List Int)
  | powerPublicationLapse
  | ringHold (p : Fin 256)
  -- trace and log
  | traceRecord (typ : Fin 16) (slice : Fin 64) (domain : Fin 13) (stretch : Bool) (body : Bytes)
  | traceTriggered (seq : Nat)
  | traceRingFull
  | loglineEntry (severity : Fin 7) (slice : Fin 64) (event : Nat) (agent : Nat) (args : List Nat)
  | journalWrite (ok : Bool)
  | recorderStandby (addr : Nat)
  | breakHit (core : Fin 32) (index : Fin 4) (pc : Nat)
  -- start-up, restart, power
  | coldStart (c : ColdStart)
  | modResetN (lowMs : Nat) (c : ColdStart)
  | warmRestart (cause : RestartCause) (core : Fin 32)
  | warmRestartDone (badTables : List Nat) (planeOk : Bool)
  | inputLoss (how : InputLoss)
  -- Cleosh
  | cleoshDatagram (port : Fin 2) (linkLocal : Bool) (bytes : Bytes)
  | cleoshResend (sess : Nat)
  | cleoshAckTimer (sess : Nat)
  | hello (port : Fin 2) (addr : Bytes) (keyIndex : Nat)
  | auth (m : CMsg)
  | authTimeout (sess : Nat)
  | sessionIdle (sess : Nat)
  | statusReq (m : CMsg)
  | lockReq (m : CMsg)
  | lockRelease (m : CMsg)
  | lockIdleExpiry
  | stageBegin (m : CMsg)
  | stageBlock (m : CMsg)
  | stageEnd (m : CMsg)
  | activate (m : CMsg)
  | activationP0
  | activationAbandoned
  | healthConfirmed
  | healthFallback (failed : Fin 64)
  | loaderCommit (m : CMsg)
  | restart (m : CMsg)
  | enroll (m : CMsg)
  | revoke (m : CMsg)
  | claim (m : CMsg)
  | unclaim (m : CMsg)
  | close (sess : Nat)
  -- memory, faults, load
  | memRepair (mem : Fin 4) (addr : Nat)
  | memUncorrectable (mem : Fin 4) (addr : Nat) (consumer : Fin 14) (slice : Fin 64) (obj : Nat)
  | scrubPass (mem : Fin 4) (overdue : Bool) (corrected : List (Nat × Nat)) (bad : List Nat)
  | unitKnownAnswerTest (u : Fin 48) (pass : Bool)
  | hbmStackFailed (k : Fin 8)
  | saturationInterval (resource : Fin 7) (busy : Nat) (waited : Nat) (waits : List (Nat × Nat))
  | dieLinkLaneFail (die : Fin 4) (lane : Nat) (trainingLost : Bool)
  | throttleStep (temp : Int)
  | thermalStop (temp : Int)
  | sensorLimit (sensor : Fin 16) (reading : Int) (second : Int)
  -- fabric memory
  | fmReq (p : Fin 256) (vc : Fin 8) (frame : Bytes)
  | fmReqGlobal (g : Fin 64) (vc : Fin 8) (frame : Bytes)
  | fmOperationComplete (ref : Nat)
  | fmRsp (g : Fin 64) (vc : Fin 8) (frame : Bytes)
  | pathProbe
  | relay (qp : Fin 262144) (reqId : Nat)
  | fmRouteTimeout (qp : Fin 262144) (reqId : Nat)
  | fmPathFault (qp : Fin 262144) (reqId : Nat)
  -- further events
  | armEpoch (slice : Fin 64) (pid : Fin 256)
  | pcieLinkUp (gen : Fin 8) (width : Fin 9)
  | equaliserConverged (p : Fin 256)
  | syncLockAcquired (p : Fin 256) (lane : Fin 4) (decoded : Bool)
  | flitSlot (p : Fin 256)
  | tenMhzLost
  | holdLong (out : Fin 1024)
  | ppsOut
  | traceStageDrain (n : Nat)
  | memCorrectableClear (mem : Fin 4) (idx : Nat)
  | fallbackParkEnd
deriving DecidableEq, Repr

end Sys2Proof
end

