-- ==== Sys2Proof/Config.lean ====
section
/-! DEFINITION. What one part or one firmware image fixes and the spec does not state, and the free
values: constants without a body, so that nothing can be proved of their values. Each is named in
notes/assumptions. -/

namespace Sys2Proof.Config

/-- Free values, one for each value the counter `State.free` takes. -/
opaque freeWord : Nat → BitVec 64

/-- Low byte of a Logline EVENT whose number only the image's catalogue LOG_EVDIR gives (R378, R416). -/
opaque eventLow : Nat → String → BitVec 8

/-- Whether the image's catalogues define a counter source, its scope, its highest instance and
whether firmware counts it (BNC_SRCDIR, R381, R415). -/
opaque srcDefined : Nat → Bool
opaque srcScope : Nat → BitVec 3
opaque srcInstMax : Nat → BitVec 32
opaque srcFw : Nat → Bool
opaque srcAgentKind : Nat → BitVec 8
opaque srcName : Nat → BitVec 192

/-- The LOG_EVDIR entry of an event: defined, severity, agent kind, name (R416). -/
opaque evDefined : Nat → Bool
opaque evSeverity : Nat → BitVec 3
opaque evAgentKind : Nat → BitVec 8
opaque evName : Nat → BitVec 192

/-- The source number of a named counter of a block (R381). -/
opaque srcNumber : Nat → String → BitVec 8

/-- Verification of an SLH-DSA signature: parameter set, public key, message, signature (R401, R443). -/
opaque sigVerify : Nat → Bytes → Bytes → Bytes → Bool

/-- A signature the module makes with its own attestation key over a message (R447). -/
opaque attestSign : Bytes → Bytes

/-- SHA-256 of a byte string (R430, R445), a published standard the spec does not restate. -/
opaque sha256 : Bytes → BitVec 256

/-- The module's identity key and its certificate, made at manufacture (R445). -/
opaque identityKey : Bytes
opaque identityCert : Bytes

/-- Measurements of what the spec gives no bytes for (R445): the ROM; the fuses, by security version and claim
state; the loader and trust store shipped; an enrolment bank, by its entries; components 1 to 4 of an image shipped. -/
opaque romMeasure : BitVec 256
opaque fuseMeasure : Nat → Bool → BitVec 256
opaque shippedMeasure : Nat → BitVec 256
opaque bankMeasure : Bytes → BitVec 256

/-- What a CLASS 3 image holds, by the bytes of its header and entries (R440, R443 give no layout): whether it fills
slot 1 to 3, with USAGE, PARAM_SET 2 or 1, LABEL and PUBLIC_KEY; whether its slot 0 is the one in force. -/
opaque trustHas : Bytes → Nat → Bool
opaque trustUsage : Bytes → Nat → BitVec 3
opaque trustSet2 : Bytes → Nat → Bool
opaque trustLabel : Bytes → Nat → Bytes
opaque trustPub : Bytes → Nat → Bytes
opaque trustSlot0 : Bytes → Bool

/-- The HBM stack that holds a 64-byte line of a slice's window (R456 names no interleave): slice, line. -/
opaque lineStack : Nat → Nat → BitVec 3

/-- The tile, stack or bank of an address of a memory (R469 gives no layout): memory, address. -/
opaque memUnit : Nat → Nat → BitVec 5

/-- An entry of a coefficient table, as its up to 16 bytes (R359): region, table, SEQ of the record the table
was taken from, index. -/
opaque calEntry : Nat → Nat → Nat → Nat → BitVec 128

/-- Highest permitted code of a mirror's axis (TRP_DRIVE X_MAX and Y_MAX, calibrated). -/
opaque driveMax : Nat → Bool → BitVec 16

/-- Table limit in 10 µA of a section of a laser: laser, section 0 gain to 3 phase (R172). -/
opaque currentLimit : Nat → Nat → BitVec 16

/-- Whether a feed-forward prediction that lies between two units is taken as the upper one (R368 names no
rounding): numerator and denominator of its fraction. -/
opaque ffUp : Int → Nat → Bool

/-- Free choice within the 1 ulp of RCP (0) and RSQ (1) for an operand (R256). -/
opaque ulpPick : Nat → BitVec 32 → BitVec 2

/-- Values of EXP2 and LOG2 where R256 gives only a bound. -/
opaque exp2Val : BitVec 32 → BitVec 32
opaque log2Val : BitVec 32 → BitVec 32

/-- FP32 value of an MX element that lies beyond FP32's range, by scale and element code (R222). -/
opaque mxWide : BitVec 8 → BitVec 8 → BitVec 32

/-- SCALAR words 7, 8 and 13 of a bias-corrected recipe, whose powers and roots R264 leaves to FP64
without naming their rounding: word, η or ε, β1, β2, step number. -/
opaque biasWord : Nat → BitVec 32 → BitVec 32 → BitVec 32 → Nat → BitVec 32

/-- WORD0 of PROG_LOAD where no instruction stores the program's result (R258 check 2). -/
opaque missingStore : BitVec 64

/-- Credit in flits that a standing stream starts with (R156 gives none). -/
opaque standingCredit : BitVec 16

/-- Parity symbols of RS(576,512) on a colour link, whose field polynomial and generator R154 does not name: data
symbols, index. -/
opaque colourParity : List Nat → Nat → BitVec 10

end Sys2Proof.Config
end

