-- ==== Sys2Proof/Machine/State.lean ====
section
/-! DEFINITION. The state of a Silga Mawaec as plain data: every register, table, queue, counter, mode
and pin the spec names, the model's own output record and free-value counter, and the queue of waiting
commands. Beside it: `State.reset`, the reasons a step can stop, and the faults. A field's docstring
names the rule that gives it. Values without a reset column are listed in notes/assumptions. -/

namespace Sys2Proof.Machine

/-! ### Astrolabe (11_astrolabe_time) -/

/-- Astrolabe states, coded 0 to 3 (R343). -/
inductive TimeState where
  | locked | holdover | unqualified | freeRunning
deriving DecidableEq, Repr

/-- One hardware trigger of TRIGGER_SET (R351, R352, R357). -/
structure Trig where
  /-- 0 disabled, 1 counter snapshot, 2 sextant sweep -/
  kind    : Nat
  region  : Nat
  /-- START in ns -/
  start   : Nat
  /-- PERIOD_NS; 0 for a one-shot -/
  period  : Nat
  /-- COUNT; 0 unbounded -/
  count   : Nat
  /-- index n of the next occurrence, at START + n × PERIOD_NS -/
  nextN   : Nat
  /-- AST_TRIG.FIRED, 32 bits -/
  fired   : Nat
  /-- AST_TRIG_SKIP.SKIPPED, 32 bits, cleared by reading -/
  skipped : Nat
  /-- AST_TRIG.ACTIVE -/
  active  : Bool
deriving DecidableEq, Repr

/-- A candidate PTP master (R341): announces heard, and whether it is qualified. -/
structure Master where
  announces : Nat
  qualified : Bool
deriving DecidableEq, Repr

/-- The astrolabe timebase (R338 to R357). -/
structure Ast where
  /-- the counter in units of 2^-16 ns / 5: one reference cycle is 2^21 of them (R338, R339) -/
  raw       : Nat
  /-- rate correction, signed, 0.01 ppb (AST_RATE) -/
  rate      : Int
  /-- remainder of the rate correction below one unit, over 10^11 (R339) -/
  corr      : Int
  /-- offset still to be slewed out, in counter units (R345) -/
  slewLeft  : Int
  st        : TimeState
  /-- counter value at the entry of the state, ns (STATE_S) -/
  since     : Nat
  /-- H0 in ns (R343) -/
  h0        : Nat
  /-- consecutive offset measurements inside the lock window (R343) -/
  lockCount : Nat
  /-- source in use: 0 none, 1 PTP on A, 2 PTP on B, 3 1PPS (R355) -/
  source    : Nat
  /-- 10 MHz in use -/
  tenMhz    : Bool
  /-- JUMP_HELD, and the offset held -/
  jumpHeld  : Bool
  jumpTo    : Int
  /-- an offset from the selected master has been measured (R356 check 2) -/
  measured  : Bool
  /-- last offset from the master, signed ns -/
  offset    : Int
  /-- mean path delay, ns -/
  pathDelay : Nat
  /-- clockIdentity of the selected master, 0 if none -/
  master    : Nat
  /-- candidate masters by clockIdentity (R341) -/
  foreign   : Tbl Master
  /-- AST_EVENTS, 10 bits -/
  events    : Nat
  steps     : Nat
  masterChanges : Nat
  losses    : Nat
  /-- AST_NOW_NS: ns and fraction latched by the last AST_NOW_S read -/
  latchNs   : Nat
  latchFrac : Nat
  /-- locked at least once since the cold start (R346 first case) -/
  everLocked : Bool
  /-- the discipline servo is stopped by a pause (R348), and whether discipline was lost in it -/
  servoStopped : Bool
  lostInPause  : Bool
  /-- TIME_CONFIG settings (R356) -/
  mode      : Nat
  transport : Nat
  domain    : Nat
  preferB   : Bool
  ppsDelay  : Int
  seconds   : Nat
  /-- mode 2 without PTP: SECONDS is taken at the next 1PPS edge (R340) -/
  secondsArmed : Bool
  /-- PTP runs on service port B now (R341) -/
  portB     : Bool
  /-- the 16 triggers; one not listed is disabled -/
  trig      : Tbl Trig
  /-- the start-up time acquisition step is open (R347) -/
  acquiring : Bool
  /-- ns by which the counter has been stepped since the cold start, both ways: it is uptime but for them (R444) -/
  jumped : Int
deriving DecidableEq, Repr

/-! ### Binnacle and Logline (13_observability) -/

/-- One binnacle counter (R380 to R384, R415 BNC_SEL). -/
structure Ctr where
  source : Nat
  owner  : Nat
  selected : Bool
  orphan : Bool
  inst   : Nat
  /-- 48 bits, wrapping -/
  value  : Nat
deriving DecidableEq, Repr

/-- One counter snapshot (R385, R386). -/
structure Snap where
  epoch  : Nat
  /-- latch time in 2^-16 ns -/
  time16 : Nat
  /-- 0 CTR_SNAPSHOT, 1 TRIGGER_SET -/
  cause  : Nat
  /-- function of CTR_SNAPSHOT, or trigger INDEX -/
  origin : Nat
  /-- owner and value of each selected counter at the latch -/
  values : Tbl (Nat × Nat)
  /-- its slot lies on an uncorrectable location: SNAP_BEGIN reads all ones (R454) -/
  bad    : Bool
deriving DecidableEq, Repr

/-- One trace record (R389): time in 0.25 ns, type, slice, stretch, domain, sequence, bytes 16 to 31. -/
structure TRec where
  time   : Nat
  typ    : Nat
  slice  : Nat
  stretch : Bool
  domain : Nat
  seq    : Nat
  body   : Bytes
deriving DecidableEq, Repr

/-- The binnacle trace (R392 to R399). -/
structure Trace where
  /-- 0 OFF, 1 ARMED, 2 TRIGGERED, 3 STOPPED (R398) -/
  st        : Nat
  mode      : Nat
  ringMib   : Nat
  typeMask  : Nat
  sliceMask : Nat
  waitMin   : Nat
  pcPeriod  : Nat
  pcCores   : Nat
  postRecords : Nat
  trigKind  : Nat
  trigParam : Nat
  trigSlice : Nat
  trigArg   : Nat
  /-- next record sequence, 32 bits -/
  seq       : Nat
  /-- records in the stage, oldest first (R392, R393) -/
  stage     : List TRec
  peak      : Nat
  /-- records of the main area (or pre area), oldest first -/
  main      : List TRec
  /-- records of the post area, oldest first (MODE 2) -/
  post      : List TRec
  /-- the final area, 16 records or fewer (R394) -/
  final     : List TRec
  /-- BNC_DROP by type since TRACE_ARM -/
  drops     : Tbl Nat
  /-- records dropped since the last TRUNCATION record: first SEQ, count, type mask (R390) -/
  dropFirst : Nat
  dropCount : Nat
  dropMask  : Nat
  /-- first SEQ dropped since TRACE_ARM and the mask of all types dropped (R394 slot 1) -/
  armFirst  : Nat
  armMask   : Nat
  /-- WAIT_BEGIN records whose waits are open, oldest first (R394) -/
  openWaits : List TRec
  /-- SEQ of the record or entry that fired the trigger -/
  trigSeq   : Nat
deriving DecidableEq, Repr

/-- One newt core as BNC_CORE shows it (R404, R415). -/
structure Core where
  /-- 0 running, 1 halted at a breakpoint, 2 halted after one instruction, 3 halted by KIND 4 -/
  st    : Nat
  bpHit : Nat
  /-- breakpoints set: index to (kind, address) -/
  bps   : Tbl (Nat × Nat)
  /-- PC of the halted core; 0 while running -/
  pc    : Nat
deriving DecidableEq, Repr

/-- The binnacle (R380 to R407, R415). -/
structure Bnc where
  ctr     : Tbl Ctr
  /-- epoch of the last complete snapshot -/
  epoch   : Nat
  /-- the last 2,048 snapshots, oldest first (R385) -/
  snaps   : List Snap
  /-- snapshots latched and not yet written, oldest first -/
  latched : List Snap
  /-- time of the last latch in 2^-16 ns, if any (R387) -/
  lastLatch : Option Nat
  trace   : Trace
  /-- BNC_EVENTS, 6 bits -/
  events  : Nat
  core    : Tbl Core
deriving DecidableEq, Repr

/-- One Logline entry (R408). -/
structure LogEntry where
  seq       : Nat
  sev       : Nat
  journaled : Bool
  degraded  : Bool
  slice     : Nat
  event     : Nat
  /-- event time in ns -/
  time      : Nat
  repeats   : Nat
  agent     : Nat
  args      : List Nat
deriving DecidableEq, Repr

/-- The Logline recorder and its journal (R408 to R416). -/
structure Log where
  /-- 0 normal, 1 standby, 2 beacon (R413) -/
  mode       : Nat
  /-- entries held, ascending SEQ -/
  entries    : List LogEntry
  /-- SEQ of the next entry, 32 bits -/
  seq        : Nat
  /-- entries created in all, and that count at the newest entry of each severity (LOG_MAX_SEV, R91) -/
  created    : Nat
  sevLast    : Tbl Nat
  /-- LOG_SEV.LOST by severity -/
  lost       : Tbl Nat
  /-- the NVM journal, ascending SEQ -/
  journal    : List LogEntry
  /-- entries queued for the journal with the write attempts made (R410) -/
  jqueue     : List (LogEntry × Nat)
  writeFails : Nat
  dropped    : Nat
  /-- second in which journal entries were last taken, and how many (100 per second, R410) -/
  jSecond    : Nat
  jCount     : Nat
  /-- time of the last JOURNAL_WRITE_FAIL entry in ns, if any (once per hour, R410) -/
  jFailAt    : Option Nat
  /-- LOG_EVENTS, 5 bits -/
  events     : Nat
  /-- entries waiting in the hardware queue while cluster 3 is halted (R405) -/
  hwq        : List LogEntry
  /-- occurrences of an EVENT suppressed since its previous entry (REPEATS) -/
  repeats    : Tbl Nat
  /-- the valid token nonce and its issue time in ns (R401) -/
  nonce      : Option (Nat × Nat)
deriving DecidableEq, Repr

/-! ### Host interface (03_host_interface) -/

/-- Ring states, coded 0 to 4 (R87). -/
inductive RingSt where
  | disabled | running | stepHeld | error | draining
deriving DecidableEq, Repr

/-- What a command in execution waits for before it completes. -/
inductive Wait where
  | commit (slice plot : Nat)            -- CHART_COMMIT until the new circuits are settled (R47)
  | release (slice plot : Nat)           -- CHART_RELEASE until the mirrors are parked (R50)
  | snapshot (time16 : Nat)              -- CTR_SNAPSHOT until the snapshot is written (R387)
  | drain (count : Nat)                  -- MAINT_ENTER until no request is outstanding (R402)
  | calRun (regions : List Nat) (acc rej : Nat)   -- CAL_RUN with WAIT (R374): regions left, tables judged
  | transfer (slice tensor : Nat) (load : Bool) (comp first count addr : Nat) (data : Bytes)
      -- OPT_STATE_LOAD and OPT_STATE_DUMP (R275): the copy it makes, with what the host buffer reads as
  | exitRestart (cores : Nat)            -- MAINT_EXIT with RESTART (R407)
  | park (slice aborted : Nat)           -- SLICE_RESET until the plots of its slice are released (R328)
deriving DecidableEq, Repr

/-- A command in execution that has not completed (R85, R100). -/
structure Exec where
  fn     : Nat
  ring   : Nat
  seq    : Nat
  tag    : Nat
  opcode : Nat
  slice  : Nat
  /-- bound in µs (R102) and S0 in ns (R100) -/
  bound  : Nat
  s0     : Nat
  wait   : Wait
  /-- whether its completion entry will be written without fault -/
  dma    : Dma
  /-- its completion is discarded because FLR or link loss reset its ring (R77) -/
  discard : Bool
  /-- it wrote a Logline entry when it started (LOGGED, R99) -/
  logged : Bool
deriving DecidableEq, Repr

/-- A command fetched and held by single-step (R110): the entry and what its buffers hold. -/
structure Held where
  entry : Bytes
  block : Option Bytes
  data  : Bytes
  dma   : Dma
deriving DecidableEq, Repr

/-- One ring pair (R81 to R89, R110). -/
structure Ring where
  cmdBase  : Nat
  cplBase  : Nat
  log2     : Nat
  st       : RingSt
  stepMode : Bool
  /-- index of the next command to fetch -/
  fetch    : Nat
  expectSeq : Nat
  /-- phase of the next completion entry -/
  phase    : Bool
  /-- completion write index -/
  cplIndex : Nat
  /-- completions written and not yet released (R84) -/
  unread   : Nat
  /-- last TAIL written -/
  tail     : Nat
  held     : Option Held
  /-- a STEP write made during a pause, acted on afterwards (R94) -/
  stepPending : Bool
deriving DecidableEq, Repr

/-- One function block (R81). -/
structure FnBlock where
  spEnable : Bool
  /-- HIF_SP_ADDR.ADDR, bits [63:12] -/
  spAddr   : Nat
  /-- HIF_SP_SLICE of the PF -/
  spSlice  : Nat
  /-- HIF_FN_ERR, 8 bits -/
  err      : Nat
  /-- last SEQ_BEGIN written (R90) -/
  spSeq    : Nat
  /-- entries created when this function last read the log: LOG_MAX_SEV counts from here (R91) -/
  logMark  : Nat
deriving DecidableEq, Repr

/-- The host interface (R73 to R111). -/
structure Hif where
  heartbeat : Nat
  /-- link up, and HIF_LINK GEN, WIDTH, FLIT (R73, R80) -/
  linkUp    : Bool
  gen       : Nat
  width     : Nat
  flit      : Bool
  /-- VFs enabled in the SR-IOV capability: the first n (R74, R106) -/
  numVfs    : Nat
  fn        : Tbl FnBlock
  /-- rings by 16 × function + ring -/
  ring      : Tbl Ring
  /-- commands in execution -/
  execs     : List Exec
  /-- an uncorrectable memory error since the last LOG_READ (R93 bit 6) -/
  memUnc    : Bool
deriving DecidableEq, Repr

/-- Module states, coded 1 to 7 (R80). -/
inductive Mod where
  | starting | ready | warmRestart | activating | maintenance | failed | loaderUpdate
deriving DecidableEq, Repr

/-- The 32-byte completion entry (R99), as its fields. -/
structure Cpl where
  tag    : Nat
  status : Nat
  seq    : Nat
  phase  : Bool
  logged : Bool
  word0  : Nat
  word1  : Nat
  /-- (seconds × 10^9 + ns) mod 2^48 -/
  time   : Nat
  ring   : Nat
deriving DecidableEq, Repr

/-! ### Discovery, slices and charts (10_topology_and_slices, 02_charts_and_passages) -/

/-- Discovery states of a class-A or class-X port, coded 0 to 7 (R306). -/
inductive Disc where
  | dark | lit | probing | found | silent | quarantined | inCircuit | failed
deriving DecidableEq, Repr

/-- What discovery keeps of one T port (R306 to R312, R327). -/
structure TPort where
  st       : Disc
  /-- quarantine cause of R311, 0 to 5 -/
  cause    : Nat
  /-- whether an identity has ever been recorded -/
  hasId    : Bool
  nodeId   : Nat
  kind     : Nat
  link     : Nat
  hall     : Nat
  rack     : Nat
  /-- link version in use, 0 if none -/
  version  : Nat
  farSlice : Nat
  /-- astrolabe seconds of the last HAIL -/
  seenS    : Nat
  /-- NODE_ID last admitted on the port, 0 if none, and the cause it was admitted with -/
  admitted : Nat
  admitCause : Nat
  /-- data-band light is present -/
  lit      : Bool
  /-- probe port in use -/
  probe    : Option Nat
  /-- ns at which the probe started -/
  probeAt  : Nat
  /-- a SILENT notice has been recorded since the port was last FOUND (R311) -/
  silentNoted : Bool
deriving DecidableEq, Repr

/-- A slice on this module (R37, R315 to R329, R279). -/
structure Slice where
  rackMask : Nat
  hbmGiB   : Nat
  sramMiB  : Nat
  /-- number of standing ports S -/
  standing : Nat
  /-- 0 DARK, 1 HAILING, 2 VERIFIED (R315) -/
  colour   : Nat
  /-- standing ports set while the cabling check of an owned port was open: HAILING follows its end (R147, R315) -/
  hailPend : Bool
  /-- racks heard with a matching digest, standing ports heard, racks heard with another digest (R317) -/
  heard      : Nat
  heardPorts : Nat
  mismatch   : Nat
  /-- ns of the last mismatch ERROR by rack (one per rack per minute) -/
  mismatchAt : Tbl Nat
  substitutions : Nat
  lastLost  : Nat
  lastSpare : Nat
  lastSubS  : Nat
  /-- alarm SUBSTITUTION -/
  subAlarm  : Bool
  /-- fabric-memory window (R279): size in GiB and bytes written, by offset -/
  windowGiB : Nat
  window    : List Host.Cell
  /-- 64-byte lines of the window that hold an uncorrectable error (R453) -/
  windowBad : List Nat
  /-- positions lost while a commit or release was in progress, with D0 in ns (R332) -/
  lostWait  : List (Nat × Nat)
deriving DecidableEq, Repr

/-- One circuit of a plot (R42 to R47, R118). -/
structure Circuit where
  /-- source and destination port references, T or I -/
  src    : Nat
  dst    : Nat
  /-- 0 template, 1 edge list, 2 spare substitution -/
  origin : Nat
  /-- edge index, or member index -/
  edge   : Nat
  /-- the edge follows its accelerator to a spare -/
  spareOk : Bool
  /-- the circuit was failed -/
  failed : Bool
  /-- made once since its commit -/
  made   : Bool
  /-- counts as settled while it waits behind an open path or for a high-voltage supply (R492, R495) -/
  waits  : Bool
  /-- a later command's target replaced it before it was made (R119) -/
  superseded : Bool
  /-- measured loss, 0.01 dB; 0xFFFF not measured -/
  loss   : Nat
deriving DecidableEq, Repr

/-- A plot (R42 to R50). -/
structure Plot where
  slice   : Nat
  /-- 1 PLOTTED, 2 COMMITTING, 3 ACTIVE -/
  st      : Nat
  form    : Nat
  linkRole : Nat
  spareAuto : Bool
  /-- position that now stands for each member, in list order -/
  members : List Nat
  /-- listed spares not used, in list order -/
  spares  : List Nat
  /-- positions marked LOST with no spare (R332) -/
  lost    : List Nat
  /-- positions substituted out; each joins the spares when it is found again (R335) -/
  replaced : List Nat
  /-- CHART_RELEASE is parking the mirrors (R50) -/
  releasing : Bool
  circuits : List Circuit
deriving DecidableEq, Repr

/-- The module's topology tables (R303 to R312). -/
structure Topo where
  hall     : Nat
  rack     : Nat
  /-- 0 valid, 1 discovery-only identity -/
  strapState : Nat
  /-- strap levels sampled, 11 bits (R305, R474) -/
  straps   : Nat
  /-- seconds for which the samples have differed from the identity in use -/
  strapDiff : Nat
  strapWarned : Bool
  /-- owner slice by port reference (T, I, G); 0 where not listed -/
  owner    : Tbl Nat
  tport    : Tbl TPort
  /-- link map by class-A connector: port within the connector for each link; identity where not listed -/
  linkMap  : Tbl (List Nat)
  plot     : Tbl Plot
  slice    : Tbl Slice
deriving DecidableEq, Repr

/-! ### Transparent plane (04_transparent_plane, 16 R491) -/

/-- Mirror states, coded 0 to 6 (R118). -/
inductive MirSt where
  | parked | moving | acquiring | settled | held | failed | dark
deriving DecidableEq, Repr

/-- Where a mirror is to go (R117, R141). -/
inductive Aim where
  | park
  | face (pos : Nat)            -- the mirror position on the other array
  | drive (x y : Nat)           -- MIRROR_SET DRIVE
deriving DecidableEq, Repr

/-- One mirror (R118 to R142). -/
structure Mirror where
  st      : MirSt
  /-- TRP_MIRROR.FAULT -/
  fault   : Nat
  /-- port reference at the other end; 0xFFFF if none -/
  partner : Nat
  /-- latched codes -/
  x       : Nat
  y       : Nat
  /-- target accepted by its controller, waiting for a batch slot (R123) -/
  accepted : Option Aim
  /-- single pending target of a MOVING or ACQUIRING mirror (R119) -/
  pending : Option Aim
  /-- target of the move in progress -/
  goal    : Aim
  /-- moved or looped by MIRROR_SET (R143) -/
  byMaint : Bool
  /-- causes holding it: bit 0 monitor band, 1 source, 2 input tap, 3 output tap, 4 controller, 5 MIRROR_SET DRIVE -/
  holds   : Nat
  /-- ns at which it became HELD -/
  heldAt  : Nat
  /-- one read-back difference has been seen and rewritten (R136) -/
  rewritten : Bool
deriving DecidableEq, Repr

/-- A tree-frog controller (R133, R135, R140). -/
structure Tf where
  /-- 0 off, 1 loading, 2 running, 3 holding, 4 stopped -/
  st       : Nat
  /-- ns of its restarts, newest first -/
  restarts : List Nat
  overruns : Nat
  /-- ns at which the current hold began -/
  holdAt   : Nat
  /-- ns of the last batch started -/
  lastBatch : Option Nat
  /-- ends of loop-frame gradients: codes corrected this frame are free values; frames run -/
  frames   : Nat
deriving DecidableEq, Repr

/-- The transparent plane. -/
structure Plane where
  /-- mirrors by 1,024 × array + position; parked (or dark) where not listed -/
  mirror   : Tbl Mirror
  tf       : Tbl Tf
  /-- the high-voltage supplies in range, and their voltages in 10 mV -/
  hvA      : Bool
  hvB      : Bool
  hvAV     : Nat
  hvBV     : Nat
  /-- TRP_TAP_IN data and monitor-band power by input position, 16-bit two's complement -/
  tapIn    : Tbl (Nat × Nat)
  /-- TRP_TAP_OUT monitor power and identity by output position -/
  tapOut   : Tbl (Nat × Nat)
  /-- monitor sources lost, 32 bits; input and output tap photodiodes lost -/
  srcLost  : Nat
  inLost   : List Nat
  outLost  : List Nat
  /-- T ports whose monitor-band light is above threshold, and the ns of their last WARNING (R131) -/
  band     : List Nat
  bandAt   : Tbl Nat
  /-- wrong identity checks in a row by output position (R130) -/
  identBad : Tbl Nat
  /-- TRP_EVENTS, 7 bits -/
  events   : Nat
  /-- front adapters whose mate sense is open, with the ns of the opening (R491) -/
  openPath : Tbl Nat
deriving DecidableEq, Repr

/-! ### Colour plane (05_colour_plane) -/

/-- One global port (R147, R162 to R171). -/
structure GPort where
  /-- 0 dark, 1 tuning, 2 lit, 3 relocking, 4 failed, 5 miscabled, 6 self-test -/
  st       : Nat
  /-- 0 none, 1 leg, 2 standing, 3 self-test -/
  role     : Nat
  channel  : Nat
  /-- laser that serves the port -/
  laser    : Nat
  dest     : Nat
  attempts : Nat
  /-- cabling check: 0 not judged, 1 CABLED, 2 MISCABLED; frames decoded and failed in a row -/
  cabling  : Nat
  tagRun   : Nat
  failRun  : Nat
  expectRack  : Nat
  expectValid : Bool
  pilotRack   : Nat
  pilotValid  : Bool
  pilots      : Nat
  rxPower     : Nat
  blanks        : Nat
  relockFails   : Nat
  preambleFails : Nat
  uncorrectable : Nat
  /-- ns of the last successful relock that a FOREIGN_LIGHT report caused (R164) -/
  foreignAt : Option Nat
  /-- the relock in progress was caused by a FOREIGN_LIGHT report -/
  foreignRun : Bool
  /-- spare takeover in progress (R166) -/
  takeover  : Bool
  /-- an accepted burst is open: (slice, passage, leg, iteration), KIND 1 with passage 0 -/
  burst     : Option (Nat × Nat × Nat × Nat)
  /-- ns of the blank that closed the gate, and of the last retune at a waypoint (R462) -/
  blankAt   : Nat
  tunedAt   : Option Nat
  /-- the leg whose header ERROR was recorded -/
  errLeg    : Option Nat
  /-- FRAME_ID of the first frame of the leg under way (R202) -/
  legFid    : Nat
deriving DecidableEq, Repr

/-- One laser (R162, R171, R172). -/
structure Laser where
  /-- 0 idle, 1 locking, 2 locked, 3 blanked, 4 failed, 5 maintenance -/
  st    : Nat
  gate  : Bool
  measChannel : Nat
  measValid   : Bool
  /-- error from the measured channel, signed 10 MHz -/
  freqErr : Int
  /-- channel it is tuned to -/
  channel : Nat
  /-- relock attempts of an idle spare (R166) -/
  attempts : Nat
  /-- set by LASER_SET (R174) -/
  byMaint : Bool
deriving DecidableEq, Repr

/-- A frame queued for the standing ports of a slice (R160). -/
structure StFrame where
  slice : Nat
  rack  : Nat
  /-- precedence class 1 to 5 of R160 -/
  prec  : Nat
  bytes : Bytes
  /-- resent on a NAK_RECORD: already numbered and counted -/
  again : Bool
deriving DecidableEq, Repr

/-- One path from a standing port to a rack, and the stream back (R156, R202, R210, R296). -/
structure Path where
  /-- bytes sent in the standing stream and acknowledged -/
  sent   : Nat
  acked  : Nat
  /-- flits sent under credit, and the far side's cumulative limit -/
  used   : Nat
  limit  : Nat
  broken : Bool
  /-- bytes received in the standing stream of that rack, and flit credits freed and not yet returned -/
  rxBytes : Nat
  rxFreed : Nat
  /-- frames sent and not acknowledged, oldest first: stream bytes at the end, flits of the stream to the rack at
  the end, ns of sending, bytes -/
  unacked : List (Nat × Nat × Nat × Bytes)
  /-- frames sent to that rack on the port (R202) -/
  frameId : Nat
  /-- flits sent in the stream; kept under port number 64 for the stream to a rack over all ports (R210) -/
  flits   : Nat
  /-- bytes have come in since the last ACK_RECORD sent for the stream -/
  ackDue  : Bool
  /-- the next frame may be sent though the path is broken, as a probe (R296) -/
  probe   : Bool
deriving DecidableEq, Repr

/-- The colour plane. -/
structure Col where
  port   : Tbl GPort
  laser  : Tbl Laser
  /-- spare state 0 idle, 1 serving, 2 failed; position served; takeovers, by group -/
  group  : Tbl (Nat × Nat × Nat)
  /-- heater power in 10 µW and comb misalignment in 10 MHz by output ring -/
  ring   : Tbl (Nat × Int)
  /-- glass-frog controllers: 0 off, 1 loading, 2 running, 4 stopped; ns of losses, newest first -/
  gf     : Tbl (Nat × List Nat)
  /-- COL_EVENTS, 11 bits -/
  events : Nat
  margin : Nat
  dark   : Bool
  /-- current compass slot index (R157) -/
  slot   : Nat
  /-- frames waiting for a standing slot, oldest first -/
  stq    : List StFrame
  /-- paths by 64 × port + rack -/
  path   : Tbl Path
  /-- the sequencer has faulted (R170) -/
  seqFault : Bool
  /-- the cabling check is running, and frames it has run (R147) -/
  checking : Bool
deriving DecidableEq, Repr

/-! ### Passages (02_charts_and_passages) -/

/-- One leg (leg descriptor of R55's block). -/
structure Leg where
  trigger  : Nat
  parkSafe : Bool
  optimizer : Bool
  gFirst   : Nat
  gCount   : Nat
  /-- colour setting index, 0xFFFF for none -/
  colour   : Nat
  trigArg  : Nat
deriving DecidableEq, Repr

/-- One group entry. -/
structure Group where
  role  : Nat
  src   : Nat
  dst   : Nat
  ports : List Nat
  first : Nat
  count : Nat
deriving DecidableEq, Repr

/-- One buffer entry, with the location it was placed in: 0 stacked SRAM, 1 HBM. -/
structure Buffer where
  loc   : Nat
  fmt   : Nat
  base  : Nat
  elems : Nat
deriving DecidableEq, Repr

/-- Progress of one port of one group of the current leg. -/
structure GProg where
  /-- blocks sent -/
  cursor : Nat
  /-- data bytes sent and acknowledged, or received -/
  acked  : Nat
  /-- elements of the port's range that have arrived -/
  got     : Nat
  /-- elements arrived, by 32-element block, as a 32-bit mask -/
  arrived : Tbl Nat
deriving DecidableEq, Repr

/-- An accumulator: the sum so far as an exact value or special, and how many inputs it has taken.
The value is the code of the accumulation format of 07_reduction_arithmetic. -/
structure Acc where
  value : Nat
  count : Nat
deriving DecidableEq, Repr

/-- Passage states, coded 1 to 7 (R64). -/
inductive PSt where
  | loaded | armed | running | stalled | parked | done | aborted
deriving DecidableEq, Repr

/-- A WAYPOINT_READY held (R60). -/
structure Ready where
  rack   : Nat
  leg    : Nat
  iter   : Nat
  digest : Nat
deriving DecidableEq, Repr

/-- The stream of a leg that a global port receives (R156, R210). -/
structure RxStream where
  /-- index of the next flit: SEQ extended from the last index seen -/
  next    : Nat
  /-- flits that are missing: first and number -/
  missing : List (Nat × Nat)
  /-- ns at which a NAK_RECORD last named them -/
  nakAt   : Option Nat
deriving DecidableEq, Repr

/-- A loaded passage (R51 to R71). -/
structure Passage where
  form     : Nat
  rep      : Bool
  optFinal : Bool
  wire     : Nat
  operator : Nat
  rounding : Nat
  tensor   : Nat
  elems    : Nat
  rackMask : Nat
  /-- LEG_TIMEOUT in ms, 0 replaced by 10,000 -/
  timeout  : Nat
  iterations : Nat
  legs     : List Leg
  groups   : List Group
  colours  : List (List Nat)
  buffers  : List Buffer
  digest   : Nat
  st       : PSt
  leg      : Nat
  iter     : Nat
  /-- parity of the running leg count since arm -/
  parity   : Bool
  bells    : Nat
  parkPend : Bool
  /-- the park was made by an activation (R69) -/
  parkedByAct : Bool
  /-- arm epoch, ns -/
  epoch    : Nat
  /-- W0 of the last waypoint, 2^-16 ns -/
  w0       : Nat
  /-- ns at the leg's entry, for LEG_TIMEOUT (R62) -/
  enteredAt : Nat
  /-- progress by 65,536 × group + port index -/
  prog     : Tbl GProg
  /-- the leg's groups have all completed (LEG_COMPLETE) -/
  legDone  : Bool
  /-- the TIME gate has opened -/
  timeOpen : Bool
  /-- step 1 of R60 has blanked the changing transmitters, at this ns -/
  blanked  : Option Nat
  ready    : List Ready
  /-- signals of REMOTE triggers held (R59) -/
  remote   : List Ready
  /-- compass slot in which WAYPOINT_READY was last sent, by rack (R60) -/
  rdySent  : Tbl Nat
  /-- ns at which the passage parked -/
  parkedAt : Nat
  bytesIn  : Nat
  bytesOut : Nat
  /-- the duplicate WARNING of the leg is recorded (R70) -/
  dupWarned : Bool
  /-- stored codes by buffer and element, and scale bytes by buffer and block; 0 where not listed (R225) -/
  data     : Tbl (Tbl Nat)
  scale    : Tbl (Tbl Nat)
  /-- accumulators by group and element (R225, R232) -/
  acc      : Tbl (Tbl Acc)
  /-- stripes open, by 2^40 × group + stripe: 0 in the pool, 1 spilled in place, 2 spilled into quota (R244, R245) -/
  stripes  : Tbl Nat
  /-- skink units in service at the last arm (R217, R247) -/
  units    : List Nat
  /-- SCALAR words of the operator's program in effect (R259) -/
  scalars  : List Nat
  /-- the FINISH pass or AVG scaling of this iteration's shard has run (R229, R262) -/
  finished : Bool
  /-- iteration whose spill has been reported (R245) -/
  spillNoted : Option Nat
  /-- iteration whose lost residual words have been reported (R247) -/
  residNoted : Option Nat
  /-- frames of the next leg that reached a global port before the waypoint: port, SEQ, bytes -/
  heldG    : List (Nat × Nat × Bytes)
  /-- streams of the current leg received on global ports, by port (R156, R210) -/
  rx       : Tbl RxStream
  /-- optimizer pass of the current leg has completed -/
  optDone  : Bool
  /-- frames of this passage refused with a NAK, and duplicates discarded (R70) -/
  refused  : Nat
  duplicates : Nat
deriving DecidableEq, Repr
/-! ### Skink units, programs and the optimizer (07, 08) -/

/-- One residual (R238, R239): its FP32 value, the passage that recorded it, and the time in 2^-16 ns at
which it became pending. -/
structure ResidE where
  val  : Nat
  by_  : Nat
  pend : Option Nat
deriving DecidableEq, Repr

/-- A residual area (R238 to R241, R497). -/
structure Resid where
  /-- 0 stacked SRAM, 1 HBM -/
  loc    : Nat
  /-- residuals are FP32, not BF16 (R240) -/
  wide   : Bool
  /-- the element set: ranges (first, count), ascending -/
  ranges : List (Nat × Nat)
  vals   : Tbl ResidE
deriving DecidableEq, Repr

/-- A skink program (R249, R257). -/
structure Prog where
  /-- 0 COMBINE, 1 FINISH, 2 OPTIMIZER -/
  kind    : Nat
  tsBuf   : List Nat
  scalars : List Nat
  consts  : List Nat
  instrs  : List Nat
deriving DecidableEq, Repr

/-- One optimizer binding (R264 to R275). -/
structure Binding where
  recipe : Nat
  split  : Bool
  mfmt   : Nat
  mround : Nat
  /-- LOCATION named, and where the state lies: 0 stacked SRAM, 1 HBM -/
  locReq : Nat
  loc    : Nat
  slot   : Nat
  first  : Nat
  count  : Nat
  /-- step counter, 64 bits -/
  counter : Nat
  /-- hyperparameters as FP32 codes -/
  lr : Nat
  b1 : Nat
  b2 : Nat
  eps : Nat
  wd : Nat
  gs : Nat
  rows : Nat
  cols : Nat
  /-- 1 READY, 2 TRANSFER, 3 DAMAGED (R273) -/
  st : Nat
  partial_ : Bool
  /-- elements skipped in the last optimizer leg -/
  skipped : Nat
  /-- state components: codes by element (statistics by row and column), scales by block; 0 where not listed -/
  w  : Tbl Nat
  m  : Tbl Nat
  mS : Tbl Nat
  v  : Tbl Nat
  vS : Tbl Nat
  rStat : Tbl Nat
  cStat : Tbl Nat
  /-- SCALAR words of the optimizer leg entered last -/
  words : List Nat
  /-- damaged words as (component, element), and components reloaded whole since PARTIAL was set -/
  damaged : List (Nat × Nat)
  reloaded : List Nat
  /-- bytes of HBM and stacked SRAM the binding was charged (R39, R270) -/
  hbm    : Nat
  sram   : Nat
deriving DecidableEq, Repr

/-- The skink engine. -/
structure Skk where
  /-- bindings by 65,536 × slice + tensor -/
  binding : Tbl Binding
  /-- programs by 32 × slice + slot -/
  prog    : Tbl Prog
  /-- residual areas by 65,536 × slice + tensor -/
  resid   : Tbl Resid
  /-- units retired (R217, R456) -/
  retired : List Nat
  /-- slice of the last block processed by each unit -/
  unitSlice : Tbl Nat
  /-- SKK_EVENTS, 8 bits -/
  events  : Nat
  /-- by slice: peak stripes in the pool since the last read, stripes spilled since the last read (in 4 KiB) -/
  peak    : Tbl Nat
  spilled : Tbl Nat
  /-- SKK_NUM by slice: NaN in, infinite out, saturated out, residual words lost -/
  num     : Tbl (Nat × Nat × Nat × Nat)
  /-- SKK_RESID.OVERWRITES by slice -/
  overwrites : Tbl Nat
  /-- terminated ports held for a stripe, with the slice (R246) -/
  held    : List (Nat × Nat)
deriving DecidableEq, Repr

/-! ### Fabric memory (09) -/

/-- One queue pair (R285 to R291). -/
structure Queue where
  /-- 0 FREE, 1 ACTIVE, 2 DRAINING -/
  st : Nat
  slice : Nat
  endpoint : Nat
  credits : Nat
  timeoutUs : Nat
  cmode : Nat
  cgaddr : Nat
  errors : Nat
  done : Nat
  /-- FMQ_QP_CNT since the last read -/
  opsRc : Nat
  errRc : Nat
  /-- ns of the last counter-failure WARNING -/
  warnAt : Option Nat
deriving DecidableEq, Repr

/-- A request outstanding at its home module (R291), with a number of its own. -/
structure FReq where
  ref   : Nat
  qp    : Nat
  reqId : Nat
  slice : Nat
  op    : Nat
  oper  : Nat
  fmt   : Nat
  /-- 1 held, 2 waiting for a route, 3 sent, 4 executing locally, 5 counter pending -/
  st    : Nat
  gaddr : Nat
  len   : Nat
  data  : Bytes
  /-- 0 local, 1 direct, 2 relayed -/
  route : Nat
  port  : Nat
  relay : Nat
  /-- relays tried for it (R297) -/
  tried : List Nat
  /-- ns of acceptance -/
  at_   : Nat
  sends : Nat
  /-- ns since which no direct path has worked (R298) -/
  brokenAt : Option Nat
deriving DecidableEq, Repr

/-- An operation executing at this module (R281 to R283): a local request, under its number, or one from another
rack. -/
structure FOp where
  ref    : Nat
  slice  : Nat
  op     : Nat
  oper   : Nat
  fmt    : Nat
  gaddr  : Nat
  len    : Nat
  data   : Bytes
  srcRack : Nat
  qp     : Nat
  reqId  : Nat
deriving DecidableEq, Repr

/-- A request of another rack that this module relays (R297). -/
structure FRelay where
  slice : Nat
  qp    : Nat
  reqId : Nat
  /-- rack of the request -/
  home  : Nat
deriving DecidableEq, Repr

/-- The queue array. -/
structure Fm where
  queue : Tbl Queue
  /-- requests outstanding, in order of acceptance -/
  reqs  : List FReq
  /-- operations executing here -/
  ops   : List FOp
  nextRef : Nat
  /-- requests of other racks sent on from here whose responses have not come back -/
  relays : List FRelay
  /-- frames that came in on global ports during a pause, held by credit: port, virtual channel, bytes (R301) -/
  heldG  : List (Nat × Nat × Bytes)
  /-- FMQ_EVENTS, 9 bits -/
  events : Nat
  /-- FMQ_SLICE_ERR by slice: not owned, range, timeouts, path faults -/
  sliceErr : Tbl (Nat × Nat × Nat × Nat)
  /-- millisecond of the last completion, completions in it and in the whole one before (FMQ_RATE) -/
  rateMs : Nat
  rateN  : Nat
  rateLast : Nat
  /-- responses to a NAK'd or vanished session are discarded for these requests: (queue, REQ_ID) (R301) -/
  lostRsp : List (Nat × Nat)
deriving DecidableEq, Repr

/-! ### Start-up, firmware and trust (14) -/

/-- An enrolled key (R443). -/
structure Key where
  /-- 1 Observer, 2 Operator, 3 Custodian, 4 Vendor -/
  role  : Nat
  usage : Nat
  /-- parameter set -/
  param : Nat
  label : Bytes
  pub   : Bytes
  /-- astrolabe seconds at enrolment -/
  at_   : Nat
deriving DecidableEq, Repr

/-- What the module keeps of an image: the header fields of R430, and the bytes of its header and entries. -/
structure Img where
  version : Nat
  sv      : Nat
  cfg     : Nat
  hand    : Nat
  head    : Bytes
deriving DecidableEq, Repr

/-- An image being staged (R431). -/
structure Stage where
  sess  : Nat
  cls   : Nat
  total : Nat
  /-- bytes received by 1 MiB block -/
  blocks : Tbl Bytes
deriving DecidableEq, Repr

/-- The update lock (R429). -/
structure Lock where
  sess : Nat
  port : Nat
  key  : Nat
  addr : Bytes
  /-- stamp of the LOCK_REQ, and the last message of the holder, in ns -/
  at_  : Nat
  last : Nat
deriving DecidableEq, Repr

/-- A Cleosh session (R424 to R428). -/
structure Sess where
  port : Nat
  addr : Bytes
  key  : Nat
  /-- role of the session; 0 before AUTH -/
  role : Nat
  nonce : Nat
  /-- ns of CHALLENGE, and of the last message -/
  since : Nat
  last  : Nat
  txSeq : Nat
  rxSeq : Nat
  txMsg : Nat
  rxMsg : Nat
  /-- segments received of the message in progress, its TYPE, and segments received since the last ACK -/
  part    : Bytes
  partTyp : Nat
  unackedRx : Nat
  /-- messages whole and not acted on yet: (MSG_ID, TYPE, bytes) -/
  whole : List (Nat × Nat × Bytes)
  /-- segments sent and not acknowledged, with their SEQ; resends without progress -/
  unacked : List (Nat × Bytes)
  resends : Nat
deriving DecidableEq, Repr

/-- A pause in progress (R420, R434, R438, R440). -/
structure Pause where
  /-- 0 planned, 1 unplanned, 2 activation, 3 fallback, 4 loader update -/
  kind : Nat
  /-- ns of X0 -/
  x0   : Nat
  /-- cause of R448; failed checks of a fallback; CLASS of a loader update -/
  cause : Nat
  /-- passages a fallback aborted (R448) -/
  aborted : Nat
deriving DecidableEq, Repr

/-- Start-up, firmware and trust. -/
structure Boot where
  keys : Tbl Key
  /-- the boot record (R432): ACTIVE, TRIAL, TRIAL_STARTS, FALLBACK, and its SEQ -/
  active : Nat
  trial  : Bool
  trialStarts : Nat
  fallback : Bool
  recSeq : Nat
  /-- images of slots 0 and 1; one not listed is empty or does not verify -/
  slot   : Tbl Img
  /-- CLASS 2 and 3 images staged in the NAND reserve -/
  reserve : Tbl Img
  staging : Option Stage
  staged  : Bool
  rejected : Bool
  healthPending : Bool
  /-- ns of the end of the activation pause, and checks C1 to C6 passed -/
  t0     : Nat
  checks : Nat
  lastStart : Nat
  lastMs : Nat
  warmPlanned : Nat
  warmUnplanned : Nat
  activations : Nat
  fallbacks : Nat
  /-- BOOT_EVENTS, 11 bits -/
  events : Nat
  /-- ns of unplanned restarts, newest first (R421) -/
  unplannedAt : List Nat
  pause  : Option Pause
  /-- activation waiting for P0: A0 in ns, WAIT_S, session, MSG_ID -/
  actWait : Option (Nat × Nat × Nat × Nat)
  /-- fallback waiting for its parks, since this ns, with the checks failed -/
  fbWait : Option (Nat × Nat)
  lock   : Option Lock
  sess   : Tbl Sess
  nextSess : Nat
  /-- by service port: AUTH failures in the last minute, newest first; HELLO ignored until; BOOT_SVC_ERR counts -/
  authAt : Tbl (List Nat)
  ignoreUntil : Tbl Nat
  authFails : Tbl Nat
  claimFails : Tbl Nat
  dropped : Tbl Nat
  svcLink : Nat
  /-- wrong claim codes since the cold start (R444) -/
  claimBad : Nat
  /-- security version fused, configuration version and handover version in use, configuration copy kept -/
  fusedSv : Nat
  cfgVersion : Nat
  handover : Nat
  cfgKept : Option Nat
  /-- images of the loader and the trust store installed by LOADER_COMMIT; those shipped where none (R440) -/
  loader : Option Img
  trust  : Option Img
  /-- Cleosh RESTART KIND 0 accepted, its warm restart to come (R420) -/
  restartReq : Bool
  /-- both slots failed at a cold start: FAILED serves sessions that stage a main image (R419) -/
  recovery : Bool
  /-- the 54 V input is in range; a start has stopped at step 2 under R419 -/
  power   : Bool
  stopped : Bool
deriving DecidableEq, Repr

/-! ### Sextant (12) -/

/-- A stored record's header (R365). -/
structure CalRec where
  seq   : Nat
  temp  : Int
  flags : Nat
  timeS : Nat
deriving DecidableEq, Repr

/-- One calibration region (R358, R360, R363, R375 to R377). -/
structure Region where
  running : Bool
  /-- ns of the start of the run; ns of the rerun after a rejection -/
  started : Nat
  rerunAt : Option Nat
  hold    : Bool
  /-- ΔT in 0.1 °C and take deadline in s -/
  deltaT  : Nat
  deadline : Nat
  /-- temperatures in 0.01 °C -/
  tempNow : Int
  tempRun : Int
  accepted : Nat
  rejected : Nat
  /-- tables rejected since the cold start, not cleared by a read (R376) -/
  rejTotal : Nat
  lastS   : Nat
  /-- rejections in a row -/
  bad     : Nat
  degraded : Bool
  /-- accepted corrections not yet in effect, by table -/
  pending : Tbl CalRec
  /-- the run is a cold sweep (R367) -/
  sweep : Bool
  /-- lasers of the region whose dark passes have ended: (laser, passes) -/
  passes  : Tbl Nat
deriving DecidableEq, Repr

/-- A take announced or running (R362). -/
structure Take where
  region : Nat
  laser  : Nat
  port   : Nat
  slice  : Nat
  /-- ns of the deadline; passage that announces it, with the ns of its first showing; the port is dark for it -/
  due    : Nat
  pid    : Option (Nat × Nat)
  dark   : Bool
deriving DecidableEq, Repr

/-- Calibration and thermal control. -/
structure Sxt where
  /-- regions by code; one not listed is idle with default settings -/
  region : Tbl Region
  /-- records by 1,024 × region + 4 × table, plus 0 or 1 for the run record of copy A or B and 2 for the factory
  record (R365, R366) -/
  store  : Tbl CalRec
  /-- the record the working table was committed or seeded from, by 256 × region + table -/
  working : Tbl CalRec
  /-- tables accepted and waiting to be written, by 256 × region + table: record, write attempts made, ns of the last -/
  writes : Tbl (CalRec × Nat × Nat)
  takes  : List Take
  /-- SXT_EVENTS, 8 bits -/
  events : Nat
  power  : Nat
  coolant : Int
  stale  : Bool
  /-- terminated heaters by 256 × engine + index: power, misalignment, prediction (SXT_TRING) -/
  tring  : Tbl (Nat × Int × Int)
  /-- prediction of colour heaters (SXT_CFF) -/
  cff    : Tbl Int
  /-- filtered base-die power of the three feed-forward terms, exact, in W (R371) -/
  pf     : List Rat
  /-- ns of the last RING_HOLD NOTICE by port -/
  holdAt : Tbl Nat
deriving DecidableEq, Repr

/-! ### Memory protection, contention and faults (15) -/

/-- Memory protection, retired parts, saturation and thermal state. -/
structure Mem where
  /-- HBM stacks out of service since the cold start, and FAILED at run time (R456) -/
  badStacks : List Nat
  deadStacks : List Nat
  badCores  : List Nat
  /-- the poison map: (memory, address) (R453) -/
  poison : List (Nat × Nat)
  /-- corrections by 65,536 × memory + unit: (ns, number), newest first (R452) -/
  corr   : Tbl (List (Nat × Nat))
  /-- tiles, stacks and banks whose correction rate holds alarm MEM_CORRECTABLE, by the key of `corr` -/
  rateHigh : List Nat
  /-- weak locations to be repaired at the next cold start: (memory, address) (R451) -/
  repairs : List (Nat × Nat)
  /-- memories whose scrub is overdue (R455) -/
  overdue : List Nat
  /-- ms of sustained over-subscription by 64 × resource + slice, ms without it, ns of the last WARNING by resource (R461) -/
  overMs : Tbl Nat
  calm   : Tbl Nat
  overAlarm : List (Nat × Nat)
  overWarn : Tbl Nat
  /-- spare lanes used by I/O die, and dies whose port failed (R465) -/
  lanes  : Tbl Nat
  deadDies : List Nat
  /-- skink issue rate in eighths; thermal stop (R466) -/
  rate   : Nat
  thermStop : Bool
  throttleAt : Option Nat
  /-- sensors above their limit, coolant out of range, ns of the last WARNING by sensor -/
  hot    : List Nat
  coolantOut : Bool
  warnAt : Tbl Nat
deriving DecidableEq, Repr

/-! ### Terminated ports (06) -/

/-- Link states, coded 0 to 7 (R186). -/
inductive LSt where
  | off | acquire | align | negotiate | active | retrain | incompatible | failed
deriving DecidableEq, Repr

/-- A FRAME flit sent and not acknowledged (R192). -/
structure TxFlit where
  seq : Nat
  vc  : Nat
  sof : Bool
  eof : Bool
  /-- payload bytes -/
  pay : Bytes
  /-- FRAME_ID of its frame -/
  fid : Nat
deriving DecidableEq, Repr

/-- A frame waiting to be sent, or partly sent (R198). -/
structure TxFrame where
  vc    : Nat
  bytes : Bytes
  /-- bytes already sent -/
  done  : Nat
  /-- passage data it carries: (slice, passage, group, port index) -/
  tag   : Option (Nat × Nat × Nat × Nat)
  /-- its FRAME_ID, once its first flit is sent (R202) -/
  fid   : Nat
  /-- bytes of it acknowledged -/
  counted : Nat
deriving DecidableEq, Repr

/-- One terminated port (R186 to R213). -/
structure LPort where
  st      : LSt
  /-- signal on all four lanes, and the ns of its detection or loss -/
  signal  : Bool
  since   : Nat
  /-- lanes in sync lock -/
  lanes   : List Bool
  /-- the training asks to keep the session (R190) -/
  keep    : Bool
  /-- content of the last good TRAIN flit from byte 16, and how many identical good ones came in a row -/
  lastTrain : Bytes
  trainRun  : Nat
  /-- TRAIN flits with READY sent and received -/
  readyTx : Nat
  readyRx : Nat
  /-- TRAIN flits received while ACTIVE (R188) -/
  trainActive : Nat
  version : Nat
  farRole : Nat
  farId   : Nat
  farDepth : Nat
  /-- NODE_ID of the session that is kept, 0 for none (R190, R194) -/
  sessId  : Nat
  /-- next SEQ to send, next expected, last acknowledged by the far side -/
  txSeq   : Nat
  rxSeq   : Nat
  ackSeq  : Nat
  replay  : List TxFlit
  /-- SEQ the replay under way sends next, and the EXPECT_SEQ it answered -/
  replayAt : Option Nat
  replayOf : Option Nat
  /-- replays in a row of one EXPECT_SEQ without an acknowledgement (R194) -/
  replayRun : Nat
  /-- SENT_v and the far side's LIMIT_v; the module's own LIMIT_v, modulo 65,536 -/
  sent    : List Nat
  limit   : List Nat
  ownLimit : List Nat
  /-- virtual channel whose limit is advertised next -/
  crNext  : Nat
  /-- frames waiting or partly sent -/
  txq     : List TxFrame
  /-- frames sent whole whose flits are not all acknowledged, oldest first -/
  sentq   : List TxFrame
  /-- receive buffers: open frame bytes by virtual channel, with its flits -/
  open_   : Tbl (Bytes × Nat)
  /-- frames held in the receive buffer by withheld credit (R70, R246): channel, bytes, flits -/
  heldq   : List (Nat × Bytes × Nat)
  /-- FRAME_ID of the next frame sent (R202) -/
  frameId : Nat
  /-- waiting for a retransmission, with its cause (R193) -/
  retry   : Option Nat
  reqCount : Nat
  /-- flit waiting to be sent before anything else: RETRY_REQ, HAIL or TIME -/
  local_  : List Bytes
  hailSeq : Nat
  timeSeq : Nat
  /-- ns of retrains and failed trainings, newest first (R212) -/
  faults  : List Nat
  /-- came back from FAILED (R212) -/
  wasFailed : Bool
  fecDegraded : Bool
  fecWarnAt : Option Nat
  cwWarnAt : Option Nat
  /-- second in which codewords were last discarded, and how many -/
  cwSecond : Nat
  cwCount  : Nat
  /-- ns since which a terminated lane is out of its guard band: only IDLE flits (R370) -/
  ringHold : Option Nat
  /-- position of the next flit in its codeword pair, and PAIR_COUNT of that pair (R178, R179) -/
  pos     : Nat
  pair    : Nat
  /-- bytes of the flits of the open codeword pair, and the last 58 bits out of the scrambler, latest in bit 0 (R178) -/
  pairBuf : Bytes
  scr     : Nat
  /-- time each virtual channel has waited for credit, in 0.01 ns (R211) -/
  creditWait : List Nat
deriving DecidableEq, Repr

/-- The terminated ports. -/
structure Lnk where
  port : Tbl LPort
deriving DecidableEq, Repr


/-! ### The whole state -/

/-- What the module has put out, oldest first: writes of host memory, frames, flits, bursts, messages. -/
inductive Out where
  /-- a completion entry written at a completion index of a ring (R86) -/
  | completion (fn ring idx : Nat) (c : Cpl)
  /-- bytes written to host memory (R76) -/
  | hostWrite (addr : Nat) (b : Bytes)
  /-- a value returned by a register read with a side effect -/
  | readValue (v : Nat)
  /-- a frame sent on a terminated port's virtual channel -/
  | frame (port vc : Nat) (b : Bytes)
  /-- a flit sent on a terminated port -/
  | flit (port : Nat) (b : Bytes)
  /-- a codeword pair sent on a terminated port: the PAM4 symbols of its four lanes (R180) -/
  | pair (port : Nat) (lanes : List (List Nat))
  /-- a burst sent on a global port: its header, and the frames it carries -/
  | burst (port : Nat) (header : Bytes) (frames : List Bytes)
  /-- a Cleosh segment or message sent in a session -/
  | cleosh (sess : Nat) (b : Bytes)
  /-- a rising edge of the 1PPS output at this astrolabe second (R342) -/
  | pps (s : Nat)
deriving DecidableEq, Repr

/-- Fused and per-part values (R5, R80, R105, R441, R424, R444). -/
structure Fuse where
  variant  : Nat
  stepping : Nat
  serial   : Bytes
  /-- SHA-256 of the claim code (R444) -/
  claim    : Nat
  /-- MAC addresses of service ports A and B (R424) -/
  macA     : Nat
  macB     : Nat
  /-- node identity sent in TRAIN and HAIL flits (R189, R208) -/
  nodeId   : Nat
deriving DecidableEq, Repr

/-- The state of the block. -/
structure State where
  fuse  : Fuse
  mod   : Mod
  ast   : Ast
  bnc   : Bnc
  log   : Log
  hif   : Hif
  topo  : Topo
  plane : Plane
  col   : Col
  /-- loaded passages by 256 × slice + PASSAGE_ID -/
  psg   : Tbl Passage
  skk   : Skk
  fm    : Fm
  boot  : Boot
  sxt   : Sxt
  mem   : Mem
  lnk   : Lnk
  /-- counter of the free values drawn so far (the model's own; see Config) -/
  free  : Nat
  /-- what the module has put out (the model's own record), oldest first -/
  out   : List Out
  /-- the commands waiting, first in, first out -/
  pending : List Instr
deriving DecidableEq, Repr

/-- Why a step stops. No meaning of this model raises a fault: every command of the table has an
effect the spec gives, or none. Safe. -/
inductive Fault where
  /-- raised by nobody; it stands for a broken model invariant. Safe. -/
  | internal
deriving DecidableEq, Repr

/-- Why a command is not executed. -/
inductive Refusal where
  /-- raised by an arm of Dispatch whose command has no meaning yet. Safe. -/
  | notModelled (mnemonic : String)
deriving DecidableEq, Repr

/-! ### Reset -/

/-- The astrolabe at reset: 0, FREE_RUNNING (R423, R343). -/
def Ast.reset : Ast :=
  { raw := 0, rate := 0, corr := 0, slewLeft := 0, st := .freeRunning, since := 0, h0 := 0, lockCount := 0
    source := 0, tenMhz := false, jumpHeld := false, jumpTo := 0, measured := false, offset := 0, pathDelay := 0
    master := 0, foreign := [], events := 0, steps := 0, masterChanges := 0, losses := 0, latchNs := 0, latchFrac := 0
    everLocked := false, servoStopped := false, lostInPause := false, mode := 0, transport := 0, domain := 0
    preferB := false, ppsDelay := 0, seconds := 0, secondsArmed := false, portB := false, trig := [], acquiring := false, jumped := 0 }

/-- The trace at reset: OFF, a ring of 512 MiB, types 1 to 7, WAIT_MIN_NS 1,000 (R392, R396, R415). -/
def Trace.reset : Trace :=
  { st := 0, mode := 0, ringMib := 512, typeMask := 0xFE, sliceMask := 0, waitMin := 1000, pcPeriod := 0, pcCores := 0
    postRecords := 0, trigKind := 0, trigParam := 0, trigSlice := 0, trigArg := 0, seq := 0, stage := [], peak := 0
    main := [], post := [], final := [], drops := [], dropFirst := 0, dropCount := 0, dropMask := 0, armFirst := 0
    armMask := 0, openWaits := [], trigSeq := 0 }

/-- The binnacle at reset (R415). -/
def Bnc.reset : Bnc :=
  { ctr := [], epoch := 0, snaps := [], latched := [], lastLatch := none, trace := Trace.reset, events := 0, core := [] }

/-- The recorder at reset, empty (R423). -/
def Log.reset : Log :=
  { mode := 0, entries := [], seq := 0, created := 0, sevLast := [], lost := [], journal := [], jqueue := []
    writeFails := 0, dropped := 0, jSecond := 0, jCount := 0, jFailAt := none, events := 0, hwq := [], repeats := []
    nonce := none }

/-- The host interface at reset (R80, R81). -/
def Hif.reset : Hif :=
  { heartbeat := 0, linkUp := false, gen := 0, width := 0, flit := false, numVfs := 0, fn := [], ring := [], execs := []
    memUnc := false }

/-- Topology tables at reset: no slices, no plots. -/
def Topo.reset : Topo :=
  { hall := 0, rack := 0, strapState := 0, straps := 0, strapDiff := 0, strapWarned := false, owner := [], tport := []
    linkMap := [], plot := [], slice := [] }

/-- The transparent plane at reset: every mirror at park or dark, controllers off (R140). -/
def Plane.reset : Plane :=
  { mirror := [], tf := [], hvA := false, hvB := false, hvAV := 0, hvBV := 0, tapIn := [], tapOut := [], srcLost := 0
    inLost := [], outLost := [], band := [], bandAt := [], identBad := [], events := 0, openPath := [] }

/-- The colour plane at reset: every port dark, every laser idle (R171). -/
def Col.reset : Col :=
  { port := [], laser := [], group := [], ring := [], gf := [], events := 0, margin := 0, dark := false, slot := 0
    stq := [], path := [], seqFault := false, checking := false }

/-- The skink engine at reset. -/
def Skk.reset : Skk :=
  { binding := [], prog := [], resid := [], retired := [], unitSlice := [], events := 0, peak := [], spilled := []
    num := [], overwrites := [], held := [] }

/-- The queue array at reset. -/
def Fm.reset : Fm :=
  { queue := [], reqs := [], ops := [], nextRef := 1, relays := [], heldG := [], events := 0, sliceErr := [], rateMs := 0, rateN := 0, rateLast := 0
    lostRsp := [] }

/-- Start-up, firmware and trust at reset: the Vendor key of slot 0, an image in slot A (R442, R443, R449). -/
def Boot.reset : Boot :=
  { keys := [(0, ⟨4, 7, 2, [], List.replicate 48 0, 0⟩)], active := 0, trial := false, trialStarts := 0, fallback := false, recSeq := 0, slot := [(0, ⟨0, 0, 1, 1, []⟩)]
    reserve := [], staging := none, staged := false, rejected := false, healthPending := false, t0 := 0, checks := 0
    lastStart := 0, lastMs := 0, warmPlanned := 0, warmUnplanned := 0, activations := 0, fallbacks := 0, events := 0
    unplannedAt := [], pause := none, actWait := none, fbWait := none, lock := none, sess := [], nextSess := 1
    authAt := [], ignoreUntil := [], authFails := [], claimFails := [], dropped := [], svcLink := 0, claimBad := 0
    fusedSv := 0, cfgVersion := 1, handover := 1, cfgKept := none, loader := none, trust := none, restartReq := false, recovery := false
    power := true, stopped := false }

/-- Tables that a region carries (R359). -/
def tablesOf (r : Nat) : List Nat :=
  if decide (1 ≤ r ∧ r ≤ 4) then [5, 6, 7, 8] else if decide (5 ≤ r ∧ r ≤ 12) then [4, 5, 7]
  else if r == 13 then [6, 8] else if decide (16 ≤ r ∧ r ≤ 31) then [1, 2, 3] else []

/-- The factory records of every table of every region (R365). -/
def factoryRecords : Tbl CalRec :=
  (List.range 32).flatMap (fun r => (tablesOf r).map (fun t => (1024 * r + 4 * t + 2, ⟨0, 0, 1, 0⟩)))

/-- Calibration at reset: the factory records, nothing else. -/
def Sxt.reset : Sxt :=
  { region := [], store := factoryRecords, working := [], writes := [], takes := [], events := 0, power := 0
    coolant := 0, stale := false, tring := [], cff := [], pf := [0, 0, 0], holdAt := [] }

/-- Memory protection and faults at reset: full issue rate. -/
def Mem.reset : Mem :=
  { badStacks := [], deadStacks := [], badCores := [], poison := [], corr := [], rateHigh := [], repairs := []
    overdue := [], overMs := [], calm := [], overAlarm := [], overWarn := [], lanes := [], deadDies := [], rate := 8
    thermStop := false, throttleAt := none, hot := [], coolantOut := false, warnAt := [] }

/-- The fused values of the part modelled: an EN-MW2-48 of stepping A0 (R1, R80). -/
def Fuse.reset : Fuse := ⟨0x48, 0, [], 0, 0, 0, 1⟩

/-- The module right after reset: STARTING, nothing placed, nothing lit, no command waiting. -/
def State.reset : State :=
  { fuse := Fuse.reset, mod := .starting, ast := Ast.reset, bnc := Bnc.reset, log := Log.reset, hif := Hif.reset
    topo := Topo.reset, plane := Plane.reset, col := Col.reset, psg := [], skk := Skk.reset, fm := Fm.reset
    boot := Boot.reset, sxt := Sxt.reset, mem := Mem.reset, lnk := ⟨[]⟩, free := 0, out := [], pending := [] }

/-- The canonical form of a fabric-memory window (R279): addresses strictly rising, and no byte equal to the
0 that an unlisted address reads as. -/
def Memory.wf : List Host.Cell → Bool
  | [] => true
  | [c] => c.2 != 0
  | c :: d :: t => c.2 != 0 && decide (c.1 < d.1) && Memory.wf (d :: t)

end Sys2Proof.Machine
end

