-- ==== Sys2Proof/Machine/Ops.lean ====
section
/-! DEFINITION. Operations shared by every family: time stamps, checks of a command's fields, Logline
entries and trace records, completions of commands, free values, port references. -/

namespace Sys2Proof

/-- All of `n` bytes from offset `i` are zero. -/
def zeroAt (b : Bytes) (i n : Nat) : Bool := (bytesAt b i n).all (· == 0)

/-- The 48 inline parameter bytes; packet offset `i` is byte `i - 16`. -/
def Req.inl (r : Req) : Bytes := padTo 48 r.params

/-- `n` bytes of the inline parameters at packet offset `i`. -/
def Req.p (r : Req) (i n : Nat) : Nat := le r.inl (i - 16) n

/-- Inline bytes from packet offset `i` to 63 are zero. -/
def Req.z (r : Req) (i : Nat) : Bool := zeroAt r.inl (i - 16) (64 - i)

/-- `n` bytes of a parameter block at block offset `i`. -/
def Req.b (r : Req) (i n : Nat) : Nat := le r.params i n

end Sys2Proof

namespace Sys2Proof.Machine

/-! ### Byte strings with checks -/

/-- One step of the reflected CRC-32C over one bit (R61). -/
def crcBit (c : BitVec 32) : BitVec 32 :=
  if c.getLsbD 0 then (c >>> 1) ^^^ 0x82F63B78#32 else c >>> 1

/-- The CRC register after one byte. -/
def crcByte (c : BitVec 32) (b : Byte) : BitVec 32 :=
  let d := c ^^^ b.setWidth 32
  crcBit (crcBit (crcBit (crcBit (crcBit (crcBit (crcBit (crcBit d)))))))

/-- CRC-32C of a byte string: Castagnoli polynomial, reflected, initial value and final XOR all ones (R61). -/
def crc32c (b : Bytes) : Nat := (b.foldl crcByte 0xFFFFFFFF#32 ^^^ 0xFFFFFFFF#32).toNat

/-! ### Time (R338, R339) -/

/-- Units of the counter in one nanosecond. -/
def unitsPerNs : Nat := 327680

/-- The astrolabe in whole nanoseconds since its zero. -/
def State.ns (s : State) : Nat := s.ast.raw / unitsPerNs

/-- The astrolabe in 2^-16 ns. -/
def State.time16 (s : State) : Nat := s.ast.raw / 5

/-- Whole astrolabe seconds. -/
def State.secs (s : State) : Nat := s.ns / 1000000000

/-- The form of completion TIME (R99): ns modulo 2^48. -/
def time48 (ns : Nat) : Nat := ns % 2 ^ 48

/-- The form of a trace record's TIME (R389): 0.25 ns units modulo 2^64. -/
def traceTime (t16 : Nat) : Nat := t16 / 2 ^ 14 % 2 ^ 64

/-- An event that falls at instant `t` (ns) brings the counter there, if it has not passed it. -/
def State.advanceTo (s : State) (t : Nat) : State :=
  { s with ast := { s.ast with raw := max s.ast.raw (t * unitsPerNs) } }

/-- The least multiple of `p` strictly after the counter's time. -/
def State.nextMultiple (s : State) (p : Nat) : Nat := (s.ns / p + 1) * p

/-- Code of a time state (R343). -/
def TimeState.code : TimeState → Nat
  | .locked => 0 | .holdover => 1 | .unqualified => 2 | .freeRunning => 3

/-! ### Free values -/

/-- A free value of `w` bits, and the state with the counter advanced. -/
def State.fresh (s : State) (w : Nat) : Nat × State :=
  ((Config.freeWord s.free).toNat % 2 ^ w, { s with free := s.free + 1 })

/-! ### Outputs -/

/-- Record an output. -/
def State.emit (s : State) (o : Out) : State := { s with out := s.out ++ [o] }

/-- A value returned to the reader of a register. -/
def State.answer (s : State) (v : Nat) : State := s.emit (.readValue v)

/-! ### Module -/

/-- Code of a module state (R80). -/
def Mod.code : Mod → Nat
  | .starting => 1 | .ready => 2 | .warmRestart => 3 | .activating => 4
  | .maintenance => 5 | .failed => 6 | .loaderUpdate => 7

/-- The input is in range and no start has stopped (R419, R481). -/
def State.alive (s : State) : Bool := s.boot.power && !s.boot.stopped

/-- The module is in a pause, or dead: rings are not fetched and status pages not refreshed (R94). -/
def State.ringsPaused (s : State) : Bool :=
  !s.alive || s.mod == .warmRestart || s.mod == .activating || s.mod == .loaderUpdate

/-- Terminated ports withhold credit and no firmware sequences anything: a pause, or FAILED (R32, R421). -/
def State.paused (s : State) : Bool := s.ringsPaused || s.mod == .failed

/-- The four I/O dies of the variant: 4 on EN-MW2-48 and -44, otherwise 2 (R1). -/
def Fuse.ioDies (f : Fuse) : Nat := if f.variant == 0x48 || f.variant == 0x44 then 4 else 2

/-- HBM stacks fitted (R1). -/
def Fuse.stacks (f : Fuse) : Nat := if f.variant == 0x48 || f.variant == 0x28 then 8 else 4

/-- Terminated ports and live internal ports of the variant (R1, R2). -/
def Fuse.livePorts (f : Fuse) : Nat := 64 * f.ioDies

/-! ### Port references (R11, R12) -/

/-- Class of a port reference. -/
def refClass (p : Nat) : Nat := p / 4096

/-- Index of a port reference. -/
def refIndex (p : Nat) : Nat := p % 4096

/-- References of the four classes. -/
def refT (t : Nat) : Nat := t
def refI (i : Nat) : Nat := 0x1000 + i
def refP (p : Nat) : Nat := 0x2000 + p
def refG (g : Nat) : Nat := 0x3000 + g

/-- Whether a reference is well formed on the variant: a known class, an index in its range, and not a
dark internal port or an absent terminated port (R12, R3). -/
def refOk (f : Fuse) (p : Nat) : Bool :=
  match refClass p with
  | 0 => decide (refIndex p < 768)
  | 1 => decide (refIndex p < f.livePorts)
  | 2 => decide (refIndex p < f.livePorts)
  | 3 => decide (refIndex p < 64)
  | _ => false

/-- Class-H ports, reserved (R112). -/
def isH (p : Nat) : Bool := decide (640 ≤ p ∧ p < 704)

/-- Class-X ports (R112). -/
def isX (p : Nat) : Bool := decide (704 ≤ p ∧ p < 768)

/-- The key under which a port's owner is kept: Ii and Pi are one (R322). -/
def ownKey (p : Nat) : Nat := if refClass p == 2 then refI (refIndex p) else p

/-- The slice that owns a port; 0 if none. -/
def State.owner (s : State) (p : Nat) : Nat := s.topo.owner.get (ownKey p) 0

/-- Mirror position of a T or I port (R8, R117). -/
def posOf (p : Nat) : Nat := if refClass p == 0 then refIndex p else 768 + refIndex p

/-- The port at a mirror position. -/
def portAt (pos : Nat) : Nat := if pos < 768 then refT pos else refI (pos - 768)

/-! ### Slices -/

/-- Whether a slice exists on the module. -/
def State.hasSlice (s : State) (n : Nat) : Bool := s.topo.slice.has n

/-- Change the record of a slice that exists. -/
def State.updSlice (s : State) (n : Nat) (f : Slice → Slice) : State :=
  match s.topo.slice.find n with
  | none => s
  | some x => { s with topo := { s.topo with slice := s.topo.slice.put n (f x) } }

/-- Owned global ports of a slice, ascending. -/
def State.gports (s : State) (n : Nat) : List Nat :=
  if n == 0 then [] else (List.range 64).filter (fun t => s.owner (refG t) == n)

/-- Standing ports of a slice: the S highest-numbered global ports it owns (R37, R325). -/
def State.standingPorts (s : State) (n : Nat) : List Nat :=
  match s.topo.slice.find n with
  | none => []
  | some x => let g := s.gports n; g.drop (g.length - x.standing)

/-- The racks of a mask, ascending. -/
def racks (mask : Nat) : List Nat := bitsSet 64 mask

/-- Position of a rack among the racks of a mask. -/
def rackIndex (mask r : Nat) : Nat := (List.range r).countP (fun q => bit mask q)

/-- Passages loaded in a slice, by ascending PASSAGE_ID, as (id, passage). -/
def State.passagesOf (s : State) (n : Nat) : List (Nat × Passage) :=
  (s.psg.filter (fun e => e.1 / 256 == n)).map (fun e => (e.1 % 256, e.2))

/-- The key of a passage. -/
def psgKey (slice pid : Nat) : Nat := 256 * slice + pid

/-- Code of a passage state (R64). -/
def PSt.code : PSt → Nat
  | .loaded => 1 | .armed => 2 | .running => 3 | .stalled => 4
  | .parked => 5 | .done => 6 | .aborted => 7

/-- ARMED, RUNNING, STALLED or PARKED. -/
def PSt.live : PSt → Bool
  | .armed => true | .running => true | .stalled => true | .parked => true | _ => false

/-- The first passage on the module that is ARMED, RUNNING, STALLED or PARKED. -/
def State.livePassage (s : State) : Option (Nat × Passage) := s.psg.find? (fun e => e.2.st.live)

/-- Change a loaded passage. -/
def State.updPsg (s : State) (slice pid : Nat) (f : Passage → Passage) : State :=
  match s.psg.find (psgKey slice pid) with
  | none => s
  | some p => { s with psg := s.psg.put (psgKey slice pid) (f p) }

/-! ### Trace (R389 to R395) -/

/-- Record types dropped at a stage fill (R393). -/
def stageDrops (fill typ : Nat) : Bool :=
  if 8 ≤ typ then false
  else if 130048 ≤ fill then true
  else if 98304 ≤ fill then decide (3 ≤ typ ∧ typ ≤ 7)
  else if 65536 ≤ fill then typ == 3
  else false

/-- Whether a record type of a slice is recorded under the masks (R390, R396). -/
def Trace.wants (t : Trace) (typ slice : Nat) : Bool :=
  (decide (8 ≤ typ) || bit t.typeMask typ) &&
    (slice == 0 || t.sliceMask == 0 || bit t.sliceMask slice)

/-- Count one dropped record (R393). -/
def Trace.drop (t : Trace) (typ : Nat) : Trace :=
  { t with
    drops := t.drops.upd typ 0 (satInc 48)
    dropFirst := if t.dropCount == 0 then t.seq else t.dropFirst
    dropCount := satInc 32 t.dropCount
    dropMask := setBit t.dropMask typ
    armFirst := if t.armMask == 0 then t.seq else t.armFirst
    armMask := setBit t.armMask typ }

/-- Put a record that is produced into the stage, or drop it (R393). Every record produced takes the
next SEQ (R389). -/
def Trace.intake (t : Trace) (time typ slice : Nat) (stretch : Bool) (domain : Nat) (body : Bytes) :
    Trace × Bool :=
  let fill := t.stage.length
  let next := (t.seq + 1) % 2 ^ 32
  if stageDrops fill typ then ({ t.drop typ with seq := next }, true)
  else
    ({ t with
        stage := t.stage ++ [⟨time, typ, slice, stretch, domain, t.seq, padTo 16 body⟩]
        peak := max t.peak (fill + 1)
        seq := next }, false)

/-- Produce a trace record, where the trace is ARMED or TRIGGERED and its masks want it. -/
def State.traceAt (s : State) (time typ slice : Nat) (stretch : Bool) (domain : Nat) (body : Bytes) :
    State :=
  if (s.bnc.trace.st == 1 || s.bnc.trace.st == 2) && s.bnc.trace.wants typ slice then
    let a := s.bnc.trace.intake time typ slice stretch domain body
    { s with bnc := { s.bnc with
        trace := a.1
        events := if a.2 then setBit s.bnc.events 0 else s.bnc.events } }
  else s

/-- Produce a trace record stamped now, in the astrolabe domain. -/
def State.trace (s : State) (typ slice : Nat) (body : Bytes) : State :=
  s.traceAt (traceTime s.time16) typ slice false 0 body

/-! ### Logline (R408 to R410) -/

/-- EVENT of a name whose number only LOG_EVDIR gives: the block in [15:8] (R378). -/
def evNamed (block : Nat) (name : String) : Nat := 256 * block + (Config.eventLow block name).toNat

/-- Agent reference of no agent, and of the kinds of R379. -/
def agentNone : Nat := 0xF * 2 ^ 28
def agentKind (kind index : Nat) : Nat := kind * 2 ^ 28 + index
def agentPassage (slice pid : Nat) : Nat := agentKind 8 (slice * 2 ^ 16 + pid)

/-- A core is halted. -/
def State.coreHalted (s : State) (c : Nat) : Bool :=
  match s.bnc.core.find c with
  | none => false
  | some k => k.st != 0

/-- Every core of a cluster is halted (core 0 never halts, R404). -/
def State.clusterHalted (s : State) (k : Nat) : Bool :=
  (List.range 8).all (fun i => decide (8 * k + i = 0) || s.coreHalted (8 * k + i))

/-- Entries the recorder holds in its mode (R409, R413). -/
def logCap (mode : Nat) : Nat := if mode == 0 then 262144 else if mode == 1 then 16384 else 32

/-- Remove the oldest entry of strictly lower severity. -/
def dropLower (sev : Nat) : List LogEntry → Option (List LogEntry)
  | [] => none
  | e :: t => if e.sev < sev then some t else (dropLower sev t).map (e :: ·)

/-- Insert an entry into a bounded list by the overwrite rule of R409; none if it is lost. -/
def logInsert (cap : Nat) (l : List LogEntry) (e : LogEntry) : Option (List LogEntry) :=
  if l.length < cap then some (l ++ [e])
  else (dropLower e.sev l).map (· ++ [e])

/-- Put a created entry into the recorder, or count it lost (R409). -/
def Log.record (g : Log) (e : LogEntry) : Log :=
  match logInsert (logCap g.mode) g.entries e with
  | some l => { g with entries := l }
  | none => { g with lost := g.lost.upd e.sev 0 (satInc 32), events := setBit g.events 4 }

/-- Whether an entry also goes to the journal: CRITICAL and FATAL, LOG_CLEARED, and ERROR in beacon mode. -/
def Log.journals (g : Log) (sev event : Nat) : Bool :=
  decide (5 ≤ sev) || event == 0x0A01 || (g.mode == 2 && sev == 4)

/-- Queue an entry for the journal: at most 100 a second and 64 waiting, otherwise it counts as dropped
(R410). -/
def Log.enqueue (g : Log) (second : Nat) (e : LogEntry) : Log :=
  let n := if g.jSecond == second then g.jCount else 0
  if decide (n < 100) && decide (g.jqueue.length < 64) then
    { g with jqueue := g.jqueue ++ [(e, 0)], jSecond := second, jCount := n + 1 }
  else { g with dropped := satInc 32 g.dropped, jSecond := second, jCount := n }

/-- Create a Logline entry (R408, R409, R410): it takes the next SEQ, waits in the hardware queue while
cluster 3 is halted (R405), and is queued for the journal where R410 says so. DEBUG entries are created
only in maintenance mode. -/
def State.logAdd (s : State) (sev slice event agent : Nat) (args : List Nat) : State :=
  if sev == 0 && s.mod != .maintenance then s
  else
    let g := s.log
    let e : LogEntry := ⟨g.seq, sev, false, g.mode != 0, slice, event, s.ns, g.repeats.get event 0, agent, args⟩
    let g := { g with
      seq := (g.seq + 1) % 2 ^ 32
      created := g.created + 1
      sevLast := g.sevLast.put sev (g.created + 1)
      repeats := g.repeats.del event }
    let g :=
      if s.clusterHalted 3 then
        if g.hwq.length < 4096 then { g with hwq := g.hwq ++ [e] }
        else { g with lost := g.lost.upd sev 0 (satInc 32), events := setBit g.events 4 }
      else g.record e
    let g := if g.journals sev event then g.enqueue s.secs e else g
    { s with log := g }

/-- Severities (R408). -/
def sevInfo : Nat := 1
def sevNotice : Nat := 2
def sevWarning : Nat := 3
def sevError : Nat := 4
def sevCritical : Nat := 5
def sevFatal : Nat := 6

/-- A FATAL entry is journaled before the module enters FAILED (R410). -/
def State.fatal (s : State) (event agent : Nat) (args : List Nat) : State :=
  let e : LogEntry := ⟨s.log.seq, 6, true, s.log.mode != 0, 0, event, s.ns, 0, agent, args⟩
  let s := s.logAdd 6 0 event agent args
  let j := (logInsert 262144 s.log.journal e).getD s.log.journal
  { s with mod := .failed
           log := { s.log with
             journal := j
             jqueue := s.log.jqueue.filter (fun q => q.1.seq != e.seq)
             entries := s.log.entries.map (fun x => if x.seq == e.seq then { x with journaled := true } else x) } }

/-- The 64 bytes of a Logline entry (R408). -/
def LogEntry.bytes (e : LogEntry) : Bytes :=
  let b := leBytes 4 e.seq
    ++ leBytes 1 (e.sev + (if e.journaled then 8 else 0) + (if e.degraded then 16 else 0))
    ++ leBytes 1 e.slice ++ leBytes 2 e.event
    ++ leBytes 6 (e.time / 1000000000) ++ leBytes 4 (e.time % 1000000000)
    ++ leBytes 2 e.repeats ++ leBytes 4 e.agent
    ++ (List.range 4).flatMap (fun i => leBytes 8 (e.args.getD i 0))
    ++ zeros 4
  b ++ leBytes 4 (crc32c b)

/-- Highest severity recorded since a mark of the created-entry count (R91 LOG_MAX_SEV). -/
def Log.maxSince (g : Log) (mark : Nat) : Nat :=
  (g.sevLast.filter (fun e => decide (mark < e.2))).foldl (fun m e => max m e.1) 0

/-! ### Counters (R380, R384) -/

/-- Add to every selected counter bound to a source and instance; 48 bits, wrapping. -/
def State.count (s : State) (source inst n : Nat) : State :=
  { s with bnc := { s.bnc with ctr := s.bnc.ctr.mapVal (fun _ c =>
      if c.selected && !c.orphan && c.source == source && c.inst == inst
      then { c with value := (c.value + n) % 2 ^ 48 } else c) } }

/-! ### Fabric-memory bytes (R279) -/

/-- A byte of a window; an address that is not listed reads 0. -/
def Memory.get : List Host.Cell → Nat → Byte
  | [], _ => 0
  | c :: t, a => if c.1 = a then c.2 else Memory.get t a

/-- Write a byte, keeping the canonical form. -/
def Memory.put : List Host.Cell → Nat → Byte → List Host.Cell
  | [], a, v => if v = 0 then [] else [(a, v)]
  | c :: t, a, v =>
    if c.1 < a then c :: Memory.put t a v
    else if c.1 = a then (if v = 0 then t else (a, v) :: t)
    else (if v = 0 then c :: t else (a, v) :: c :: t)

/-- `n` bytes from address `a`. -/
def Memory.read (m : List Host.Cell) (a n : Nat) : Bytes := (List.range n).map (fun k => Memory.get m (a + k))

/-- Write a byte string from address `a`. -/
def Memory.write (m : List Host.Cell) (a : Nat) : Bytes → List Host.Cell
  | [] => m
  | b :: t => Memory.write (Memory.put m a b) (a + 1) t

/-! ### Checks of a command -/

/-- The first failing check of a command: status, WORD0, WORD1. -/
abbrev Chk := Option (Nat × Nat × Nat)

/-- A check that passes where the condition holds. -/
def chk (ok : Bool) (status w0 w1 : Nat) : Chk := if ok then none else some (status, w0, w1)

/-- The first failure in order. -/
def firstFail : List Chk → Chk
  | [] => none
  | none :: t => firstFail t
  | some e :: _ => some e

/-- FIELD_RANGE at the first row that fails, in the order given (R494). -/
def ranges : List (Nat × Bool) → Chk
  | [] => none
  | (off, ok) :: t => if ok then ranges t else some (0x0101, off, 0)

/-- How a command's own part ends: with a completion, or waiting in the module. -/
inductive CmdOut where
  | done (s : State) (status w0 w1 : Nat)
  | wait (s : State) (w : Wait)

/-- A command that fails a check has no effect (R98). -/
def CmdOut.refuse (s : State) (e : Nat × Nat × Nat) : CmdOut := .done s e.1 e.2.1 e.2.2

/-- Run `f` where every check passes. -/
def guarded (s : State) (cs : List Chk) (f : CmdOut) : CmdOut :=
  match firstFail cs with
  | some e => .refuse s e
  | none => f

/-- Success with two result words. -/
def ok (s : State) (w0 w1 : Nat) : CmdOut := .done s 0 w0 w1

/-- Existence of the slice, judged right after the ranges (R74). -/
def sliceChk (s : State) (n : Nat) : Chk := chk (s.hasSlice n) 0x0302 n 0

/-! ### Rings and completions (R84 to R89, R99) -/

/-- A ring after reset (R81). -/
def Ring.reset : Ring := ⟨0, 0, 0, .disabled, false, 0, 0, true, 0, 0, 0, none, false⟩

/-- A function block after reset (R81). -/
def FnBlock.reset : FnBlock := ⟨false, 0, 0, 0, 0, 0⟩

/-- The key of a ring. -/
def ringKey (fn ring : Nat) : Nat := 16 * fn + ring

/-- A ring's registers. -/
def State.ring (s : State) (fn ring : Nat) : Ring := s.hif.ring.get (ringKey fn ring) Ring.reset

/-- Change a ring. -/
def State.updRing (s : State) (fn ring : Nat) (f : Ring → Ring) : State :=
  { s with hif := { s.hif with ring := s.hif.ring.upd (ringKey fn ring) Ring.reset f } }

/-- A function block. -/
def State.fnb (s : State) (fn : Nat) : FnBlock := s.hif.fn.get fn FnBlock.reset

/-- Change a function block. -/
def State.updFn (s : State) (fn : Nat) (f : FnBlock → FnBlock) : State :=
  { s with hif := { s.hif with fn := s.hif.fn.upd fn FnBlock.reset f } }

/-- Set a bit of HIF_FN_ERR. -/
def State.fnErr (s : State) (fn i : Nat) : State := s.updFn fn (fun b => { b with err := setBit b.err i })

/-- Entries of each of the ring's two rings. -/
def Ring.size (r : Ring) : Nat := 2 ^ r.log2

/-- A ring that is RUNNING or STEP_HELD enters ERROR; a held command is dropped (R87, R110). -/
def Ring.toError (r : Ring) : Ring :=
  match r.st with
  | .running => { r with st := .error, held := none }
  | .stepHeld => { r with st := .error, held := none }
  | _ => r

/-- The ring after one completion index is used: the index advances and the phase inverts on the wrap (R86). -/
def Ring.stepCpl (r : Ring) : Ring :=
  let wraps := decide (r.cplIndex + 1 ≥ r.size)
  { r with
    cplIndex := if wraps then 0 else r.cplIndex + 1
    phase := if wraps then !r.phase else r.phase
    unread := r.unread + 1 }

/-- The 32 bytes of a completion entry (R99). -/
def Cpl.bytes (c : Cpl) : Bytes :=
  leBytes 4 c.tag ++ leBytes 2 c.status ++ leBytes 1 c.seq
    ++ leBytes 1 (b2n c.phase + 2 * b2n c.logged)
    ++ leBytes 8 c.word0 ++ leBytes 8 c.word1 ++ leBytes 6 c.time ++ leBytes 1 c.ring ++ zeros 1

/-- Form and write a completion (R86, R99). On a DISABLED ring, or for a command whose ring was reset
under it, it is discarded (R77). A write that fails takes its index, sets DMA_WRITE_FAULT, puts the ring
in ERROR and is recorded (R89). -/
def State.complete (s : State) (fn ring seq tag status w0 w1 : Nat) (logged : Bool) (dma : Dma)
    (discard : Bool) : State :=
  let r := s.ring fn ring
  if discard || r.st == .disabled then s
  else
    let c : Cpl := ⟨tag % 2 ^ 32, status, seq, r.phase, logged, w0 % 2 ^ 64, w1 % 2 ^ 64, time48 s.ns, ring⟩
    let s := s.updRing fn ring Ring.stepCpl
    if dma == .cplFault then
      ((s.fnErr fn 5).updRing fn ring Ring.toError).logAdd sevError 0 (evNamed 0 "COMPLETION_LOST")
        (agentKind 0xC fn) [c.tag, status, seq, ring * 2 ^ 16 + r.cplIndex]
    else s.emit (.completion fn ring r.cplIndex c)

end Sys2Proof.Machine
end

