-- ==== Sys2Proof/Machine/Operands.lean ====
section
/-! DEFINITION. Operand forms: number formats and their packing, element ranges and their division among
ports, and the bytes a range takes (07 R218 to R224, 02 R52). -/

namespace Sys2Proof.Machine

/-- What R218 states of a format code: element bits (of MX formats without the scale), block bytes, MX,
integer, wire format. -/
structure Fmt where
  ebits : Nat
  block : Nat
  mx    : Bool
  int   : Bool
  wire  : Bool

/-- The format codes of R218. -/
def formats : Tbl Fmt := [
  (0x01, ⟨32, 128, false, false, true⟩), (0x02, ⟨16, 64, false, false, true⟩),
  (0x03, ⟨16, 64, false, false, true⟩), (0x04, ⟨8, 32, false, false, true⟩),
  (0x05, ⟨8, 32, false, false, true⟩), (0x08, ⟨64, 256, false, false, false⟩),
  (0x10, ⟨8, 33, true, false, true⟩), (0x11, ⟨8, 33, true, false, true⟩),
  (0x12, ⟨6, 25, true, false, true⟩), (0x13, ⟨6, 25, true, false, true⟩),
  (0x14, ⟨4, 17, true, false, true⟩), (0x15, ⟨8, 33, true, false, true⟩),
  (0x20, ⟨8, 32, false, true, true⟩), (0x21, ⟨32, 128, false, true, true⟩)]

/-- Whether a code names a format. -/
def fmtOk (c : Nat) : Bool := formats.has c

/-- A format; the first where the code is unknown. -/
def fmt (c : Nat) : Fmt := formats.get c ⟨32, 128, false, false, true⟩

/-- Whether a code names a wire format. -/
def wireOk (c : Nat) : Bool := match formats.find c with
  | some f => f.wire
  | none => false

/-- W(f, E): bytes that E elements from element `f` occupy in a format on the 32-element grid (R224). -/
def wBytes (c first count : Nat) : Nat :=
  let f := fmt c
  if count == 0 then 0
  else if f.mx then ((first + count - 1) / 32 - first / 32 + 1) * f.block
  else (first + count - 32 * (first / 32)) * f.ebits / 8

/-- The element range of port `k` of `n` under R52: first element and count. -/
def share (first count k n : Nat) : Nat × Nat :=
  let lo := k * count / n
  let hi := (k + 1) * count / n
  (first + lo, hi - lo)

/-- Range `i` of an element range divided into `n` (part(l), shard(i) of R57). -/
def shard (count i n : Nat) : Nat × Nat := share 0 count i n

/-- Bytes a buffer of a format occupies (R39, R224). -/
def Buffer.bytes (b : Buffer) : Nat := wBytes b.fmt b.base b.elems

/-- `n` bits of a byte string from bit `i`, least significant bit of byte 0 first (R223). -/
def bitsAt (b : Bytes) (i n : Nat) : Nat := bits (le b (i / 8) ((i % 8 + n + 7) / 8)) (i % 8) n

/-- The stored code of element `k` of a packed run that starts at a 32-element boundary, MX scales apart
(R223). -/
def codeAt (c : Nat) (b : Bytes) (k : Nat) : Nat :=
  let f := fmt c
  if f.mx then bitsAt (b.drop (k / 32 * f.block + 1)) (k % 32 * f.ebits) f.ebits
  else bitsAt b (k * f.ebits) f.ebits

/-- The E8M0 scale code of the block of element `k`; 127 (one) for a format without scales. -/
def scaleAt (c : Nat) (b : Bytes) (k : Nat) : Nat :=
  let f := fmt c
  if f.mx then byteAt b (k / 32 * f.block) else 127

/-- Pack codes of equal width, least significant first, into whole bytes (R223). -/
def packCodes (ebits : Nat) (cs : List Nat) : Bytes :=
  leBytes ((cs.length * ebits + 7) / 8) ((cs.foldr (fun c acc => acc * 2 ^ ebits + c % 2 ^ ebits) 0))

end Sys2Proof.Machine
end

