-- ==== Sys2Proof/Machine/Hif.lean ====
section
/-! DEFINITION. The host interface: the command catalogue, the checks made on every command, the way a
command completes or waits, and the ring registers (03_host_interface). -/

namespace Sys2Proof.Machine

/-! ### The catalogue (R102) -/

/-- What R102 states of a command. -/
structure CmdInfo where
  /-- parameters by pointer -/
  ptr    : Bool
  /-- bound in µs -/
  bound  : Nat
  /-- physical function only -/
  pfOnly : Bool
  /-- role a token must carry; 0 where no token is needed -/
  token  : Nat

/-- The catalogue of R102 by opcode. -/
def catalogue : Tbl CmdInfo := [
  (0x0001, ⟨false, 1000, false, 0⟩), (0x0002, ⟨false, 100, false, 0⟩), (0x0003, ⟨false, 1000, true, 0⟩),
  (0x0101, ⟨true, 100000, true, 0⟩), (0x0102, ⟨true, 100000, true, 0⟩), (0x0103, ⟨false, 1000, false, 0⟩),
  (0x0104, ⟨false, 1000000, false, 0⟩), (0x0105, ⟨false, 100000, true, 0⟩), (0x0106, ⟨false, 10000, true, 0⟩),
  (0x0107, ⟨false, 10000, true, 0⟩),
  (0x0201, ⟨true, 100000, false, 0⟩), (0x0202, ⟨false, 10000, false, 0⟩), (0x0203, ⟨false, 20000, false, 0⟩),
  (0x0204, ⟨false, 20000, false, 0⟩),
  (0x0301, ⟨true, 200000, false, 0⟩), (0x0302, ⟨false, 1000, false, 0⟩), (0x0303, ⟨false, 100, false, 0⟩),
  (0x0304, ⟨false, 1000, false, 0⟩), (0x0305, ⟨false, 1000, false, 0⟩), (0x0306, ⟨false, 1000, false, 0⟩),
  (0x0307, ⟨false, 10000, false, 0⟩), (0x0308, ⟨false, 1000, false, 0⟩),
  (0x0401, ⟨false, 10000, false, 0⟩), (0x0402, ⟨false, 1000, false, 0⟩), (0x0403, ⟨false, 10000, false, 0⟩),
  (0x0404, ⟨false, 1000, false, 0⟩)] ++ [
  (0x0501, ⟨true, 100000, false, 0⟩), (0x0502, ⟨false, 10000, false, 0⟩), (0x0503, ⟨true, 10000000, false, 0⟩),
  (0x0504, ⟨true, 10000000, false, 0⟩), (0x0505, ⟨true, 10000, false, 0⟩), (0x0506, ⟨false, 1000, false, 0⟩),
  (0x0507, ⟨false, 100000, false, 0⟩),
  (0x0601, ⟨true, 10000, true, 0⟩), (0x0602, ⟨false, 60000000, true, 0⟩), (0x0603, ⟨false, 1000, true, 0⟩),
  (0x0604, ⟨false, 1000, true, 0⟩),
  (0x0701, ⟨false, 100, false, 0⟩), (0x0702, ⟨false, 1000, false, 0⟩), (0x0703, ⟨false, 10000, true, 0⟩),
  (0x0704, ⟨false, 1000, true, 0⟩),
  (0x0801, ⟨true, 1000, true, 0⟩), (0x0802, ⟨false, 1000, false, 0⟩), (0x0803, ⟨true, 1000, true, 0⟩),
  (0x0804, ⟨false, 1000, true, 0⟩), (0x0805, ⟨false, 10000, true, 0⟩), (0x0806, ⟨false, 1000, true, 0⟩)] ++ [
  (0x0901, ⟨true, 10000, true, 0⟩), (0x0902, ⟨false, 1000, true, 0⟩), (0x0903, ⟨true, 100000, true, 3⟩),
  (0x0A01, ⟨false, 1000, false, 0⟩), (0x0A02, ⟨true, 2000000, true, 0⟩), (0x0A03, ⟨true, 10000, true, 0⟩),
  (0x0A04, ⟨true, 10000, true, 0⟩),
  (0x0B01, ⟨true, 10000000, true, 3⟩), (0x0B02, ⟨false, 10000000, true, 0⟩), (0x0B03, ⟨true, 10000, true, 0⟩),
  (0x0B04, ⟨true, 1000, true, 0⟩), (0x0B05, ⟨false, 1000, true, 0⟩), (0x0B06, ⟨false, 1000, true, 0⟩)]

/-- The signature length at the SIG_LEN field of the token of a block (R401): the token follows from byte 8. -/
def tokenSigLen (b : Bytes) : Nat := le b 28 4

/-- The block length a by-pointer command requires, from the counts of its copied block (R500). -/
def requiredLen (opcode : Nat) (b : Bytes) : Nat :=
  match opcode with
  | 0x0101 => 32
  | 0x0102 => 32 + 4 * le b 2 2
  | 0x0201 => (32 + le b 10 1 + le b 11 1 + 7) / 8 * 8 + 8 * le b 12 2
  | 0x0301 => 64 + 64 * le b 24 2 + 32 * le b 26 2 + 64 * le b 28 2 + 32 * le b 30 2 + 2 * le b 32 4
  | 0x0501 => 64
  | 0x0503 => 32
  | 0x0504 => 32
  | 0x0505 => 352 + 4 * le b 4 2
  | 0x0601 => 32
  | 0x0801 => 16 + 16 * le b 0 2
  | 0x0803 => 64
  | 0x0901 => 32
  | 0x0903 => 40 + tokenSigLen b
  | 0x0A02 => 48
  | 0x0A03 => 16
  | 0x0A04 => 16
  | 0x0B01 => 40 + tokenSigLen b
  | 0x0B03 => 16 + 8 * le b 0 2
  | 0x0B04 => 16 + 16 * le b 0 2
  | _ => b.length

/-! ### Authority and module state (R103, R104, R401) -/

/-- Signature length of a parameter set (R401, R443). -/
def sigLenOf (param : Nat) : Nat := if param == 1 then 17088 else 16224

/-- Whether the token from block byte 8 verifies for an enrolled key of the required role or a higher one (R401). -/
def tokenOk (s : State) (opcode need : Nat) (b : Bytes) : Bool :=
  let t := b.drop 8
  match s.log.nonce, s.boot.keys.find (le t 18 1) with
  | some (n, at_), some k =>
    le t 0 16 == n && decide (s.ns < at_ + 300000000000) && le t 16 2 == opcode
      && decide (le t 18 1 < 16) && (le t 19 1 == 3 || le t 19 1 == 4)
      && decide (need ≤ le t 19 1) && decide (le t 19 1 ≤ k.role)
      && le t 20 4 == sigLenOf k.param && zeroAt t 24 8
      && decide (b.length = 40 + le t 20 4)
      && Config.sigVerify k.param k.pub (bytesAt t 0 32 ++ padTo 16 s.fuse.serial)
          (bytesAt t 32 (sigLenOf k.param))
  | _, _ => false

/-- Check 7 of R97: what the module state executes (R104). -/
def stateChk (m : Mod) (opcode : Nat) (b : Bytes) : Chk :=
  match m with
  | .starting => chk ([0x0001, 0x0002, 0x0A01, 0x0701, 0x0702].contains opcode) 0x0602 0 0
  | .ready => chk (!decide (0x0B03 ≤ opcode ∧ opcode ≤ 0x0B06)) 0x0405 0 0
  | .maintenance => chk (decide (opcode / 256 = 0) || [0x0103, 0x0202, 0x0308, 0x0404, 0x0601, 0x0604].contains opcode
      || (opcode == 0x0501 && bit (byteAt b 8) 1) || decide (7 ≤ opcode / 256)) 0x0306 0 0
  | .failed => chk ([0x0001, 0x0002, 0x0A01, 0x0901, 0x0A04].contains opcode) 0x0504 0 0
  | .warmRestart => none
  | .activating => none
  | .loaderUpdate => none

/-- What an activation wait and a trial put off, with EFFECT 0 (R435, R437). -/
def trialChk (b : Boot) (opcode : Nat) : Chk :=
  firstFail [
    chk (b.actWait.isNone || !([0x0302, 0x0305, 0x0203, 0x0204, 0x0503, 0x0504, 0x0602, 0x0B01].contains opcode)) 0x0602 0 0,
    chk (!b.healthPending || !([0x0101, 0x0102, 0x0105, 0x0106, 0x0107, 0x0603, 0x0703, 0x0B01].contains opcode)) 0x0602 0 0]

/-- Check 3 of R97, its SLICE part: 0 to 63, and 1 to 63 for a command of groups 1 to 5 on the PF, but
for SLICE_QUERY and PORT_ADMIT. -/
def sliceFieldOk (fn opcode slice : Nat) : Bool :=
  decide (slice < 64) &&
    !(fn == 0 && decide (1 ≤ opcode / 256 ∧ opcode / 256 ≤ 5) && slice == 0
      && opcode != 0x0103 && opcode != 0x0106)

/-- Checks 5 to 7 of R97. -/
def authChk (s : State) (i : CmdInfo) (opcode fn slice : Nat) (b : Bytes) : Chk :=
  firstFail [
    chk (fn == 0 || slice == fn) 0x0402 slice 0,
    chk (fn == 0 || !i.pfOnly) 0x0404 0 0,
    chk (i.token == 0 || tokenOk s opcode i.token b) 0x0403 i.token 0,
    stateChk s.mod opcode b,
    trialChk s.boot opcode]

/-- Check 8 of R97 on a block that was copied (R500). -/
def blockChk (i : CmdInfo) (opcode : Nat) (r : Req) : Chk :=
  if !i.ptr then none
  else firstFail [
    chk (decide (1 ≤ r.params.length ∧ r.params.length ≤ 1048576)) 0x0104 2 0,
    chk (r.dma != .readFault) 0x0104 3 0,
    chk (decide (r.params.length = requiredLen opcode r.params)) 0x0104 2 0]

/-! ### Execution and completion -/

/-- A command in execution on a ring, not yet completed (R85). -/
def State.ringExec (s : State) (fn ring : Nat) : Option Exec :=
  s.hif.execs.find? (fun e => e.fn == fn && e.ring == ring && !e.discard)

/-- The module can start a command of the ring: it fetches, nothing of the ring is in execution, and a
completion slot can be reserved unless the ring is DISABLED (R84, R85, R94). -/
def State.canStart (s : State) (fn ring : Nat) : Bool :=
  !s.ringsPaused && (s.ringExec fn ring).isNone
    && ((s.ring fn ring).st == .disabled || decide ((s.ring fn ring).unread < (s.ring fn ring).size))

/-- Body of a CMD trace record (R390). -/
def cmdBody (fn ring opcode tag status seq : Nat) (end_ : Bool) : Bytes :=
  leBytes 1 fn ++ leBytes 1 (ring + 16 * b2n end_) ++ leBytes 2 opcode ++ leBytes 4 tag
    ++ leBytes 2 status ++ leBytes 1 seq

/-- A token command consumes the nonce, whether or not it succeeds (R401). -/
def State.useNonce (s : State) (i : CmdInfo) : State :=
  if i.token == 0 then s else { s with log := { s.log with nonce := none } }

/-- End a command with its completion and its CMD record. -/
def State.finish (s : State) (opcode : Nat) (r : Req) (status w0 w1 : Nat) (logged : Bool) : State :=
  (s.complete r.fn r.ring r.seq r.tag status w0 w1 logged r.dma false).trace 7 r.slice
    (cmdBody r.fn r.ring opcode r.tag status r.seq true)

/-- The CMD record at S0 of a command (R100, R390). -/
def State.begin (s : State) (opcode : Nat) (r : Req) : State :=
  s.trace 7 r.slice (cmdBody r.fn r.ring opcode r.tag 0 r.seq false)

/-- A command that fails one of the checks of its header: it has no effect (R97, R98). -/
def State.refuseCmd (s : State) (opcode : Nat) (r : Req) (e : Nat × Nat × Nat) : State :=
  (s.begin opcode r).finish opcode r e.1 e.2.1 e.2.2 false

/-- Run a command that has passed the header checks: authority and state, its descriptor `pre`, its block, then its own
part, then its completion or its wait (R97, R98, R100). -/
def State.runReq (s : State) (opcode : Nat) (i : CmdInfo) (r : Req) (pre : Chk) (run : Req → State → CmdOut) : State :=
  let c0 := s.log.created
  let s0 := s.begin opcode r
  let s1 := s0.useNonce i
  match firstFail [authChk s0 i opcode r.fn r.slice r.params, pre, blockChk i opcode r] with
  | some e =>
    let s2 := if i.ptr && r.dma == .readFault then s1.fnErr r.fn 4 else s1
    s2.finish opcode r e.1 e.2.1 e.2.2 false
  | none =>
    match run r s1 with
    | .done s' st w0 w1 => s'.finish opcode r st w0 w1 (s'.log.created != c0)
    | .wait s' w => { s' with hif := { s'.hif with execs := s'.hif.execs ++
        [⟨r.fn, r.ring, r.seq, r.tag, opcode, r.slice, i.bound, s.ns, w, r.dma, false, s'.log.created != c0⟩] } }

/-- A host command row: the module starts the command named, as issued on its function and ring. Where
the module cannot start one (R84, R85, R94), nothing happens. -/
def State.hostRow (s : State) (opcode : Nat) (r : Req) (run : Req → State → CmdOut) : State :=
  match catalogue.find opcode with
  | none => s
  | some i =>
    if !s.canStart r.fn r.ring then s
    else if !sliceFieldOk r.fn opcode r.slice then s.refuseCmd opcode r (0x0101, 8, 0)
    else s.runReq opcode i r none run

/-- Complete a waiting command and take it out of execution. -/
def State.completeExec (s : State) (e : Exec) (status w0 w1 : Nat) : State :=
  let s := { s with hif := { s.hif with execs := s.hif.execs.erase e } }
  if e.discard then s
  else (s.complete e.fn e.ring e.seq e.tag status w0 w1 e.logged e.dma false).trace 7 e.slice
    (cmdBody e.fn e.ring e.opcode e.tag status e.seq true)

/-- Complete every command whose wait satisfies `p`. -/
def State.completeWhere (s : State) (p : Wait → Bool) (status w0 w1 : Nat) : State :=
  (s.hif.execs.filter (fun e => p e.wait)).foldl (fun s e => s.completeExec e status w0 w1) s

/-! ### Ring registers (R81 to R89, R110) -/

/-- A write of HIF_RING_CMD_BASE or HIF_RING_CPL_BASE (R82). -/
def State.writeBase (s : State) (fn k : Nat) (cpl : Bool) (v : Nat) : State :=
  if (s.ring fn k).st == .disabled then
    s.updRing fn k (fun r => if cpl then { r with cplBase := bits v 12 52 } else { r with cmdBase := bits v 12 52 })
  else s.fnErr fn 1

/-- The state of a ring that is enabled or resumed, by its STEP_MODE (R87). -/
def Ring.goState (r : Ring) : RingSt := if r.stepMode then .stepHeld else .running

/-- A write of HIF_RING_CFG to a DISABLED ring (R82). -/
def State.cfgDisabled (s : State) (fn k v : Nat) : State :=
  let s1 := s.updRing fn k (fun r => { r with log2 := bits v 0 5, stepMode := bit v 9 })
  if !bit v 8 then s1
  else if decide (4 ≤ bits v 0 5 ∧ bits v 0 5 ≤ 16) then
    s1.updRing fn k (fun r => { r with
      st := r.goState, fetch := 0, expectSeq := 0, cplIndex := 0, phase := true, unread := 0
      held := none, stepPending := false })
  else s1.fnErr fn 1

/-- A write of HIF_RING_CFG in any other state, judged field by field (R82, R87, R110). Clearing
STEP_MODE returns a STEP_HELD ring to RUNNING. -/
def State.cfgEnabled (s : State) (fn k v : Nat) : State :=
  let r := s.ring fn k
  let s1 := if bits v 0 5 == r.log2 then s else s.fnErr fn 1
  if r.st == .draining then
    let s2 := s1.updRing fn k (fun r => { r with stepMode := bit v 9 })
    if bit v 8 then s2.fnErr fn 1 else s2
  else
    let s2 := s1.updRing fn k (fun r => { r with
      stepMode := bit v 9
      st := match r.st with
        | .running => if bit v 9 then .stepHeld else .running
        | .stepHeld => if bit v 9 then .stepHeld else .running
        | x => x })
    if bit v 8 then s2
    else s2.updRing fn k (fun r => { r with st := .draining, held := none, stepPending := false })

/-- A write of HIF_RING_CFG. -/
def State.writeCfg (s : State) (fn k v : Nat) : State :=
  if (s.ring fn k).st == .disabled then s.cfgDisabled fn k v else s.cfgEnabled fn k v

/-- A write of HIF_RING_CMD_DB.TAIL (R89). -/
def State.writeTail (s : State) (fn k v : Nat) : State :=
  let t := v % 2 ^ 16
  if decide (t < (s.ring fn k).size) then s.updRing fn k (fun r => { r with tail := t })
  else (s.fnErr fn 2).updRing fn k Ring.toError

/-- Completions that a HEAD releases, or none where it is refused (R84). -/
def Ring.headReleases (r : Ring) (h : Nat) : Option Nat :=
  if decide (h < r.size) then
    let released := (r.cplIndex + r.size - r.unread % r.size) % r.size
    let k := (h + r.size - released) % r.size
    if k ≤ r.unread then some k else none
  else none

/-- A write of HIF_RING_CPL_DB.HEAD (R84, R89). -/
def State.writeHead (s : State) (fn k v : Nat) : State :=
  match (s.ring fn k).headReleases (v % 2 ^ 16) with
  | some n => s.updRing fn k (fun r => { r with unread := r.unread - n })
  | none => (s.fnErr fn 2).updRing fn k Ring.toError

/-- A write of HIF_RING_CTRL.RESUME (R87, R110). -/
def State.writeResume (s : State) (fn k v : Nat) : State :=
  if bit v 0 && (s.ring fn k).st == .error then s.updRing fn k (fun r => { r with st := r.goState }) else s

/-- Rings and status page of a function reset; its commands in execution run on with their completions
discarded (R77). -/
def State.resetFn (s : State) (fn : Nat) : State :=
  { s with hif := { s.hif with
      fn := s.hif.fn.del fn
      ring := s.hif.ring.filter (fun e => e.1 / 16 != fn)
      execs := s.hif.execs.map (fun e => if e.fn == fn then { e with discard := true } else e) } }

/-! ### Meanings of the ring and function rows -/

/-- HIF_RING_CMD_DB (R89): a write of the command doorbell. -/
def execHifRingCmdDb (fn : Fin 64) (ring : Fin 16) (value : Nat) (s : State) : Host.Outcome State Fault Refusal :=
  .next (s.writeTail fn ring value)

/-- HIF_RING_CPL_DB (R84): a write of the completion doorbell. -/
def execHifRingCplDb (fn : Fin 64) (ring : Fin 16) (value : Nat) (s : State) : Host.Outcome State Fault Refusal :=
  .next (s.writeHead fn ring value)

/-- HIF_RING_CTRL_RESUME (R87): a write of RESUME. -/
def execHifRingCtrlResume (fn : Fin 64) (ring : Fin 16) (value : Nat) (s : State) : Host.Outcome State Fault Refusal :=
  .next (s.writeResume fn ring value)

/-- RING_ENABLE (R82): the HIF_RING_CFG write that sets ENABLE. -/
def execRingEnable (fn : Fin 64) (ring : Fin 16) (value : Nat) (s : State) : Host.Outcome State Fault Refusal :=
  .next (s.writeCfg fn ring value)

/-- RING_DISABLE (R87): the HIF_RING_CFG write that clears ENABLE. -/
def execRingDisable (fn : Fin 64) (ring : Fin 16) (value : Nat) (s : State) : Host.Outcome State Fault Refusal :=
  .next (s.writeCfg fn ring value)

/-- STEP_MODE_SET (R110): the HIF_RING_CFG write that sets STEP_MODE. -/
def execStepModeSet (fn : Fin 64) (ring : Fin 16) (value : Nat) (s : State) : Host.Outcome State Fault Refusal :=
  .next (s.writeCfg fn ring value)

/-- RING_DRAIN_DONE (R87): nothing of a DRAINING ring is in execution any more, and it is DISABLED. -/
def execRingDrainDone (fn : Fin 64) (ring : Fin 16) (s : State) : Host.Outcome State Fault Refusal :=
  .next (if (s.ring fn ring).st == .draining && (s.ringExec fn ring).isNone
    then s.updRing fn ring (fun r => { r with st := .disabled }) else s)

/-- BAR0_BAD_ACCESS (R79): the access has no effect but ACCESS_WIDTH; a read returns 0. -/
def execBar0BadAccess (fn : Fin 64) (write : Bool) (s : State) : Host.Outcome State Fault Refusal :=
  .next (let s1 := s.fnErr fn 0; if write then s1 else s1.answer 0)

/-- FUNCTION_LEVEL_RESET (R77): of a VF, that function; of the PF, the PF and every VF. -/
def execFunctionLevelReset (fn : Fin 64) (s : State) : Host.Outcome State Fault Refusal :=
  .next (if fn.val == 0 then (List.range 64).foldl State.resetFn s else s.resetFn fn)

/-- PCIE_LINK_DOWN (R77): as FLR of the PF. -/
def execPcieLinkDown (s : State) : Host.Outcome State Fault Refusal :=
  .next (let s1 := (List.range 64).foldl State.resetFn s
    { s1 with hif := { s1.hif with linkUp := false } })

/-- PCIE_LINK_UP (R73): the link trains to a rate and width of R73, and HIF_LINK reports it; no other
combination is offered. -/
def execPcieLinkUp (gen : Fin 8) (width : Fin 9) (s : State) : Host.Outcome State Fault Refusal :=
  .next (if decide (5 ≤ gen.val) && (width.val == 8 || width.val == 4 || width.val == 1) then
    { s with hif := { s.hif with linkUp := true, gen := gen, width := width, flit := decide (6 ≤ gen.val) } }
    else s)

/-- COMMAND_TIMEOUT (R101): the command in execution on the ring exceeds its bound and completes with
TIMEOUT, its EFFECT code and its bound, and one WARNING. What it started goes on. -/
def execCommandTimeout (fn : Fin 64) (ring : Fin 16) (s : State) : Host.Outcome State Fault Refusal :=
  .next (match s.ringExec fn ring with
    | none => s
    | some e =>
      let s1 := s.advanceTo (e.s0 + 1000 * e.bound)
      let effect := if [0x0203, 0x0204, 0x0503, 0x0504, 0x0602, 0x0B01].contains e.opcode then 2 else 1
      let s2 := s1.logAdd sevWarning e.slice (evNamed 0 "COMMAND_TIMEOUT") (agentKind 0xC e.fn)
        [e.opcode, e.fn, e.ring, e.tag]
      let s3 := s2.complete e.fn e.ring e.seq e.tag 0x0310 effect e.bound true e.dma false
      let s4 := s3.trace 7 e.slice (cmdBody e.fn e.ring e.opcode e.tag 0x0310 e.seq true)
      { s4 with hif := { s4.hif with execs := s4.hif.execs.map (fun x => if x == e then { x with discard := true } else x) } })

end Sys2Proof.Machine
end

