-- ==== Sys2Proof/Machine/Obs.lean ====
section
/-! DEFINITION. Binnacle counters and trace, newt-core stepping and the Logline recorder
(13_observability), but for entering and leaving maintenance mode. -/

namespace Sys2Proof.Machine

/-! ### Counter sources (R378, R381) -/

/-- Highest instance of the sources with fixed numbers; none for any other source (R381, R469). -/
def fixedSource (n : Nat) : Option Nat :=
  if decide (0xA01 ≤ n ∧ n ≤ 0xA0D) then some 0
  else if n == 0xA10 then some 6
  else if n == 0xD00 || n == 0xD01 then some 31
  else if n == 0xD02 || n == 0xD03 then some 47
  else if n == 0xD04 then some 12
  else if n == 0xD05 then some 0
  else if n == 0xC00 || n == 0xC01 then some 23
  else if n == 0xC02 || n == 0xC03 then some 7
  else if n == 0xC04 || n == 0xC05 then some 0
  else if decide (0xC06 ≤ n ∧ n ≤ 0xC08) then some 3
  else if n == 0xC10 then some 6
  else if n == 0xC11 then some 63
  else if n == 0xC12 then some 3
  else none

/-- A source the catalogue defines; blocks 0xE and 0xF are reserved. -/
def srcDefined (n : Nat) : Bool :=
  decide (n < 0xE00) && ((fixedSource n).isSome || Config.srcDefined n)

/-- Highest instance of a source. -/
def srcMax (n : Nat) : Nat := (fixedSource n).getD (Config.srcInstMax n).toNat

/-- Scope of a source: 0 module, 1 slice, 2 port, 3 queue, 4 agent. -/
def srcScope (n : Nat) : Nat :=
  match fixedSource n with
  | some _ => if decide (0xD00 ≤ n ∧ n ≤ 0xD03) then 4 else if n == 0xC11 then 1 else 0
  | none => (Config.srcScope n).toNat

/-! ### CTR_SELECT (R382 to R384) -/

/-- Entry `i` of a CTR_SELECT block. -/
structure CtrEntry where
  counter : Nat
  source  : Nat
  owner   : Nat
  action  : Nat
  inst    : Nat

def ctrEntry (b : Bytes) (i : Nat) : CtrEntry :=
  let o := 16 + 16 * i
  ⟨le b o 2, le b (o + 2) 2, le b (o + 4) 1, le b (o + 5) 1, le b (o + 8) 4⟩

/-- Range rows of entry `i`, given the counters named by earlier entries. -/
def ctrRows (b : Bytes) (i : Nat) (earlier : List Nat) : List (Nat × Bool) :=
  let o := 16 + 16 * i
  let e := ctrEntry b i
  let sel := e.action == 0
  [(o, (decide (e.counter < 8192) && !earlier.contains e.counter) || (e.counter == 0xFFFF && sel)),
   (o + 2, decide (e.source < 4096) && (!sel || srcDefined e.source)),
   (o + 4, !sel || decide (e.owner < 64)),
   (o + 5, decide (e.action ≤ 1)),
   (o + 6, zeroAt b (o + 6) 2),
   (o + 8, !sel || decide (e.inst ≤ srcMax e.source)),
   (o + 12, zeroAt b (o + 12) 4)]

/-- Whether an entry's instance may be read by its OWNER (R383 order 2). -/
def ctrOwned (s : State) (e : CtrEntry) : Bool :=
  e.action == 1 || e.owner == 0 ||
    match srcScope e.source with
    | 1 => e.inst == e.owner
    | 2 => s.owner e.inst == e.owner
    | 3 => match s.fm.queue.find e.inst with
      | some q => q.st != 0 && q.slice == e.owner
      | none => false
    | _ => false

/-- The lowest counter that is neither selected nor named in the block. -/
def lowestFree (c : Tbl Ctr) (named : List Nat) : Option Nat :=
  (List.range 8192).find? (fun n => !(c.get n ⟨0, 0, false, false, 0, 0⟩).selected && !named.contains n)

/-- Apply the entries in order; the table, the counter number of each entry, and how many were short. -/
def ctrApply (named : List Nat) : List CtrEntry → Tbl Ctr → List Nat → Nat → Tbl Ctr × List Nat × Nat
  | [], c, acc, short => (c, acc, short)
  | e :: t, c, acc, short =>
    if e.action == 1 then ctrApply named t (c.del e.counter) (acc ++ [e.counter]) short
    else
      match (if e.counter == 0xFFFF then lowestFree c named else some e.counter) with
      | none => ctrApply named t c (acc ++ [0xFFFF]) (short + 1)
      | some n => ctrApply named t (c.put n ⟨e.source, e.owner, true, false, e.inst, 0⟩) (acc ++ [n]) short

/-- CTR_SELECT (R382, R383). -/
def cmdCtrSelect (r : Req) (s : State) : CmdOut :=
  let n := r.b 0 2
  let es := (List.range n).map (ctrEntry r.params)
  let named := (es.filter (fun e => e.counter != 0xFFFF)).map (·.counter)
  let wantsAddr := es.any (fun e => e.counter == 0xFFFF)
  let rows := [(0, decide (1 ≤ n ∧ n ≤ 8192)), (2, zeroAt r.params 2 6),
      (8, r.b 8 8 % 8 == 0 && (!wantsAddr || r.b 8 8 != 0))]
    ++ (List.range n).flatMap (fun i => ctrRows r.params i ((es.take i).map (·.counter)))
  let res := ctrApply named es s.bnc.ctr [] 0
  guarded s [ranges rows,
      match findIdxFrom (fun e => !ctrOwned s e) es 0 with
      | some (i, _) => some (0x0401, i, 0)
      | none => none,
      chk (res.2.2 == 0) 0x0201 11 res.2.2]
    (let s1 := { s with bnc := { s.bnc with ctr := res.1 } }
     let s2 := if r.b 8 8 == 0 then s1
       else s1.emit (.hostWrite (r.b 8 8) (res.2.1.flatMap (leBytes 2)))
     ok s2 n (8192 - (res.1.filter (fun c => c.2.selected)).length))

/-- A counter whose instance leaves its OWNER slice becomes ORPHANED (R384): instances that `p` names. -/
def State.orphan (s : State) (scope : Nat) (p : Nat → Bool) : State :=
  let hit := fun (c : Ctr) => c.selected && !c.orphan && c.owner != 0 && srcScope c.source == scope && p c.inst
  { s with bnc := { s.bnc with
      ctr := s.bnc.ctr.mapVal (fun _ c => if hit c then { c with orphan := true } else c)
      events := if s.bnc.ctr.any (fun c => hit c.2) then setBit s.bnc.events 4 else s.bnc.events } }

/-! ### Snapshots (R385 to R387) -/

/-- Latch every counter now (R385). Two latches at one instant are one snapshot (R352). -/
def State.latch (s : State) (cause origin : Nat) : State :=
  if s.bnc.lastLatch == some s.time16 && cause == 1 then s
  else
    let vals := (s.bnc.ctr.filter (fun c => c.2.selected)).map (fun c => (c.1, (c.2.owner, c.2.value)))
    { s with bnc := { s.bnc with
        latched := s.bnc.latched ++ [⟨0, s.time16, cause, origin, vals, false⟩]
        lastLatch := some s.time16 } }

/-- CTR_SNAPSHOT (R387): it latches at once, or 10 µs after a latch less than 10 µs old. -/
def cmdCtrSnapshot (r : Req) (s : State) : CmdOut :=
  guarded s [ranges [(16, r.z 16)]]
    (let s1 := match s.bnc.lastLatch with
      | none => s
      | some t =>
        if s.time16 < t + 10000 * 2 ^ 16 then
          let s1 := { s with bnc := { s.bnc with events := setBit s.bnc.events 3 } }
          { s1 with ast := { s1.ast with raw := max s1.ast.raw (5 * (t + 10000 * 2 ^ 16)) } }
        else s
     .wait (s1.latch 0 r.fn) (.snapshot s1.time16))

/-- SNAPSHOT_WRITTEN (R385): the oldest latched snapshot is written, the epoch increments, and a
CTR_SNAPSHOT that waits for it completes. -/
def execSnapshotWritten (s : State) : Host.Outcome State Fault Refusal :=
  .next (match s.bnc.latched with
    | [] => s
    | x :: rest =>
      let e := (s.bnc.epoch + 1) % 2 ^ 64
      let all := s.bnc.snaps ++ [{ x with epoch := e }]
      let s1 := { s with bnc := { s.bnc with
        latched := rest, epoch := e, snaps := all.drop (all.length - 2048) } }
      s1.completeWhere (fun w => w == .snapshot x.time16) 0 e (time48 (x.time16 / 2 ^ 16)))

/-- The 64 header bytes of a snapshot slot (R386). -/
def Snap.header (x : Snap) : Bytes :=
  let ns := x.time16 / 2 ^ 16
  leBytes 8 (if x.bad then 2 ^ 64 - 1 else x.epoch) ++ leBytes 6 (ns / 1000000000) ++ leBytes 4 (ns % 1000000000)
    ++ leBytes 2 (x.time16 % 2 ^ 16) ++ leBytes 1 x.cause ++ leBytes 1 x.origin ++ zeros 34 ++ leBytes 8 x.epoch

/-- What BAR2 of a function shows at an 8-byte aligned offset (R386): VF n sees other owners' counters as 0. -/
def State.bar2 (s : State) (fn off : Nat) : Nat :=
  let slots := if fn == 0 then 2048 else 32
  let k := off / 0x20000
  let o := off % 0x20000
  match (s.bnc.snaps.reverse.take slots).find? (fun x => x.epoch % slots == k) with
  | none => 0
  | some x =>
    if o < 64 then le x.header o 8
    else if decide (0x10000 ≤ o) then
      match x.values.find ((o - 0x10000) / 8) with
      | some (owner, v) => (if fn == 0 || owner == fn then v else 0) + x.epoch % 2 ^ 16 * 2 ^ 48
      | none => x.epoch % 2 ^ 16 * 2 ^ 48
    else 0

/-! ### HBM in service (R320 order 4, R385, R396) -/

/-- HBM in service: 48 GiB for each fitted stack that is not retired (R1, R105). -/
def State.hbmBytes (s : State) : Nat :=
  ((List.range s.fuse.stacks).filter (fun k => !s.mem.badStacks.contains k)).length * (48 * 2 ^ 30)

/-- Bytes of the snapshot area (R385). -/
def snapArea : Nat := 2048 * 65600

/-- Sum of all slices' HBM quotas, in bytes. -/
def State.hbmQuotas (s : State) : Nat :=
  (s.topo.slice.map (fun e => e.2.hbmGiB * 2 ^ 30)).foldl (· + ·) 0

/-- Sum of all slices' SRAM quotas, in bytes. -/
def State.sramQuotas (s : State) : Nat :=
  (s.topo.slice.map (fun e => e.2.sramMiB * 2 ^ 20)).foldl (· + ·) 0

/-! ### Trace ring (R392 to R399) -/

/-- Records of the main area of a ring size. -/
def mainCap (mib : Nat) : Nat := mib * 32768 - 16

/-- Move one record from the stage to the ring; unchanged where it does not fit (R392). -/
def Trace.move (t : Trace) : Trace :=
  match t.stage with
  | [] => t
  | r :: rest =>
    if t.mode == 2 && t.st == 2 then
      if t.post.length < t.postRecords then { t with stage := rest, post := t.post ++ [r] } else t
    else
      let cap := if t.mode == 2 then mainCap t.ringMib - t.postRecords else mainCap t.ringMib
      if t.main.length < cap then { t with stage := rest, main := t.main ++ [r] }
      else if t.mode == 1 then t
      else { t with stage := rest, main := t.main.drop 1 ++ [r] }

/-- Move `n` records. -/
def Trace.drain : Nat → Trace → Trace
  | 0, t => t
  | n + 1, t => Trace.drain n t.move

/-- The TRUNCATION record over the drops since the last one (R390, R393), as the next record. -/
def Trace.truncate (t : Trace) (time : Nat) : Trace :=
  if t.dropCount == 0 then t
  else
    let body := leBytes 4 t.dropFirst ++ leBytes 4 t.dropCount ++ leBytes 2 t.dropMask
    { t with
      stage := t.stage ++ [⟨time, 0x0D, 0, false, 0, t.seq, padTo 16 body⟩]
      peak := max t.peak (t.stage.length + 1)
      seq := (t.seq + 1) % 2 ^ 32
      dropCount := 0, dropMask := 0 }

/-- Records held: main or pre, then post, then the final area. -/
def Trace.held (t : Trace) : List TRec := t.main ++ t.post ++ t.final

/-- Drops since TRACE_ARM, saturating at 32 bits. -/
def Trace.dropTotal (t : Trace) : Nat := min ((t.drops.map Prod.snd).foldl (· + ·) 0) (2 ^ 32 - 1)

/-- Stop the ring: drain the stage and write the final area (R394). -/
def Trace.stop (t : Trace) (time cause : Nat) : Trace :=
  let t := Trace.drain t.stage.length t
  let trig := leBytes 1 cause ++ leBytes 1 t.trigParam ++ zeros 2 ++ leBytes 4 t.trigSeq ++ leBytes 8 t.trigArg
  let trunc := leBytes 4 t.armFirst ++ leBytes 4 t.dropTotal ++ leBytes 2 t.armMask
  { t with
    st := 3
    seq := (t.seq + 2) % 2 ^ 32
    final := [⟨time, 0x0C, 0, false, 0, t.seq, trig⟩, ⟨time, 0x0D, 0, false, 0, (t.seq + 1) % 2 ^ 32, padTo 16 trunc⟩]
      ++ t.openWaits.take 14 }

/-- Stop the trace and report it. -/
def State.stopTrace (s : State) (cause : Nat) : State :=
  { s with bnc := { s.bnc with
      trace := s.bnc.trace.stop (traceTime s.time16) cause, events := setBit s.bnc.events 2 } }

/-- TRACE_CONFIG (R396). -/
def cmdTraceConfig (r : Req) (s : State) : CmdOut :=
  let mode := r.b 0 1
  let mib := if r.b 2 2 == 0 then 512 else r.b 2 2
  let post := r.b 28 4
  let need := snapArea + mib * 2 ^ 20 + s.hbmQuotas
  guarded s [
      ranges [(0, decide (mode ≤ 2)), (1, zeroAt r.params 1 1),
        (2, decide (64 ≤ mib ∧ mib ≤ 8192 ∧ mib % 64 = 0)),
        (4, r.b 4 2 % 2 == 0 && decide (r.b 4 2 < 256)), (6, zeroAt r.params 6 2),
        (16, decide (r.b 16 4 ≤ 1000000)),
        (20, r.b 20 4 == 0 || decide (1000 ≤ r.b 20 4 ∧ r.b 20 4 ≤ 1000000000)),
        (28, if mode == 2 then decide (1 ≤ post ∧ post + 1024 ≤ mainCap mib) else post == 0),
        (32, zeroAt r.params 32 32)],
      chk (s.bnc.trace.st == 0 || s.bnc.trace.st == 3) 0x0301 s.bnc.trace.st 0,
      chk (decide (need ≤ s.hbmBytes)) 0x0201 1 (need - s.hbmBytes)]
    (ok { s with bnc := { s.bnc with trace := { s.bnc.trace with
        mode := mode, ringMib := mib, typeMask := r.b 4 2, sliceMask := r.b 8 8, waitMin := r.b 16 4
        pcPeriod := r.b 20 4, pcCores := r.b 24 4, postRecords := post } } } 0 0)

/-- TRACE_ARM (R397). -/
def cmdTraceArm (r : Req) (s : State) : CmdOut :=
  guarded s [
      ranges [(16, decide (r.p 16 1 ≤ 5)), (18, decide (r.p 18 1 < 64)), (19, zeroAt r.inl 3 5), (32, r.z 32)],
      chk (s.bnc.trace.st == 0 || s.bnc.trace.st == 3) 0x0301 s.bnc.trace.st 0]
    (ok { s with bnc := { s.bnc with trace := { s.bnc.trace with
        st := 1, main := [], post := [], final := [], stage := [], drops := []
        dropFirst := 0, dropCount := 0, dropMask := 0, armFirst := 0, armMask := 0, trigSeq := 0
        trigKind := r.p 16 1, trigParam := r.p 17 1, trigSlice := r.p 18 1, trigArg := r.p 24 8 } } }
      (mainCap s.bnc.trace.ringMib) 0)

/-- TRACE_STOP (R397). -/
def cmdTraceStop (r : Req) (s : State) : CmdOut :=
  guarded s [ranges [(16, r.z 16)],
      chk (s.bnc.trace.st == 1 || s.bnc.trace.st == 2) 0x0301 s.bnc.trace.st 0]
    (let s1 := s.stopTrace 0xFF
     ok s1 s1.bnc.trace.held.length 0)

/-- The 32 bytes of a trace record (R389). -/
def TRec.bytes (t : TRec) : Bytes :=
  leBytes 8 t.time ++ leBytes 1 t.typ ++ leBytes 1 (t.slice + 64 * b2n t.stretch) ++ leBytes 1 t.domain
    ++ zeros 1 ++ leBytes 4 t.seq ++ padTo 16 t.body

/-- TRACE_QUERY (R397). -/
def cmdTraceQuery (r : Req) (s : State) : CmdOut :=
  let t := s.bnc.trace
  let first := r.p 16 4
  let n := r.p 20 4
  let addr := r.p 24 8
  guarded s [
      ranges [(20, decide (n ≤ 32768)), (24, addr % 32 == 0 && (n == 0 || addr != 0)), (32, r.z 32)],
      chk (n == 0 || t.st == 3) 0x0301 t.st 0,
      ranges [(16, n == 0 || decide (first ≤ t.held.length)), (20, n == 0 || decide (first + n ≤ t.held.length))]]
    (let s1 := if n == 0 then s
       else s.emit (.hostWrite addr (((t.held.drop first).take n).flatMap TRec.bytes))
     ok s1 (t.st + 16 * t.mode + t.held.length * 2 ^ 32) (n + t.dropTotal * 2 ^ 32))

/-- WAIT_ID of a wait record (R390). -/
def waitId (body : Bytes) : Nat := le body 10 2

/-- TRACE_RECORD (R393): an event produces a record of types 1 to 13. Waits that are open are kept for
the final area (R394). -/
def execTraceRecord (typ : Fin 16) (slice : Fin 64) (domain : Fin 13) (stretch : Bool) (body : Bytes)
    (s : State) : Host.Outcome State Fault Refusal :=
  .next (if decide (1 ≤ typ.val ∧ typ.val ≤ 13) then
    let time := traceTime s.time16
    let s1 := s.traceAt time typ slice stretch domain body
    let t := s1.bnc.trace
    let open_ := if typ.val == 1 then t.openWaits ++ [⟨time, typ, slice, stretch, domain, s.bnc.trace.seq, padTo 16 body⟩]
      else if typ.val == 2 then t.openWaits.filter (fun w => waitId w.body != waitId body)
      else t.openWaits
    { s1 with bnc := { s1.bnc with trace := { t with openWaits := open_ } } }
    else s)

/-- TRACE_TRIGGERED (R395): the armed trigger fires, once; the ring stops, or in MODE 2 enters its post
area. -/
def execTraceTriggered (seq : Nat) (s : State) : Host.Outcome State Fault Refusal :=
  .next (let t := s.bnc.trace
    if t.st == 1 && t.trigKind != 0 then
      let s1 := { s with bnc := { s.bnc with
        events := setBit s.bnc.events 1
        trace := if t.mode == 2 then { Trace.drain t.stage.length t with st := 2, trigSeq := seq % 2 ^ 32 }
          else { t with trigSeq := seq % 2 ^ 32 } } }
      let s2 := if t.mode == 2 then s1 else s1.stopTrace t.trigKind
      s2.logAdd sevInfo 0 0x0A10 agentNone [t.trigKind, seq % 2 ^ 32]
    else s)

/-- TRACE_RING_FULL (R392, R398): in stop-at-full mode the next record does not fit; after a trigger the
post area is full. -/
def execTraceRingFull (s : State) : Host.Outcome State Fault Refusal :=
  .next (let t := s.bnc.trace
    if t.st == 1 && t.mode == 1 && t.stage != [] && decide (mainCap t.ringMib ≤ t.main.length) then
      s.stopTrace 0xFE
    else if t.st == 2 && decide (t.postRecords ≤ t.post.length) then s.stopTrace t.trigKind
    else s)

/-- TRACE_STAGE_DRAIN (R393): the stage drains `n` records; falling below 65,536 after drops it writes
one TRUNCATION record. -/
def execTraceStageDrain (n : Nat) (s : State) : Host.Outcome State Fault Refusal :=
  .next (let t := s.bnc.trace
    let t1 := Trace.drain (min n t.stage.length) t
    let t2 := if decide (t1.stage.length < 65536) then t1.truncate (traceTime s.time16) else t1
    { s with bnc := { s.bnc with trace := t2 } })

/-! ### Stepping of newt cores (R404 to R406) -/

/-- A core that has never been touched runs. -/
def Core.idle : Core := ⟨0, 0, [], 0⟩

/-- A core. -/
def State.core (s : State) (c : Nat) : Core := s.bnc.core.get c Core.idle

/-- Change a core. -/
def State.updCore (s : State) (c : Nat) (f : Core → Core) : State :=
  { s with bnc := { s.bnc with core := s.bnc.core.upd c Core.idle f } }

/-- Entries that waited in the hardware queue are written once cluster 3 runs (R405, R414). -/
def State.flushLog (s : State) : State :=
  if s.clusterHalted 3 then s
  else { s with log := { s.log.hwq.foldl Log.record s.log with hwq := [] } }

/-- A core halts: BNC_CORE shows it, with a BREAK record and a NOTICE BREAK_HIT (R404). -/
def State.halt (s : State) (c st index kind pc : Nat) : State :=
  let s1 := s.updCore c (fun k => { k with st := st, bpHit := index, pc := pc })
  let s2 := { s1 with bnc := { s1.bnc with events := setBit s1.bnc.events 5 } }
  let s3 := s2.trace 0x0B 0 (leBytes 1 c ++ leBytes 1 index ++ leBytes 1 kind ++ zeros 5 ++ leBytes 8 pc)
  s3.logAdd sevNotice 0 0x0A22 (agentKind 4 c) [c, index, pc]

/-- BREAK_SET (R404). -/
def cmdBreakSet (r : Req) (s : State) : CmdOut :=
  let c := r.p 16 1
  let i := r.p 17 1
  let kind := r.p 18 1
  let addr := r.p 24 8
  guarded s [ranges [(16, decide (1 ≤ c ∧ c ≤ 31)), (17, decide (i ≤ 3)), (18, decide (kind ≤ 4)),
      (19, zeroAt r.inl 3 5),
      (24, if kind == 1 then addr % 4 == 0 else if kind == 2 || kind == 3 then addr % 8 == 0 else addr == 0),
      (32, r.z 32)]]
    (let s1 := match kind with
      | 0 => s.updCore c (fun k => { k with bps := k.bps.del i })
      | 4 =>
        if s.coreHalted c then s
        else let f := s.fresh 64; f.2.halt c 3 i 4 f.1
      | _ => s.updCore c (fun k => { k with bps := k.bps.put i (kind, addr) })
     ok s1 (s1.core c).st 0)

/-- BREAK_HIT (R404): in maintenance mode a running core, never core 0, reaches a breakpoint and halts. -/
def execBreakHit (core : Fin 32) (index : Fin 4) (pc : Nat) (s : State) : Host.Outcome State Fault Refusal :=
  .next (match (s.core core).bps.find index with
    | some (kind, _) =>
      if s.mod == .maintenance && core.val != 0 && (s.core core).st == 0
      then s.halt core 1 index kind (pc % 2 ^ 64) else s
    | none => s)

/-- One core resumes: it runs, or executes one instruction and halts again at a PC the spec does not
give (a free value). -/
def State.resumeCore (s : State) (c mode : Nat) : State :=
  if mode == 0 then s.updCore c (fun k => { k with st := 0, bpHit := 0, pc := 0 })
  else let f := s.fresh 64; f.2.updCore c (fun k => { k with st := 2, pc := f.1 })

/-- CORE_RESUME (R406). For every halted core (0xFF) the PC returned is a free value. -/
def cmdCoreResume (r : Req) (s : State) : CmdOut :=
  let c := r.p 16 1
  let mode := r.p 17 1
  let halted := (List.range 32).filter s.coreHalted
  guarded s [ranges [(16, decide (1 ≤ c ∧ c ≤ 31) || c == 0xFF), (17, decide (mode ≤ 1)), (18, r.z 18)],
      chk (if c == 0xFF then halted != [] else s.coreHalted c) 0x0301 0 0]
    (if c == 0xFF then
       let s1 := (halted.foldl (fun s k => s.resumeCore k mode) s).flushLog
       let f := s1.fresh 64
       ok f.2 f.1 0
     else
       let s1 := (s.resumeCore c mode).flushLog
       ok s1 (if mode == 0 then (s.core c).pc else (s1.core c).pc) 0)

/-! ### Logline commands (R401, R411, R412) -/

/-- LOG_READ (R411). -/
def cmdLogRead (r : Req) (s : State) : CmdOut :=
  let src := if r.b 0 1 == 0 then s.log.entries else s.log.journal
  let len := r.b 8 4
  guarded s [ranges [(0, decide (r.b 0 1 ≤ 1)), (1, decide (r.b 1 1 ≤ 6) && zeroAt r.params 2 2),
      (8, decide (64 ≤ len ∧ len ≤ 1048576 ∧ len % 64 = 0)), (12, zeroAt r.params 12 4),
      (16, r.b 16 8 % 64 == 0), (24, zeroAt r.params 24 8)]]
    (let want := (src.filter (fun e => decide (r.b 4 4 ≤ e.seq) && decide (r.b 1 1 ≤ e.sev))).take (len / 64)
     let next := match want.getLast? with
       | some e => (e.seq + 1) % 2 ^ 32
       | none => r.b 4 4
     let f := s.fresh 32
     let oldest := match src with
       | [] => (f.1, f.2)
       | e :: _ => (e.seq, s)
     let lost := min ((s.log.lost.map Prod.snd).foldl (· + ·) 0) (2 ^ 32 - 1)
     let s1 := oldest.2.updFn r.fn (fun b => { b with logMark := s.log.created })
     let s2 := { s1 with hif := { s1.hif with memUnc := false } }
     let s3 := if want == [] then s2 else s2.emit (.hostWrite (r.b 16 8) (want.flatMap LogEntry.bytes))
     ok s3 (want.length + next * 2 ^ 32) (lost + oldest.1 * 2 ^ 32))

/-- LOG_NONCE (R401): a fresh 128-bit nonce, a free value; the previous one is void. -/
def cmdLogNonce (r : Req) (s : State) : CmdOut :=
  guarded s [ranges [(16, r.z 16)]]
    (let a := s.fresh 64
     let b := a.2.fresh 64
     ok { b.2 with log := { b.2.log with nonce := some (a.1 + b.1 * 2 ^ 64, s.ns) } } a.1 b.1)

/-- LOG_CLEAR (R412). -/
def cmdLogClear (r : Req) (s : State) : CmdOut :=
  let scope := r.b 0 1
  guarded s [ranges [(0, decide (scope ≤ 1)), (1, zeroAt r.params 1 7)]]
    (let n := s.log.entries.length
     let j := if scope == 1 then s.log.journal.length else 0
     let s1 := { s with log := { s.log with
       entries := []
       journal := if scope == 1 then [] else s.log.journal
       lost := []
       events := setBit s.log.events 2 } }
     ok (s1.logAdd sevNotice 0 0x0A01 (agentKind 0xC r.fn) [r.b 26 1, scope, n]) n j)

/-- LOGLINE_ENTRY (R409): an event creates an entry. -/
def execLoglineEntry (severity : Fin 7) (slice : Fin 64) (event agent : Nat) (args : List Nat) (s : State) :
    Host.Outcome State Fault Refusal :=
  .next (s.logAdd severity slice (event % 2 ^ 16) (agent % 2 ^ 32) (args.take 4))

/-- Mark the recorder's copy of an entry journaled. -/
def Log.markJournaled (g : Log) (seq : Nat) : Log :=
  { g with entries := g.entries.map (fun x => if x.seq == seq then { x with journaled := true } else x) }

/-- JOURNAL_WRITE (R410): the oldest queued entry is written, with one retry; a second failure leaves
JOURNALED 0 and records JOURNAL_WRITE_FAIL at most once per hour. -/
def execJournalWrite (ok : Bool) (s : State) : Host.Outcome State Fault Refusal :=
  .next (match s.log.jqueue with
    | [] => s
    | (e, tries) :: rest =>
      if ok then
        let g := { s.log with jqueue := rest }
        match logInsert 262144 g.journal { e with journaled := true } with
        | some j => { s with log := { g.markJournaled e.seq with journal := j } }
        | none => { s with log := g }
      else
        let g := { s.log with writeFails := satInc 16 s.log.writeFails }
        if tries == 0 then { s with log := { g with jqueue := (e, 1) :: rest } }
        else
          let g := { g with jqueue := rest, events := setBit g.events 3 }
          let due := match g.jFailAt with
            | none => true
            | some t => decide (t + 3600000000000 ≤ s.ns)
          if due then
            ({ s with log := { g with jFailAt := some s.ns } }).logAdd sevError 0 0x0A04 agentNone [e.seq]
          else { s with log := { g with repeats := g.repeats.upd 0x0A04 0 (satInc 16) } })

/-- RECORDER_STANDBY (R413): an uncorrectable error in the region in use moves the recorder to its
standby region, or from there to beacon mode; the entries abandoned count as lost. -/
def execRecorderStandby (addr : Nat) (s : State) : Host.Outcome State Fault Refusal :=
  .next (if s.log.mode == 2 then s
    else
      let m := s.log.mode + 1
      let lost := s.log.entries.foldl (fun t e => Tbl.upd t e.sev 0 (satInc 32)) s.log.lost
      let n := s.log.entries.length
      let s1 := { s with log := { s.log with
        mode := m, entries := [], lost := lost, events := setBit s.log.events (m - 1) } }
      if m == 1 then s1.logAdd sevCritical 0 0x0A02 agentNone [addr, n]
      else s1.logAdd sevCritical 0 0x0A03 agentNone [addr])

end Sys2Proof.Machine
end

