-- ==== Sys2Proof/Machine/Time.lean ====
section
/-! DEFINITION. The astrolabe: its tick, discipline, lock and holdover, master changes and steps, the
hardware triggers and the time commands (11_astrolabe_time). An offset is the local time less the
master's, in ns. -/

namespace Sys2Proof.Machine

/-! ### The counter (R339, R345) -/

/-- One reference cycle: 6.4 ns, the rate correction accumulated in the fraction, and at most 10 ppm of
a slew. -/
def Ast.tick (a : Ast) : Ast :=
  let c := a.corr + 2 ^ 21 * a.rate
  let d := max (-20) (min 20 a.slewLeft)
  { a with
    raw := (a.raw + 2 ^ 21 + c / 10 ^ 11 - d).toNat
    corr := c % 10 ^ 11
    slewLeft := a.slewLeft - d }

/-- One astrolabe reference cycle of the block. -/
def State.tick (s : State) : State := { s with ast := s.ast.tick }

/-! ### States (R343) -/

/-- Logline severity on entry of a time state. -/
def TimeState.sev : TimeState → Nat
  | .locked => sevNotice | .holdover => sevWarning | .unqualified => sevWarning | .freeRunning => sevError

/-- Bit of AST_EVENTS set on entry of a time state (R357). -/
def TimeState.event : TimeState → Nat
  | .holdover => 0 | .unqualified => 1 | .freeRunning => 2 | .locked => 3

/-- Enter a time state: its entry time, event bit, alarms and Logline entry (R343). -/
def State.enterTime (s : State) (t : TimeState) : State :=
  let a := s.ast
  let a := { a with
    st := t, since := s.ns, events := setBit a.events t.event
    lockCount := if t == .locked then a.lockCount else 0
    everLocked := a.everLocked || t == .locked
    losses := if t == .holdover then satInc 16 a.losses else a.losses
    slewLeft := if t == .locked then 0 else a.slewLeft
    jumpHeld := a.jumpHeld && t != .locked
    h0 := if t == .holdover then s.ns else a.h0 }
  ({ s with ast := a }).logAdd t.sev 0 (evNamed 8 (match t with
    | .locked => "TIME_LOCKED" | .holdover => "TIME_HOLDOVER"
    | .unqualified => "TIME_UNQUALIFIED" | .freeRunning => "TIME_FREE_RUNNING")) agentNone [a.losses]

/-- Lock window in ns (R343). -/
def Ast.window (a : Ast) : Int := if a.mode == 0 then 25 else 10

/-- Set an event bit of AST_EVENTS. -/
def State.astEvent (s : State) (i : Nat) : State := { s with ast := { s.ast with events := setBit s.ast.events i } }

/-- An offset measurement θ from the selected source: the offset registers, the servo's new rate (a
free value within 10 ppm), and the count of measurements inside the lock window; the eighth in a row
locks (R343). The servo is stopped during a pause (R348). -/
def State.measure (s : State) (θ : Int) : State :=
  let s := { s with ast := { s.ast with offset := satSigned 32 θ, measured := true } }
  if s.ast.servoStopped then s
  else
    let f := s.fresh 21
    let s := f.2
    let n := if decide (-s.ast.window ≤ θ) && decide (θ ≤ s.ast.window) then s.ast.lockCount + 1 else 0
    let s := { s with ast := { s.ast with
      rate := satSigned 32 (max (-1000000) (min 1000000 (ofTwos 21 f.1))), lockCount := n } }
    if decide (8 ≤ n) && s.ast.st != .locked && !s.ast.jumpHeld then s.enterTime .locked else s

/-- An offset above 1 ms is not followed: one ERROR and JUMP_HELD (R345). -/
def State.holdJump (s : State) (θ : Int) : State :=
  ({ s with ast := { s.ast with jumpHeld := true, jumpTo := θ, events := setBit s.ast.events 6 } }).logAdd
    sevError 0 (evNamed 8 "JUMP_HELD") agentNone [toTwos 64 θ]

/-- The rule of R345 on a measured offset after a master change. -/
def State.judgeOffset (s : State) (θ : Int) : State :=
  let s := { s with ast := { s.ast with offset := satSigned 32 θ, measured := true } }
  if decide (-s.ast.window ≤ θ) && decide (θ ≤ s.ast.window) then s
  else
    let s := if s.ast.st == .locked then s.enterTime .holdover else s
    if decide (-1000000 ≤ θ) && decide (θ ≤ 1000000) then
      { s with ast := { s.ast with slewLeft := θ * unitsPerNs } }
    else s.holdJump θ

/-! ### Triggers (R350 to R352) -/

/-- A trigger never programmed. -/
def Trig.off : Trig := ⟨0, 0, 0, 0, 0, 0, 0, 0, false⟩

/-- A trigger. -/
def State.trig (s : State) (i : Nat) : Trig := s.ast.trig.get i Trig.off

/-- Time of the next occurrence. -/
def Trig.nextAt (t : Trig) : Nat := t.start + t.nextN * t.period

/-- The trigger after its next occurrence was used: one-shots end, and so does one whose COUNT is reached. -/
def Trig.used (t : Trig) : Trig :=
  { t with nextN := t.nextN + 1
           active := t.period != 0 && (t.count == 0 || decide (t.nextN + 1 < t.count)) }

/-- Put a trigger. -/
def State.setTrig (s : State) (i : Nat) (t : Trig) : State :=
  { s with ast := { s.ast with trig := s.ast.trig.put i t } }

/-- A calibration region at its defaults (R360, R362, R377). -/
def Region.reset : Region :=
  { running := false, started := 0, rerunAt := none, hold := false, deltaT := 20, deadline := 10, tempNow := 0, tempRun := 0
    accepted := 0, rejected := 0, rejTotal := 0, lastS := 0, bad := 0, degraded := false, pending := [], sweep := false
    passes := [] }

/-- The region exists on the variant (R358). -/
def State.hasRegion (s : State) (r : Nat) : Bool :=
  decide (1 ≤ r ∧ r ≤ s.fuse.ioDies) || decide (5 ≤ r ∧ r ≤ 13) || decide (16 ≤ r ∧ r ≤ 31)

/-- A calibration region. -/
def State.region (s : State) (r : Nat) : Region := s.sxt.region.get r Region.reset

/-- Change a calibration region. -/
def State.updRegion (s : State) (r : Nat) (f : Region → Region) : State :=
  { s with sxt := { s.sxt with region := s.sxt.region.upd r Region.reset f } }

/-- A calibration run of a region starts, unless the region is already running (R360). -/
def State.calStart (s : State) (r : Nat) : State :=
  s.updRegion r (fun x => if x.running then x
    else { x with running := true, started := s.ns, rerunAt := none, passes := [], sweep := false })

/-- The next occurrence of a trigger happens now: KIND 1 latches the counters; KIND 2 starts a sweep, or
is skipped and counted where the region is swept already or the module is in a pause (R350, R352). -/
def State.fireTrig (s : State) (i : Nat) : State :=
  let t := s.trig i
  if t.kind == 1 then
    (s.setTrig i { t.used with fired := (t.fired + 1) % 2 ^ 32 }).latch 1 i
  else if (s.region t.region).running || s.paused then
    (s.setTrig i { t.used with skipped := (t.skipped + 1) % 2 ^ 32 }).astEvent 9
  else
    let s1 := s.setTrig i { t.used with fired := (t.fired + 1) % 2 ^ 32 }
    if (s.region t.region).hold then s1 else s1.calStart t.region

/-- An occurrence that a step skips forward over fires once, at the step; later ones keep their times
(R346). -/
def State.stepTrig (s : State) (i : Nat) : State :=
  let t := s.trig i
  if t.active && decide (t.nextAt ≤ s.ns) then
    let s1 := s.fireTrig i
    let t1 := s1.trig i
    if t1.period == 0 then s1
    else
      let n := max t1.nextN ((s.ns - t1.start) / t1.period + 1)
      s1.setTrig i { t1 with nextN := n, active := t1.active && (t1.count == 0 || decide (n < t1.count)) }
  else s

/-- COUNTER_SNAPSHOT_TRIGGER (R350): an occurrence of a KIND 1 trigger. -/
def execCounterSnapshotTrigger (i : Fin 16) (s : State) : Host.Outcome State Fault Refusal :=
  .next (if (s.trig i).kind == 1 && (s.trig i).active then (s.advanceTo (s.trig i).nextAt).fireTrig i else s)

/-- SEXTANT_SWEEP_TRIGGER (R350): an occurrence of a KIND 2 trigger. -/
def execSextantSweepTrigger (i : Fin 16) (s : State) : Host.Outcome State Fault Refusal :=
  .next (if (s.trig i).kind == 2 && (s.trig i).active then (s.advanceTo (s.trig i).nextAt).fireTrig i else s)

/-! ### Steps (R346) -/

/-- The counter steps to `t` ns: standing ports close for the slot in progress, skipped occurrences fire
once, one STEP record carries the old and new times, and STEPS increments. No counter of the binnacle
changes (R388). -/
def State.stepTo (s : State) (t : Nat) : State :=
  let old := traceTime s.time16
  let s1 := { s with
    ast := { s.ast with raw := t * unitsPerNs, corr := 0, slewLeft := 0, jumpHeld := false
                        steps := satInc 16 s.ast.steps, events := setBit s.ast.events 5, since := t
                        jumped := s.ast.jumped + ((t : Int) - s.ns) }
    col := { s.col with
      laser := s.col.laser.mapVal (fun n l =>
        if s.col.port.any (fun e => e.2.role == 2 && e.2.laser == n) then { l with gate := false } else l)
      port := s.col.port.mapVal (fun _ p => if p.role == 2 && p.st == 2 then { p with st := 1, burst := none } else p) } }
  let s2 := s1.trace 0x0A 0 (leBytes 8 old)
  (List.range 16).foldl State.stepTrig s2

/-- TIME_STEP (R346): at the first lock after a cold start, or with JUMP_HELD, and with no passage
ARMED, RUNNING, STALLED or PARKED, the counter steps to the master's time. -/
def execTimeStep (masterTime : Nat) (s : State) : Host.Outcome State Fault Refusal :=
  .next (if (s.ast.jumpHeld || !s.ast.everLocked) && s.livePassage.isNone then s.stepTo masterTime else s)

/-! ### Discipline (R341 to R348) -/

/-- PTP is the source of phase or of seconds, and runs on A or B (R340, R355). -/
def Ast.ptpSource (a : Ast) : Nat := if a.portB then 2 else 1

/-- PTP_MESSAGE (R341, R343): an Announce counts towards qualification (threshold 2); a Sync or
Follow_Up of mode 0 is an offset measurement; a Delay_Resp gives the path delay; management messages are
ignored. -/
def execPtpMessage (m : PtpMsg) (s : State) : Host.Outcome State Fault Refusal :=
  .next (match m with
    | .announce k =>
      let f := s.ast.foreign.get k ⟨0, false⟩
      { s with ast := { s.ast with foreign := s.ast.foreign.put k ⟨f.announces + 1, decide (2 ≤ f.announces + 1)⟩ } }
    | .sync θ =>
      if s.ast.mode == 0 then
        { s with ast := { s.ast with source := s.ast.ptpSource } }.measure θ
      else s
    | .delayResp d => { s with ast := { s.ast with pathDelay := min d (2 ^ 32 - 1) } }
    | .management => s)

/-- PPS_EDGE (R340): in modes 1 and 2 the edge, less PPS_DELAY_NS, gives the phase. In mode 2 without
PTP, SECONDS are counted on from the first edge after TIME_CONFIG. -/
def execPpsEdge (offset : Int) (s : State) : Host.Outcome State Fault Refusal :=
  .next (if s.ast.mode == 0 then s
    else
      let s1 := { s with ast := { s.ast with source := 3 } }
      if s1.ast.mode == 2 && s1.ast.secondsArmed then
        ({ s1 with ast := { s1.ast with secondsArmed := false } }).judgeOffset
          ((s1.ns : Int) - (s1.ast.seconds * 1000000000 + s1.ast.ppsDelay))
      else s1.measure (offset - s1.ast.ppsDelay))

/-- DISCIPLINE_LOST (R343): the selected source is silent; in LOCKED the module enters HOLDOVER with H0
now. During a pause the loss is detected at its end (R348). -/
def execDisciplineLost (s : State) : Host.Outcome State Fault Refusal :=
  .next (if s.ast.servoStopped then { s with ast := { s.ast with lostInPause := true } }
    else
      let s1 := if s.ast.mode == 0 then s else s.astEvent 7
      let s2 := { s1 with ast := { s1.ast with source := 0, lockCount := 0 } }
      if s2.ast.st == .locked then s2.enterTime .holdover else s2)

/-- HOLDOVER_EXPIRY (R343): at H0 + 1 s, HOLDOVER becomes UNQUALIFIED. -/
def execHoldoverExpiry (s : State) : Host.Outcome State Fault Refusal :=
  .next (if s.ast.st == .holdover then (s.advanceTo (s.ast.h0 + 1000000000)).enterTime .unqualified else s)

/-- UNQUALIFIED_EXPIRY (R343): at H0 + 3,600 s, UNQUALIFIED becomes FREE_RUNNING. -/
def execUnqualifiedExpiry (s : State) : Host.Outcome State Fault Refusal :=
  .next (if s.ast.st == .unqualified then (s.advanceTo (s.ast.h0 + 3600000000000)).enterTime .freeRunning else s)

/-- MASTER_CHANGE (R345): a master is qualified again or selected; its offset decides. -/
def execMasterChange (master : Nat) (offset : Int) (s : State) : Host.Outcome State Fault Refusal :=
  .next (({ s with ast := { s.ast with
    master := master % 2 ^ 64, masterChanges := satInc 16 s.ast.masterChanges
    lockCount := 0, events := setBit s.ast.events 4 } }).judgeOffset offset)

/-- TEN_MHZ_LOST (R357). -/
def execTenMhzLost (s : State) : Host.Outcome State Fault Refusal :=
  .next { s.astEvent 8 with ast := { (s.astEvent 8).ast with tenMhz := false } }

/-- PPS_OUT (R342): the output rises at each whole astrolabe second, in every counter state. -/
def execPpsOut (s : State) : Host.Outcome State Fault Refusal :=
  .next (let t := s.nextMultiple 1000000000
    (s.advanceTo t).emit (.pps (t / 1000000000)))

/-- AST_NOW_S_READ (R357): returns the seconds and latches AST_NOW_NS. -/
def execAstNowSRead (s : State) : Host.Outcome State Fault Refusal :=
  .next (({ s with ast := { s.ast with
    latchNs := s.ns % 1000000000, latchFrac := s.time16 % 2 ^ 16 } }).answer (s.secs % 2 ^ 48))

/-! ### Commands (R351 to R356) -/

/-- TIME_GET (R354). -/
def cmdTimeGet (r : Req) (s : State) : CmdOut :=
  guarded s [ranges [(16, r.z 16)]]
    (ok s (s.secs % 2 ^ 48 + s.ast.st.code * 2 ^ 48) (s.ns % 1000000000 * 2 ^ 32 + s.time16 % 2 ^ 16 * 2 ^ 16))

/-- Whole seconds in the current state, saturating at 32 bits (R355). -/
def State.stateSecs (s : State) : Nat := min ((s.ns - s.ast.since) / 1000000000) (2 ^ 32 - 1)

/-- The low bits of WORD0 of TIME_STATUS and of AST_STATE: state, source, 10 MHz, slewing, JUMP_HELD. -/
def Ast.statusBits (a : Ast) : Nat :=
  a.st.code + 4 * a.source + 16 * b2n a.tenMhz + 32 * b2n (a.slewLeft != 0) + 64 * b2n a.jumpHeld

/-- TIME_STATUS (R355). -/
def cmdTimeStatus (r : Req) (s : State) : CmdOut :=
  guarded s [ranges [(16, r.z 16)]]
    (ok s (s.ast.statusBits + s.stateSecs * 2 ^ 32) (toTwos 32 (satSigned 32 s.ast.offset) + s.ast.pathDelay % 2 ^ 32 * 2 ^ 32))

/-- TIME_CONFIG (R356). A change of source, transport, domain or preference counts as a master change. -/
def cmdTimeConfig (r : Req) (s : State) : CmdOut :=
  let mode := r.p 16 1
  let delay := ofTwos 32 (r.p 20 4)
  let step := bit (r.p 19 1) 1
  guarded s [
      ranges [(16, decide (mode ≤ 2)), (17, decide (r.p 17 1 ≤ 2)), (18, decide (r.p 18 1 ≤ 127)),
        (19, decide (r.p 19 1 < 4)), (20, decide (-100000 ≤ delay) && decide (delay ≤ 100000)),
        (24, mode == 2 || r.p 24 6 == 0), (30, r.z 30)],
      chk (!step || (s.ast.master != 0 && s.ast.measured)) 0x0303 6 0,
      match s.livePassage with
      | some (_, p) => chk (!step) 0x0301 p.st.code 0
      | none => none]
    (let s1 := if step then s.stepTo ((s.ns : Int) - s.ast.offset).toNat else s
     let preferB := bit (r.p 19 1) 0
     let changed := mode != s.ast.mode || r.p 17 1 != s.ast.transport || r.p 18 1 != s.ast.domain
       || preferB != s.ast.preferB
     let a := { s1.ast with
       mode := mode, transport := r.p 17 1, domain := r.p 18 1, preferB := preferB, ppsDelay := delay
       seconds := r.p 24 6, secondsArmed := mode == 2, tenMhz := mode == 2, portB := preferB }
     let a := if changed then { a with
         masterChanges := satInc 16 a.masterChanges, events := setBit a.events 4, measured := false
         lockCount := 0, master := 0, foreign := [], source := 0 }
       else a
     ok { s1 with ast := a } a.st.code 0)

/-- TRIGGER_SET (R351, R352). WORD0 is a free value where no occurrence will fire. -/
def cmdTriggerSet (r : Req) (s : State) : CmdOut :=
  let i := r.p 16 1
  let kind := r.p 17 1
  let start := r.p 20 6 * 1000000000 + r.p 26 4
  let period := r.p 32 8
  let count := r.p 40 4
  guarded s [ranges [(16, decide (i ≤ 15)), (17, decide (kind ≤ 2)),
      (18, if kind == 2 then s.hasRegion (r.p 18 1) else r.p 18 1 == 0), (19, zeroAt r.inl 3 1),
      (26, decide (r.p 26 4 ≤ 999999999)), (30, zeroAt r.inl 14 2),
      (32, period == 0 || (kind == 1 && decide (10000 ≤ period ∧ period ≤ 1000000000000))
        || (kind == 2 && decide (1000000 ≤ period ∧ period ≤ 3600000000000))),
      (40, kind == 0 || period != 0 || count == 1), (44, r.z 44)]]
    (let old := s.trig i
     let n0 := if decide (start ≥ s.ns) || period == 0 then 0 else ceilDiv (s.ns - start) period
     let act := kind != 0 && (count == 0 || decide (n0 < count))
     let t : Trig := ⟨kind, r.p 18 1, start, period, count, n0, 0, old.skipped, act⟩
     let s1 := s.setTrig i t
     if !act then let f := s1.fresh 48; ok f.2 f.1 0
     else if period == 0 && decide (start < s.ns) then ok (s1.fireTrig i) (time48 s.ns) 0
     else ok s1 (time48 t.nextAt) 0)

end Sys2Proof.Machine
end

