-- ==== Sys2Proof/Machine/Plane.lean ====
section
/-! DEFINITION. The transparent plane: mirrors, their targets and moves, circuits' states, monitor light,
faults, supplies, tree-frog controllers, open paths and MIRROR_SET (04_transparent_plane, 16 R491, R492). -/

namespace Sys2Proof.Machine

/-! ### Mirrors (R8, R118, R119) -/

/-- A mirror that has never moved: PARKED, or DARK on a dark internal port (R2). -/
def Mirror.rest (dark : Bool) : Mirror :=
  ⟨if dark then .dark else .parked, 0, 0xFFFF, 0, 0, none, none, .park, false, 0, 0, false⟩

/-- Whether mirror `m` belongs to a dark internal port (R2). -/
def darkMirror (f : Fuse) (m : Nat) : Bool := decide (768 + f.livePorts ≤ m % 1024)

/-- A mirror; index 1,024 × array + position. -/
def State.mirror (s : State) (m : Nat) : Mirror := s.plane.mirror.get m (Mirror.rest (darkMirror s.fuse m))

/-- Change a mirror. -/
def State.updMirror (s : State) (m : Nat) (f : Mirror → Mirror) : State :=
  { s with plane := { s.plane with mirror := s.plane.mirror.put m (f (s.mirror m)) } }

/-- The tree-frog controller of a mirror: 128 positions of one array each. -/
def tfOf (m : Nat) : Nat := m / 128

/-- A controller. -/
def State.tfc (s : State) (k : Nat) : Tf := s.plane.tf.get k ⟨0, [], 0, 0, none, 0⟩

/-- Change a controller. -/
def State.updTf (s : State) (k : Nat) (f : Tf → Tf) : State :=
  { s with plane := { s.plane with tf := s.plane.tf.upd k ⟨0, [], 0, 0, none, 0⟩ f } }

/-- Set a bit of TRP_EVENTS. -/
def State.trpEvent (s : State) (i : Nat) : State :=
  { s with plane := { s.plane with events := setBit s.plane.events i } }

/-- Both high-voltage supplies are lost (R495). -/
def State.hvLost (s : State) : Bool := !s.plane.hvA && !s.plane.hvB

/-- The front adapter of a mirror position's port is open (R491). -/
def State.openAt (s : State) (pos : Nat) : Bool := decide (pos < 768) && s.plane.openPath.has (pos / 8)

/-- Mirrors of a circuit (R41): 0:a and 1:b. -/
def mir0 (c : Circuit) : Nat := posOf c.src
def mir1 (c : Circuit) : Nat := 1024 + posOf c.dst

/-- What the two mirrors of a circuit face. -/
def aim0 (c : Circuit) : Aim := .face (posOf c.dst)
def aim1 (c : Circuit) : Aim := .face (posOf c.src)

/-- Change every plot. -/
def State.updPlots (s : State) (f : Nat → Plot → Plot) : State :=
  { s with topo := { s.topo with plot := s.topo.plot.mapVal f } }

/-- Change one plot. -/
def State.updPlot (s : State) (id : Nat) (f : Plot → Plot) : State :=
  s.updPlots (fun k p => if k == id then f p else p)

/-- Change the circuits of COMMITTING and ACTIVE plots. -/
def State.updCircuits (s : State) (f : Circuit → Circuit) : State :=
  s.updPlots (fun _ p => if decide (2 ≤ p.st) then { p with circuits := p.circuits.map f } else p)

/-- Give a mirror a target (R119): a MOVING or ACQUIRING mirror keeps it as its single pending target;
otherwise its controller accepts it for the next batch slot. A FAILED or DARK mirror takes none. -/
def State.aim (s : State) (m : Nat) (a : Aim) : State :=
  match (s.mirror m).st with
  | .failed => s
  | .dark => s
  | .moving => s.updMirror m (fun x => { x with pending := some a })
  | .acquiring => s.updMirror m (fun x => { x with pending := some a })
  | _ => s.updMirror m (fun x => { x with accepted := some a })

/-- Circuits of a COMMITTING plot that a new target of mirror `m` replaces before they were made (R119). -/
def State.supersede (s : State) (m : Nat) (a : Aim) : State :=
  s.updPlots (fun _ p => if p.st == 2 then
    { p with circuits := p.circuits.map (fun c =>
      if !c.made && !c.failed && ((mir0 c == m && aim0 c != a) || (mir1 c == m && aim1 c != a))
      then { c with superseded := true } else c) } else p)

/-- Give both mirrors of a circuit their targets. -/
def State.aimCircuit (s : State) (c : Circuit) : State :=
  (s.aim (mir0 c) (aim0 c)).aim (mir1 c) (aim1 c)

/-- A mirror relaxes to park at once: both axes at 0 V (R136). A FAILED or DARK mirror keeps its state. -/
def Mirror.relax (x : Mirror) : Mirror :=
  { x with
    st := match x.st with
      | .failed => .failed
      | .dark => .dark
      | _ => .parked
    partner := 0xFFFF, x := 0, y := 0, accepted := none, pending := none, goal := .park, holds := 0 }

/-- CHART_QUERY's STATE of a circuit, from its two mirrors (R118). -/
def State.circuitState (s : State) (c : Circuit) : Nat :=
  let a := s.mirror (mir0 c)
  let b := s.mirror (mir1 c)
  if c.failed || a.st == .failed || b.st == .failed then 4
  else if a.goal != aim0 c || b.goal != aim1 c then 0
  else if a.st == .parked || b.st == .parked then 0
  else if a.st == .held || b.st == .held then 3
  else if a.st == .settled && b.st == .settled then 2
  else 1

/-- A circuit of a COMMITTING or ACTIVE plot that ends at output position `o`. -/
def State.circuitTo (s : State) (o : Nat) : Option Circuit :=
  ((s.topo.plot.filter (fun e => decide (2 ≤ e.2.st))).flatMap (fun e => e.2.circuits)).find?
    (fun c => posOf c.dst == o && !c.superseded && (s.mirror (mir1 c)).goal == aim1 c)

/-- A circuit of a COMMITTING or ACTIVE plot that uses mirror `m`. -/
def State.circuitOf (s : State) (m : Nat) : Option Circuit :=
  ((s.topo.plot.filter (fun e => decide (2 ≤ e.2.st))).flatMap (fun e => e.2.circuits)).find?
    (fun c => mir0 c == m || mir1 c == m)

/-- A port is in a circuit of a COMMITTING or ACTIVE plot. -/
def State.inCircuit (s : State) (p : Nat) : Bool :=
  s.topo.plot.any (fun e => decide (2 ≤ e.2.st) && e.2.circuits.any (fun c => c.src == p || c.dst == p))

/-- The T port of a mirror becomes FAILED in discovery (R306). -/
def State.portMirrorFailed (s : State) (m : Nat) : State :=
  if m % 1024 < 640 || isX (m % 1024) then
    match s.topo.tport.find (m % 1024) with
    | some t => { s with topo := { s.topo with tport := s.topo.tport.put (m % 1024) { t with st := .failed } } }
    | none =>
      let t : TPort := ⟨.failed, 0, false, 0, 0, 0, 0, 0, 0, 0, 0, 0, 0, false, none, 0, false⟩
      { s with topo := { s.topo with tport := s.topo.tport.put (m % 1024) t } }
  else s

/-- A circuit fails: both mirrors park, and it is marked (R130, R136). -/
def State.failCircuit (s : State) (c : Circuit) (fault : Nat) : State :=
  let s1 := (s.updMirror (mir0 c) (fun x => { x.relax with fault := fault })).updMirror (mir1 c)
    (fun x => { x.relax with fault := fault })
  s1.updCircuits (fun d => if d.src == c.src && d.dst == c.dst then { d with failed := true } else d)

/-- A mirror or its axis driver fails: the mirror is FAILED with both axes at 0 V, its circuit fails and
the other mirror parks, with one ERROR (R136). -/
def State.failMirror (s : State) (m fault : Nat) (driver : Bool) : State :=
  let s1 := match s.circuitOf m with
    | some c => s.failCircuit c 0
    | none => s
  let s2 := s1.updMirror m (fun x => { x.relax with st := .failed, fault := fault, rewritten := false })
  let s3 := (if driver then s2.trpEvent 1 else s2).trpEvent 0
  (s3.portMirrorFailed m).logAdd sevError (s.owner (portAt (m % 1024))) (evNamed 2 "MIRROR_FAILED")
    (agentKind 0xD (tfOf m)) [m, fault]

/-! ### Holding (R131, R132) -/

/-- TRP_MIRROR.FAULT for a hold cause: 5 for the monitor band, 6 for a tap or source. -/
def holdFault (bit_ : Nat) : Nat := if bit_ == 0 then 5 else if bit_ ≤ 3 then 6 else 0

/-- A mirror becomes HELD at its last codes for one more cause. -/
def Mirror.hold (x : Mirror) (i now : Nat) : Mirror :=
  match x.st with
  | .settled => { x with st := .held, holds := setBit x.holds i, heldAt := now, fault := holdFault i }
  | .acquiring => { x with st := .held, holds := setBit x.holds i, heldAt := now, fault := holdFault i }
  | .held => { x with holds := setBit x.holds i }
  | _ => x

/-- A cause ends; with none left the loop closes from the held codes, without moving (R132). -/
def Mirror.unhold (x : Mirror) (i : Nat) : Mirror :=
  let h := clrBit x.holds i
  if x.st == .held && x.holds != 0 && h == 0 then { x with st := .acquiring, holds := 0, fault := 0 }
  else { x with holds := h }

/-- Hold or release both mirrors of a circuit. -/
def State.holdCircuit (s : State) (c : Circuit) (i : Nat) (on : Bool) : State :=
  let f := fun (x : Mirror) => if on then x.hold i s.ns else x.unhold i
  (s.updMirror (mir0 c) f).updMirror (mir1 c) f

/-- Hold causes present at a circuit now: monitor band, source, input tap, output tap. -/
def State.holdCauses (s : State) (c : Circuit) : List Nat :=
  (if s.plane.band.contains c.src then [0] else [])
    ++ (if bit s.plane.srcLost (posOf c.src / 32) then [1] else [])
    ++ (if s.plane.inLost.contains (posOf c.src) then [2] else [])
    ++ (if s.plane.outLost.contains (posOf c.dst) then [3] else [])

/-! ### Releases that end when mirrors are at park (R50, R328) -/

/-- Every mirror of a plot is parked, failed or dark, or serves another plot's circuit. -/
def State.plotParked (s : State) (p : Plot) : Bool :=
  p.circuits.all (fun c => [mir0 c, mir1 c].all (fun m =>
    match (s.mirror m).st with
    | .parked => true
    | .failed => true
    | .dark => true
    | _ => false))

/-- A T port whose circuit ends goes to FOUND if lit, otherwise DARK; a quarantined one stays (R306, R312). -/
def TPort.endCircuit (t : TPort) : TPort :=
  if t.st == .inCircuit then { t with st := if t.lit then .found else .dark } else t

/-- Ports of a plot leave their circuits, but for those `keep` names. -/
def State.endCircuits (s : State) (cs : List Circuit) (keep : Nat → Bool) : State :=
  { s with topo := { s.topo with tport := s.topo.tport.mapVal (fun t x =>
      if cs.any (fun c => c.src == t || c.dst == t) && !keep t then x.endCircuit else x) } }

/-- Plots whose release has parked every mirror are RETIRED: their IDs are freed, and the CHART_RELEASE
that waits completes (R50). -/
def State.finishReleases (s : State) : State :=
  (s.topo.plot.filter (fun e => e.2.releasing && s.plotParked e.2)).foldl (fun s e =>
    let s1 := { s with topo := { s.topo with plot := s.topo.plot.del e.1 } }
    (s1.endCircuits e.2.circuits (fun _ => false)).completeWhere
      (fun w => w == .release e.2.slice e.1) 0 0 0) s

/-! ### Moves (R121 to R125) -/

/-- The port reference at the other end of a target, seen from mirror `m`. -/
def partnerOf (a : Aim) : Nat :=
  match a with
  | .face p => portAt p
  | _ => 0xFFFF

/-- An entry of a working coefficient table (R359): that of the record the table was last committed from. -/
def State.calVal (s : State) (region table i : Nat) : Nat :=
  (Config.calEntry region table (s.sxt.working.get (256 * region + table) ⟨0, 0, 0, 0⟩).seq i).toNat

/-- A mirror starts to move to a target at a batch slot, with the codes its angle map gives (R121). -/
def Mirror.start (x : Mirror) (code : Nat → Nat) (a : Aim) : Mirror :=
  let codes := match a with
    | .face p => (code p % 65536, code p / 65536 % 65536)
    | .drive cx cy => (cx, cy)
    | .park => (0, 0)
  { x with st := .moving, goal := a, partner := partnerOf a, x := codes.1, y := codes.2
           accepted := none, pending := none, holds := 0, fault := 0 }

/-- The target a mirror takes at a batch slot: the accepted one, or the pending one of a mirror that has
reached ACQUIRING (R119). -/
def Mirror.due (x : Mirror) : Option Aim :=
  match x.accepted with
  | some a => some a
  | none => if x.st == .moving then none else x.pending

/-- A mirror cannot move now: both supplies lost, or an array-1 mirror of an open adapter (R491, R495). -/
def State.barred (s : State) (m : Nat) (a : Aim) : Bool :=
  match a with
  | .park => false
  | _ => s.hvLost || (decide (1024 ≤ m) && s.openAt (m % 1024))

/-- A circuit one of whose mirrors starts towards another target ends: its other mirror's settled light is
gone. -/
def State.startMirror (s : State) (m : Nat) : State :=
  match (s.mirror m).due with
  | none => s
  | some a =>
    if s.barred m a then s
    else s.updMirror m (fun x => x.start (s.calVal (0x10 + m / 128) 1 <| 1024 * (m % 128) + ·) a)

/-- TF_BATCH_SLOT (R123): a running controller, at most once every 5 ms, starts every target it has
accepted. -/
def execTfBatchSlot (tf : Fin 16) (s : State) : Host.Outcome State Fault Refusal :=
  .next (if (s.tfc tf).st == 2 then
    let s1 := match (s.tfc tf).lastBatch with
      | none => s
      | some t => s.advanceTo (t + 5000000)
    let s2 := s1.updTf tf (fun t => { t with lastBatch := some s1.ns })
    (List.range 128).foldl (fun s i => s.startMirror (128 * tf + i)) s2
  else s)

/-- MIRROR_ACQUIRING (R121, R125): the identity at output `out` is decoded. The right one makes the moved
mirrors ACQUIRING, or HELD where monitor light, a source or a tap cannot be trusted; another one parks
both mirrors, fails the circuit and is recorded. -/
def State.mirrorAcquiring (s : State) (out : Fin 1024) (ident : Fin 1024) : State :=
  (
    let m1 := s.mirror (1024 + out)
    match m1.goal with
    | .face p =>
      let m0 := s.mirror p
      let c : Circuit := ⟨portAt p, portAt out, 0, 0, false, false, false, false, false, 0xFFFF⟩
      if m0.goal != .face out || (m0.st != .moving && m1.st != .moving) then s
      else
        let causes := s.holdCauses c
        let s1 := { s with plane := { s.plane with
          tapOut := s.plane.tapOut.upd out (0x8000, 0xFFFF) (fun t => (t.1, ident)) } }
        let f := fun (x : Mirror) => if x.st == .moving then { x with st := .acquiring } else x
        let s2 := (s1.updMirror p f).updMirror (1024 + out) f
        if causes != [] then causes.foldl (fun s i => s.holdCircuit c i true) s2
        else if ident.val == p then s2
        else ((s2.failCircuit c 4).trpEvent 6).logAdd sevError (s.owner c.src) (evNamed 2 "WRONG_IDENTITY")
          (agentKind 0 (refIndex c.src)) [p, out, ident]
    | _ => s)

/-- MIRROR_SETTLED (R121): the loop has converged; both mirrors are SETTLED and the loss is measured. -/
def execMirrorSettled (out : Fin 1024) (loss : Nat) (s : State) : Host.Outcome State Fault Refusal :=
  .next (let m1 := s.mirror (1024 + out)
    match m1.goal with
    | .face p =>
      let m0 := s.mirror p
      let ready := fun (x : Mirror) => x.st == .acquiring || x.st == .settled
      if m0.goal == .face out && ready m0 && ready m1 then
        let f := fun (x : Mirror) => { x with st := .settled, fault := 0 }
        let s1 := (s.updMirror p f).updMirror (1024 + out) f
        s1.updCircuits (fun c => if mir0 c == p && mir1 c == 1024 + out.val
          then { c with made := true, waits := false, loss := min loss 0xFFFE } else c)
      else s
    | _ => s)

/-- MIRROR_PARKED (R121): a park ends and the mirror is at 0 V. -/
def State.mirrorParked (s : State) (m : Fin 2048) : State :=
  (
    let x := s.mirror m
    if x.st == .moving && x.goal == .park
    then s.updMirror m (fun x => { x.relax with pending := x.pending }) else s)

/-! ### Closed loops (R129 to R132, R140) -/

/-- A drive code corrected by a signed step, within its permitted range (R140). -/
def stepCode (m : Nat) (axis : Bool) (v : Nat) (d : Int) : Nat :=
  min ((v : Int) + d).toNat (Config.driveMax m axis).toNat

/-- LOOP_FRAME (R129): at the end of a frame the controllers correct the four axes of a circuit in closed
loop by the steps their gradients gave. A controller that does not run writes no code (R133). -/
def execLoopFrame (out : Fin 1024) (dx0 dy0 dx1 dy1 : Int) (s : State) : Host.Outcome State Fault Refusal :=
  .next (match s.circuitTo out with
    | none => s
    | some c =>
      let closed := fun (m : Nat) => ((s.mirror m).st == .settled || (s.mirror m).st == .acquiring)
        && (s.tfc (tfOf m)).st == 2
      if closed (mir0 c) && closed (mir1 c) then
        let s1 := s.updMirror (mir0 c) (fun x => { x with
          x := stepCode (mir0 c) false x.x dx0, y := stepCode (mir0 c) true x.y dy0 })
        let s2 := s1.updMirror (mir1 c) (fun x => { x with
          x := stepCode (mir1 c) false x.x dx1, y := stepCode (mir1 c) true x.y dy1 })
        (s2.updTf (tfOf (mir0 c)) (fun t => { t with frames := t.frames + 1 }))
      else s)

/-- IDENTITY_CHECK (R130): a settled circuit's identity is checked; a second wrong one in a row parks
both mirrors and fails the circuit. -/
def State.identityCheck (s : State) (out : Fin 1024) (ident : Fin 1024) : State :=
  (
    match s.circuitTo out with
    | none => s
    | some c =>
      if s.circuitState c != 2 then s
      else
        let s1 := { s with plane := { s.plane with
          tapOut := s.plane.tapOut.upd out (0x8000, 0xFFFF) (fun t => (t.1, ident)) } }
        if ident.val == posOf c.src then
          { s1 with plane := { s1.plane with identBad := s1.plane.identBad.del out } }
        else if s1.plane.identBad.has out then
          let s2 := { s1 with plane := { s1.plane with identBad := s1.plane.identBad.del out } }
          ((s2.failCircuit c 4).trpEvent 6).logAdd sevError (s.owner c.src) (evNamed 2 "WRONG_IDENTITY")
            (agentKind 0 (refIndex c.src)) [posOf c.src, out, ident]
        else { s1 with plane := { s1.plane with identBad := s1.plane.identBad.put out 1 } })

/-- The circuits of COMMITTING and ACTIVE plots. -/
def State.circuits (s : State) : List Circuit :=
  (s.topo.plot.filter (fun e => decide (2 ≤ e.2.st))).flatMap (fun e => e.2.circuits)

/-- Hold or release every circuit that satisfies `p`. -/
def State.holdWhere (s : State) (p : Circuit → Bool) (i : Nat) (on : Bool) : State :=
  (s.circuits.filter p).foldl (fun s c => s.holdCircuit c i on) s

/-- MONITOR_BAND_DETECT (R131): monitor-band light from the front above −30 dBm (power in 0.01 dBm) on a T
port in a circuit holds the circuit's mirrors; one WARNING per port per minute. -/
def execMonitorBandDetect (t : Fin 768) (power : Int) (s : State) : Host.Outcome State Fault Refusal :=
  .next (let s1 := { s with plane := { s.plane with
      tapIn := s.plane.tapIn.upd t (0x8000, 0x8000) (fun x => (x.1, toTwos 16 power)) } }
    if decide (-3000 < power) && s.inCircuit t then
      let s2 := { s1 with plane := { s1.plane with band := if s1.plane.band.contains t then s1.plane.band else s1.plane.band ++ [t.val] } }
      let s3 := (s2.holdWhere (fun c => c.src == t) 0 true).trpEvent 2
      let due := match s3.plane.bandAt.find t with
        | none => true
        | some a => decide (a + 60000000000 ≤ s3.ns)
      if due then
        ({ s3 with plane := { s3.plane with bandAt := s3.plane.bandAt.put t s3.ns } }).logAdd sevWarning
          (s.owner t) (evNamed 2 "MONITOR_BAND") (agentKind 0 t) [t, toTwos 64 power]
      else s3
    else s1)

/-- MONITOR_BAND_CLEAR (R131): below −33 dBm for 100 ms, closed-loop control resumes. -/
def execMonitorBandClear (t : Fin 768) (s : State) : Host.Outcome State Fault Refusal :=
  .next (if s.plane.band.contains t then
    let s1 := { s with plane := { s.plane with
      band := s.plane.band.filter (· != t.val)
      tapIn := s.plane.tapIn.upd t (0x8000, 0x8000) (fun x => (x.1, 0x8000)) } }
    s1.holdWhere (fun c => c.src == t) 0 false
  else s)

/-- MONITOR_LOSS (R132, R136): a monitor source or a tap is lost, or returns. -/
def execMonitorLoss (what : Monitor) (lost : Bool) (s : State) : Host.Outcome State Fault Refusal :=
  .next (let hit : (Circuit → Bool) × Nat := match what with
      | .source k => (fun c => posOf c.src / 32 == k.val, 1)
      | .inTap p => (fun c => posOf c.src == p.val, 2)
      | .outTap o => (fun c => posOf c.dst == o.val, 3)
    let upd := fun (l : List Nat) (v : Nat) => if lost then (if l.contains v then l else l ++ [v]) else l.filter (· != v)
    let pl := match what with
      | .source k => { s.plane with srcLost := if lost then setBit s.plane.srcLost k else clrBit s.plane.srcLost k }
      | .inTap p => { s.plane with inLost := upd s.plane.inLost p }
      | .outTap o => { s.plane with outLost := upd s.plane.outLost o }
    let s1 := ({ s with plane := pl }).holdWhere hit.1 hit.2 lost
    if lost then s1.logAdd sevWarning 0 (evNamed 2 "MONITOR_LOST") (agentKind 0xD (if hit.2 == 3 then 23 else 22)) [hit.2]
    else s1)

/-- HOLD_LONG (R140): the circuit to `out` has been HELD for more than 60 s. -/
def execHoldLong (out : Fin 1024) (s : State) : Host.Outcome State Fault Refusal :=
  .next (match s.circuitTo out with
    | some c => if s.circuitState c == 3
      then (s.advanceTo ((s.mirror (mir1 c)).heldAt + 60000000000)).trpEvent 3 else s
    | none => s)

/-! ### Faults (R133, R135, R136, R495) -/

/-- MIRROR_NOT_FOLLOWING (R136). -/
def State.mirrorNotFollowing (s : State) (m : Fin 2048) : State :=
  (
    if (s.mirror m).st == .failed || (s.mirror m).st == .dark then s else s.failMirror m 1 false)

/-- LATCH_READBACK (R136): the codes read back; a first difference is rewritten, a second switches the
axis driver off. -/
def State.latchReadback (s : State) (m : Fin 2048) (x y : Nat) : State :=
  (
    let k := s.mirror m
    if k.st == .failed || k.st == .dark then s
    else if k.x == x && k.y == y then s.updMirror m (fun k => { k with rewritten := false })
    else if k.rewritten then s.failMirror m 2 true
    else s.updMirror m (fun k => { k with rewritten := true }))

/-- DRIVER_OVERCURRENT (R136). -/
def State.driverOvercurrent (s : State) (m : Fin 2048) : State :=
  (
    if (s.mirror m).st == .failed || (s.mirror m).st == .dark then s else s.failMirror m 3 true)

/-- HV_SUPPLY_LOST (R136, R495): one supply lost is reported; with both lost every mirror relaxes to park
and every circuit waits for a supply. -/
def State.hvSupplyLost (s : State) (b : Bool) : State :=
  (
    let s1 := ({ s with plane := if b then { s.plane with hvB := false } else { s.plane with hvA := false } }).trpEvent 4
    if s.hvLost then s
    else if s1.hvLost then
      let s2 := { s1 with plane := { s1.plane with mirror := s1.plane.mirror.mapVal (fun _ x => x.relax) } }
      let s3 := s2.updCircuits (fun c => if c.failed then c else { c with waits := true })
      s3.logAdd sevCritical 0 (evNamed 2 "HV_BOTH_LOST") agentNone []
    else s1.logAdd sevWarning 0 (evNamed 2 "HV_SUPPLY_LOST") agentNone [b2n b])

/-- HV_SUPPLY_RESTORED (R495): a supply stays in range for 1 s; after both were lost every mirror of every
ACTIVE plot is given its plotted target again. -/
def execHvSupplyRestored (b : Bool) (s : State) : Host.Outcome State Fault Refusal :=
  .next (let s1 := { s with plane := if b then { s.plane with hvB := true } else { s.plane with hvA := true } }
    if s.hvLost then
      (((s1.circuits.filter (fun c => !c.failed)).foldl (fun s c => s.aimCircuit c) s1).logAdd sevNotice 0
        (evNamed 2 "HV_RESTORED") agentNone [b2n b])
    else s1)

/-- TF_WATCHDOG (R133, R135): the controller is reloaded while its mirrors hold in their latches; at the
third failure within 10 minutes it stays stopped and its mirrors are HELD. -/
def execTfWatchdog (tf : Fin 16) (s : State) : Host.Outcome State Fault Refusal :=
  .next (let recent := (s.tfc tf).restarts.filter (fun t => decide (s.ns < t + 600000000000))
    let s1 := s.trpEvent 5
    if decide (2 ≤ recent.length) then
      let s2 := s1.updTf tf (fun t => { t with st := 4, restarts := s.ns :: recent, holdAt := s.ns })
      let s3 := s2.holdWhere (fun c => tfOf (mir0 c) == tf.val || tfOf (mir1 c) == tf.val) 4 true
      s3.logAdd sevError 0 (evNamed 2 "TF_STOPPED") (agentKind 0xD tf) [tf]
    else
      (s1.updTf tf (fun t => { t with st := 1, restarts := s.ns :: recent, holdAt := s.ns })).logAdd sevWarning 0
        (evNamed 2 "TF_RESTART") (agentKind 0xD tf) [tf])

/-- TF_RELOADED (R133, R405): the reloaded controller takes the latched codes as its starting state and its
loops reacquire; with cluster 1 halted, or in a pause, none is reloaded. -/
def execTfReloaded (tf : Fin 16) (s : State) : Host.Outcome State Fault Refusal :=
  .next (if ((s.tfc tf).st == 1 || (s.tfc tf).st == 3) && !s.clusterHalted 1 && !s.paused
    then s.updTf tf (fun t => { t with st := 2, holdAt := 0 }) else s)

/-! ### Open paths (R491, R492) -/

/-- The global ports of a colour adapter. -/
def adapterPorts (k : Nat) : List Nat := (List.range 8).map (fun i => 8 * (k - 96) + i)

/-- OPEN_PATH (R491): a front adapter opens. The gates of a colour adapter's ports close; the array-1
mirrors of a transparent adapter go to park in hardware; one WARNING names the adapter. -/
def State.openPathRow (s : State) (k : Fin 104) : State :=
  (
    let seen := s.plane.openPath.has k
    let s1 := { s with plane := { s.plane with openPath := if seen then s.plane.openPath else s.plane.openPath.put k s.ns } }
    let s2 :=
      if k.val < 96 then
        let s2 := (List.range 8).foldl (fun s i => s.updMirror (1024 + 8 * k + i) (fun x =>
          if x.st == .dark || x.st == .failed then x else { x.relax with goal := x.goal, fault := x.fault })) s1
        s2.updCircuits (fun c => if !c.made && !c.failed && posOf c.dst / 8 == k.val then { c with waits := true } else c)
      else
        { s1 with col := { s1.col with
          port := s1.col.port.mapVal (fun t p => if (adapterPorts k).contains t && p.st == 2 then { p with st := 0, burst := none } else p)
          laser := s1.col.laser.mapVal (fun n l =>
            if s1.col.port.any (fun e => (adapterPorts k).contains e.1 && e.2.laser == n) then { l with gate := false } else l) } }
    if seen then s2 else s2.logAdd sevWarning 0 0x0D20 agentNone [k])

/-! ### MIRROR_SET (R141 to R143) -/

/-- Entry `i` of a MIRROR_SET block: mirror index, mode, codes. -/
def mirEntry (b : Bytes) (i : Nat) : Nat × Nat × Nat × Nat :=
  let o := 16 + 8 * i
  let w := le b o 2
  (1024 * bits w 10 1 + bits w 0 10, le b (o + 2) 1, le b (o + 4) 2, le b (o + 6) 2)

/-- Range rows of entry `i`. -/
def mirRows (b : Bytes) (i : Nat) (earlier : List Nat) : List (Nat × Bool) :=
  let o := 16 + 8 * i
  let e := mirEntry b i
  [(o, decide (le b o 2 < 2048) && !earlier.contains e.1), (o + 2, decide (e.2.1 ≤ 3)), (o + 3, zeroAt b (o + 3) 1),
   (o + 4, if e.2.1 == 0 then decide (e.2.2.1 ≤ (Config.driveMax e.1 false).toNat) else e.2.2.1 == 0),
   (o + 6, if e.2.1 == 0 then decide (e.2.2.2 ≤ (Config.driveMax e.1 true).toNat) else e.2.2.2 == 0)]

/-- Act on one entry; the count of mirrors that ended FAILED. Whether a RETEST passes is a free value. -/
def mirAct (acc : State × Nat) (e : Nat × Nat × Nat × Nat) : State × Nat :=
  let s := acc.1
  let m := e.1
  match e.2.1 with
  | 0 => (s.updMirror m (fun x => { x with
      st := .held, goal := .drive e.2.2.1 e.2.2.2, x := e.2.2.1, y := e.2.2.2
      accepted := none, pending := none, partner := 0xFFFF, byMaint := true, holds := setBit 0 5, heldAt := s.ns, fault := 0 }), acc.2)
  | 1 => (s.updMirror m (fun x => { x.relax with byMaint := true }), acc.2)
  | 2 =>
    let id := (s.plane.tapOut.get (m % 1024) (0x8000, 0xFFFF)).2
    (s.updMirror m (fun x => { x with
      st := .acquiring, holds := 0, byMaint := true
      partner := if decide (1024 ≤ m) && id != 0xFFFF then portAt (id % 1024) else x.partner }), acc.2)
  | _ =>
    let f := s.fresh 1
    if f.1 == 1 then
      let s1 := f.2.updMirror m (fun x => { x with st := .parked, fault := 0 })
      let other := (s1.mirror ((m + 1024) % 2048)).st == .failed
      (if other then s1 else { s1 with topo := { s1.topo with tport := s1.topo.tport.mapVal (fun t x =>
        if t == m % 1024 && x.st == .failed then { x with st := .dark } else x) } }, acc.2)
    else (f.2, acc.2 + 1)

/-- The entries of MIRROR_SET, and its fields in ascending offset. -/
def mirEntries (r : Req) : List (Nat × Nat × Nat × Nat) := (List.range (r.b 0 2)).map (mirEntry r.params)
def mirSetRows (r : Req) : List (Nat × Bool) :=
  [(0, decide (1 ≤ r.b 0 2 ∧ r.b 0 2 ≤ 2048)), (2, zeroAt r.params 2 14)]
    ++ (List.range (r.b 0 2)).flatMap (fun i => mirRows r.params i (((mirEntries r).take i).map Prod.fst))

/-- MIRROR_SET (R141, R142, R405, R492). -/
def cmdMirrorSet (r : Req) (s : State) : CmdOut :=
  let n := r.b 0 2
  let es := mirEntries r
  let firstBad := fun (p : Nat × Nat × Nat × Nat → Bool) => match es.find? p with
    | some e => some (0x0301, e.1, 0)
    | none => none
  guarded s [ranges (mirSetRows r),
      ranges ((List.range n).map (fun i => (16 + 8 * i, (s.mirror (mirEntry r.params i).1).st != .dark))),
      chk (!s.clusterHalted 1) 0x0602 0 0,
      firstBad (fun e => (s.circuitOf e.1).isSome),
      firstBad (fun e => decide (1024 ≤ e.1) && s.openAt (e.1 % 1024)),
      firstBad (fun e => ((s.mirror e.1).st == .failed) != (e.2.1 == 3))]
    (let res := es.foldl mirAct (s, 0)
     .done res.1 (if res.2 == 0 then 0 else 0x0501) n res.2)

/-- On leaving maintenance every mirror that MIRROR_SET moved and that serves no plotted circuit parks
(R143). -/
def State.parkTestMirrors (s : State) : State :=
  let t := s.plane.mirror.mapVal (fun m x =>
    if x.byMaint then (if (s.circuitOf m).isSome then { x with byMaint := false } else { x.relax with byMaint := false }) else x)
  { s with plane := { s.plane with mirror := t } }

end Sys2Proof.Machine
end

