-- ==== Sys2Proof/Machine/Topo.lean ====
section
/-! DEFINITION. Discovery of the far ends of the front ports, identity straps, link maps, and the slices
that own the module's resources (10_topology_and_slices). -/

namespace Sys2Proof.Machine

/-! ### T ports (R306) -/

/-- A T port nothing is known of. -/
def TPort.blank : TPort := ⟨.dark, 0, false, 0, 0, 0, 0, 0, 0, 0, 0, 0, 0, false, none, 0, false⟩

/-- Code of a discovery state (R306). -/
def Disc.code : Disc → Nat
  | .dark => 0 | .lit => 1 | .probing => 2 | .found => 3 | .silent => 4
  | .quarantined => 5 | .inCircuit => 6 | .failed => 7

/-- What discovery keeps of a T port. -/
def State.tp (s : State) (t : Nat) : TPort := s.topo.tport.get t TPort.blank

/-- Change what discovery keeps of a T port. -/
def State.updTp (s : State) (t : Nat) (f : TPort → TPort) : State :=
  { s with topo := { s.topo with tport := s.topo.tport.upd t TPort.blank f } }

/-- Ports that discovery concerns: classes A and X. -/
def isAX (t : Nat) : Bool := decide (t < 640) || isX t

/-- Found: FOUND, or IN_CIRCUIT and lit (R306), and no adapter of it open (R492). -/
def State.portFound (s : State) (t : Nat) : Bool :=
  ((s.tp t).st == .found || ((s.tp t).st == .inCircuit && (s.tp t).lit)) && !s.openAt t

/-! ### Link maps (R310) -/

/-- The link map of a class-A connector: for each link the port within the connector. -/
def State.linkMap (s : State) (a : Nat) : List Nat := s.topo.linkMap.get a (List.range 8)

/-- T(8a + l) through the link map. -/
def State.linkPort (s : State) (a l : Nat) : Nat := 8 * a + (s.linkMap a).getD l l

/-- The link that a class-A port carries. -/
def State.linkOf (s : State) (t : Nat) : Nat := (s.linkMap (t / 8)).idxOf (t % 8)

/-- The map that the FOUND ports of a connector give (R310): each carries the link it reports, and the
rest are matched in ascending order; the identity unless they report one NODE_ID and distinct links. A
port admitted with cause MIXED keeps the identity map (R326). -/
def State.deriveMap (s : State) (a : Nat) : List Nat :=
  let ps := (List.range 8).filter (fun i => s.portFound (8 * a + i))
  let nid := fun i => (s.tp (8 * a + i)).nodeId
  let ln := fun i => (s.tp (8 * a + i)).link
  let good := ps != [] && ps.all (fun i => nid i == nid (ps.headD 0)) && (ps.map ln).Nodup
    && ps.all (fun i => decide (ln i < 8))
    && !(List.range 8).any (fun i => (s.tp (8 * a + i)).admitCause == 2)
  if !good then List.range 8
  else
    let freeLinks := (List.range 8).filter (fun l => !(ps.map ln).contains l)
    let freePorts := (List.range 8).filter (fun i => !ps.contains i)
    (List.range 8).map (fun l =>
      match ps.find? (fun i => ln i == l) with
      | some i => i
      | none => freePorts.getD (freeLinks.idxOf l) l)

/-- Derive the map of a port's connector again; a change is one NOTICE (R310). -/
def State.remap (s : State) (t : Nat) : State :=
  if decide (640 ≤ t) then s
  else
    let a := t / 8
    let m := s.deriveMap a
    if m == s.linkMap a then s
    else
      let lm := if m == List.range 8 then s.topo.linkMap.del a else s.topo.linkMap.put a m
      ({ s with topo := { s.topo with linkMap := lm } }).logAdd sevNotice 0
        (evNamed 7 "LINK_MAP") agentNone [a, m.foldr (fun x acc => acc * 8 + x) 0]

/-! ### Found positions (R313) -/

/-- A position is found for a set of links: each is carried by a found port, and all report one NODE_ID
with NODE_KIND 1. -/
def State.posFound (s : State) (a : Nat) (links : List Nat) : Bool :=
  let ps := links.map (s.linkPort a)
  ps.all (fun t => s.portFound t && (s.tp t).kind == 1 && (s.tp t).nodeId == (s.tp (ps.headD 0)).nodeId)

/-- A position that was substituted out joins the spares when it is found again (R335). -/
def State.rejoin (s : State) (t : Nat) : State :=
  if decide (640 ≤ t) then s
  else s.updPlots (fun _ p =>
    if p.st == 3 && p.replaced.contains (t / 8) && s.portFound t then
      { p with replaced := p.replaced.filter (· != t / 8), spares := p.spares ++ [t / 8] } else p)

/-! ### Judging an identity (R311) -/

/-- What a HAIL flit reports (R208). -/
structure Hail where
  kind    : Nat
  nodeId  : Nat
  hall    : Nat
  rack    : Nat
  strap   : Nat
  link    : Nat
  version : Nat
  slice   : Nat

/-- The ports of a class-A connector report more than one NODE_ID, or one LINK other than 0xFF twice. -/
def State.mixed (s : State) (t : Nat) : Bool :=
  if decide (640 ≤ t) then false
  else
    let ps := ((List.range 8).map (fun i => s.tp (t / 8 * 8 + i))).filter (fun p => p.lit && p.hasId)
    !(ps.all (fun p => p.nodeId == (ps.headD TPort.blank).nodeId))
      || !((ps.map (·.link)).filter (· != 0xFF)).Nodup

/-- The cause of R311 that an identity recorded on port `t` gives; 0 for FOUND. -/
def State.judge (s : State) (t : Nat) (h : Hail) : Nat :=
  if (h.kind == 1 && isX t) || (h.kind == 0 && !isX t) then 5
  else if h.kind == 0 && (h.hall != s.topo.hall || h.strap == 1 || h.rack == s.topo.rack) then 4
  else if s.mixed t then 2
  else if s.owner t == 0 && h.nodeId != (s.tp t).admitted then 1
  else 0

/-- End the probe of a port: its probe circuits park (R307). -/
def State.endProbe (s : State) (t : Nat) : State :=
  match (s.tp t).probe with
  | none => s
  | some i =>
    let s1 := (((s.aim t .park).aim (1024 + 768 + i) .park).aim (768 + i) .park).aim (1024 + t) .park
    s1.updTp t (fun p => { p with probe := none })

/-- Put a port in QUARANTINED, or the whole lit connector for cause MIXED, with the Logline entry of R311. -/
def State.quarantine (s : State) (t cause : Nat) : State :=
  let s1 := if cause == 2 then
      (List.range 8).foldl (fun s i =>
        if (s.tp (t / 8 * 8 + i)).lit || t / 8 * 8 + i == t
        then s.updTp (t / 8 * 8 + i) (fun p => { p with st := .quarantined, cause := 2 }) else s) s
    else s.updTp t (fun p => { p with st := .quarantined, cause := cause })
  s1.logAdd (if cause == 1 || cause == 3 then sevNotice else sevWarning) (s.owner t) (evNamed 7 "QUARANTINED")
    (agentKind 0 t) [t, cause]

/-- A port becomes found: FOUND, or IN_CIRCUIT where a circuit stands, and its NODE_ID is the one admitted. -/
def State.found (s : State) (t : Nat) : State :=
  s.updTp t (fun p => { p with
    st := if s.inCircuit t then .inCircuit else .found
    cause := 0, admitted := p.nodeId, admitCause := 0, silentNoted := false })

/-- Record and judge the identity a probe or a landed session received (R309, R311, R312). -/
def State.judgeHail (s : State) (t : Nat) (h : Hail) : State :=
  let old := s.tp t
  let s1 := s.updTp t (fun p => { p with
    hasId := true, nodeId := h.nodeId, kind := h.kind, link := h.link, hall := h.hall, rack := h.rack
    version := h.version, farSlice := h.slice, seenS := s.secs })
  let s2 := if s.inCircuit t && old.hasId && old.nodeId != h.nodeId then
      s1.logAdd sevNotice (s.owner t) (evNamed 7 "NEW_NODE_ID") (agentKind 0 t) [t, h.nodeId] else s1
  let s3 :=
    if old.st == .quarantined || old.st == .failed || old.st == .dark then s2
    else
      match s2.judge t h with
      | 0 => s2.found t
      | c => s2.quarantine t c
  ((s3.endProbe t).remap t).rejoin t

/-! ### Discovery events (R303 to R308) -/

/-- PORT_LIT (R306). -/
def execPortLit (t : Fin 768) (s : State) : Host.Outcome State Fault Refusal :=
  .next (if isAX t then
    let s1 := s.updTp t (fun p => { p with lit := true, st := if p.st == .dark then .lit else p.st })
    (s1.remap t).rejoin t
  else s)

/-- PORT_DARK (R306): LIT, FOUND, SILENT and QUARANTINED ports go DARK, keeping their identity. -/
def execPortDark (t : Fin 768) (s : State) : Host.Outcome State Fault Refusal :=
  .next (if isAX t then
    let s1 := s.updTp t (fun p => { p with
      lit := false
      st := match p.st with
        | .lit => .dark
        | .found => .dark
        | .silent => .dark
        | .quarantined => .dark
        | x => x })
    s1.remap t
  else s)

/-- Probe ports in use. -/
def State.probes (s : State) : List Nat := s.topo.tport.filterMap (fun e => e.2.probe)

/-- An internal port can carry a probe (R307): live, in no circuit, its P port without an ACTIVE session,
and its controllers not stopped (R337). -/
def State.probeFree (s : State) (i : Nat) : Bool :=
  decide (i < s.fuse.livePorts) && !s.inCircuit (refI i) && !s.probes.contains i
    && (match s.lnk.port.find i with
        | some p => p.st != .active
        | none => true)
    && (s.mirror (768 + i)).st == .parked && (s.mirror (1792 + i)).st == .parked
    && (s.tfc (tfOf (768 + i))).st != 4 && (s.tfc (tfOf (1792 + i))).st != 4

/-- The probe port taken: owned by no slice if possible, and among those the highest-numbered (R307). -/
def State.probePort (s : State) : Option Nat :=
  let all := (List.range 256).reverse.filter s.probeFree
  match all.find? (fun i => s.owner (refI i) == 0) with
  | some i => some i
  | none => all.head?

/-- PROBE_START (R307, R308): a LIT port is landed, duplex, on a free probe port; at most 8 probes run. -/
def execProbeStart (t : Fin 768) (s : State) : Host.Outcome State Fault Refusal :=
  .next (match s.probePort with
    | none => s
    | some i =>
      if isAX t && (s.tp t).st == .lit && decide (s.probes.length < 8)
          && (s.tfc (tfOf t)).st != 4 && (s.tfc (tfOf (1024 + t))).st != 4 then
        let s1 := (((s.aim t (.face (768 + i))).aim (1792 + i) (.face t)).aim (768 + i) (.face t)).aim (1024 + t) (.face (768 + i))
        s1.updTp t (fun p => { p with st := .probing, probe := some i, probeAt := s.ns })
      else s)

/-- PROBE_TIMEOUT (R306, R308, R311): no HAIL within 120 ms (class A) or 1 s (class X): SILENT, with one
NOTICE until the port is FOUND. -/
def execProbeTimeout (t : Fin 768) (s : State) : Host.Outcome State Fault Refusal :=
  .next (if (s.tp t).st == .probing then
    let s1 := s.advanceTo ((s.tp t).probeAt + (if isX t then 1000000000 else 120000000))
    let noted := (s.tp t).silentNoted
    let s2 := (s1.endProbe t).updTp t (fun p => { p with st := .silent, silentNoted := true })
    if noted then s2 else s2.logAdd sevNotice (s.owner t) (evNamed 7 "SILENT") (agentKind 0 t) [t]
  else s)

/-- SILENT_RETRY (R306). -/
def execSilentRetry (t : Fin 768) (s : State) : Host.Outcome State Fault Refusal :=
  .next (if (s.tp t).st == .silent then s.updTp t (fun p => { p with st := .lit }) else s)

/-- STRAP_SAMPLE (R305): once per second; a difference from the identity in use for 10 s is one WARNING. -/
def execStrapSample (levels : Nat) (s : State) : Host.Outcome State Fault Refusal :=
  .next (let differs := levels % 2 ^ 11 != s.topo.straps
    let n := if differs then s.topo.strapDiff + 1 else 0
    let warn := decide (10 ≤ n) && !s.topo.strapWarned
    let s1 := { s with topo := { s.topo with strapDiff := n, strapWarned := differs && (s.topo.strapWarned || warn) } }
    if warn then s1.logAdd sevWarning 0 (evNamed 7 "STRAPS_DIFFER") agentNone [levels % 2 ^ 11, s.topo.straps] else s1)

/-! ### Slices (R315 to R329) -/

/-- A slice just created. -/
def Slice.new (mask hbm sram standing : Nat) : Slice :=
  ⟨mask, hbm, sram, standing, 0, false, 0, 0, 0, [], 0, 0x7F, 0x7F, 0, false, 0, [], [], []⟩

/-- Mask of the global ports a slice owns. -/
def State.gmask (s : State) (n : Nat) : Nat := maskOf 64 (fun t => (s.gports n).contains t)

/-- The slice digest (R316): CRC-32C over SLICE, S, two zero bytes, RACK_MASK and the global-port mask. -/
def State.sliceDigest (s : State) (n : Nat) : Nat :=
  match s.topo.slice.find n with
  | none => 0
  | some x => crc32c (leBytes 1 n ++ leBytes 1 x.standing ++ zeros 2 ++ leBytes 8 x.rackMask ++ leBytes 8 (s.gmask n))

/-- Elements of a set of ranges. -/
def countRanges (rs : List (Nat × Nat)) : Nat := (rs.map Prod.snd).foldl (· + ·) 0

/-- Bytes of a residual area (R240). -/
def residBytes (rs : List (Nat × Nat)) (wide : Bool) : Nat := countRanges rs * (if wide then 4 else 2)

/-- Bytes of the residual areas of a slice at a location. -/
def State.residPlaced (s : State) (n loc : Nat) : Nat :=
  ((s.skk.resid.filter (fun e => e.1 / 65536 == n && e.2.loc == loc)).map
    (fun e => residBytes e.2.ranges e.2.wide)).foldl (· + ·) 0

/-- HBM bytes placed for a slice: passage buffers, bindings, the window, queue rings,
residual areas and stripes spilled into the quota (R39, R241, R245, R279, R287). -/
def State.hbmPlaced (s : State) (n : Nat) : Nat :=
  let b := ((s.passagesOf n).flatMap (fun e => e.2.buffers.filter (fun b => b.loc == 1))).map Buffer.bytes
  let o := (s.skk.binding.filter (fun e => e.1 / 65536 == n)).map (fun e => e.2.hbm)
  let w := match s.topo.slice.find n with
    | some x => x.windowGiB * 2 ^ 30
    | none => 0
  let q := (s.fm.queue.filter (fun e => e.2.slice == n && e.2.st != 0)).map (fun e => e.2.credits * 4160)
  let sp := (s.passagesOf n).map (fun e =>
    (e.2.stripes.filter (fun x => x.2 == 2)).length * (if bit e.2.operator 7 then 8192 else 4096))
  (b ++ o ++ q ++ sp).foldl (· + ·) (w + s.residPlaced n 1)

/-- Stacked-SRAM bytes placed for a slice. -/
def State.sramPlaced (s : State) (n : Nat) : Nat :=
  let b := ((s.passagesOf n).flatMap (fun e => e.2.buffers.filter (fun b => b.loc == 0))).map Buffer.bytes
  let o := (s.skk.binding.filter (fun e => e.1 / 65536 == n)).map (fun e => e.2.sram)
  (b ++ o).foldl (· + ·) (s.residPlaced n 0)

/-- Whether quotas fit the module, beside all other slices' (R320 order 4). -/
def quotaChk (s : State) (others hbmGiB otherS sramMiB : Nat) : Chk :=
  let hbm := others + hbmGiB * 2 ^ 30 + snapArea + s.bnc.trace.ringMib * 2 ^ 20
  let sram := otherS + sramMiB * 2 ^ 20
  firstFail [chk (decide (hbm ≤ s.hbmBytes)) 0x0201 1 (hbm - s.hbmBytes),
    chk (decide (sram ≤ 6144 * 2 ^ 20)) 0x0201 2 (sram - 6144 * 2 ^ 20)]

/-- SLICE_CREATE (R320). -/
def cmdSliceCreate (r : Req) (s : State) : CmdOut :=
  let hbm := r.b 8 4
  let sram := r.b 12 4
  let st := if r.b 16 1 == 0xFF then 8 else r.b 16 1
  guarded s [
      ranges [(0, bit (r.b 0 8) s.topo.rack), (8, decide (hbm * 2 ^ 30 ≤ s.hbmBytes)),
        (12, decide (sram ≤ 6144 ∧ sram % 64 = 0)), (16, decide (st ≤ 16)), (17, zeroAt r.params 17 15)],
      chk (s.topo.strapState == 0) 0x0303 5 0,
      chk (!s.hasSlice r.slice) 0x0301 1 0,
      quotaChk s s.hbmQuotas hbm s.sramQuotas sram]
    (let s1 := { s with topo := { s.topo with slice := s.topo.slice.put r.slice (Slice.new (r.b 0 8) hbm sram st) } }
     ok s1 (s1.hbmBytes - snapArea - s1.bnc.trace.ringMib * 2 ^ 20 - s1.hbmQuotas) (6144 * 2 ^ 20 - s1.sramQuotas))

/-- Entry `i` of SLICE_ASSIGN: FIRST and RUN. -/
def runEntry (b : Bytes) (i : Nat) : Nat × Nat := (le b (32 + 4 * i) 2, le b (34 + 4 * i) 2)

/-- Ports a run names, as owner keys: Ii and Pi count as one (R322). -/
def runKeys (e : Nat × Nat) : List Nat := (List.range (min e.2 1024)).map (fun k => ownKey (e.1 + k))

/-- FIRST and RUN of an entry are valid (R323 order 1): one class, no class-H port, no port twice within
one class of the entries before it. -/
def runRows (f : Fuse) (b : Bytes) (i : Nat) (earlier : List (Nat × Nat)) : List (Nat × Bool) :=
  let e := runEntry b i
  let ports := (List.range (min e.2 1024)).map (fun k => e.1 + k)
  let before := (earlier.filter (fun d => refClass d.1 == refClass e.1)).flatMap
    (fun d => (List.range (min d.2 1024)).map (fun k => d.1 + k))
  [(32 + 4 * i, refOk f e.1 && !isH e.1),
   (34 + 4 * i, decide (1 ≤ e.2 ∧ e.2 ≤ 1024)
      && ports.all (fun p => refOk f p && refClass p == refClass e.1 && !isH p && !before.contains p))]

/-- State code of a port for SLICE_ASSIGN: that of R306 for a T port, 0 for other classes. -/
def State.portCode (s : State) (p : Nat) : Nat := if refClass p == 0 then (s.tp p).st.code else 0

/-- A port is QUARANTINED; every command treats it as owned by slice 0 (R312). -/
def State.isQuar (s : State) (p : Nat) : Bool := refClass p == 0 && (s.tp p).st == .quarantined

/-- The owner every command sees. -/
def State.ownerSeen (s : State) (p : Nat) : Nat := if s.isQuar p then 0 else s.owner p

/-- The first plot state code that names a port, highest first (R323 order 5). -/
def State.plotNaming (s : State) (n : Nat) (key : Nat) : Nat :=
  (s.topo.plot.filter (fun e => e.2.slice == n && e.2.circuits.any (fun c => ownKey c.src == key || ownKey c.dst == key))).foldl
    (fun m e => max m e.2.st) 0

/-- The state of the lowest-numbered queue with an ENDPOINT; 0 if none. -/
def State.queueNaming (s : State) (key : Nat) : Nat :=
  match s.fm.queue.find? (fun e => e.2.st != 0 && ownKey e.2.endpoint == key) with
  | some e => e.2.st
  | none => 0

/-- A change of a slice's global ports or rack set returns its colour state to DARK (R315, R322). -/
def Slice.darken (x : Slice) : Slice := { x with colour := 0, hailPend := false, heard := 0, heardPorts := 0, mismatch := 0 }

/-- A port leaves a slice (R322): FOUND, or DARK if unlit; an X port returns to LIT and is probed again. -/
def State.freePort (s : State) (key : Nat) : State :=
  let s1 := { s with topo := { s.topo with owner := s.topo.owner.del key } }
  if refClass key == 0 && ((s.tp key).st == .found || (s.tp key).st == .inCircuit || (s.tp key).st == .lit) then
    s1.updTp key (fun p => { p with st := if !p.lit then .dark else if isX key then .lit else p.st })
  else s1

/-- The first loaded passage of a slice, by PASSAGE_ID. -/
def State.firstPassage (s : State) (n : Nat) : Option (Nat × Passage) := (s.passagesOf n).head?

/-- Every P port names its I port: ports owned, I and P counted each (worked example of R324). -/
def State.portsOwned (s : State) (n : Nat) : Nat :=
  ((s.topo.owner.filter (fun e => e.2 == n)).map (fun e => if refClass e.1 == 1 then 2 else 1)).foldl (· + ·) 0

/-- A failing port among keys. -/
def firstPort (keys : List Nat) (bad : Nat → Bool) (e : Nat → Nat × Nat × Nat) : Chk :=
  match keys.find? bad with
  | some k => some (e k)
  | none => none

/-- Probe port needed by another use: the probe parks and its port is LIT again (R307). -/
def State.yieldProbes (s : State) (ports : List Nat) : State :=
  (s.topo.tport.filter (fun e => match e.2.probe with
    | some i => ports.contains (refI i)
    | none => false)).foldl (fun s e => (s.endProbe e.1).updTp e.1 (fun p => { p with st := .lit })) s

/-- The runs of SLICE_ASSIGN, and the ports they name as owner keys. -/
def assignRuns (r : Req) : List (Nat × Nat) := (List.range (r.b 2 2)).map (runEntry r.params)
def assignKeys (r : Req) : List Nat := nubNat ((assignRuns r).flatMap runKeys)

/-- The fields of SLICE_ASSIGN in ascending offset (R323 order 1). -/
def assignRows (r : Req) (s : State) : List (Nat × Bool) :=
  let op := r.b 0 1
  let n := r.b 2 2
  [(0, decide (op ≤ 3)), (1, zeroAt r.params 1 1),
    (2, if decide (op ≤ 1) then decide (1 ≤ n ∧ n ≤ 1344) else n == 0),
    (4, if op == 3 then decide (r.b 4 4 * 2 ^ 30 ≤ s.hbmBytes) else r.b 4 4 == 0),
    (8, if op == 3 then decide (r.b 8 4 ≤ 6144 ∧ r.b 8 4 % 64 = 0) else r.b 8 4 == 0),
    (12, zeroAt r.params 12 4),
    (16, if op == 2 then bit (r.b 16 8) s.topo.rack else r.b 16 8 == 0), (24, zeroAt r.params 24 8)]
    ++ (List.range n).flatMap (fun i => runRows s.fuse r.params i ((assignRuns r).take i))

/-- SLICE_ASSIGN (R321 to R323). -/
def cmdSliceAssign (r : Req) (s : State) : CmdOut :=
  let op := r.b 0 1
  let keys := assignKeys r
  let sl := s.topo.slice.get r.slice (Slice.new 0 0 0 0)
  let gl := keys.any (fun k => refClass k == 3)
  let hbm := r.b 4 4
  let sram := r.b 8 4
  guarded s [
      ranges (assignRows r s),
      sliceChk s r.slice,
      if op == 0 then firstPort keys (fun k => s.owner k != 0 || s.isQuar k)
        (fun k => (0x0301, s.portCode k, k + s.owner k * 2 ^ 16)) else none,
      if op == 1 then firstPort keys (fun k => s.owner k != r.slice) (fun k => (0x0401, k, 0)) else none,
      if op == 1 then firstPort keys (fun k => s.plotNaming r.slice k != 0 || s.queueNaming k != 0)
        (fun k => (0x0301, if s.plotNaming r.slice k != 0 then s.plotNaming r.slice k else s.queueNaming k, k)) else none,
      if (decide (op ≤ 1) && gl) || op == 2 then
        match s.firstPassage r.slice with
        | some e => some (0x0301, e.2.st.code, 0)
        | none =>
          if op == 2 then
            match s.fm.queue.find? (fun e => e.2.slice == r.slice && e.2.st != 0) with
            | some q => some (0x0301, q.2.st, 0)
            | none => none
          else none
      else none,
      if op == 3 then chk (decide (s.hbmPlaced r.slice ≤ hbm * 2 ^ 30) && decide (s.sramPlaced r.slice ≤ sram * 2 ^ 20)) 0x0301 2 0 else none,
      if op == 3 then quotaChk s (s.hbmQuotas - sl.hbmGiB * 2 ^ 30) hbm (s.sramQuotas - sl.sramMiB * 2 ^ 20) sram else none]
    (let s1 := match op with
      | 0 =>
        let s1 := { s.yieldProbes keys with topo := { (s.yieldProbes keys).topo with
          owner := keys.foldl (fun t k => Tbl.put t k r.slice) (s.yieldProbes keys).topo.owner } }
        (keys.filter isX).foldl (fun s k => s.updTp k (fun p => { p with
          st := if p.st == .found then .lit else p.st })) s1
      | 1 => (keys.foldl (fun s k => s.freePort k) s).orphan 2 (fun p => keys.contains (ownKey p))
      | 2 => s.updSlice r.slice (fun x => { x with rackMask := r.b 16 8 })
      | _ => s.updSlice r.slice (fun x => { x with hbmGiB := hbm, sramMiB := sram })
     let s2 := if (decide (op ≤ 1) && gl) || op == 2 then s1.updSlice r.slice Slice.darken else s1
     ok s2 (s2.portsOwned r.slice) (s2.sliceDigest r.slice))

/-- The cabling check is still open on a global port of the slice (R147). -/
def State.uncheckedPort (s : State) (n : Nat) : Bool :=
  s.col.checking && (s.gports n).any (fun t => (s.col.port.find t).any (fun x => x.cabling == 0))

/-- STANDING_SET (R325). -/
def cmdStandingSet (r : Req) (s : State) : CmdOut :=
  let n := r.p 16 1
  let k := (racks (s.topo.slice.get r.slice (Slice.new 0 0 0 0)).rackMask).length
  guarded s [
      ranges [(16, decide (n ≤ 16) && decide (n ≤ (s.gports r.slice).length)), (17, r.z 17)],
      sliceChk s r.slice,
      match s.firstPassage r.slice with
      | some e => some (0x0301, e.2.st.code, 0)
      | none => none]
    (let go := !(n == 0 || decide (k < 2))
     let open_ := s.uncheckedPort r.slice
     let s1 := s.updSlice r.slice (fun x => { x.darken with
        standing := n, colour := b2n (go && !open_), hailPend := go && open_ })
     let st := s1.standingPorts r.slice
     ok s1 (maskOf 64 (fun t => st.contains t)) (s1.sliceDigest r.slice))

/-- PORT_ADMIT (R326). -/
def cmdPortAdmit (r : Req) (s : State) : CmdOut :=
  let first := r.p 16 2
  let run := r.p 18 2
  let act := r.p 20 1
  let ts := (List.range run).map (fun k => first + k)
  guarded s [
      ranges [(16, isAX first && decide (first < 768)),
        (18, decide (1 ≤ run ∧ run ≤ 128) && ts.all (fun t => isAX t && (isX t == isX first))),
        (20, decide (act ≤ 1)), (21, r.z 21)],
      firstPort ts (fun t => if act == 0 then (s.tp t).st != .quarantined
          else (s.tp t).st == .inCircuit || (s.tp t).st == .failed || ((s.tp t).st == .quarantined && s.inCircuit t))
        (fun t => (0x0301, (s.tp t).st.code, t))]
    (let s1 := ts.foldl (fun s t =>
        if act == 0 then
          (s.updTp t (fun p => { p with
            st := if s.inCircuit t then .inCircuit else .found
            cause := 0, admitted := p.nodeId, admitCause := p.cause, silentNoted := false })).remap t
        else (s.endProbe t).updTp t (fun p => { p with st := .lit })) s
     ok s1 run 0)

/-- The port entries of SLICE_QUERY, in ascending reference: the ports a slice owns, or for slice 0 every
unowned and every QUARANTINED port; P ports follow their I ports' owner. -/
def State.queryPorts (s : State) (n : Nat) : List Nat :=
  let all := (List.range 768).map refT ++ (List.range s.fuse.livePorts).map refI
    ++ (List.range s.fuse.livePorts).map refP ++ (List.range 64).map refG
  all.filter (fun p => if n == 0 then s.owner p == 0 || s.isQuar p else s.owner p == n)

/-- A port entry of SLICE_QUERY (R327). -/
def State.portEntry (s : State) (p : Nat) : Bytes :=
  let t := if refClass p == 0 then s.tp p else TPort.blank
  leBytes 2 p ++ leBytes 1 (t.st.code + 16 * t.cause) ++ leBytes 1 (s.owner p) ++ leBytes 8 t.nodeId
    ++ leBytes 1 (if t.hasId then t.kind else 0xFF) ++ leBytes 1 t.link ++ leBytes 1 t.hall ++ leBytes 1 t.rack
    ++ leBytes 2 t.version ++ leBytes 1 t.farSlice ++ leBytes 1 (if decide (p < 640) then s.linkOf p else 0)
    ++ leBytes 6 t.seenS ++ zeros 6

/-- The 96-byte summary of SLICE_QUERY (R327). -/
def State.sliceSummary (s : State) (n total : Nat) : Bytes :=
  let x := s.topo.slice.get n (Slice.new 0 0 0 0)
  leBytes 1 n ++ leBytes 1 x.colour ++ leBytes 1 x.standing ++ zeros 1 ++ leBytes 4 (s.sliceDigest n)
    ++ leBytes 8 x.rackMask ++ leBytes 8 (s.gmask n) ++ leBytes 4 x.hbmGiB ++ leBytes 4 x.sramMiB
    ++ leBytes 8 (s.hbmPlaced n) ++ leBytes 8 (s.sramPlaced n) ++ leBytes 2 total ++ leBytes 2 x.substitutions
    ++ leBytes 1 x.lastLost ++ leBytes 1 x.lastSpare ++ leBytes 6 x.lastSubS ++ zeros 4
    ++ leBytes 8 x.heard ++ leBytes 8 x.mismatch ++ zeros 16

/-- SLICE_QUERY (R327). -/
def cmdSliceQuery (r : Req) (s : State) : CmdOut :=
  let first := r.p 16 4
  let len := r.p 20 4
  guarded s [
      ranges [(16, decide (first ≤ 1343)), (20, decide (96 ≤ len ∧ len ≤ 43104)), (24, r.p 24 8 % 32 == 0), (32, r.z 32)],
      if r.slice == 0 then none else sliceChk s r.slice]
    (let ps := s.queryPorts r.slice
     let w := (ps.drop first).take ((len - 96) / 32)
     let s1 := s.emit (.hostWrite (r.p 24 8) (s.sliceSummary r.slice ps.length ++ w.flatMap s.portEntry))
     ok (s1.updSlice r.slice (fun x => { x with subAlarm := false })) w.length ps.length)

/-- SLICE_DELETE (R329): WORD0 names the state of the first plot, else passage, else queue, binding or
program the slice holds. -/
def cmdSliceDelete (r : Req) (s : State) : CmdOut :=
  let n := r.slice
  guarded s [
      ranges [(16, r.z 16)],
      sliceChk s n,
      match s.topo.plot.find? (fun e => e.2.slice == n) with
      | some p => some (0x0301, p.2.st, 0)
      | none => match s.firstPassage n with
        | some p => some (0x0301, p.2.st.code, 0)
        | none => match s.fm.queue.find? (fun e => e.2.slice == n && e.2.st != 0) with
          | some q => some (0x0301, q.2.st, 0)
          | none => chk (!(s.skk.binding.any (fun e => e.1 / 65536 == n)) && !(s.skk.prog.any (fun e => e.1 / 32 == n))) 0x0301 1 0]
    (let keys := (s.topo.owner.filter (fun e => e.2 == n)).map Prod.fst
     let s1 := (keys.foldl (fun s k => s.freePort k) s).orphan 2 (fun p => keys.contains (ownKey p))
     ok { s1 with topo := { s1.topo with slice := s1.topo.slice.del n } } 0 0)

end Sys2Proof.Machine
end

