-- ==== Sys2Proof/Machine/Charts.lean ====
section
/-! DEFINITION. Charts: plotting a declared topology into circuits, committing and releasing plots, and
axolotl spare substitution (02 R42 to R50, R499; 10 R331 to R335). -/

namespace Sys2Proof.Machine

/-! ### The block (R45) -/

/-- What a CHART_LOAD block declares. -/
structure Chart where
  form    : Nat
  dims    : Nat
  role    : Nat
  auto    : Bool
  ext     : List Nat
  members : List Nat
  spares  : List Nat
  /-- END_A, END_B, KIND, SPARE_OK -/
  edges   : List (Nat × Nat × Nat × Nat)

/-- Offset of the edge list. -/
def edgeBase (b : Bytes) : Nat := (32 + le b 10 1 + le b 11 1 + 7) / 8 * 8

/-- Read a block. -/
def chartOf (b : Bytes) : Chart :=
  let m := le b 10 1
  let n := le b 11 1
  { form := le b 0 1, dims := le b 1 1, role := le b 2 1, auto := bit (le b 3 1) 0
    ext := [le b 4 2, le b 6 2, le b 8 2]
    members := (List.range m).map (fun i => byteAt b (32 + i))
    spares := (List.range n).map (fun i => byteAt b (32 + m + i))
    edges := (List.range (le b 12 2)).map (fun i =>
      let o := edgeBase b + 8 * i
      (le b o 2, le b (o + 2) 2, le b (o + 4) 1, le b (o + 5) 1)) }

/-- DIMS a form takes (R42). -/
def dimsOk (form dims : Nat) : Bool :=
  if form == 3 then dims == 1 else if form == 4 then dims == 0 else decide (1 ≤ dims ∧ dims ≤ 3)

/-- Check 1 of R45, in ascending offset. -/
def chartRows (f : Fuse) (b : Bytes) : List (Nat × Bool) :=
  let c := chartOf b
  let m := le b 10 1
  let n := le b 11 1
  let pos := c.members ++ c.spares
  [(0, decide (c.form ≤ 4)), (1, dimsOk c.form c.dims), (2, c.form != 4 || c.role == 0), (3, decide (le b 3 1 < 2)),
   (4, (List.range 3).all (fun i => if i < c.dims then decide (1 ≤ c.ext.getD i 0 ∧ c.ext.getD i 0 ≤ 80) else c.ext.getD i 0 == 0)),
   (10, decide (m ≤ 80) && (m != 0 || c.form == 4)), (11, decide (n ≤ 79)),
   (12, decide (le b 12 2 ≤ 1024) && (c.form == 4 || le b 12 2 == 0)), (14, zeroAt b 14 18)]
  ++ (List.range (m + n)).map (fun i => (32 + i, decide (pos.getD i 0 < 80) && !(pos.take i).contains (pos.getD i 0)))
  ++ (List.range (edgeBase b - (32 + m + n))).map (fun i => (32 + m + n + i, byteAt b (32 + m + n + i) == 0))
  ++ (List.range (le b 12 2)).flatMap (fun i =>
    let o := edgeBase b + 8 * i
    let e := c.edges.getD i (0, 0, 0, 0)
    [(o, refOk f e.1 && refClass e.1 == 0),
     (o + 2, refOk f e.2.1 && (refClass e.2.1 == 0 || refClass e.2.1 == 2)),
     (o + 4, decide (e.2.2.1 ≤ 1)), (o + 5, decide (e.2.2.2 ≤ 1)), (o + 6, zeroAt b (o + 6) 2)])

/-! ### Logical edges (R42, R43) -/

/-- One end of a logical edge: link `l` of the member with list index `k`, a terminated end of that
member's link, or a fixed port. -/
inductive LEnd where
  | link (k l : Nat)
  | term (k l : Nat)
  | port (p : Nat)
deriving DecidableEq, Repr

/-- A logical one-way circuit: its ends, origin, edge or member index, SPARE_OK. -/
structure LCirc where
  src : LEnd
  dst : LEnd
  origin : Nat
  edge : Nat
  spareOk : Bool

/-- Neighbour of member `k` in the + direction of dimension `d`, row-major by dimension 0 first; none on a
mesh's edge. -/
def gridNext (ext : List Nat) (d k : Nat) (wrap : Bool) : Option Nat :=
  let stride := (ext.take d).foldl (· * ·) 1
  let e := ext.getD d 1
  let x := k / stride % e
  if x + 1 < e then some (k + stride)
  else if wrap then some (k - x * stride) else none

/-- A duplex edge as two circuits, with the index of each. -/
def duplex (a b : LEnd) (origin ea eb : Nat) (ok : Bool) : List LCirc := [⟨a, b, origin, ea, ok⟩, ⟨b, a, origin, eb, ok⟩]

/-- Causes 1 and 2 of R72: the extents or the ring do not fit the members. -/
def Chart.sizeFault (c : Chart) : Option Nat :=
  if decide (c.form ≤ 1) && (c.ext.take c.dims).foldl (· * ·) 1 != c.members.length then some 1
  else if c.form == 3 && decide (c.members.length < 3) then some 2
  else none

/-- The logical circuits of a chart: topology edges, terminated links, edge list. The index of a template
circuit is the member's at whose link it starts, or for a terminated link its member's (log entry 28). -/
def Chart.logical (c : Chart) : List LCirc :=
  let ks := List.range c.members.length
  let topo := if c.sizeFault.isSome then [] else match c.form with
    | 3 => ks.flatMap (fun k =>
        let j := (k + 1) % c.members.length
        duplex (.link k 0) (.link j 1) 0 k j true)
    | 4 => []
    | 2 => []
    | _ => ks.flatMap (fun k => (List.range c.dims).flatMap (fun d =>
        match gridNext (c.ext.take c.dims) d k (c.form == 0) with
        | some j => duplex (.link k (2 * d)) (.link j (2 * d + 1)) 0 k j true
        | none => []))
  let term := if c.form == 4 then []
    else ks.flatMap (fun k => (bitsSet 8 c.role).flatMap (fun l => duplex (.link k l) (.term k l) 0 k k true))
  let member := fun (p : Nat) => findIdxFrom (fun a => a == p / 8) c.members 0
  let fixed := fun (p : Nat) => if refClass p == 2 then LEnd.port (refI (refIndex p)) else
    match (if decide (p < 640) then member p else none) with
    | some (k, _) => LEnd.link k (p % 8)
    | none => LEnd.port p
  let edges := (List.range c.edges.length).flatMap (fun i =>
    let e := c.edges.getD i (0, 0, 0, 0)
    if e.2.2.1 == 0 then duplex (fixed e.1) (fixed e.2.1) 1 i i (e.2.2.2 == 1)
    else [⟨fixed e.1, fixed e.2.1, 1, i, e.2.2.2 == 1⟩])
  topo ++ term ++ edges

/-- Links, in ascending order, that some of the circuits use for member `k`. For FORM 4, T(8a + l) named in an edge
is the port of position a, and the link is the one its map gives. -/
def linksIn (s : State) (c : Chart) (cs : List LCirc) (k : Nat) : List Nat :=
  let raw := (cs.flatMap (fun x => [x.src, x.dst])).filterMap (fun e =>
    match e with
    | .link j l => if j == k then some (if c.form == 4 then s.linkOf (8 * c.members.getD k 0 + l) else l) else none
    | _ => none)
  (List.range 8).filter (fun l => raw.contains l)

/-- Links the plot uses for member `k` (R45 check 2, R313), and those of them that follow it to a spare: in FORM 4
only those of edges with SPARE_OK 1 do (R333). -/
def usedLinks (s : State) (c : Chart) (k : Nat) : List Nat := linksIn s c c.logical k
def spareLinks (s : State) (c : Chart) (k : Nat) : List Nat := linksIn s c (c.logical.filter (·.spareOk)) k

/-- Links of every member together: those a listed spare must offer. -/
def allLinks (s : State) (c : Chart) : List Nat :=
  let raw := (List.range c.members.length).flatMap (usedLinks s c)
  (List.range 8).filter (fun l => raw.contains l)

/-! ### Assignment of spares and internal ports (R43, R44, R499) -/

/-- Positions that stand for the members after spares are assigned, spares left, members uncovered, and
members not found. -/
def assignSpares (s : State) (c : Chart) : List Nat × List Nat × Nat × Nat :=
  (List.range c.members.length).foldl (fun (acc : List Nat × List Nat × Nat × Nat) k =>
    let a := c.members.getD k 0
    let ls := spareLinks s c k
    if s.posFound a (usedLinks s c k) then (acc.1 ++ [a], acc.2.1, acc.2.2.1, acc.2.2.2)
    else
      match (if c.auto && ls != [] then acc.2.1.find? (fun p => s.posFound p ls) else none) with
      | some p => (acc.1 ++ [p], acc.2.1.filter (· != p), acc.2.2.1, acc.2.2.2 + 1)
      | none => (acc.1 ++ [a], acc.2.1, acc.2.2.1 + 1, acc.2.2.2 + 1)) ([], c.spares, 0, 0)

/-- Internal ports of the terminated links, by (member, link): I(8k + l) if owned and free, otherwise the
lowest owned free one (R43). -/
def assignInternal (s : State) (slice : Nat) (c : Chart) : List ((Nat × Nat) × Nat) :=
  ((List.range c.members.length).flatMap (fun k => (bitsSet 8 c.role).map (fun l => (k, l)))).foldl
    (fun acc kl =>
      let free := fun (i : Nat) => decide (i < s.fuse.livePorts) && s.owner (refI i) == slice && !(acc.map Prod.snd).contains i
      let want := 8 * kl.1 + kl.2
      if free want then acc ++ [(kl, want)]
      else match (List.range s.fuse.livePorts).find? free with
        | some i => acc ++ [(kl, i)]
        | none => acc) []

/-- The physical port of a logical end. In FORM 4 the edge named a port; its link follows the position where the
edge has SPARE_OK 1. -/
def physEnd (s : State) (c : Chart) (pos : List Nat) (ints : List ((Nat × Nat) × Nat)) (ok : Bool) (e : LEnd) : Option Nat :=
  match e with
  | .port p => some p
  | .term k l => (ints.find? (fun x => x.1 == (k, l))).map (fun x => refI x.2)
  | .link k l =>
    let a := if ok then pos.getD k 0 else c.members.getD k 0
    if c.form == 4 then
      (if a == c.members.getD k 0 then some (8 * a + l)
       else some (s.linkPort a (s.linkOf (8 * c.members.getD k 0 + l))))
    else some (s.linkPort a l)

/-! ### Checks 2 and 3 of R45 -/

/-- Ports named or implied, in order: each member's, each spare's, each edge's (R45 check 2). -/
def impliedPorts (s : State) (c : Chart) : List Nat :=
  (List.range c.members.length).flatMap (fun k => (usedLinks s c k).map (s.linkPort (c.members.getD k 0)))
    ++ c.spares.flatMap (fun p => (allLinks s c).map (s.linkPort p))
    ++ c.edges.flatMap (fun e => [e.1, e.2.1])

/-- A port may be named by a chart of the slice (R45 check 2, R114, R312, R314). -/
def mayName (s : State) (slice p : Nat) : Bool :=
  s.ownerSeen p == slice && !(refClass p == 0 && isH p)
    && (!(refClass p == 0 && isX p) || (s.portFound p && (s.tp p).farSlice == slice))

/-- Faults of the plotted circuits: (member or edge index, cause of R72). -/
def circuitFaults (s : State) : List (LCirc × Option Nat × Option Nat) → List Nat → List (Nat × Nat)
  | [], _ => []
  | (x, a, b) :: t, seen =>
    match a, b with
    | some pa, some pb =>
      let m0 := posOf pa
      let m1 := 1024 + posOf pb
      let linkEnd := fun (e : LEnd) => match e with
        | .link _ _ => true
        | _ => false
      let idx := fun (e : LEnd) => if x.origin == 1 then x.edge else match e with
        | .link k _ => k
        | .term k _ => k
        | .port _ => x.edge
      let used := (if seen.contains m0 then [(idx x.src, if linkEnd x.src then 4 else 5)] else [])
        ++ (if seen.contains m1 then [(idx x.dst, if linkEnd x.dst then 4 else 5)] else [])
      let failed := (if (s.mirror m0).st == .failed then [(idx x.src, 6)] else [])
        ++ (if (s.mirror m1).st == .failed then [(idx x.dst, 6)] else [])
      let ver := if (refClass pa == 0 && refClass pb == 1 && (s.tp pa).admitCause == 3)
          || (refClass pb == 0 && refClass pa == 1 && (s.tp pb).admitCause == 3) then [(x.edge, 7)] else []
      used ++ failed ++ ver ++ circuitFaults s t (m0 :: m1 :: seen)
    | _, _ => (x.edge, 8) :: circuitFaults s t seen

/-- The least fault by index, then by cause. -/
def leastFault : List (Nat × Nat) → Option (Nat × Nat)
  | [] => none
  | f :: t => match leastFault t with
    | none => some f
    | some g => if f.1 < g.1 || (f.1 == g.1 && f.2 ≤ g.2) then some f else some g

/-- Faults of the chart as a whole (R72 causes 1 to 3). -/
def Chart.wholeFault (c : Chart) : Option Nat :=
  let topoMask := match c.form with
    | 0 => 2 ^ (2 * c.dims) - 1
    | 1 => 2 ^ (2 * c.dims) - 1
    | 3 => 3
    | _ => 0
  match c.sizeFault with
  | some k => some k
  | none => if (List.range 8).any (fun l => bit c.role l && bit topoMask l) then some 3 else none

/-- The circuits a chart plots to, with the positions that stand for its members. -/
def Chart.plotted (s : State) (slice : Nat) (c : Chart) : List (LCirc × Option Nat × Option Nat) :=
  let as_ := assignSpares s c
  let ints := assignInternal s slice c
  c.logical.map (fun x => (x, physEnd s c as_.1 ints x.spareOk x.src, physEnd s c as_.1 ints x.spareOk x.dst))

/-- An end of a circuit stands on a spare. -/
def movedEnd (c : Chart) (pos : List Nat) (e : LEnd) : Bool :=
  match e with
  | .link k _ => pos.getD k 0 != c.members.getD k 0
  | .term k _ => pos.getD k 0 != c.members.getD k 0
  | .port _ => false

/-- The mirrors of a list of circuits with their targets. -/
def targets (cs : List Circuit) : List (Nat × Aim) := cs.flatMap (fun c => [(mir0 c, aim0 c), (mir1 c, aim1 c)])

/-- The ACTIVE plot of a slice. -/
def State.activePlot (s : State) (n : Nat) : Option (Nat × Plot) :=
  s.topo.plot.find? (fun e => e.2.slice == n && e.2.st == 3)

/-- Mirrors a commit of `new` over `old` moves, parks among them. -/
def movesOf (old new : List Circuit) : List (Nat × Aim) :=
  let o := targets old
  let n := targets new
  (o.filter (fun x => !(n.any (fun y => y.1 == x.1)))).map (fun x => (x.1, Aim.park))
    ++ n.filter (fun x => !o.contains x)

/-- CHART_LOAD (R45, R46, R499). The plot ID is the lowest free one. -/
def cmdChartLoad (r : Req) (s : State) : CmdOut :=
  let c := chartOf r.params
  let as_ := assignSpares s c
  let pl := c.plotted s r.slice
  let avail := (c.spares.filter (fun p => s.posFound p (allLinks s c))).length
  let n := (s.topo.plot.filter (fun e => e.2.slice == r.slice)).length
  guarded s [
      ranges (chartRows s.fuse r.params),
      sliceChk s r.slice,
      firstPort (impliedPorts s c) (fun p => !mayName s r.slice p) (fun p => (0x0401, p, 0)),
      match c.wholeFault with
      | some k => some (0x0110, 0xFFFF, k)
      | none => none,
      match leastFault (circuitFaults s pl []) with
      | some f => some (0x0110, f.1, f.2)
      | none => none,
      chk (as_.2.2.1 == 0) 0x0202 as_.2.2.2 avail,
      chk (decide (n < 4)) 0x0201 4 (n - 3)]
    (let id := ((List.range 65536).find? (fun i => i != 0 && !s.topo.plot.has i)).getD 0
     let cs : List Circuit := pl.filterMap (fun x => match x.2.1, x.2.2 with
       | some a, some b => some ⟨a, b,
           if x.1.spareOk && (movedEnd c as_.1 x.1.src || movedEnd c as_.1 x.1.dst) then 2 else x.1.origin,
           x.1.edge, x.1.spareOk, false, false, false, false, 0xFFFF⟩
       | _, _ => none)
     let old := match s.activePlot r.slice with
       | some p => p.2.circuits
       | none => []
     let used := (List.range c.members.length).countP (fun k => as_.1.getD k 0 != c.members.getD k 0)
     let p : Plot := ⟨r.slice, 1, c.form, c.role, c.auto, as_.1, as_.2.1, [], [], false, cs⟩
     ok { s with topo := { s.topo with plot := s.topo.plot.put id p } }
       (id + cs.length * 2 ^ 16) ((movesOf old cs).length + used * 2 ^ 32))

/-! ### CHART_QUERY (R118) -/

/-- Insert a circuit by source port. -/
def insertBySrc (c : Circuit) : List Circuit → List Circuit
  | [] => [c]
  | d :: t => if c.src ≤ d.src then c :: d :: t else d :: insertBySrc c t

/-- LOSS of a circuit: a PLOTTED circuit that the slice's ACTIVE plot has made already has that circuit's
measured loss. -/
def State.circuitLoss (s : State) (p : Plot) (c : Circuit) : Nat :=
  match (if p.st == 1 then s.activePlot p.slice else none) with
  | none => c.loss
  | some a => (((a.2.circuits.find? (fun d => d.src == c.src && d.dst == c.dst)).map Circuit.loss).getD c.loss)

/-- CHART_QUERY's 16-byte entry of a circuit. -/
def State.circuitEntry (s : State) (p : Plot) (c : Circuit) : Bytes :=
  leBytes 2 c.src ++ leBytes 2 c.dst ++ leBytes 1 (if p.st == 1 && !c.made then (if s.circuitState c == 2 then 2 else 0) else s.circuitState c)
    ++ leBytes 1 c.origin ++ leBytes 2 c.edge ++ leBytes 2 (s.circuitLoss p c) ++ zeros 6

/-- A plot of the slice. -/
def State.plotOf (s : State) (slice id : Nat) : Option Plot :=
  match s.topo.plot.find id with
  | some p => if p.slice == slice then some p else none
  | none => none

/-- A plot of nothing, for total lookups. -/
def Plot.none_ : Plot := ⟨0, 0, 0, 0, false, [], [], [], [], false, []⟩

/-- CHART_QUERY (R46's table, R118). -/
def cmdChartQuery (r : Req) (s : State) : CmdOut :=
  let id := r.p 16 2
  let p := (s.plotOf r.slice id).getD Plot.none_
  guarded s [
      ranges [(16, decide (1 ≤ id)), (18, decide (r.p 18 2 ≤ 1023)), (20, decide (16 ≤ r.p 20 4 ∧ r.p 20 4 ≤ 16384)),
        (24, r.p 24 8 % 16 == 0), (32, r.z 32)],
      sliceChk s r.slice,
      chk (s.plotOf r.slice id).isSome 0x0302 id 0]
    (let cs := p.circuits.foldl (fun acc c => insertBySrc c acc) []
     let w := (cs.drop (r.p 18 2)).take (r.p 20 4 / 16)
     ok (if w == [] then s else s.emit (.hostWrite (r.p 24 8) (w.flatMap (s.circuitEntry p)))) w.length cs.length)

/-! ### CHART_COMMIT and CHART_RELEASE (R47 to R50) -/

/-- The plot of a slice that is being committed or released. -/
def State.busyPlot (s : State) (n : Nat) : Option (Nat × Plot) :=
  s.topo.plot.find? (fun e => e.2.slice == n && (e.2.st == 2 || e.2.releasing))

/-- The first RUNNING or STALLED passage of a slice (R49). -/
def State.runningPassage (s : State) (n : Nat) : Option (Nat × Passage) :=
  (s.passagesOf n).find? (fun e => e.2.st == .running || e.2.st == .stalled)

/-- T ports of circuits are IN_CIRCUIT from the commit on; a QUARANTINED port keeps its state (R306, R312). -/
def State.enterCircuits (s : State) (cs : List Circuit) : State :=
  { s with topo := { s.topo with tport := s.topo.tport.mapVal (fun t x =>
      if cs.any (fun c => c.src == t || c.dst == t) && x.st == .found then { x with st := .inCircuit } else x) } }

/-- What CHART_COMMIT and CHART_RELEASE judge first; the fields of CHART_QUERY are not judged. -/
def plotCmdChecks (r : Req) (s : State) : List Chk :=
  let id := r.p 16 2
  [ranges [(16, decide (1 ≤ id)), (32, r.z 32)],
   sliceChk s r.slice,
   chk (s.plotOf r.slice id).isSome 0x0302 id 0,
   match s.busyPlot r.slice with
   | some b => some (0x0601, b.1, 0)
   | none => none]

/-- CHART_COMMIT (R47 to R49, R124, R492, R495). -/
def cmdChartCommit (r : Req) (s : State) : CmdOut :=
  let id := r.p 16 2
  let p := (s.plotOf r.slice id).getD Plot.none_
  let old := s.activePlot r.slice
  guarded s (plotCmdChecks r s ++ [
      chk (p.st == 1) 0x0301 p.st 0,
      match old, s.runningPassage r.slice with
      | some _, some e => some (0x0301, e.2.st.code, 0)
      | _, _ => none])
    (let oldCs := match old with
       | some o => o.2.circuits
       | none => []
     let waits := fun (c : Circuit) => s.hvLost || (decide (refClass c.dst = 0) && s.openAt (posOf c.dst))
     let cs := p.circuits.map (fun c =>
       match oldCs.find? (fun d => d.src == c.src && d.dst == c.dst) with
       | some d => { c with made := d.made, failed := d.failed, loss := d.loss, waits := d.waits || waits c }
       | none => { c with waits := waits c })
     let s1 := s.yieldProbes (cs.flatMap (fun c => [c.src, c.dst]))
     let s2 := s1.updPlot id (fun p => { p with st := 2, circuits := cs })
     let s3 := (movesOf oldCs cs).foldl (fun s x => (s.supersede x.1 x.2).aim x.1 x.2) s2
     .wait (s3.enterCircuits cs) (.commit r.slice id))

/-- A circuit counts as failed for the commit's completion (R47). -/
def State.countsFailed (s : State) (c : Circuit) : Bool :=
  s.circuitState c == 4 || (s.circuitState c == 3 && !c.made)

/-- A circuit counts as settled: settled, held after it was made, or waiting (R47). -/
def State.countsSettled (s : State) (c : Circuit) : Bool :=
  s.circuitState c == 2 || c.waits || (s.circuitState c == 3 && c.made)

/-- Completion code and words of a commit (R47, R72). -/
def State.commitResult (s : State) (cs : List Circuit) : Nat × Nat × Nat :=
  let bad := (cs.filter (fun c => !c.superseded && s.countsFailed c)).foldl (fun acc c => insertBySrc c acc) []
  match bad with
  | c :: _ => (0x0501, c.src * 2 ^ 16 + c.dst, bad.length)
  | [] => if cs.any (fun c => !c.superseded && c.waits && s.circuitState c != 2) then (0x0001, 0, 0) else (0, 0, 0)

/-! ### Axolotl substitution (R331 to R335) -/

/-- A circuit end on link l of position a moves to link l of p. -/
def State.moveEnd (s : State) (a p e : Nat) : Nat :=
  if decide (e < 640) && e / 8 == a then s.linkPort p (s.linkOf e) else e

/-- Links the plot uses for position a. -/
def State.plotLinks (s : State) (pl : Plot) (a : Nat) : List Nat :=
  nubNat ((pl.circuits.flatMap (fun c => [c.src, c.dst])).filterMap (fun e =>
    if decide (e < 640) && e / 8 == a then some (s.linkOf e) else none))

/-- Substitute spare p for position a in plot `id` (R333, R335). -/
def State.substitute (s : State) (id a p d0 : Nat) : State :=
  match s.topo.plot.find id with
  | none => s
  | some pl =>
    let moves := fun (c : Circuit) => (c.spareOk || pl.form != 4)
      && (s.moveEnd a p c.src != c.src || s.moveEnd a p c.dst != c.dst)
    let cs := pl.circuits.map (fun c => if moves c then
      { c with src := s.moveEnd a p c.src, dst := s.moveEnd a p c.dst, origin := 2, made := false, failed := false
               waits := s.hvLost, loss := 0xFFFF } else c)
    let s1 := s.updPlot id (fun x => { x with
      circuits := cs
      members := x.members.map (fun m => if m == a then p else m)
      spares := x.spares.filter (· != p)
      lost := x.lost.filter (· != a)
      replaced := x.replaced ++ [a] })
    let s2 := (movesOf pl.circuits cs).foldl (fun s x => (s.supersede x.1 x.2).aim x.1 x.2) s1
    let s3 := (s2.endCircuits pl.circuits (fun t => cs.any (fun c => c.src == t || c.dst == t))).enterCircuits cs
    let s4 := s3.updSlice pl.slice (fun x => { x with
      substitutions := satInc 16 x.substitutions, lastLost := a, lastSpare := p
      lastSubS := d0 / 1000000000, subAlarm := true })
    s4.logAdd sevWarning pl.slice (evNamed 7 "SUBSTITUTION") agentNone [pl.slice, a, p, d0]

/-- At D0: the first listed spare that is unused and found takes the position; with none, one WARNING and
the position is marked LOST (R332). -/
def State.applyLost (s : State) (n a d0 : Nat) : State :=
  match s.activePlot n with
  | none => s
  | some (id, pl) =>
    let ls := s.plotLinks pl a
    if ls == [] || pl.lost.contains a then s
    else
      match (if pl.spareAuto then pl.spares.find? (fun p => s.posFound p ls) else none) with
      | some p =>
        let ms := (pl.circuits.filter (fun c => s.moveEnd a p c.src != c.src || s.moveEnd a p c.dst != c.dst)).flatMap
          (fun c => [posOf (s.moveEnd a p c.src), 1024 + posOf (s.moveEnd a p c.dst)])
        if ms.any (fun m => (s.tfc (tfOf m)).st == 4) then s.updPlot id (fun x => { x with lost := x.lost ++ [a] })
        else s.substitute id a p d0
      | none =>
        (s.updPlot id (fun x => { x with lost := x.lost ++ [a] })).logAdd sevWarning n (evNamed 7 "POSITION_LOST")
          agentNone [n, a]

/-- Positions that were lost while a commit or release ran are judged at its end, ascending (R332, R337). -/
def State.runLost (s : State) (n : Nat) : State :=
  match s.topo.slice.find n with
  | none => s
  | some x =>
    let l := (List.range 80).filterMap (fun a => x.lostWait.find? (fun e => e.1 == a))
    l.foldl (fun s e => s.applyLost n e.1 e.2) (s.updSlice n (fun x => { x with lostWait := [] }))

/-- POSITION_LOST (R331, R332): more than half of a position's links have been lost for 10 ms. -/
def execPositionLost (slice : Fin 64) (a : Fin 80) (s : State) : Host.Outcome State Fault Refusal :=
  .next (match s.activePlot slice with
    | none => s
    | some _ =>
      if (s.busyPlot slice).isSome then s.updSlice slice (fun x => { x with lostWait := x.lostWait ++ [(a.val, s.ns)] })
      else s.applyLost slice a s.ns)

/-- The commit in progress of a slice ends: its plot is ACTIVE, the earlier ACTIVE plot RETIRED, and the
command completes (R47, R50). -/
def State.endCommit (s : State) (n id : Nat) (p : Plot) : State :=
  let res := s.commitResult p.circuits
  let old := s.activePlot n
  let s1 := match old with
    | some o => (({ s with topo := { s.topo with plot := s.topo.plot.del o.1 } }).endCircuits o.2.circuits
        (fun t => p.circuits.any (fun c => c.src == t || c.dst == t)))
    | none => s
  let s2 := s1.updPlot id (fun x => { x with st := 3 })
  (s2.completeWhere (fun w => w == .commit n id) res.1 res.2.1 res.2.2).runLost n

/-- CHART_COMMIT_COMPLETE (R47): every new circuit is settled or has failed. -/
def State.chartCommitComplete (s : State) (slice : Fin 64) : State :=
  (
    match s.topo.plot.find? (fun e => e.2.slice == slice.val && e.2.st == 2) with
    | none => s
    | some (id, p) =>
      if p.circuits.all (fun c => c.superseded || s.countsFailed c || s.countsSettled c)
      then s.endCommit slice id p else s)

/-- Park every mirror of a plot that is being released. -/
def State.releasePlot (s : State) (id : Nat) (p : Plot) : State :=
  let s1 := s.updPlot id (fun x => { x with releasing := true })
  ((targets p.circuits).foldl (fun s x =>
    if (s.mirror x.1).st == .parked then s.updMirror x.1 (fun m => { m with accepted := none, pending := none, goal := .park })
    else s.aim x.1 .park) s1).finishReleases

/-- CHART_RELEASE (R48 to R50): a PLOTTED plot is discarded; the ACTIVE plot's mirrors park, and then its
ID is freed. -/
def cmdChartRelease (r : Req) (s : State) : CmdOut :=
  let id := r.p 16 2
  let p := (s.plotOf r.slice id).getD Plot.none_
  guarded s (plotCmdChecks r s ++ [
      match s.runningPassage r.slice with
      | some e => chk (p.st != 3) 0x0301 e.2.st.code 0
      | none => none])
    (if p.st == 1 then ok { s with topo := { s.topo with plot := s.topo.plot.del id } } 0 0
     else
       let s1 := s.releasePlot id p
       if (s1.topo.plot.has id) then .wait s1 (.release r.slice id) else ok (s1.runLost r.slice) 0 0)

end Sys2Proof.Machine
end

