-- ==== Sys2Proof/Machine/Float.lean ====
section
/-! DEFINITION. Exact arithmetic on the module's number formats: decoding, FP32 operations, rounding and
emission, MX blocks and stochastic bits (07_reduction_arithmetic R218 to R237, R255, R256). A value is
held as the code of FP32; a compensated pair as hi + 2^32 × lo. -/

namespace Sys2Proof.Machine

/-! ### Values -/

/-- A value: NaN, an infinity with its sign, or (−1)^neg × m × 2^e. -/
inductive FV where
  | nan
  | inf (neg : Bool)
  | fin (neg : Bool) (m : Nat) (e : Int)
deriving DecidableEq, Repr

/-- A floating layout of R219: mantissa and exponent widths, bias, whether it has infinities, the largest
finite code and the canonical NaN (0 where it has none). -/
structure FF where
  mb   : Nat
  eb   : Nat
  bias : Nat
  inf  : Bool
  maxC : Nat
  nanC : Nat

/-- Layouts of R219. -/
def ffp32  : FF := ⟨23, 8, 127, true, 0x7F7FFFFF, 0x7FC00000⟩
def ffbf16 : FF := ⟨7, 8, 127, true, 0x7F7F, 0x7FC0⟩
def fffp16 : FF := ⟨10, 5, 15, true, 0x7BFF, 0x7E00⟩
def ffe4m3 : FF := ⟨3, 4, 7, false, 0x7E, 0x7F⟩
def ffe5m2 : FF := ⟨2, 5, 15, true, 0x7B, 0x7E⟩
def ffe3m2 : FF := ⟨2, 3, 3, false, 0x1F, 0⟩
def ffe2m3 : FF := ⟨3, 2, 1, false, 0x1F, 0⟩
def ffe2m1 : FF := ⟨1, 2, 1, false, 0x7, 0⟩
/-- IEEE 754 binary64, in which SCALAR words are computed (R264). -/
def fffp64 : FF := ⟨52, 11, 1023, true, 0x7FEFFFFFFFFFFFFF, 0x7FF8000000000000⟩

/-- Sign bit position of a layout. -/
def FF.sb (f : FF) : Nat := f.mb + f.eb

/-- Decode a code (R219, R220). -/
def FF.decode (f : FF) (c : Nat) : FV :=
  let neg := bit c f.sb
  let e := bits c f.mb f.eb
  let m := bits c 0 f.mb
  if f.inf && e == 2 ^ f.eb - 1 then (if m == 0 then .inf neg else .nan)
  else if f.nanC != 0 && c % 2 ^ f.sb == f.nanC then .nan
  else if e == 0 then .fin neg m (1 - (f.bias : Int) - f.mb)
  else .fin neg (m + 2 ^ f.mb) ((e : Int) - f.bias - f.mb)

/-- The magnitude of `m` × 2^`e` as a code of the layout, rounded by mode 0 nearest even, 1 toward zero,
2 stochastic with `r` (R234), as if the exponent had no upper bound. -/
def FF.roundMag (f : FF) (mode r m : Nat) (e : Int) : Nat :=
  if m == 0 then 0
  else
    let l : Int := (Nat.log2 m : Int) + e
    let q : Int := max l (1 - (f.bias : Int)) - f.mb
    let n :=
      if q ≤ e then m * 2 ^ (e - q).toNat
      else
        let k := (q - e).toNat
        let lo := m / 2 ^ k
        let rem := m % 2 ^ k
        if rem == 0 then lo
        else match mode with
          | 0 => if 2 * rem > 2 ^ k || (2 * rem == 2 ^ k && lo % 2 == 1) then lo + 1 else lo
          | 1 => lo
          | _ => if 2 ^ 32 * rem / 2 ^ k > r then lo + 1 else lo
    ((q + f.mb + f.bias) * 2 ^ f.mb + n - 2 ^ f.mb).toNat

/-- Emission into a layout (R234, R236): the code, whether a finite value became infinite, and whether one
saturated. -/
def FF.emit (f : FF) (mode r : Nat) (x : FV) : Nat × Bool × Bool :=
  match x with
  | .nan => (f.nanC, false, false)
  | .inf neg => (if f.inf then b2n neg * 2 ^ f.sb + f.maxC + 1 else f.nanC, false, false)
  | .fin neg m e =>
    let c := f.roundMag mode r m e
    let s := b2n neg * 2 ^ f.sb
    if c ≤ f.maxC then (s + c, false, false)
    else if f.inf && mode != 1 then (s + f.maxC + 1, true, false)
    else (s + f.maxC, false, true)

/-- Rounded to nearest even in a layout, overflow to infinity. -/
def FF.rne (f : FF) (x : FV) : Nat := (f.emit 0 0 x).1

/-- An FP32 code as a value, and back. -/
def f32 (c : Nat) : FV := ffp32.decode (c % 2 ^ 32)
def to32 (x : FV) : Nat := ffp32.rne x

/-- The canonical NaN of FP32. -/
def nan32 : Nat := 0x7FC00000

/-! ### Exact operations on values -/

/-- Sum of two finite values; an exact zero of unlike signs is +0 (R228). -/
def addFin (n1 : Bool) (m1 : Nat) (e1 : Int) (n2 : Bool) (m2 : Nat) (e2 : Int) : FV :=
  if m1 == 0 && m2 == 0 then .fin (n1 && n2) 0 (min e1 e2)
  else
    let e := min e1 e2
    let a : Int := (m1 * 2 ^ (e1 - e).toNat : Nat) * (if n1 then -1 else 1)
    let b : Int := (m2 * 2 ^ (e2 - e).toNat : Nat) * (if n2 then -1 else 1)
    .fin (decide (a + b < 0)) (a + b).natAbs e

/-- Exact sum with the special values of R228. -/
def FV.add : FV → FV → FV
  | .nan, _ => .nan
  | _, .nan => .nan
  | .inf a, .inf b => if a == b then .inf a else .nan
  | .inf a, _ => .inf a
  | _, .inf b => .inf b
  | .fin n1 m1 e1, .fin n2 m2 e2 => addFin n1 m1 e1 n2 m2 e2

/-- Sign inverted; NaN stays NaN. -/
def FV.neg : FV → FV
  | .nan => .nan
  | .inf a => .inf (!a)
  | .fin n m e => .fin (!n) m e

/-- Exact product; infinity times zero is NaN. -/
def FV.mul : FV → FV → FV
  | .nan, _ => .nan
  | _, .nan => .nan
  | .inf a, .inf b => .inf (a != b)
  | .inf a, .fin n m _ => if m == 0 then .nan else .inf (a != n)
  | .fin n m _, .inf b => if m == 0 then .nan else .inf (n != b)
  | .fin n1 m1 e1, .fin n2 m2 e2 => .fin (n1 != n2) (m1 * m2) (e1 + e2)

/-- Less than; false where either is NaN. -/
def FV.lt : FV → FV → Bool
  | .nan, _ => false
  | _, .nan => false
  | .inf a, .inf b => a && !b
  | .inf a, _ => a
  | _, .inf b => !b
  | .fin n1 m1 e1, .fin n2 m2 e2 =>
    match addFin n1 m1 e1 (!n2) m2 e2 with
    | .fin n m _ => n && m != 0
    | _ => false

/-- Equal as numbers; zeros of either sign are equal. -/
def FV.eqv (a b : FV) : Bool := a != .nan && b != .nan && !a.lt b && !b.lt a

/-- A finite value. -/
def FV.isFin : FV → Bool
  | .fin _ _ _ => true
  | _ => false

/-! ### FP32 operations, each rounded once to nearest even (R227, R256) -/

def fadd (a b : Nat) : Nat := to32 ((f32 a).add (f32 b))
def fsub (a b : Nat) : Nat := to32 ((f32 a).add (f32 b).neg)
def fmul (a b : Nat) : Nat := to32 ((f32 a).mul (f32 b))
/-- a × b + c. -/
def ffma (a b c : Nat) : Nat := to32 (((f32 a).mul (f32 b)).add (f32 c))
/-- −(a × b) + c. -/
def ffnma (a b c : Nat) : Nat := to32 (((f32 a).mul (f32 b)).neg.add (f32 c))
/-- Sign inverted; NaN is canonical. -/
def fneg (a : Nat) : Nat := to32 (f32 a).neg
/-- Sign cleared; NaN is canonical. -/
def fabs (a : Nat) : Nat :=
  match f32 a with
  | .nan => nan32
  | .inf _ => to32 (.inf false)
  | .fin _ m e => to32 (.fin false m e)

/-- The larger value; NaN with any NaN; +0 over −0 (R228). -/
def fmax (a b : Nat) : Nat :=
  match f32 a, f32 b with
  | .nan, _ => nan32
  | _, .nan => nan32
  | x, y => if x.lt y then to32 y else if y.lt x then to32 x
      else if bit a 31 then to32 y else to32 x

/-- The smaller value; NaN with any NaN; −0 under +0 (R228). -/
def fmin (a b : Nat) : Nat :=
  match f32 a, f32 b with
  | .nan, _ => nan32
  | _, .nan => nan32
  | x, y => if x.lt y then to32 x else if y.lt x then to32 y
      else if bit a 31 then to32 x else to32 y

/-- Integer square root by bits, from bit `k` down. -/
def isqrtFrom : Nat → Nat → Nat → Nat
  | 0, _, r => r
  | k + 1, n, r =>
    let t := r + 2 ^ k
    isqrtFrom k n (if t * t ≤ n then t else r)

/-- Integer square root. -/
def isqrt (n : Nat) : Nat := isqrtFrom (Nat.log2 n / 2 + 1) n 0

/-- A result within 1 ulp: an inexact one takes either neighbour, an exact one may miss by one, as the
free choice `k` says (R256). The code is the magnitude toward zero. -/
def within1 (lo : Nat) (exact : Bool) (k : Nat) : Nat :=
  if exact then (match k % 4 with
    | 1 => lo - 1
    | 2 => lo + 1
    | _ => lo)
  else lo + k % 2

/-- 1 / a (R256). -/
def frcp (a : Nat) : Nat :=
  match f32 a with
  | .nan => nan32
  | .inf n => b2n n * 2 ^ 31
  | .fin n m e =>
    if m == 0 then b2n n * 2 ^ 31 + 0x7F800000
    else
      let q := 2 ^ 64 / m
      let exact := decide (2 ^ 64 % m = 0)
      let lo := ffp32.roundMag 1 0 (2 * q + b2n (!exact)) (-65 - e)
      let exact := exact && (f32 lo).eqv (.fin false q (-64 - e))
      let c := within1 lo exact (Config.ulpPick 0 (BitVec.ofNat 32 a)).toNat
      b2n n * 2 ^ 31 + min c 0x7F800000

/-- 1 / √a (R256). -/
def frsq (a : Nat) : Nat :=
  match f32 a with
  | .nan => nan32
  | .inf n => if n then nan32 else 0
  | .fin n m e =>
    if m == 0 then b2n n * 2 ^ 31 + 0x7F800000
    else if n then nan32
    else
      let odd := decide (e % 2 = 1)
      let m := if odd then 2 * m else m
      let e := if odd then e - 1 else e
      let d := 2 ^ 128 / m
      let q := isqrt d
      let exact := decide (q * q * m = 2 ^ 128)
      let lo := ffp32.roundMag 1 0 (2 * q + b2n (!exact)) (-65 - e / 2)
      let exact := exact && (f32 lo).eqv (.fin false q (-64 - e / 2))
      within1 lo exact (Config.ulpPick 1 (BitVec.ofNat 32 a)).toNat

/-- 2^a and log2 a: the special values of R256; otherwise a free value within the bound of 2 ulp, which
the model leaves unconstrained. -/
def fexp2 (a : Nat) : Nat :=
  match f32 a with
  | .nan => nan32
  | .inf n => if n then 0 else 0x7F800000
  | x =>
    if !x.lt (.fin false 128 0) then 0x7F800000
    else if x.lt (.fin true 150 0) then 0
    else (Config.exp2Val (BitVec.ofNat 32 a)).toNat % 2 ^ 31

def flog2 (a : Nat) : Nat :=
  match f32 a with
  | .nan => nan32
  | .inf n => if n then nan32 else 0x7F800000
  | .fin n m _ =>
    if m == 0 then 0xFF800000
    else if n then nan32
    else (Config.log2Val (BitVec.ofNat 32 a)).toNat

/-! ### Formats (R218, R222) -/

/-- The layout of a floating element format; MX formats give their element's, MXINT8 none. -/
def layout (c : Nat) : Option FF :=
  match c with
  | 0x01 => some ffp32
  | 0x02 => some ffbf16
  | 0x03 => some fffp16
  | 0x04 => some ffe4m3
  | 0x05 => some ffe5m2
  | 0x10 => some ffe4m3
  | 0x11 => some ffe5m2
  | 0x12 => some ffe3m2
  | 0x13 => some ffe2m3
  | 0x14 => some ffe2m1
  | _ => none

/-- emax of an MX format (R237). -/
def mxEmax (c : Nat) : Int :=
  match c with
  | 0x10 => 8
  | 0x11 => 15
  | 0x12 => 4
  | 0x13 => 2
  | 0x14 => 2
  | _ => 0

/-- The value of an MX element under its scale byte (R221, R222). -/
def mxValue (c scale code : Nat) : FV :=
  if scale == 255 then .nan
  else
    let k : Int := (scale : Int) - 127
    match layout c with
    | some f => (match f.decode code with
      | .fin n m e => .fin n m (e + k)
      | x => x)
    | none =>
      let v := ofTwos 8 (code % 256)
      .fin (decide (v < 0)) v.natAbs (k - 6)

/-- A stored or sent element decoded to FP32, exactly (R227). An MX value beyond FP32's range is a free
value. INT32 and INT8 decode to the 32 bits of INT32. FP32X2 decodes to the pair itself. -/
def decodeElem (c scale code : Nat) : Nat :=
  match c with
  | 0x01 => (match f32 code with
    | .nan => nan32
    | _ => code % 2 ^ 32)
  | 0x08 => code % 2 ^ 64
  | 0x20 => toTwos 32 (ofTwos 8 (code % 256))
  | 0x21 => code % 2 ^ 32
  | _ =>
    if (fmt c).mx then
      (match mxValue c scale code with
       | .fin n m e => if ffp32.roundMag 1 0 m e ≤ ffp32.maxC then to32 (.fin n m e)
           else (Config.mxWide (BitVec.ofNat 8 scale) (BitVec.ofNat 8 code)).toNat
       | x => to32 x)
    else match layout c with
      | some f => to32 (f.decode code)
      | none => 0

/-- The exact value of an accumulator or buffer element: hi + lo of a pair. -/
def pairVal (v : Nat) : FV :=
  match f32 v with
  | .fin n m e => (match f32 (v / 2 ^ 32) with
    | .fin n2 m2 e2 => if m2 == 0 then .fin n m e else addFin n m e n2 m2 e2
    | _ => .fin n m e)
  | x => x

/-! ### Stochastic rounding bits (R235, R255) -/

/-- The mixing function. -/
def mix (z : Nat) : Nat :=
  let z := xor64 z (z / 2 ^ 30) * 0xBF58476D1CE4E5B9 % 2 ^ 64
  let z := xor64 z (z / 2 ^ 27) * 0x94D049BB133111EB % 2 ^ 64
  xor64 z (z / 2 ^ 31)

/-- sr_bits(seed, iteration, element). -/
def srBits (seed iter elem : Nat) : Nat :=
  mix (xor64 (seed % 2 ^ 64) (mix (xor64 (iter % 2 ^ 64) (mix (elem % 2 ^ 64))))) / 2 ^ 32

/-- Seed with a salt in its top byte. -/
def salted (seed salt : Nat) : Nat := xor64 seed (salt * 2 ^ 56)

/-- Seed of a passage (R235). -/
def passageSeed (digest tensor pid : Nat) : Nat := digest * 2 ^ 32 + tensor * 2 ^ 16 + pid

/-! ### Emission (R233 to R237) -/

/-- What an emission counts: infinities and saturations. -/
structure EmitCnt where
  inf : Nat
  sat : Nat

/-- Emit one value into a format without shared scale: code, infinity made, saturated. `wrap` for
ISUM_WRAP (R236). A compensated pair emitted to FP32X2 is copied. -/
def emitOne (c mode r : Nat) (wrap : Bool) (v : Nat) (pair : Bool) : Nat × Bool × Bool :=
  match c with
  | 0x08 => (if pair then v else v % 2 ^ 32, false, false)
  | 0x21 => (v % 2 ^ 32, false, false)
  | 0x20 =>
    let x := ofTwos 32 (v % 2 ^ 32)
    if wrap then (v % 256, false, false)
    else if decide (-128 ≤ x) && decide (x ≤ 127) then (toTwos 8 x, false, false)
    else (toTwos 8 (satSigned 8 x), false, true)
  | _ => match layout c with
    | some f => f.emit mode r (if pair then pairVal v else f32 v)
    | none => (0, false, false)

/-- Largest binary exponent of the finite non-zero values of a block, if any. -/
def maxExp : List FV → Option Int
  | [] => none
  | .fin _ m e :: t =>
    if m == 0 then maxExp t
    else
      let l : Int := (Nat.log2 m : Int) + e
      match maxExp t with
      | some k => some (max l k)
      | none => some l
  | _ :: t => maxExp t

/-- The scale byte of an MX block over the values in range (R237). -/
def mxScale (c : Nat) (xs : List FV) : Nat :=
  if xs.any (fun x => !x.isFin) then 255
  else match maxExp xs with
    | none => 0
    | some l => (max (-127) (min 127 (l - mxEmax c)) + 127).toNat

/-- One element of an MX block under its scale: the saturated, rounded code (R237). -/
def mxElem (c mode r scale : Nat) (x : FV) : Nat :=
  match x with
  | .fin n m e =>
    let e := e - ((scale : Int) - 127)
    (match layout c with
     | some f => b2n n * 2 ^ f.sb + min (f.roundMag mode r m e) f.maxC
     | none =>
       let e := e + 6
       let v := if 0 ≤ e then m * 2 ^ e.toNat
         else
           let k := (-e).toNat
           let lo := m / 2 ^ k
           let rem := m % 2 ^ k
           if rem == 0 then lo
           else match mode with
             | 0 => if 2 * rem > 2 ^ k || (2 * rem == 2 ^ k && lo % 2 == 1) then lo + 1 else lo
             | 1 => lo
             | _ => if 2 ^ 32 * rem / 2 ^ k > r then lo + 1 else lo
       let v := min v 127
       toTwos 8 (if n then -(v : Int) else v))
  | _ => 0

/-- Emit up to 32 values of one block, each with its stochastic bits: the scale (127 for a format without
one), the codes and the counts. An entry that is none lies outside the range: 0. -/
def emitBlock (c mode : Nat) (wrap pair : Bool) (vs : List (Option Nat × Nat)) : Nat × List Nat × EmitCnt :=
  if (fmt c).mx then
    let val := fun (v : Nat) => if pair then pairVal v else f32 v
    let sc := mxScale c (vs.filterMap (fun x => x.1.map val))
    (sc, vs.map (fun x => match x.1 with
      | some v => if sc == 255 then 0 else mxElem c mode x.2 sc (val v)
      | none => 0), ⟨0, 0⟩)
  else
    let rs := vs.map (fun x => match x.1 with
      | some v => emitOne c mode x.2 wrap v pair
      | none => (0, false, false))
    (127, rs.map Prod.fst, ⟨rs.countP (fun x => x.2.1), rs.countP (fun x => x.2.2)⟩)

/-! ### Combining (R225 to R230) -/

/-- Two-sum of one arrival into a pair (R230). -/
def twoSum (p b : Nat) : Nat :=
  let hi := p % 2 ^ 32
  let lo := p / 2 ^ 32
  let s := fadd hi b
  if !(f32 s).isFin then s
  else
    let bp := fsub s hi
    let err := fadd (fsub hi (fsub s bp)) (fsub b bp)
    s + fadd lo err * 2 ^ 32

/-- INT32 operations of R225: MAX, MIN, ISUM_WRAP, ISUM_SAT. -/
def icombine (op a b : Nat) : Nat :=
  let x := ofTwos 32 a
  let y := ofTwos 32 b
  match op with
  | 2 => toTwos 32 (max x y)
  | 3 => toTwos 32 (min x y)
  | 6 => toTwos 32 (satSigned 32 (x + y))
  | _ => (a + b) % 2 ^ 32

/-- A built-in operator on an accumulator and an arrival: float where `int` is false; SUM and AVG add
(R225), compensated ones by two-sum. -/
def combine (op : Nat) (int comp : Bool) (acc arr : Nat) : Nat :=
  if int then icombine op acc arr
  else match op with
    | 2 => fmax acc arr
    | 3 => fmin acc arr
    | _ => if comp then twoSum acc arr else fadd acc arr

/-- 1/count rounded to nearest even in FP32 (R229). -/
def recipCount (n : Nat) : Nat :=
  if n == 0 then 0
  else
    let q := 2 ^ 64 / n
    to32 (.fin false (2 * q + b2n (decide (2 ^ 64 % n ≠ 0))) (-65))

/-- AVG's scaling of a completed sum (R229); a pair is scaled to one FP32 value in hi. -/
def avgScale (comp : Bool) (n v : Nat) : Nat :=
  let c := f32 (recipCount n)
  to32 ((if comp then pairVal v else f32 v).mul c)

end Sys2Proof.Machine
end

