-- ==== Sys2Proof/Machine/Skink.lean ====
section
/-! DEFINITION. Skink programs: their encoding, the checks of PROG_LOAD, the interpreter over an issue
group of 32 lanes (one block of the tensor), and the built-in optimizer recipes (08 R249 to R268). -/

namespace Sys2Proof.Machine

/-! ### Instruction words (R253, R254) -/

/-- Fields of an instruction word. -/
def iOpc (w : Nat) : Nat := bits w 26 6
def iFn (w : Nat) : Bool := bit w 25
def iFl (w : Nat) : Nat := bits w 22 3
def iD (w : Nat) : Nat := bits w 16 6
def iA (w : Nat) : Nat := bits w 10 6
def iB (w : Nat) : Nat := bits w 4 6
def iX (w : Nat) : Nat := bits w 0 4

/-- Check 1 of R258 on one instruction. -/
def instrOk (w : Nat) : Bool :=
  let d := iD w
  let a := iA w
  let b := iB w
  let x := iX w
  let flagOk := !(iFl w == 0 && iFn w)
  flagOk && match iOpc w with
  | 0x00 => d == 0 && a == 0 && b == 0 && x == 0
  | 0x01 => decide (a < 16) && (if a == 13 then true else if a == 14 then decide (b < 16) else b == 0) && x == 0
  | 0x02 => decide (d < 16) && b == 0
  | 0x08 => b == 0 && x == 0
  | 0x09 => x == 0
  | 0x0A => x == 0
  | 0x0B => x == 0
  | 0x0C => x == 0
  | 0x0D => x == 0
  | 0x0E => x == 0
  | 0x0F => x == 0
  | 0x10 => b == 0 && x == 0
  | 0x11 => b == 0 && x == 0
  | 0x14 => decide (1 ≤ d ∧ d ≤ 7) && decide (x < 8)
  | 0x15 => decide (x < 8)
  | 0x16 => decide (d < 8) && decide (a < 8) && decide (b < 8) && x == 0
  | 0x17 => decide (d < 8) && decide (a < 8) && decide (b < 8) && x == 0
  | 0x18 => decide (d < 8) && decide (a < 8) && b == 0 && x == 0
  | 0x20 => b == 0 && x == 0
  | 0x21 => b == 0 && x == 0
  | 0x22 => b == 0 && x == 0
  | 0x23 => b == 0 && x == 0
  | 0x28 => decide (2 ≤ b ∧ b ≤ 5)
  | 0x29 => decide (b ≤ 22)
  | 0x2A => decide (0x10 ≤ b ∧ b ≤ 0x15)
  | 0x2B => decide (0x10 ≤ b ∧ b ≤ 0x15) && x == 0
  | _ => false

/-- Issue cycles of one instruction (R252); a store counts 1, as no stream format is known at loading. -/
def instrCycles (w : Nat) : Nat :=
  if [0x20, 0x21, 0x22, 0x23, 0x2A, 0x2B].contains (iOpc w) then 2 else 1

/-- Slots a kind may load and store (R251). -/
def mayLoad (kind slot : Nat) : Bool :=
  match kind with
  | 0 => slot == 0 || slot == 1 || decide (3 ≤ slot)
  | 1 => slot == 0 || decide (3 ≤ slot)
  | _ => slot == 0 || decide (3 ≤ slot ∧ slot ≤ 5) || slot == 13 || slot == 14

def mayStore (kind slot : Nat) : Bool :=
  match kind with
  | 0 => slot == 0
  | 1 => decide (2 ≤ slot ∧ slot ≤ 12)
  | _ => decide (2 ≤ slot ∧ slot ≤ 5)

/-- The slot whose one store a kind must hold. -/
def resultSlot (kind : Nat) : Nat := if kind == 0 then 0 else 2

/-- Check 2 of R258 from instruction `i` on: the index of the first instruction that fails, given the
slots stored before it. -/
def streamFault (kind : Nat) (ts : List Nat) : List Nat → Nat → List Nat → Option Nat
  | [], _, _ => none
  | w :: t, i, stored =>
    let bound := fun (slot : Nat) => kind == 2 || !decide (3 ≤ slot ∧ slot ≤ 12) || ts.getD (slot - 3) 0xFF != 0xFF
    match iOpc w with
    | 0x01 => if mayLoad kind (iA w) && !stored.contains (iA w) && bound (iA w)
        then streamFault kind ts t (i + 1) stored else some i
    | 0x02 =>
      let slot := iD w
      if mayStore kind slot && !stored.contains slot && bound slot
          && (slot != resultSlot kind || (iFl w == 0 && !iFn w))
        then streamFault kind ts t (i + 1) (slot :: stored) else some i
    | _ => streamFault kind ts t (i + 1) stored

/-! ### The interpreter (R250 to R256) -/

/-- One lane: registers, flags F0 to F7 as a mask, and what it has stored by slot: value, mode, salt. -/
structure Lane where
  on : Bool
  v  : Tbl Nat
  f  : Nat
  st : Tbl (Nat × Nat × Nat)

/-- A lane at the start of an issue group (R250). -/
def Lane.start (on : Bool) : Lane := ⟨on, [], b2n on, []⟩

/-- A register; +0 until written. -/
def Lane.reg (l : Lane) (n : Nat) : Nat := l.v.get n 0

/-- What an issue group is run in: loads by lane, slot and index; stochastic bits by lane and salt; the
rounding of the context. -/
structure Env where
  ld   : Nat → Nat → Nat → Nat
  sr   : Nat → Nat → Nat
  mode : Nat

/-- Whether a lane executes an instruction (R253). -/
def Lane.runs (l : Lane) (w : Nat) : Bool := l.on && (bit l.f (iFl w) != iFn w)

/-- CMP conditions (R255). -/
def cmpOk (cond a b : Nat) : Bool :=
  let x := f32 a
  let y := f32 b
  let un := x == .nan || y == .nan
  match cond with
  | 0 => x.eqv y
  | 1 => un || !x.eqv y
  | 2 => x.lt y
  | 3 => x.lt y || x.eqv y
  | 4 => y.lt x
  | 5 => y.lt x || x.eqv y
  | 6 => un
  | _ => !un

/-- Effective rounding mode of an X field. -/
def Env.modeOf (e : Env) (x : Nat) : Nat := if x % 4 == 3 then e.mode else x % 4

/-- SRND (R255): mantissa rounded stochastically to `b` bits by adding r scaled to the discarded bits. -/
def srnd (a b r : Nat) : Nat :=
  if (f32 a).isFin then
    let d := 23 - b
    (a % 2 ^ 32 + r / 2 ^ (32 - d)) / 2 ^ d * 2 ^ d
  else to32 (f32 a)

/-- The value one instruction gives a lane's destination register, but for LD, ST, flags and MX. -/
def aluVal (e : Env) (k : Nat) (l : Lane) (w : Nat) : Option Nat :=
  let a := l.reg (iA w)
  let b := l.reg (iB w)
  match iOpc w with
  | 0x01 => some (e.ld k (iA w) (iB w))
  | 0x08 => some a
  | 0x09 => some (fadd a b)
  | 0x0A => some (fsub a b)
  | 0x0B => some (fmul a b)
  | 0x0C => some (ffma a b (l.reg (iD w)))
  | 0x0D => some (ffnma a b (l.reg (iD w)))
  | 0x0E => some (fmin a b)
  | 0x0F => some (fmax a b)
  | 0x10 => some (fabs a)
  | 0x11 => some (fneg a)
  | 0x15 => some (if bit l.f (iX w % 8) then a else b)
  | 0x20 => some (frcp a)
  | 0x21 => some (frsq a)
  | 0x22 => some (fexp2 a)
  | 0x23 => some (flog2 a)
  | 0x28 => some (match layout (iB w) with
      | some f => to32 (f.decode (f.emit (e.modeOf (iX w)) (e.sr k (iX w / 4)) (f32 a)).1)
      | none => a)
  | 0x29 => some (srnd a (iB w) (e.sr k (iX w)))
  | _ => none

/-- A new value of flag `d`; F0 stays 1. -/
def Lane.setFlag (l : Lane) (d : Nat) (b : Bool) : Lane :=
  if d == 0 then l else { l with f := if b then setBit l.f d else clrBit l.f d }

/-- One instruction on one lane, but for MXPK and MXSC. -/
def laneStep (e : Env) (k : Nat) (l : Lane) (w : Nat) : Lane :=
  if !l.runs w then l
  else match iOpc w with
  | 0x02 => { l with st := l.st.put (iD w) (l.reg (iA w), iX w % 4, iX w / 4) }
  | 0x14 => l.setFlag (iD w % 8) (cmpOk (iX w % 8) (l.reg (iA w)) (l.reg (iB w)))
  | 0x16 => l.setFlag (iD w % 8) (bit l.f (iA w % 8) && bit l.f (iB w % 8))
  | 0x17 => l.setFlag (iD w % 8) (bit l.f (iA w % 8) || bit l.f (iB w % 8))
  | 0x18 => l.setFlag (iD w % 8) (!bit l.f (iA w % 8))
  | _ => match aluVal e k l w with
    | some v => { l with v := l.v.put (iD w) v }
    | none => l

/-- Lanes with their numbers. -/
def numbered {α : Type} : List α → Nat → List (Nat × α)
  | [], _ => []
  | x :: t, k => (k, x) :: numbered t (k + 1)

/-- One instruction on the 32 lanes of a block; MXPK and MXSC work over the lanes that execute (R254). -/
def groupStep (e : Env) (ls : List Lane) (w : Nat) : List Lane :=
  let nl := numbered ls 0
  if iOpc w == 0x2A || iOpc w == 0x2B then
    let sc := mxScale (iB w) ((ls.filter (fun l => l.runs w)).map (fun l => f32 (l.reg (iA w))))
    nl.map (fun kl =>
      if !kl.2.runs w then kl.2
      else
        let v := if iOpc w == 0x2B then (if sc == 255 then nan32 else to32 (.fin false 1 ((sc : Int) - 127)))
          else if sc == 255 then nan32
          else decodeElem (iB w) sc
            (mxElem (iB w) (e.modeOf (iX w)) (e.sr kl.1 (iX w / 4)) sc (f32 (kl.2.reg (iA w))))
        { kl.2 with v := kl.2.v.put (iD w) v })
  else nl.map (fun kl => laneStep e kl.1 kl.2 w)

/-- A program over a block: `on` says which lanes hold an element. -/
def runProg (e : Env) (instrs : List Nat) (on : List Bool) : List Lane :=
  instrs.foldl (groupStep e) (on.map Lane.start)

/-- What a lane stored in a slot, if it did. -/
def Lane.stored (l : Lane) (slot : Nat) : Option (Nat × Nat × Nat) := l.st.find slot

/-! ### SCALAR words (R264) -/

/-- A value rounded to FP64. -/
def r64 (x : FV) : FV := fffp64.decode (fffp64.rne x)

/-- 1 less a value, in FP64. -/
def oneLess (x : FV) : FV := r64 ((FV.fin false 1 0).add x.neg)

/-- The SCALAR words of an optimizer leg at step number `t`. -/
def scalarWords (b : Binding) (t : Nat) : List Nat :=
  let corr := b.recipe == 2 || b.recipe == 0x10
  let bw := fun (n x : Nat) => (Config.biasWord n (BitVec.ofNat 32 x) (BitVec.ofNat 32 b.b1) (BitVec.ofNat 32 b.b2) t).toNat
  let c2 := oneLess (f32 b.b2)
  let g := f32 b.gs
  [b.lr, b.b1, b.b2, b.eps, b.wd, b.gs, to32 (r64 (.fin false t 0)),
   if corr then bw 7 b.lr else b.lr,
   if corr then bw 8 b.eps else b.eps,
   to32 (oneLess (r64 ((f32 b.lr).mul (f32 b.wd)))),
   to32 (r64 ((oneLess (f32 b.b1)).mul g)),
   to32 (r64 (c2.mul g)),
   to32 (r64 (c2.mul (r64 (g.mul g)))),
   if b.b2 == 0 then 0x3F800000 else bw 13 0,
   to32 (oneLess (f32 b.b1)), 0]

/-! ### Built-in recipes (R265 to R267) -/

/-- State of one parameter: master weight and moments, as FP32. -/
structure Par where
  w : Nat
  m : Nat
  v : Nat

/-- Zero of either sign, or below, or above: for `c > 0` and `c < 0`. -/
def gt0 (a : Nat) : Bool := (FV.fin false 0 0).lt (f32 a)
def lt0 (a : Nat) : Bool := (f32 a).lt (.fin false 0 0)

/-- SGD_MOMENTUM, ADAMW and LION on one parameter: the new state and OUT. -/
def recipeStep (recipe : Nat) (split : Bool) (k : List Nat) (p : Par) (g : Nat) : Par × Nat :=
  let kk := fun (n : Nat) => k.getD n 0
  match recipe with
  | 1 =>
    let m := ffma (kk 5) g (fmul (kk 1) p.m)
    let w := ffma (fneg (kk 7)) m (fmul p.w (kk 9))
    (⟨if split then p.w else w, m, p.v⟩, if split then fmul (kk 7) m else w)
  | 3 =>
    let c := ffma (kk 10) g (fmul (kk 1) p.m)
    let u := if gt0 c then 0x3F800000 else if lt0 c then 0xBF800000 else 0
    let w := ffma (fneg (kk 7)) u (fmul p.w (kk 9))
    let m := ffma (kk 11) g (fmul (kk 2) p.m)
    (⟨if split then p.w else w, m, p.v⟩, if split then fmul (kk 7) u else w)
  | _ =>
    let m := ffma (kk 10) g (fmul (kk 1) p.m)
    let v := ffma (kk 12) (fmul g g) (fmul (kk 2) p.v)
    let q := if gt0 v then fmul v (frsq v) else 0
    let d := frcp (fadd q (kk 8))
    let w := ffma (fneg (kk 7)) (fmul m d) (fmul p.w (kk 9))
    (⟨if split then p.w else w, m, v⟩, if split then fmul (kk 7) (fmul m d) else w)

/-- γg is NaN or infinite: the element is skipped (R267). -/
def skips (gs g : Nat) : Bool := !(f32 (fmul gs g)).isFin

/-- A quotient of values rounded once to nearest even in FP32, the divisor not zero. -/
def divVal (x y : FV) : Nat :=
  match x, y with
  | .fin n1 m1 e1, .fin n2 m2 e2 =>
    if m2 == 0 then (if m1 == 0 then nan32 else to32 (.inf (n1 != n2)))
    else
      let q := m1 * 2 ^ 128 / m2
      let sticky := b2n (decide (m1 * 2 ^ 128 % m2 ≠ 0))
      to32 (.fin (n1 != n2) (2 * q + sticky) (e1 - e2 - 129))
  | .nan, _ => nan32
  | _, .nan => nan32
  | .inf _, .inf _ => nan32
  | .inf a, .fin n _ _ => to32 (.inf (a != n))
  | .fin n _ _, .inf a => b2n (n != a) * 2 ^ 31

/-- Mean of a compensated sum over `n` values. -/
def meanOf (sum n : Nat) : Nat := divVal (pairVal sum) (.fin false n 0)

/-! ### Loading programs (R257 to R260) -/

/-- The slot a passage's operator names, if it names a program. -/
def Passage.progSlot (p : Passage) : Option Nat :=
  let op := p.operator % 64
  if decide (0x20 ≤ op) then some (op - 0x20) else none

/-- A program of a slice. -/
def State.progOf (s : State) (slice slot : Nat) : Option Prog := s.skk.prog.find (32 * slice + slot)

/-- The program a passage's operator names. -/
def State.opProg (s : State) (slice : Nat) (p : Passage) : Option Prog :=
  match p.progSlot with
  | some n => s.progOf slice n
  | none => none

/-- A loaded passage or a binding names the slot (R258, R260). -/
def State.slotUsed (s : State) (slice slot : Nat) : Bool :=
  (s.passagesOf slice).any (fun e => e.2.progSlot == some slot)
    || s.skk.binding.any (fun e => e.1 / 65536 == slice && e.2.recipe == 0x10 && e.2.slot == slot)

/-- The program of a PROG_LOAD block. -/
def progOfBlock (b : Bytes) : Prog :=
  ⟨le b 1 1, (List.range 10).map (fun i => le b (8 + i) 1), (List.range 16).map (fun i => le b (32 + 4 * i) 4),
   (List.range 64).map (fun i => le b (96 + 4 * i) 4), (List.range (le b 4 2)).map (fun i => le b (352 + 4 * i) 4)⟩

/-- Check 1 of R258. -/
def progRows (b : Bytes) : List (Nat × Bool) :=
  let p := progOfBlock b
  let only := bit (byteAt b 2) 0
  [(0, decide (byteAt b 0 < 32)), (1, decide (p.kind ≤ 2)), (2, decide (byteAt b 2 < 2)), (3, zeroAt b 3 1),
   (4, if only then le b 4 2 == 0 else decide (1 ≤ le b 4 2 ∧ le b 4 2 ≤ 512)), (6, zeroAt b 6 2)]
  ++ (List.range 10).map (fun i => (8 + i, let t := p.tsBuf.getD i 0
      t == 0xFF || (decide (t < 64) && p.kind != 2 && !only)))
  ++ [(18, zeroAt b 18 14)]
  ++ (List.range 16).map (fun i => (32 + 4 * i, if p.kind == 2 then p.scalars.getD i 0 == 0
      else f32 (p.scalars.getD i 0) != .nan))
  ++ (List.range 64).map (fun i => (96 + 4 * i, !only || p.consts.getD i 0 == 0))
  ++ (numbered p.instrs 0).map (fun kw => (352 + 4 * kw.1, instrOk kw.2))

/-- Check 2 of R258. A program without its one store has no failing instruction: WORD0 is a free value. -/
def progStreams (b : Bytes) : Chk :=
  let p := progOfBlock b
  if bit (byteAt b 2) 0 then none
  else match streamFault p.kind p.tsBuf p.instrs 0 [] with
  | some i => some (0x0101, 352 + 4 * i, 0)
  | none => chk (p.instrs.any (fun w => iOpc w == 2 && iD w == resultSlot p.kind)) 0x0101
      Config.missingStore.toNat 0

/-- PROG_LOAD (R257 to R259). -/
def cmdProgLoad (r : Req) (s : State) : CmdOut :=
  let b := r.params
  let slot := byteAt b 0 % 32
  let only := bit (byteAt b 2) 0
  let p := progOfBlock b
  let old := s.progOf r.slice slot
  guarded s [
      ranges (progRows b), sliceChk s r.slice, progStreams b,
      chk (only || old.isNone) 0x0301 (if s.slotUsed r.slice slot then 2 else 1) 0,
      chk (!only || (match old with
        | some q => decide (q.kind ≤ 1)
        | none => false)) 0x0302 slot 0,
      chk (only || decide (s.skk.prog.length < 1024)) 0x0201 10 1]
    (let q := match old with
       | some q => { q with scalars := p.scalars }
       | none => p
     let s1 := { s with skk := { s.skk with prog := s.skk.prog.put (32 * r.slice + slot) q } }
     -- passages not RUNNING or STALLED take the new words at once (R259)
     let s2 := if only then { s1 with psg := s1.psg.mapVal (fun k g =>
         if k / 256 == r.slice && g.progSlot == some slot && g.st != .running && g.st != .stalled
         then { g with scalars := p.scalars } else g) } else s1
     ok s2 ((q.instrs.map instrCycles).foldl (· + ·) 0) (1024 - s2.skk.prog.length))

/-- PROG_UNLOAD (R260). -/
def cmdProgUnload (r : Req) (s : State) : CmdOut :=
  let slot := r.p 16 1 % 32
  guarded s [
      ranges [(16, decide (r.p 16 1 < 32)), (17, r.z 17)], sliceChk s r.slice,
      chk (s.progOf r.slice slot).isSome 0x0302 slot 0,
      chk (!s.slotUsed r.slice slot) 0x0301 2 0]
    (ok { s with skk := { s.skk with prog := s.skk.prog.del (32 * r.slice + slot) } } 0 0)

end Sys2Proof.Machine
end

