-- ==== Sys2Proof/Machine/Load.lean ====
section
/-! DEFINITION. PASSAGE_LOAD: the block, the templates, the checks, the plan digest, and the placement of
buffers and residual areas (02 R51 to R61; 07 R225, R226, R231, R240, R241, R243; 08 R261). -/

namespace Sys2Proof.Machine

/-! ### The block (R55's table) -/

/-- The header of a block. -/
structure PHdr where
  pid    : Nat
  form   : Nat
  rep    : Bool
  opt    : Bool
  wire   : Nat
  oper   : Nat
  round  : Nat
  tensor : Nat
  elems  : Nat
  racks_ : Nat
  legs   : Nat
  groups : Nat
  colours : Nat
  buffers : Nat
  ports  : Nat
  timeout : Nat
  iters  : Nat

/-- Read the header. -/
def phdr (b : Bytes) : PHdr :=
  ⟨le b 0 1, le b 1 1, bit (le b 2 1) 0, bit (le b 2 1) 1, le b 3 1, le b 4 1, le b 5 1, le b 6 2, le b 8 8,
   le b 16 8, le b 24 2, le b 26 2, le b 28 2, le b 30 2, le b 32 4, le b 36 4, le b 40 8⟩

/-- Offsets of the sections. -/
def PHdr.legAt (_h : PHdr) (n : Nat) : Nat := 64 + 64 * n
def PHdr.groupAt (h : PHdr) (n : Nat) : Nat := 64 + 64 * h.legs + 32 * n
def PHdr.colourAt (h : PHdr) (n : Nat) : Nat := h.groupAt h.groups + 64 * n
def PHdr.bufAt (h : PHdr) (n : Nat) : Nat := h.colourAt h.colours + 32 * n
def PHdr.portAt (h : PHdr) (n : Nat) : Nat := h.bufAt h.buffers + 2 * n

/-- What a passage is made of, read from a block or derived from a template. -/
structure Plan where
  legs    : List Leg
  groups  : List Group
  colours : List (List Nat)
  buffers : List Buffer

/-- The plan a FORM 0 block lists. -/
def explicitPlan (b : Bytes) : Plan :=
  let h := phdr b
  { legs := (List.range h.legs).map (fun n =>
      let o := h.legAt n
      ⟨le b (o + 2) 1, bit (le b (o + 3) 1) 0, bit (le b (o + 3) 1) 1, le b (o + 4) 2, le b (o + 6) 2, le b (o + 8) 2, le b (o + 16) 8⟩)
    groups := (List.range h.groups).map (fun n =>
      let o := h.groupAt n
      ⟨le b o 1, le b (o + 1) 1, le b (o + 2) 1,
        (List.range (min (le b (o + 4) 2) 256)).map (fun k => le b (h.portAt (le b (o + 8) 4 + k)) 2),
        le b (o + 16) 8, le b (o + 24) 8⟩)
    colours := (List.range h.colours).map (fun n => (List.range 64).map (fun t => le b (h.colourAt n + t) 1))
    buffers := (List.range h.buffers).map (fun n =>
      let o := h.bufAt n
      ⟨le b o 1, le b (o + 1) 1, le b (o + 8) 8, le b (o + 16) 8⟩) }

/-! ### Operators (R225) -/

def opBase (oper : Nat) : Nat := oper % 64
def opFeedback (oper : Nat) : Bool := bit oper 6
def opComp (oper : Nat) : Bool := bit oper 7
/-- The operator names a program. -/
def opIsProg (oper : Nat) : Bool := decide (0x20 ≤ opBase oper)

/-- Format of accumulators and template sum buffers for an operator on a wire format. -/
def accFmt (wire oper : Nat) : Nat := if (fmt wire).int then 0x21 else if opComp oper then 0x08 else 0x01

/-! ### Templates (R57) -/

/-- The internal port that a circuit of the chart ties to link `l` of the position that stands for member `k`. -/
def landing (s : State) (p : Plot) (k l : Nat) : Option Nat :=
  let t := s.linkPort (p.members.getD k 0) l
  match p.circuits.find? (fun c => c.src == t && refClass c.dst == 1) with
  | some c => some (refIndex c.dst)
  | none => none

/-- Terminated ports of link `l` over the members, in member order. -/
def linkPorts (s : State) (p : Plot) (l : Nat) : List Nat :=
  (List.range p.members.length).filterMap (fun k => (landing s p k l).map refP)

/-- A range as a pair, cut to what lies before, within and after another range. -/
def rangeMinus (a b : Nat × Nat) : List (Nat × Nat) :=
  let lo := min (a.1 + a.2) b.1
  let hi := max a.1 (b.1 + b.2)
  (if a.1 < lo then [(a.1, lo - a.1)] else []) ++ (if hi < a.1 + a.2 then [(hi, a.1 + a.2 - hi)] else [])

def rangeMeet (a b : Nat × Nat) : List (Nat × Nat) :=
  let lo := max a.1 b.1
  let hi := min (a.1 + a.2) (b.1 + b.2)
  if lo < hi then [(lo, hi - lo)] else []

/-- Legs from lists of groups: each with its colour index, OPTIMIZER and PARK_SAFE. -/
def mkLegs : List (List Group × Nat × Bool × Bool) → Nat → List Leg × List Group
  | [], _ => ([], [])
  | (gs, c, opt, park) :: t, n =>
    let r := mkLegs t (n + gs.length)
    (⟨0, park, opt, n, gs.length, c, 0⟩ :: r.1, gs ++ r.2)

/-- The plan a template derives from its header and the ACTIVE chart. -/
def templatePlan (s : State) (slice : Nat) (h : PHdr) : Plan :=
  let pl := match s.activePlot slice with
    | some p => p.2
    | none => Plot.none_
  let rs := racks h.racks_
  let k := rs.length
  let i := rackIndex h.racks_ s.topo.rack
  let standing := s.standingPorts slice
  let d := (s.gports slice).filter (fun t => !standing.contains t)
  let dP := d.map refG
  let links := bitsSet 8 pl.linkRole
  let nl := links.length
  let m := pl.members.length
  let part := fun (n : Nat) => share 0 h.elems n nl
  let sh := fun (n : Nat) => share 0 h.elems (n % k) k
  let own := sh i
  let af := accFmt h.wire h.oper
  let colour := fun (j : Nat) => (List.range 64).map (fun t =>
    if standing.contains t then 0xFE else if d.contains t then j else 0xFF)
  let none_ := 0xFF
  let reduceLeg := (List.range nl).map (fun n =>
    (⟨0, none_, 0, linkPorts s pl (links.getD n 0), (part n).1, (part n).2⟩ : Group))
  let sendAll := fun (b : Nat) => (List.range nl).map (fun n =>
    (⟨3, b, none_, linkPorts s pl (links.getD n 0), (part n).1, (part n).2⟩ : Group))
  let js := (List.range (k - 1)).map (· + 1)
  let exchange := js.map (fun j =>
    ([(⟨4, 0, none_, dP, (sh (i + j)).1, (sh (i + j)).2⟩ : Group), ⟨1, none_, 1, dP, own.1, own.2⟩], j - 1, false, false))
  let out := if h.opt then 2 else 1
  let gather := js.map (fun j =>
    ([(⟨4, out, none_, dP, own.1, own.2⟩ : Group), ⟨2, none_, 3, dP, (sh (i + k - j)).1, (sh (i + k - j)).2⟩], j - 1, false, false))
  let lastSend := (List.range nl).flatMap (fun n =>
    let ps := linkPorts s pl (links.getD n 0)
    (rangeMinus (part n) own).map (fun r => (⟨3, 3, none_, ps, r.1, r.2⟩ : Group))
      ++ (rangeMeet (part n) own).map (fun r => (⟨3, out, none_, ps, r.1, r.2⟩ : Group)))
  let dark := 0xFFFF
  let b0 : Buffer := ⟨1, af, 0, h.elems⟩
  let b1 : Buffer := ⟨0, af, own.1, own.2⟩
  let b2 : Buffer := ⟨0, h.wire, own.1, own.2⟩
  let b3 : Buffer := ⟨1, h.wire, 0, h.elems⟩
  let raw : List (List Group × Nat × Bool × Bool) × List Buffer := match h.form with
    | 1 =>
      ((List.range m).map (fun q => ((List.range nl).filterMap (fun n =>
          (landing s pl q (links.getD n 0)).map (fun p =>
            (⟨if q == 0 then 0 else 1, none_, 0, [refP p], (part n).1, (part n).2⟩ : Group))), dark, false, false))
        ++ [(sendAll 0, dark, false, true)], [b0])
    | 2 =>
      ([(reduceLeg, dark, false, false)] ++ exchange
        ++ (if h.opt then [([], dark, true, false)] else []) ++ gather ++ [(lastSend, dark, false, true)],
       if h.opt then [b0, b1, b2, b3] else [b0, b1, ⟨0, h.wire, own.1, 0⟩, b3])
    | 3 =>
      let ls := [(reduceLeg, dark, false, false)] ++ exchange ++ (if h.opt then [([], dark, true, false)] else [])
      (ls.dropLast ++ (ls.drop (ls.length - 1)).map (fun x => (x.1, x.2.1, x.2.2.1, true)),
       if h.opt then [b0, b1, b2] else [b0, b1])
    | 4 =>
      (js.map (fun j => ([(⟨4, 0, none_, dP, own.1, own.2⟩ : Group),
          ⟨2, none_, 0, dP, (sh (i + k - j)).1, (sh (i + k - j)).2⟩], j - 1, false, false))
        ++ [(sendAll 0, dark, false, true)], [b3])
    | 5 =>
      (js.map (fun j => ([(⟨4, 0, none_, dP, (sh (i + j)).1, (sh (i + j)).2⟩ : Group),
          ⟨2, none_, j, dP, own.1, own.2⟩], j - 1, false, j == k - 1)),
       b3 :: js.map (fun _ => (⟨1, h.wire, own.1, own.2⟩ : Buffer)))
    | _ => ([(sendAll 0, dark, false, true)], [b3])
  let lg := mkLegs raw.1 0
  { legs := lg.1, groups := lg.2
    colours := if decide (2 ≤ h.form ∧ h.form ≤ 5) then js.map colour else []
    buffers := raw.2 }

/-- The plan of a block. -/
def planOf (s : State) (slice : Nat) (b : Bytes) : Plan :=
  if (phdr b).form == 0 then explicitPlan b else templatePlan s slice (phdr b)

/-! ### The plan digest (R61) -/

/-- The 64 colour bytes of a leg. -/
def legColour (standing : List Nat) (pl : Plan) (l : Leg) : List Nat :=
  if l.colour == 0xFFFF then (List.range 64).map (fun t => if standing.contains t then 0xFE else 0xFF)
  else pl.colours.getD l.colour []

/-- The plan digest. -/
def planDigest (h : PHdr) (standing : List Nat) (pl : Plan) : Nat :=
  crc32c (leBytes 1 h.pid ++ leBytes 1 h.form ++ leBytes 1 (b2n h.rep + 2 * b2n h.opt) ++ leBytes 1 h.wire
    ++ leBytes 1 h.oper ++ leBytes 1 h.round ++ leBytes 2 h.tensor ++ leBytes 8 h.elems ++ leBytes 8 h.racks_
    ++ leBytes 8 h.iters ++ leBytes 2 pl.legs.length ++ zeros 2
    ++ (numbered pl.legs 0).flatMap (fun nl => leBytes 2 nl.1 ++ leBytes 1 nl.2.trigger
      ++ leBytes 1 (b2n nl.2.parkSafe + 2 * b2n nl.2.optimizer)
      ++ (legColour standing pl nl.2).flatMap (leBytes 1)))

/-! ### Residual areas (R238 to R241) -/

/-- A buffer of a plan. -/
def bufOf (bs : List Buffer) (n : Nat) : Buffer := bs.getD n ⟨0, 0x01, 0, 0⟩

/-- The target of an emission takes residuals: neither FP32 nor FP32X2. -/
def narrow (f : Nat) : Bool := f != 0x01 && f != 0x08

/-- The ranges that a group emits under R238; a STORE emits none. -/
def emitRanges (wire : Nat) (bs : List Buffer) (g : Group) : List (Nat × Nat) :=
  match g.role with
  | 0 => if narrow (bufOf bs g.dst).fmt then [(g.first, g.count)] else []
  | 3 => if !narrow (bufOf bs g.src).fmt && narrow wire then [(g.first, g.count)] else []
  | 4 => if !narrow (bufOf bs g.src).fmt && narrow wire then [(g.first, g.count)] else []
  | _ => []

/-- Insert a range into ascending disjoint ranges, joining what touches. -/
def insertRange : List (Nat × Nat) → Nat × Nat → List (Nat × Nat)
  | [], r => if r.2 == 0 then [] else [r]
  | x :: t, r =>
    if r.2 == 0 then x :: t
    else if r.1 + r.2 < x.1 then r :: x :: t
    else if x.1 + x.2 < r.1 then x :: insertRange t r
    else
      let lo := min x.1 r.1
      let hi := max (x.1 + x.2) (r.1 + r.2)
      insertRange t (lo, hi - lo)

/-- The union of ranges, ascending and disjoint. -/
def unionRanges (rs : List (Nat × Nat)) : List (Nat × Nat) := rs.foldl insertRange []

/-- The element set that a plan emits under R238. -/
def residSet (wire : Nat) (pl : Plan) : List (Nat × Nat) :=
  unionRanges (pl.groups.flatMap (emitRanges wire pl.buffers))

/-! ### Checks 1 of R55 and R226 -/

/-- Whether a group runs the operator: REDUCE or ACCUMULATE. -/
def Group.reduces (g : Group) : Bool := decide (g.role ≤ 1)

/-- A range lies inside a buffer. -/
def Buffer.holds (b : Buffer) (first count : Nat) : Bool :=
  decide (b.base ≤ first ∧ first + count ≤ b.base + b.elems)

/-- OPERATOR is valid (R225, R226, R261). -/
def operOk (s : State) (slice : Nat) (h : PHdr) (pl : Plan) : Bool :=
  let op := opBase h.oper
  let int := (fmt h.wire).int
  let reds := pl.groups.filter Group.reduces
  (!opComp h.oper || op == 1 || op == 4) && (!opFeedback h.oper || op == 1) && (match op with
  | 0 => reds == []
  | 1 => !int
  | 2 => true
  | 3 => true
  | 4 => !int
  | 5 => int
  | 6 => int
  | _ =>
    opIsProg h.oper && !int && decide (h.form ≤ 3) && (match s.progOf slice (op - 0x20) with
      | none => false
      | some q => decide (q.kind ≤ 1) && (q.tsBuf.filter (· != 0xFF)).all (fun n =>
          decide (n < pl.buffers.length) && (h.form == 0 || decide (n < 4))
          && (reds.filter (fun g => q.kind == 0 || g.role == 0)).all (fun g => (bufOf pl.buffers n).holds g.first g.count))))

/-- Two groups of one leg conflict: one writes a buffer's elements that the other reads or writes, and
not both accumulate (R226). -/
def groupsClash (a b : Group) : Bool :=
  let w := fun (g : Group) => decide (g.role ≤ 2)
  let meet := decide (a.first < b.first + b.count) && decide (b.first < a.first + a.count)
  let uses := fun (g : Group) => if w g then g.dst else g.src
  (w a || w b) && !(a.role == 1 && b.role == 1) && uses a == uses b && meet

/-- An earlier group of one leg clashes with group `n`. -/
def clashes (pl : Plan) (n : Nat) : Bool :=
  pl.legs.any (fun l => decide (l.gFirst ≤ n ∧ n < l.gFirst + l.gCount)
    && (List.range (n - l.gFirst)).any (fun k =>
      groupsClash (pl.groups.getD (l.gFirst + k) ⟨0, 0, 0, [], 0, 0⟩) (pl.groups.getD n ⟨0, 0, 0, [], 0, 0⟩)))

/-- FEEDBACK on a tensor whose residual area exists with another element set (R226, R241). -/
def residOk (s : State) (slice : Nat) (h : PHdr) (pl : Plan) : Bool :=
  !opFeedback h.oper || (match s.skk.resid.find (65536 * slice + h.tensor) with
    | some a => a.ranges == residSet h.wire pl
    | none => true)

/-- A colour byte is one of R53. -/
def colourOk (k : Nat) (owned standing : List Nat) (t v : Nat) : Bool :=
  if standing.contains t then v == 0xFE
  else if owned.contains t then v == 0xFF || decide (1 ≤ v ∧ v < k)
  else v == 0xFF

/-- Rows of the header. -/
def hdrRows (s : State) (slice : Nat) (b : Bytes) : List (Nat × Bool) :=
  let h := phdr b
  let pl := planOf s slice b
  let f0 := h.form == 0
  [(0, decide (1 ≤ h.pid)), (1, decide (h.form ≤ 6)),
   (2, decide (le b 2 1 < 4) && (!h.opt || h.form == 2 || h.form == 3)),
   (3, wireOk h.wire), (4, operOk s slice h pl), (5, decide (h.round ≤ 2)),
   (6, decide (1 ≤ h.tensor) && residOk s slice h pl), (8, decide (1 ≤ h.elems ∧ h.elems ≤ 2 ^ 40)),
   (16, bit h.racks_ s.topo.rack && (h.form != 1 || (racks h.racks_).length == 1)),
   (24, if f0 then decide (1 ≤ h.legs ∧ h.legs ≤ 4096) else h.legs == 0),
   (26, if f0 then decide (h.groups ≤ 1024) else h.groups == 0),
   (28, if f0 then decide (h.colours ≤ 4096) else h.colours == 0),
   (30, if f0 then decide (h.buffers ≤ 64) else h.buffers == 0),
   (32, if f0 then decide (h.ports ≤ 65536) else h.ports == 0),
   (36, decide (h.timeout ≤ 600000)), (40, decide (h.iters ≤ 2 ^ 63) && (h.rep || h.iters == 1)),
   (48, zeroAt b 48 16)]

/-- Rows of leg `n`. -/
def legRows (b : Bytes) (n : Nat) : List (Nat × Bool) :=
  let h := phdr b
  let o := h.legAt n
  let trig := le b (o + 2) 1
  let first := le b (o + 4) 2
  let arg := le b (o + 16) 8
  [(o, le b o 2 == n), (o + 2, decide (trig ≤ 3)), (o + 3, decide (le b (o + 3) 1 < 4)),
   (o + 4, decide (first + le b (o + 6) 2 ≤ h.groups)), (o + 6, decide (le b (o + 6) 2 ≤ 1024)),
   (o + 8, decide (le b (o + 8) 2 < h.colours) || le b (o + 8) 2 == 0xFFFF), (o + 10, zeroAt b (o + 10) 6),
   (o + 16, trig == 1 || (trig == 3 && (bitsSet 64 arg).all (bit h.racks_)) || arg == 0), (o + 24, zeroAt b (o + 24) 40)]

/-- Rows of group `n`. -/
def groupRows (b : Bytes) (pl : Plan) (n : Nat) : List (Nat × Bool) :=
  let h := phdr b
  let o := h.groupAt n
  let g := pl.groups.getD n ⟨0, 0, 0, [], 0, 0⟩
  let nb := fun (x : Nat) => decide (x < h.buffers)
  let send := g.role == 3 || g.role == 4
  let np := le b (o + 4) 2
  [(o, decide (g.role ≤ 4) && !(g.role == 1 && opBase h.oper == 4) && !clashes pl n),
   (o + 1, nb g.src || (g.src == 0xFF && !send)), (o + 2, nb g.dst || (g.dst == 0xFF && send)),
   (o + 3, zeroAt b (o + 3) 1), (o + 4, decide (1 ≤ np ∧ np ≤ 256)), (o + 6, zeroAt b (o + 6) 2),
   (o + 8, decide (le b (o + 8) 4 + np ≤ h.ports)), (o + 12, zeroAt b (o + 12) 4),
   (o + 16, decide (g.first < h.elems)),
   (o + 24, decide (1 ≤ g.count) && decide (g.first + g.count ≤ h.elems)
      && (g.src == 0xFF || (bufOf pl.buffers g.src).holds g.first g.count)
      && (g.dst == 0xFF || (bufOf pl.buffers g.dst).holds g.first g.count))]

/-- Rows of buffer `n`. -/
def bufRows (b : Bytes) (pl : Plan) (n : Nat) : List (Nat × Bool) :=
  let h := phdr b
  let o := h.bufAt n
  let f := le b (o + 1) 1
  let accDst := pl.groups.any (fun g => g.role == 1 && g.dst == n)
  [(o, decide (le b o 1 ≤ 2)),
   (o + 1, fmtOk f && (fmt f).int == (fmt h.wire).int && (!accDst || f == accFmt h.wire h.oper)),
   (o + 2, zeroAt b (o + 2) 6), (o + 8, !(fmt f).mx || le b (o + 8) 8 % 32 == 0),
   (o + 16, decide (1 ≤ le b (o + 16) 8) && decide (le b (o + 8) 8 + le b (o + 16) 8 ≤ h.elems)),
   (o + 24, zeroAt b (o + 24) 8)]

/-- Row of port list entry `n`: a P or G reference, of the class of the first entry of every group that
lists it. -/
def portRow (s : State) (b : Bytes) (n : Nat) : Nat × Bool :=
  let h := phdr b
  let p := le b (h.portAt n) 2
  (h.portAt n, refOk s.fuse p && (refClass p == 2 || refClass p == 3)
    && (List.range h.groups).all (fun g =>
      let first := le b (h.groupAt g + 8) 4
      !decide (first ≤ n ∧ n < first + le b (h.groupAt g + 4) 2) || refClass (le b (h.portAt first) 2) == refClass p))

/-- Check 1 of R55. -/
def passageRows (s : State) (slice : Nat) (b : Bytes) : List (Nat × Bool) :=
  let h := phdr b
  let pl := planOf s slice b
  let k := (racks h.racks_).length
  let owned := s.gports slice
  let standing := s.standingPorts slice
  hdrRows s slice b ++ (if h.form != 0 then [] else
    (List.range h.legs).flatMap (legRows b) ++ (List.range h.groups).flatMap (groupRows b pl)
    ++ (List.range h.colours).flatMap (fun n => (List.range 64).map (fun t =>
        (h.colourAt n + t, colourOk k owned standing t (le b (h.colourAt n + t) 1))))
    ++ (List.range h.buffers).flatMap (bufRows b pl) ++ (List.range h.ports).map (portRow s b))

/-! ### Checks 3 to 6 of R55 -/

/-- Check 3: ports, then racks. -/
def ownChk (s : State) (slice : Nat) (b : Bytes) : Chk :=
  let h := phdr b
  let ports := if h.form == 0 then (List.range h.ports).map (fun n => le b (h.portAt n) 2) else []
  let mask := (s.topo.slice.get slice (Slice.new 0 0 0 0)).rackMask
  match ports.find? (fun p => s.owner p != slice) with
  | some p => some (0x0401, p, 0)
  | none => match (racks h.racks_).find? (fun r => !bit mask r) with
    | some r => some (0x0401, r, 0)
    | none => none

/-- The range an OPTIMIZER leg of FORM 0 steps: the union of its destination ranges. -/
def legRange (pl : Plan) (l : Leg) : List (Nat × Nat) :=
  unionRanges ((((pl.groups.drop l.gFirst).take l.gCount).filter (fun g => decide (g.role ≤ 2))).map
    (fun g => (g.first, g.count)))

/-- Check 4. -/
def prereqChk (s : State) (slice : Nat) (b : Bytes) : Chk :=
  let h := phdr b
  let pl := planOf s slice b
  let opt := pl.legs.filter (·.optimizer)
  let bind := s.skk.binding.find (65536 * slice + h.tensor)
  let k := (racks h.racks_).length
  let own := share 0 h.elems (rackIndex h.racks_ s.topo.rack) k
  let offsets := if h.form == 0 then pl.colours.any (fun c => c.any (fun v => decide (1 ≤ v ∧ v < 0xFE)))
    else decide (2 ≤ h.form ∧ h.form ≤ 5) && decide (2 ≤ k)
  firstFail [
    chk (opt == [] || bind.isSome) 0x0303 1 0,
    match bind with
    | none => none
    | some bd => chk (opt.all (fun l => (if h.form == 0 then legRange pl l else [own]) == [(bd.first, bd.count)])) 0x0303 7 0,
    chk (h.form == 0 || (s.activePlot slice).isSome) 0x0303 2 0,
    chk (!(offsets || pl.legs.any (fun l => l.trigger == 3)) || s.standingPorts slice != []) 0x0303 3 0]

/-- Check 5. -/
def countChk (s : State) (slice nlegs : Nat) : Chk :=
  let total := (s.psg.map (fun e => e.2.legs.length)).foldl (· + ·) 0
  firstFail [
    chk (decide ((s.passagesOf slice).length < 16)) 0x0201 3 1,
    chk (decide (s.psg.length < 256)) 0x0201 3 1,
    chk (decide (total + nlegs ≤ 65536)) 0x0201 5 (total + nlegs - 65536)]

/-- The slice's staging pool keeps at least this (R243). -/
def minPool : Nat := 64 * 2 ^ 20

/-- Place the buffers of LOCATION 2, in index order, after the others: (buffers placed, SRAM used). -/
def placeAuto (quota : Nat) : List Buffer → Nat → List Buffer × Nat
  | [], used => ([], used)
  | b :: t, used =>
    if b.loc == 2 then
      let fits := decide (used + b.bytes + minPool ≤ quota)
      let r := placeAuto quota t (if fits then used + b.bytes else used)
      ({ b with loc := if fits then 0 else 1 } :: r.1, r.2)
    else
      let r := placeAuto quota t used
      (b :: r.1, r.2)

/-- Bytes of the buffers of a location. -/
def bytesAtLoc (bs : List Buffer) (loc : Nat) : Nat :=
  ((bs.filter (fun b => b.loc == loc)).map Buffer.bytes).foldl (· + ·) 0

/-- What a load places: buffers, HBM and SRAM bytes of the passage, and the location of a new residual area. -/
structure Placement where
  buffers : List Buffer
  hbm     : Nat
  sram    : Nat
  newArea : Option Resid

/-- Quotas of a slice in bytes. -/
def State.quotas (s : State) (n : Nat) : Nat × Nat :=
  match s.topo.slice.find n with
  | some x => (x.hbmGiB * 2 ^ 30, x.sramMiB * 2 ^ 20)
  | none => (0, 0)

/-- The placement of a block (R39, R55, R241). -/
def placement (s : State) (slice : Nat) (b : Bytes) : Placement :=
  let h := phdr b
  let pl := planOf s slice b
  let q := (s.quotas slice).2
  let sram0 := s.sramPlaced slice + bytesAtLoc pl.buffers 0
  let bs := placeAuto q pl.buffers sram0
  let set := residSet h.wire pl
  let fresh := opFeedback h.oper && !s.skk.resid.has (65536 * slice + h.tensor)
  let wide := opComp h.oper
  let rb := residBytes set wide
  let inSram := decide (bs.2 + rb + minPool ≤ q)
  { buffers := bs.1
    hbm := bytesAtLoc bs.1 1 + (if fresh && !inSram then rb else 0)
    sram := bytesAtLoc bs.1 0 + (if fresh && inSram then rb else 0)
    newArea := if fresh then some ⟨if inSram then 0 else 1, wide, set, []⟩ else none }

/-- A group needs staging: REDUCE, or ACCUMULATE into HBM (R243, R244). -/
def Group.stages (bs : List Buffer) (g : Group) : Bool :=
  g.role == 0 || (g.role == 1 && (bufOf bs g.dst).loc == 1)

/-- Check 6 (R39, R243). -/
def fitChk (s : State) (slice : Nat) (b : Bytes) : Chk :=
  let p := placement s slice b
  let pl := planOf s slice b
  let q := s.quotas slice
  let h := s.hbmPlaced slice + p.hbm
  let r := s.sramPlaced slice + p.sram
  let staged := pl.groups.any (Group.stages p.buffers)
    || (s.passagesOf slice).any (fun e => e.2.groups.any (Group.stages e.2.buffers))
  let need := r + (if staged then minPool else 0)
  firstFail [
    chk (decide (h ≤ q.1)) 0x0201 1 (h - q.1),
    chk (decide (need ≤ q.2)) 0x0201 2 (need - q.2)]

/-- A passage just loaded. -/
def Passage.new (h : PHdr) (pl : Plan) (bs : List Buffer) (digest : Nat) (scalars : List Nat) : Passage :=
  { form := h.form, rep := h.rep, optFinal := h.opt, wire := h.wire, operator := h.oper, rounding := h.round
    tensor := h.tensor, elems := h.elems, rackMask := h.racks_
    timeout := if h.timeout == 0 then 10000 else h.timeout, iterations := h.iters
    legs := pl.legs, groups := pl.groups, colours := pl.colours, buffers := bs, digest := digest
    st := .loaded, leg := 0, iter := 0, parity := false, bells := 0, parkPend := false, parkedByAct := false
    epoch := 0, w0 := 0, enteredAt := 0, prog := [], legDone := false, timeOpen := false, blanked := none
    ready := [], remote := [], rdySent := [], parkedAt := 0, bytesIn := 0, bytesOut := 0, dupWarned := false, data := [], scale := [], acc := []
    stripes := [], units := [], scalars := scalars, finished := false, spillNoted := none, residNoted := none, heldG := [], rx := [], optDone := false
    refused := 0, duplicates := 0 }

/-- PASSAGE_LOAD (R55, R56). -/
def cmdPassageLoad (r : Req) (s : State) : CmdOut :=
  let b := r.params
  let h := phdr b
  let pl := planOf s r.slice b
  guarded s [
      ranges (passageRows s r.slice b), sliceChk s r.slice,
      match s.psg.find (psgKey r.slice h.pid) with
      | some p => some (0x0301, p.st.code, 0)
      | none => none,
      ownChk s r.slice b, prereqChk s r.slice b, countChk s r.slice pl.legs.length, fitChk s r.slice b]
    (let pc := placement s r.slice b
     let digest := planDigest h (s.standingPorts r.slice) pl
     let scal := match s.progOf r.slice (opBase h.oper - 0x20) with
       | some q => q.scalars
       | none => []
     let p := Passage.new h pl pc.buffers digest scal
     let rs := match pc.newArea with
       | some a => s.skk.resid.put (65536 * r.slice + h.tensor) a
       | none => s.skk.resid
     let nb := (pl.buffers.filter (fun x => x.elems != 0)).length
     ok { s with psg := s.psg.put (psgKey r.slice h.pid) p, skk := { s.skk with resid := rs } }
       pc.hbm (pl.legs.length + nb * 2 ^ 16 + ceilDiv pc.sram (2 ^ 20) * 2 ^ 32))

end Sys2Proof.Machine
end

