-- ==== Sys2Proof/Machine/Ports.lean ====
section
/-! DEFINITION. Terminated and global ports as the other parts use them: their records, frames queued on
them, control frames, and the standing stream (05, 06). -/

namespace Sys2Proof.Machine

/-! ### Terminated ports -/

/-- Credits the module advertises (R196). -/
def ownAdvert : List Nat := [256, 256, 128, 128, 128, 128, 32, 32]

/-- A terminated port after reset (R186): OFF. -/
def LPort.reset : LPort :=
  { st := .off, signal := false, since := 0, lanes := [false, false, false, false], keep := false
    lastTrain := [], trainRun := 0, readyTx := 0, readyRx := 0, trainActive := 0, version := 0, farRole := 0
    farId := 0, farDepth := 0, sessId := 0, txSeq := 0, rxSeq := 0, ackSeq := 0xFFFF, replay := []
    replayAt := none, replayOf := none, replayRun := 0, sent := List.replicate 8 0, limit := List.replicate 8 0
    ownLimit := ownAdvert, crNext := 0, txq := [], sentq := [], open_ := [], heldq := [], frameId := 0, retry := none
    reqCount := 0, local_ := [], hailSeq := 0, timeSeq := 0, faults := [], wasFailed := false
    fecDegraded := false, fecWarnAt := none, cwWarnAt := none, cwSecond := 0, cwCount := 0, ringHold := none
    pos := 0, pair := 0, pairBuf := [], scr := 0, creditWait := List.replicate 8 0 }

/-- A terminated port. -/
def State.lp (s : State) (p : Nat) : LPort := s.lnk.port.get p LPort.reset

/-- Change a terminated port. -/
def State.updLp (s : State) (p : Nat) (f : LPort → LPort) : State :=
  { s with lnk := { s.lnk with port := s.lnk.port.upd p LPort.reset f } }

/-- The terminated port exists on the variant (R1). -/
def State.lpLive (s : State) (p : Nat) : Bool := decide (p < s.fuse.livePorts) && s.alive

/-- Queue a frame on a terminated port (R198). -/
def State.sendOn (s : State) (p vc : Nat) (b : Bytes) (tag : Option (Nat × Nat × Nat × Nat)) : State :=
  s.updLp p (fun x => { x with txq := x.txq ++ [⟨vc, b, 0, tag, 0, 0⟩] })

/-- Binnacle source of a link counter (R211): its number within the block of terminated ports. -/
def linkSource (name : String) : Nat := 256 * 4 + (Config.srcNumber 4 name).toNat

/-- Count on a terminated port. -/
def State.lcount (s : State) (name : String) (p n : Nat) : State := s.count (linkSource name) (refP p) n

/-! ### Control frames (R207) -/

/-- The 16-byte header of a control frame with FRAME_ID 0. -/
def ctlHeader (kind slice pid rack leg iter : Nat) : Bytes :=
  beBytes 1 kind ++ beBytes 1 slice ++ beBytes 1 pid ++ beBytes 1 rack ++ beBytes 2 leg ++ beBytes 6 iter ++ zeros 4

/-- Fields of a control frame. -/
def ctlKind (b : Bytes) : Nat := byteAt b 0
def ctlSlice (b : Bytes) : Nat := bits (byteAt b 1) 0 6
def ctlPid (b : Bytes) : Nat := byteAt b 2
def ctlRack (b : Bytes) : Nat := bits (byteAt b 3) 0 6
def ctlLeg (b : Bytes) : Nat := be b 4 2
def ctlIter (b : Bytes) : Nat := be b 6 6

/-- Reserved bits of a control header are 0. -/
def ctlOk (b : Bytes) : Bool :=
  decide (byteAt b 1 < 64) && decide (byteAt b 3 < 64) && decide (be b 4 2 < 4096)

/-- Put a FRAME_ID into a frame (R202): the offset depends on the kind. -/
def setFrameId (b : Bytes) (id : Nat) : Bytes :=
  let o := match byteAt b 0 with
    | 0x01 => 24
    | 0x10 => 28
    | 0x11 => 28
    | _ => 12
  b.take o ++ beBytes 4 (id % 2 ^ 32) ++ b.drop (o + 4)

/-- FRAME_ID of a frame. -/
def frameIdOf (b : Bytes) : Nat :=
  match byteAt b 0 with
  | 0x01 => be b 24 4
  | 0x10 => be b 28 4
  | 0x11 => be b 28 4
  | _ => be b 12 4

/-- A NAK for a refused frame (R207). -/
def nakFrame (slice pid rack leg iter cause fid off : Nat) : Bytes :=
  ctlHeader 0x20 slice pid rack leg iter ++ beBytes 1 cause ++ zeros 3 ++ beBytes 4 fid ++ beBytes 8 off

/-- Send a NAK on a terminated port. -/
def State.nak (s : State) (p : Nat) (b : Bytes) (cause : Nat) : State :=
  let data := byteAt b 0 == 0x01
  let f := nakFrame (bits (byteAt b 1) 0 6) (if data then byteAt b 2 else 0) s.topo.rack
    (if data then be b 4 2 % 4096 else 0) 0 cause (frameIdOf b) (be b 8 8)
  (s.sendOn p 6 f none).lcount "NAKS_SENT" p 1

/-! ### Global ports -/

/-- A global port after reset (R171): dark, served by its own laser. -/
def GPort.reset (t : Nat) : GPort :=
  { st := 0, role := 0, channel := 0, laser := t, dest := 0, attempts := 0, cabling := 0, tagRun := 0, failRun := 0
    expectRack := 0, expectValid := false, pilotRack := 0, pilotValid := false, pilots := 0, rxPower := 0x8000
    blanks := 0, relockFails := 0, preambleFails := 0, uncorrectable := 0, foreignAt := none, foreignRun := false
    takeover := false, burst := none, blankAt := 0, tunedAt := none, errLeg := none, legFid := 0 }

/-- A global port. -/
def State.gp (s : State) (t : Nat) : GPort := s.col.port.get t (GPort.reset t)

/-- Change a global port. -/
def State.updGp (s : State) (t : Nat) (f : GPort → GPort) : State :=
  { s with col := { s.col with port := s.col.port.put t (f (s.gp t)) } }

/-- A laser after reset (R171). -/
def Laser.reset : Laser := ⟨0, false, 0, false, 0, 0, 0, false⟩

/-- A laser. -/
def State.laser (s : State) (l : Nat) : Laser := s.col.laser.get l Laser.reset

/-- Change a laser. -/
def State.updLaser (s : State) (l : Nat) (f : Laser → Laser) : State :=
  { s with col := { s.col with laser := s.col.laser.upd l Laser.reset f } }

/-- Set a bit of COL_EVENTS. -/
def State.colEvent (s : State) (i : Nat) : State := { s with col := { s.col with events := setBit s.col.events i } }

/-- The channel from a rack to another (R29). -/
def channelTo (src dst : Nat) : Nat := (dst + 64 - src) % 64

/-- A spare group: state, position served, takeovers. -/
def State.grp (s : State) (g : Nat) : Nat × Nat × Nat := s.col.group.get g (0, 0, 0)

/-- Close a port's gate and darken it, but for a FAILED or MISCABLED one, or one that is RELOCKING (R165). -/
def State.blankPort (s : State) (t : Nat) : State :=
  let p := s.gp t
  if p.st == 4 || p.st == 5 || p.st == 3 then s
  else
    (s.updGp t (fun p => { p with st := 0, blankAt := s.ns, burst := none })).updLaser p.laser
      (fun l => { l with gate := false, st := if l.st == 2 then 3 else l.st })

/-! ### The standing stream (R156, R160, R295) -/

/-- A path nothing has used. -/
def Path.reset : Path := ⟨0, 0, 0, Config.standingCredit.toNat, false, 0, 0, [], 0, 0, false, false⟩

/-- The path from port `t` to a rack. -/
def State.path (s : State) (t rack : Nat) : Path := s.col.path.get (64 * t + rack) Path.reset

/-- Change a path. -/
def State.updPath (s : State) (t rack : Nat) (f : Path → Path) : State :=
  { s with col := { s.col with path := s.col.path.upd (64 * t + rack) Path.reset f } }

/-- Queue a frame for a rack on the standing stream, by precedence class 1 to 5 (R160). -/
def State.queueStanding (s : State) (slice rack prec : Nat) (b : Bytes) : State :=
  { s with col := { s.col with stq := s.col.stq ++ [⟨slice, rack, prec, b, false⟩] } }

/-- The racks of a mask but this one. -/
def State.others (s : State) (mask : Nat) : List Nat := (racks mask).filter (· != s.topo.rack)

/-- Queue one frame for every other rack of a mask. -/
def State.queueAll (s : State) (slice mask prec : Nat) (b : Bytes) : State :=
  (s.others mask).foldl (fun s r => s.queueStanding slice r prec b) s

/-- Rack set of a slice. -/
def State.rackSet (s : State) (n : Nat) : Nat := (s.topo.slice.get n (Slice.new 0 0 0 0)).rackMask

/-- Offset of standing port `u` of `n` in compass slot `k` for a rack set of size `size` (R157). -/
def compassOffset (k n u size : Nat) : Nat := 1 + (k * n + u) % (size - 1)

/-- The rack that standing port `u` of a slice aims at in slot `k` (R157); none with one rack. -/
def State.compassDest (s : State) (slice k u : Nat) : Option Nat :=
  let rs := racks (s.rackSet slice)
  let size := rs.length
  let n := (s.standingPorts slice).length
  if decide (size < 2) || n == 0 then none
  else some (rs.getD ((rackIndex (s.rackSet slice) s.topo.rack + compassOffset k n u size) % size) 0)

/-- The rack that sends to standing port `u` of a slice in slot `k`. -/
def State.compassSource (s : State) (slice k u : Nat) : Option Nat :=
  let rs := racks (s.rackSet slice)
  let size := rs.length
  let n := (s.standingPorts slice).length
  if decide (size < 2) || n == 0 then none
  else some (rs.getD ((rackIndex (s.rackSet slice) s.topo.rack + size - compassOffset k n u size) % size) 0)

/-- Compass round of a slice in ns (R60, R157). -/
def State.compassRound (s : State) (slice : Nat) : Nat :=
  ceilDiv ((racks (s.rackSet slice)).length - 1) (max 1 (s.standingPorts slice).length) * 2000

/-- A standing port's path is unusable: the port FAILED or MISCABLED, or marked broken (R296). -/
def State.pathBroken (s : State) (t rack : Nat) : Bool :=
  (s.gp t).st == 4 || (s.gp t).st == 5 || (s.path t rack).broken

/-- Some standing port of the slice reaches the rack over a path that is not broken. -/
def State.reaches (s : State) (slice rack : Nat) : Bool :=
  (s.standingPorts slice).any (fun t => !s.pathBroken t rack)

end Sys2Proof.Machine
end

