-- ==== Sys2Proof/Machine/Data.lean ====
section
/-! DEFINITION. Passage data: buffers, emission with its residuals, accumulators and staging, and the
acceptance of DATA frames on terminated and global ports (02 R51, R52, R70, R496; 06 R203, R204; 07 R225 to
R246; 08 R262). -/

namespace Sys2Proof.Machine

/-! ### Buffers -/

/-- Scale byte of a block and stored code of an element of a buffer. -/
def Passage.scaleOf (p : Passage) (b blk : Nat) : Nat := (p.scale.get b []).get blk 0
def Passage.codeOf (p : Passage) (b e : Nat) : Nat := (p.data.get b []).get e 0

/-- A buffer of a passage. -/
def Passage.buf (p : Passage) (n : Nat) : Buffer := bufOf p.buffers n

/-- An element of a buffer as FP32, INT32 or a pair. -/
def Passage.value (p : Passage) (b e : Nat) : Nat :=
  decodeElem (p.buf b).fmt (p.scaleOf b (e / 32)) (p.codeOf b e)

/-- Store a code; all-zero is not listed. -/
def putCode (t : Tbl Nat) (k v : Nat) : Tbl Nat := if v == 0 then t.del k else t.put k v

/-- Accumulators and sums are pairs (R230). -/
def Passage.comp (p : Passage) : Bool := opComp p.operator && !(fmt p.wire).int

/-- The emission stage's seed (R235). -/
def Passage.seed (p : Passage) (pid : Nat) : Nat := passageSeed p.digest p.tensor pid

/-- Emit values into block `blk` of a buffer: 32 entries, none where an element is not written. An MX
block's other elements within the buffer are emitted with it, so that one scale holds for the block. -/
def Passage.store (p : Passage) (pid b blk : Nat) (vs : List (Option Nat)) (mode salt : Nat) (pair : Bool) :
    Passage × EmitCnt :=
  let f := (p.buf b).fmt
  let sr := fun (k : Nat) => srBits (salted (p.seed pid) salt) p.iter (32 * blk + k)
  let wrap := opBase p.operator == 5
  let full := (numbered vs 0).map (fun kv =>
    match kv.2 with
    | some v => (some v, sr kv.1)
    | none =>
      if (fmt f).mx && (p.buf b).holds (32 * blk + kv.1) 1 && vs.any Option.isSome
      then (some (p.value b (32 * blk + kv.1)), sr kv.1) else (none, 0))
  let r := emitBlock f mode wrap pair full
  let put := (numbered vs 0).foldl (fun t kv =>
    if kv.2.isSome || ((fmt f).mx && vs.any Option.isSome) then putCode t (32 * blk + kv.1) (r.2.1.getD kv.1 0) else t) (p.data.get b [])
  let sc := if (fmt f).mx && vs.any Option.isSome then putCode (p.scale.get b []) blk r.1 else p.scale.get b []
  ({ p with data := p.data.put b put, scale := p.scale.put b sc }, r.2.2)

/-! ### Counts of the skink engine (R228, R236, R238) -/

/-- Set a bit of SKK_EVENTS. -/
def State.skkEvent (s : State) (i : Nat) : State := { s with skk := { s.skk with events := setBit s.skk.events i } }

/-- Count NaN arrivals, infinities and saturations of a slice. -/
def State.countNum (s : State) (slice nan inf sat : Nat) : State :=
  if nan + inf + sat == 0 then s
  else
    let s1 := { s with skk := { s.skk with num := s.skk.num.upd slice (0, 0, 0, 0) (fun x =>
      (satAdd 16 x.1 nan, satAdd 16 x.2.1 inf, satAdd 16 x.2.2.1 sat, x.2.2.2)) } }
    let s2 := if nan == 0 then s1 else s1.skkEvent 2
    if inf + sat == 0 then s2 else s2.skkEvent 3

/-! ### Residuals (R238, R239) -/

/-- An element lies in a set of ranges. -/
def inRanges (rs : List (Nat × Nat)) (e : Nat) : Bool := rs.any (fun r => decide (r.1 ≤ e ∧ e < r.1 + r.2))

/-- The residual of a value emitted as `q`, in the area's format (R238). -/
def residVal (wide : Bool) (x q : FV) : Nat :=
  if x.isFin && q.isFin then
    let d := x.add q.neg
    if wide then to32 d else to32 (ffbf16.decode (ffbf16.rne d))
  else 0

/-- Record a residual; one that overwrites a changed value is counted. -/
def State.recordResid (s : State) (slice tensor pid e : Nat) (x q : FV) : State :=
  match s.skk.resid.find (65536 * slice + tensor) with
  | none => s
  | some a =>
    if !inRanges a.ranges e then s
    else
      let v := residVal a.wide x q
      let changed := match a.vals.find e with
        | some o => o.val != v
        | none => false
      let a1 := { a with vals := a.vals.put e ⟨v, pid, none⟩ }
      let s1 := { s with skk := { s.skk with resid := s.skk.resid.put (65536 * slice + tensor) a1 } }
      if changed then
        ({ s1 with skk := { s1.skk with overwrites := s1.skk.overwrites.upd slice 0 (satInc 16) } }).skkEvent 7
      else s1

/-- The pending residual of an element, for a leg entered at `w0` (R239). -/
def State.pendingResid (s : State) (slice tensor w0 e : Nat) : Option Nat :=
  match s.skk.resid.find (65536 * slice + tensor) with
  | none => none
  | some a => match a.vals.find e with
    | some ⟨v, _, some t⟩ => if t ≤ w0 then some v else none
    | _ => none

/-- A residual that was added is zeroed. -/
def State.zeroResid (s : State) (slice tensor e : Nat) : State :=
  { s with skk := { s.skk with resid := s.skk.resid.mapVal (fun k a =>
      if k == 65536 * slice + tensor then { a with vals := a.vals.del e } else a) } }

/-- Take the residuals of the elements of a block into their accumulated values, each once. -/
def State.absorb (s : State) (slice : Nat) (p : Passage) (blk : Nat) (vs : List (Option Nat)) :
    State × List (Option Nat) :=
  if !opFeedback p.operator then (s, vs)
  else
    let rs := (numbered vs 0).map (fun kv => match kv.2 with
      | some v => (match s.pendingResid slice p.tensor p.w0 (32 * blk + kv.1) with
        | some r => (some (combine 1 false p.comp v r), some (32 * blk + kv.1))
        | none => (some v, none))
      | none => (none, none))
    ((rs.filterMap Prod.snd).foldl (fun s e => s.zeroResid slice p.tensor e) s, rs.map Prod.fst)

/-- Record the residuals of a block that a passage stored into a buffer from wide values. -/
def State.residBlock (s : State) (slice pid : Nat) (p : Passage) (b blk : Nat) (vs : List (Option Nat)) (pair : Bool) : State :=
  if !opFeedback p.operator || !narrow (p.buf b).fmt then s
  else (numbered vs 0).foldl (fun s kv => match kv.2 with
    | some v => s.recordResid slice p.tensor pid (32 * blk + kv.1) (if pair then pairVal v else f32 v)
        (f32 (p.value b (32 * blk + kv.1)))
    | none => s) s

/-! ### Stripes (R217, R243 to R246) -/

/-- Stripe of a block. -/
def stripeOf (blk : Nat) : Nat := blk / 32

/-- Key of a stripe of a group. -/
def stripeKey (g stripe : Nat) : Nat := 2 ^ 40 * g + stripe

/-- Bytes of a staging stripe (R244). -/
def Passage.stripeBytes (p : Passage) : Nat := if p.comp then 8192 else 4096

/-- Bytes of the pool in use by a slice. -/
def State.poolUsed (s : State) (n : Nat) : Nat :=
  ((s.passagesOf n).map (fun e => (e.2.stripes.filter (fun x => x.2 == 0)).length * e.2.stripeBytes)).foldl (· + ·) 0

/-- Size of a slice's staging pool in bytes (R243). -/
def State.poolSize (s : State) (n : Nat) : Nat := (s.quotas n).2 - s.sramPlaced n

/-- Where a new stripe of a group can go: 0 the pool, 1 in place, 2 unplaced quota; none where it must
wait (R245, R246). -/
def State.stripePlace (s : State) (n : Nat) (p : Passage) (g : Group) : Option Nat :=
  let d := p.buf g.dst
  if decide (s.poolUsed n + p.stripeBytes ≤ s.poolSize n) then some 0
  else if d.loc == 1 && d.fmt == (if p.comp then 0x08 else 0x01) then some 1
  else if decide (s.hbmPlaced n + p.stripeBytes ≤ (s.quotas n).1) then some 2
  else none

/-- Open the stripe of a block where it is not open yet; false where it cannot be. A spill is counted, and
noted once per passage and iteration. -/
def State.openStripe (s : State) (slice pid gi blk : Nat) : State × Bool :=
  match s.psg.find (psgKey slice pid) with
  | none => (s, false)
  | some p =>
    let g := p.groups.getD gi ⟨0, 0, 0, [], 0, 0⟩
    let key := stripeKey gi (stripeOf blk)
    if p.stripes.has key then (s, true)
    else match s.stripePlace slice p g with
      | none => (s, false)
      | some w =>
        let unit := p.units.getD (stripeOf blk % max 1 p.units.length) 0
        let s1 := s.updPsg slice pid (fun p => { p with stripes := p.stripes.put key w })
        let s2 := { s1 with skk := { s1.skk with
          unitSlice := s1.skk.unitSlice.put unit slice
          peak := s1.skk.peak.upd slice 0 (max (s1.poolUsed slice / 4096)) } }
        if w == 0 then (s2, true)
        else
          let s3 := ({ s2 with skk := { s2.skk with spilled := s2.skk.spilled.upd slice 0 (· + p.stripeBytes / 4096) } }).skkEvent 0
          if p.spillNoted == some p.iter then (s3, true)
          else ((s3.updPsg slice pid (fun p => { p with spillNoted := some p.iter })).logAdd sevNotice slice
            (evNamed 5 "SPILL") (agentPassage slice pid) [p.leg, ceilDiv p.stripeBytes (2 ^ 20)], true)

/-! ### Progress of ports (R51, R52, R70) -/

/-- Key of a port of a group. -/
def progKey (g k : Nat) : Nat := 65536 * g + k

/-- Progress of a port of a group. -/
def Passage.progOf (p : Passage) (g k : Nat) : GProg := p.prog.get (progKey g k) ⟨0, 0, 0, []⟩

/-- Range of port `k` of a group (R51, R52). -/
def Group.range (g : Group) (k : Nat) : Nat × Nat :=
  if g.role == 0 || g.role == 3 then (g.first, g.count) else share g.first g.count k g.ports.length

/-- The elements of a block that lie in a range, as a mask. -/
def blockMask (r : Nat × Nat) (blk : Nat) : Nat :=
  maskOf 32 (fun k => decide (r.1 ≤ 32 * blk + k ∧ 32 * blk + k < r.1 + r.2))

/-- Every port of a receiving group has delivered its elements of a block. -/
def Passage.blockDone (p : Passage) (gi blk : Nat) : Bool :=
  let g := p.groups.getD gi ⟨0, 0, 0, [], 0, 0⟩
  (List.range g.ports.length).all (fun k => ((p.progOf gi k).arrived.get blk 0) == blockMask (g.range k) blk)

/-- Every block of a stripe that the group's range touches is complete. -/
def Passage.stripeDone (p : Passage) (gi stripe : Nat) : Bool :=
  let g := p.groups.getD gi ⟨0, 0, 0, [], 0, 0⟩
  (List.range 32).all (fun i => blockMask (g.first, g.count) (32 * stripe + i) == 0 || p.blockDone gi (32 * stripe + i))

/-- Indices of the groups of the current leg. -/
def Passage.legGroups (p : Passage) : List Nat :=
  match p.legs[p.leg]? with
  | some l => (List.range l.gCount).map (· + l.gFirst)
  | none => []

/-- The group of an index. -/
def Passage.grp (p : Passage) (gi : Nat) : Group := p.groups.getD gi ⟨0, 0, 0, [], 0, 0⟩

/-- A port of a group has done its part: every element received, or every byte sent and acknowledged. -/
def Passage.portDone (p : Passage) (gi k : Nat) : Bool :=
  let g := p.grp gi
  let r := g.range k
  let x := p.progOf gi k
  if g.role ≤ 2 then decide (r.2 ≤ x.got) else decide (wBytes p.wire r.1 r.2 ≤ x.acked)

/-- A group is complete (R51). -/
def Passage.groupDone (p : Passage) (gi : Nat) : Bool :=
  (List.range (p.grp gi).ports.length).all (p.portDone gi)

/-! ### Programs on a block (R250, R251, R262) -/

/-- The environment of a COMBINE or FINISH program on block `blk`. -/
def Passage.env (p : Passage) (q : Prog) (pid blk : Nat) (red arr count : Nat → Nat) : Env :=
  { ld := fun k slot idx => match slot with
      | 0 => red k
      | 1 => arr k
      | 13 => q.consts.getD idx 0
      | 14 => p.scalars.getD idx 0
      | 15 => to32 (.fin false (count k) 0)
      | _ =>
        let b := q.tsBuf.getD (slot - 3) 0xFF
        let v := p.value b (32 * blk + k)
        if (p.buf b).fmt == 0x08 then to32 (pairVal v) else v
    sr := fun k salt => srBits (salted (p.seed pid) salt) p.iter (32 * blk + k)
    mode := p.rounding }

/-- The tensor streams that a FINISH program stores, put into their buffers. -/
def Passage.putStreams (p : Passage) (q : Prog) (pid blk : Nat) (lanes : List Lane) : Passage :=
  (List.range 10).foldl (fun p t =>
    let vs := lanes.map (fun l => (l.stored (3 + t)).map (fun x => x.1))
    match (lanes.filterMap (fun l => l.stored (3 + t))).head? with
    | some (_, mode, salt) =>
      (p.store pid (q.tsBuf.getD t 0xFF) blk vs (if mode == 3 then p.rounding else mode) salt false).1
    | none => p) p

/-- Run a FINISH program over completed sums of a block: the values to emit, and the passage with its
streams. -/
def Passage.runFinish (p : Passage) (q : Prog) (pid blk : Nat) (vs : List (Option Nat)) (count : Nat) :
    Passage × List (Option Nat) :=
  let lanes := runProg (p.env q pid blk (fun k => ((vs.getD k none).getD 0)) (fun _ => 0) (fun _ => count))
    q.instrs (vs.map Option.isSome)
  (p.putStreams q pid blk lanes, lanes.map (fun l => (l.stored 2).map (fun x => x.1)))

/-! ### Accumulators (R225 to R230, R244) -/

/-- Combine the arrivals of one port in a block into accumulators; an accumulator not started takes its
initial value: the destination of an ACCUMULATE, CONST[0] of a COMBINE program, or the arrival itself. -/
def accBlock (p : Passage) (prog : Option Prog) (pid gi blk : Nat) (vs : List (Option Nat)) : List (Option Acc) :=
  let g := p.grp gi
  let t := p.acc.get gi []
  let e := fun (k : Nat) => 32 * blk + k
  let start : Nat → Option Acc := fun k => match t.find (e k) with
    | some a => some a
    | none => if g.role == 1 then some ⟨p.value g.dst (e k), 0⟩ else none
  match prog with
  | some q =>
    if q.kind == 0 then
      let base := fun (k : Nat) => (start k).getD ⟨q.consts.getD 0 0, 0⟩
      let lanes := runProg (p.env q pid blk (fun k => (base k).value) (fun k => (vs.getD k none).getD 0)
        (fun k => (base k).count)) q.instrs (vs.map Option.isSome)
      (numbered lanes 0).map (fun kl => (kl.2.stored 0).map (fun x => ⟨x.1, (base kl.1).count + 1⟩))
    else (numbered vs 0).map (fun kv => kv.2.map (fun v => match start kv.1 with
      | some a => ⟨fadd a.value v, a.count + 1⟩
      | none => ⟨v, 1⟩))
  | none => (numbered vs 0).map (fun kv => kv.2.map (fun v => match start kv.1 with
      | some a => ⟨combine (opBase p.operator) (fmt p.wire).int p.comp a.value v, a.count + 1⟩
      | none => ⟨v, 1⟩))

/-- Put accumulators of a block. -/
def Passage.putAcc (p : Passage) (gi blk : Nat) (as_ : List (Option Acc)) : Passage :=
  { p with acc := p.acc.put gi ((numbered as_ 0).foldl (fun t ka => match ka.2 with
      | some a => t.put (32 * blk + ka.1) a
      | none => t) (p.acc.get gi [])) }

/-- The accumulated values of a block of a group, and the passage without them. -/
def Passage.takeAcc (p : Passage) (gi blk : Nat) : Passage × List (Option Nat) :=
  let t := p.acc.get gi []
  ({ p with acc := p.acc.put gi (t.filter (fun x => x.1 / 32 != blk)) },
   (List.range 32).map (fun k => (t.find (32 * blk + k)).map (·.value)))

/-- A completed block is emitted: residuals, AVG or FINISH of a FORM 0 REDUCE, the cast into the
destination, its residuals, and the stripe's return (R229, R233, R239, R244, R262). -/
def State.emitDone (s : State) (slice pid gi blk : Nat) : State :=
  match s.psg.find (psgKey slice pid) with
  | none => s
  | some p =>
    if !p.blockDone gi blk then s
    else
      let g := p.grp gi
      let tk := p.takeAcc gi blk
      let ab := s.absorb slice tk.1 blk tk.2
      let reduce0 := p.form == 0 && g.role == 0
      let fin := match s.opProg slice p with
        | some q => if q.kind == 1 && reduce0 then
            tk.1.runFinish q pid blk ab.2 g.ports.length else (tk.1, ab.2)
        | none =>
          if reduce0 && opBase p.operator == 4 then
            (tk.1, ab.2.map (fun (v : Option Nat) => v.map (avgScale p.comp g.ports.length)))
          else (tk.1, ab.2)
      let pair := p.comp && !(reduce0 && opBase p.operator == 4)
      let st := fin.1.store pid g.dst blk fin.2 p.rounding 0 pair
      let p2 := if st.1.stripeDone gi (stripeOf blk)
        then { st.1 with stripes := st.1.stripes.del (stripeKey gi (stripeOf blk)) } else st.1
      let s1 := (ab.1.updPsg slice pid (fun _ => p2)).countNum slice 0 st.2.inf st.2.sat
      if g.role == 0 then s1.residBlock slice pid p2 g.dst blk fin.2 pair else s1

/-- Arrivals of one port in one block of a group of the current leg: `vs` are the decoded elements not
received before. The stripe is open where one is needed. -/
def State.arriveBlock (s : State) (slice pid gi k blk : Nat) (vs : List (Option Nat)) : State :=
  match s.psg.find (psgKey slice pid) with
  | none => s
  | some p =>
    let g := p.grp gi
    let n := vs.countP Option.isSome
    let mask := maskOf 32 (fun i => (vs.getD i none).isSome)
    let x := p.progOf gi k
    let x1 := { x with got := x.got + n, arrived := x.arrived.put blk (x.arrived.get blk 0 + mask) }
    let p1 := { p with prog := p.prog.put (progKey gi k) x1 }
    let nans := if (fmt p.wire).int then 0 else vs.countP (fun v => v == some nan32)
    let s1 := (s.updPsg slice pid (fun _ => p1)).countNum slice nans 0 0
    if g.role == 2 then
      let st := p1.store pid g.dst blk vs p.rounding 0 false
      (s1.updPsg slice pid (fun _ => st.1)).countNum slice 0 st.2.inf st.2.sat
    else
      let p2 := p1.putAcc gi blk (accBlock p1 (s1.opProg slice p1) pid gi blk vs)
      let s2 := s1.updPsg slice pid (fun _ => p2)
      if g.stages p.buffers then s2.emitDone slice pid gi blk
      else
        -- ACCUMULATE into stacked SRAM updates the buffer in place (R244)
        let tk := p2.takeAcc gi blk
        let ab := s2.absorb slice tk.1 blk tk.2
        let st := tk.1.store pid g.dst blk ab.2 p.rounding 0 p.comp
        ab.1.updPsg slice pid (fun _ => st.1)

/-! ### DATA frames (R203, R204) -/

/-- A DATA header. -/
structure DHdr where
  slice  : Nat
  parity : Bool
  dir    : Bool
  pid    : Nat
  fmt    : Nat
  leg    : Nat
  tensor : Nat
  off    : Nat
  bytes  : Nat
  elems  : Nat
  fid    : Nat

/-- Read a DATA header. -/
def dhdr (b : Bytes) : DHdr :=
  ⟨bits (byteAt b 1) 0 6, bit (byteAt b 1) 6, bit (byteAt b 1) 7, byteAt b 2, byteAt b 3, be b 4 2, be b 6 2, be b 8 8,
   be b 16 4, be b 20 4, be b 24 4⟩

/-- The frame agrees with its header (R200, R203). -/
def dataWellFormed (b : Bytes) : Bool :=
  let h := dhdr b
  byteAt b 0 == 1 && decide (b.length = 32 + h.bytes) && decide (1 ≤ h.bytes ∧ h.bytes ≤ 1048576)
    && decide (1 ≤ h.elems) && decide (h.leg < 4096) && h.off % 32 == 0 && decide (h.off < 2 ^ 40) && zeroAt b 28 4
    && (!fmtOk h.fmt || wBytes h.fmt h.off h.elems == h.bytes) && !h.dir

/-- The blocks a frame covers. -/
def DHdr.blocks (h : DHdr) : List Nat :=
  (List.range ((h.off + h.elems - 1) / 32 - h.off / 32 + 1)).map (· + h.off / 32)

/-- The decoded elements of block `blk` of a frame, none outside it. -/
def frameBlock (h : DHdr) (b : Bytes) (blk : Nat) : List (Option Nat) :=
  let d := b.drop 32
  (List.range 32).map (fun k =>
    let e := 32 * blk + k
    if decide (h.off ≤ e ∧ e < h.off + h.elems)
    then some (decodeElem h.fmt (scaleAt h.fmt d (e - h.off)) (codeAt h.fmt d (e - h.off))) else none)

/-- The receiving groups of the current leg that list a port, with its index. -/
def Passage.receivers (p : Passage) (port : Nat) : List (Nat × Nat) :=
  p.legGroups.filterMap (fun gi =>
    let g := p.grp gi
    if g.role ≤ 2 && g.ports.contains port then some (gi, g.ports.idxOf port) else none)

/-- The receiving group whose range for the port touches a block. -/
def Passage.receiverOf (p : Passage) (port blk : Nat) : Option (Nat × Nat) :=
  (p.receivers port).find? (fun gk => blockMask ((p.grp gk.1).range gk.2) blk != 0)

/-- The next leg's index, if the passage has one: leg 0 of an ARMED passage, or the one after the current. -/
def Passage.nextLeg (p : Passage) : Option Nat :=
  if p.st == .armed then some 0
  else if p.leg + 1 < p.legs.length then some (p.leg + 1)
  else if p.rep && (p.iterations == 0 || decide (p.iter + 1 < p.iterations)) then some 0
  else none

/-- Parity of the next leg. -/
def Passage.nextParity (p : Passage) : Bool := if p.st == .armed then false else !p.parity

/-- What R70 makes of a DATA frame: accepted, held, or refused with a NAK cause of R207. -/
inductive Verdict where
  | accept
  | hold
  | refuse (cause : Nat)
deriving DecidableEq, Repr

/-- Judge a DATA frame on a port (R70, R195, R203). Of several causes the first of this order is given. -/
def State.judgeData (s : State) (port : Nat) (vc : Option Nat) (b : Bytes) : Verdict :=
  let h := dhdr b
  if !dataWellFormed b then .refuse 7
  else if h.slice == 0 || s.owner port != h.slice then .refuse 1
  else match s.psg.find (psgKey h.slice h.pid) with
    | none => .refuse 3
    | some p =>
      if p.st == .aborted then .refuse 4
      else if !(vc == none || vc == some (b2n h.parity)) then .refuse 6
      else if h.fmt != p.wire || h.tensor != p.tensor then .refuse 5
      else if (p.st == .running || p.st == .stalled) && h.leg == p.leg && h.parity == p.parity then
        (if h.blocks.all (fun blk => (p.receiverOf port blk).isSome) then .accept else .refuse 2)
      else if p.st.live && some h.leg == p.nextLeg && h.parity == p.nextParity then .hold
      else .refuse 2

/-- The stripes that the new elements of a frame need can all be opened: the state with them open, or
none where one cannot be (R246). -/
def State.openFor (s : State) (port : Nat) (b : Bytes) : Option State :=
  let h := dhdr b
  h.blocks.foldl (fun acc blk => match acc with
    | none => none
    | some s => match s.psg.find (psgKey h.slice h.pid) with
      | none => none
      | some p => match p.receiverOf port blk with
        | none => some s
        | some (gi, k) =>
          if !(p.grp gi).stages p.buffers || (p.progOf gi k).arrived.get blk 0 == blockMask ((p.grp gi).range k) blk then some s
          else
            let r := s.openStripe h.slice h.pid gi blk
            if r.2 then some r.1 else none) (some s)

/-- Take one block of an accepted frame; true where it was a duplicate. -/
def State.takeBlock (s : State) (port : Nat) (h : DHdr) (b : Bytes) (blk : Nat) : State × Bool :=
  match s.psg.find (psgKey h.slice h.pid) with
  | none => (s, false)
  | some p => match p.receiverOf port blk with
    | none => (s, false)
    | some (gi, k) =>
      let m := blockMask ((p.grp gi).range k) blk
      let have_ := (p.progOf gi k).arrived.get blk 0
      if have_ == m then (s, true)
      else
        let vs := (numbered (frameBlock h b blk) 0).map (fun kv =>
          if bit m kv.1 && !bit have_ kv.1 then kv.2 else none)
        (s.arriveBlock h.slice h.pid gi k blk vs, false)

/-- Take an accepted frame whose stripes are open: its blocks in order, the bytes counted, duplicates
counted with one WARNING and one NAK per leg (R70, R207). -/
def State.takeFrame (s : State) (port : Nat) (b : Bytes) : State :=
  let h := dhdr b
  let r := h.blocks.foldl (fun (acc : State × Nat) blk =>
    let x := acc.1.takeBlock port h b blk
    (x.1, acc.2 + b2n x.2)) (s, 0)
  let s1 := r.1.updPsg h.slice h.pid (fun p =>
    let p := { p with bytesIn := p.bytesIn + h.bytes, duplicates := p.duplicates + r.2 }
    match p.receivers port with
    | [] => p
    | (gi, k) :: _ =>
      let x := p.progOf gi k
      if r.2 == h.blocks.length then p
      else { p with prog := p.prog.put (progKey gi k) { x with acked := x.acked + h.bytes } })
  if r.2 == 0 then s1
  else
    let s2 := if refClass port == 2 then s1.lcount "DUPLICATE_BLOCKS" (refIndex port) r.2 else s1
    match s2.psg.find (psgKey h.slice h.pid) with
    | some p =>
      if p.dupWarned then s2
      else
        let s3 := (s2.updPsg h.slice h.pid (fun p => { p with dupWarned := true })).logAdd sevWarning h.slice
          (evNamed 4 "DUPLICATE_BLOCK") (agentPassage h.slice h.pid) [h.leg, port]
        if refClass port == 2 then s3.nak (refIndex port) b 8 else s3
    | none => s2

/-- Count a refused frame of a passage. -/
def State.countRefused (s : State) (b : Bytes) : State :=
  s.updPsg (dhdr b).slice (dhdr b).pid (fun p => { p with refused := p.refused + 1 })

/-- Flits of a frame. -/
def flitsOf (n : Nat) : Nat := ceilDiv n 232

/-- A DATA frame on a terminated port (R70): taken, held by credit for the next leg or for a stripe, or
refused with a NAK. The result says whether its credit is freed. -/
def State.dataOn (s : State) (p vc : Nat) (b : Bytes) : State × Bool :=
  match s.judgeData (refP p) (some vc) b with
  | .refuse c => ((s.countRefused b).nak p b c, true)
  | .hold => (s.updLp p (fun x => { x with heldq := x.heldq ++ [(vc, b, flitsOf b.length)] }), false)
  | .accept =>
    match s.openFor (refP p) b with
    | some s1 => (s1.takeFrame (refP p) b, true)
    | none =>
      let s1 := (s.updLp p (fun x => { x with heldq := x.heldq ++ [(vc, b, flitsOf b.length)] })).skkEvent 1
      ({ s1 with skk := { s1.skk with held := s1.skk.held ++ [(refP p, (dhdr b).slice)] } }, false)

/-- Free credits of a virtual channel (R196, R197). -/
def State.freeCredit (s : State) (p vc flits : Nat) : State :=
  s.updLp p (fun x => { x with ownLimit := x.ownLimit.set vc ((x.ownLimit.getD vc 0 + flits) % 65536) })

/-- Judge the DATA frames held on a terminated port again, in order: those that are taken free their credit. In a
pause and in a thermal stop none is (R32, R466). -/
def State.retryHeld (s : State) (p : Nat) : State :=
  let q := if s.paused || s.mem.thermStop then [] else (s.lp p).heldq
  q.foldl (fun s x =>
    if byteAt x.2.1 0 == 0x10 then s.updLp p (fun y => { y with heldq := y.heldq ++ [x] })
    else
    let r := s.dataOn p x.1 x.2.1
    if r.2 then r.1.freeCredit p x.1 x.2.2 else r.1) (if q == [] then s else s.updLp p (fun x => { x with heldq := [] }))

/-- Judge the frames held on every terminated port again (R67 step 2, R246). -/
def State.retryAll (s : State) : State :=
  (s.lnk.port.filter (fun e => e.2.heldq != [])).foldl (fun s e => s.retryHeld e.1) s

/-- The rack whose leg data a global port expects. -/
def State.legSource (s : State) (t : Nat) : Nat := (s.gp t).expectRack

/-- Acknowledge the bytes received on a global port over the standing ports (R156, R207). -/
def State.ackLeg (s : State) (t : Nat) (h : DHdr) : State :=
  match s.psg.find (psgKey h.slice h.pid) with
  | none => s
  | some p =>
    let n := ((p.receivers (refG t)).map (fun gk => (p.progOf gk.1 gk.2).acked)).foldl (· + ·) 0
    s.queueStanding h.slice (s.legSource t) 3
      (ctlHeader 0x23 h.slice h.pid s.topo.rack p.leg p.iter ++ beBytes 1 t ++ zeros 7 ++ beBytes 8 n)

/-- The stream of a leg before its first flit. -/
def RxStream.start : RxStream := ⟨0, [], none⟩

/-- SEQ extended to an index from the next index of the stream (R210). -/
def extendSeq (next seq : Nat) : Nat :=
  let d := (seq + 65536 - next % 65536) % 65536
  if d < 32768 || next + d < 65536 then next + d else next + d - 65536

/-- What remains of a range of flits when those from `a` up to `b` have arrived. -/
def cutRange (a b : Nat) (r : Nat × Nat) : List (Nat × Nat) :=
  (if r.1 < a then [(r.1, min (r.1 + r.2) a - r.1)] else [])
    ++ (if b < r.1 + r.2 then [(max r.1 b, r.1 + r.2 - max r.1 b)] else [])

/-- The stream after `n` flits from index `i` on: those passed over are missing, those that were missing are not. -/
def RxStream.take (x : RxStream) (i n : Nat) : RxStream :=
  if x.next ≤ i then
    { x with next := i + n, missing := x.missing ++ (if x.next < i then [(x.next, i - x.next)] else []) }
  else { x with next := max x.next (i + n), missing := x.missing.flatMap (cutRange i (i + n)) }

/-- The flits of a frame have arrived in the stream of its leg. -/
def Passage.streamIn (p : Passage) (t seq n : Nat) : Passage :=
  { p with rx := p.rx.upd t RxStream.start (fun x => x.take (extendSeq x.next seq) n) }

/-- A leg frame on a global port (R70, R496): taken and acknowledged, kept for the next leg, or discarded
and counted. It belongs to the burst accepted on the port. A frame that finds no stripe leaves its flits missing. -/
def State.legOn (s : State) (t seq : Nat) (b : Bytes) : State :=
  let h := dhdr b
  let n := flitsOf b.length
  match s.judgeData (refG t) none b with
  | .refuse _ => (s.countRefused b).updPsg h.slice h.pid (fun p => if h.leg == p.leg then p.streamIn t seq n else p)
  | .hold => s.updPsg h.slice h.pid (fun p => { p with heldG := p.heldG ++ [(t, seq, b)] })
  | .accept =>
    match (if s.mem.thermStop then none else s.openFor (refG t) b) with
    | some s1 => ((s1.takeFrame (refG t) b).updPsg h.slice h.pid (fun p => p.streamIn t seq n)).ackLeg t h
    | none => s.skkEvent 1

/-! ### Sending (R51, R70, R204, R224, R233) -/

/-- Blocks of a frame at most. -/
def frameBlocks (wire : Nat) : Nat := 1048576 / (fmt wire).block

/-- The element values of block `blk` that a port's range holds, read from the source buffer. -/
def Passage.sendBlock (p : Passage) (src : Nat) (r : Nat × Nat) (blk : Nat) : List (Option Nat) :=
  (List.range 32).map (fun k =>
    let e := 32 * blk + k
    if decide (r.1 ≤ e ∧ e < r.1 + r.2) then some (p.value src e) else none)

/-- One block cast to the wire format: scale and codes. -/
def Passage.wireBlock (p : Passage) (pid src : Nat) (r : Nat × Nat) (blk : Nat) : Nat × List Nat × EmitCnt :=
  emitBlock p.wire p.rounding (opBase p.operator == 5) ((p.buf src).fmt == 0x08)
    ((numbered (p.sendBlock src r blk) 0).map (fun kv => (kv.2, srBits (p.seed pid) p.iter (32 * blk + kv.1))))

/-- Bytes of one block of a range as sent (R223, R224): to the range's end in formats without a scale. -/
def Passage.blockBytes (p : Passage) (pid src : Nat) (r : Nat × Nat) (blk : Nat) : Bytes :=
  let w := p.wireBlock pid src r blk
  let f := fmt p.wire
  if f.mx then leBytes 1 w.1 ++ packCodes f.ebits w.2.1
  else packCodes f.ebits (w.2.1.take (min 32 (r.1 + r.2 - 32 * blk)))

/-- Blocks of a range. -/
def rangeBlocks (r : Nat × Nat) : Nat := if r.2 == 0 then 0 else (r.1 + r.2 - 1) / 32 - r.1 / 32 + 1

/-- The DATA frame that carries `n` blocks of a range from its block `c` on (R203, R204, R71). -/
def Passage.dataFrame (p : Passage) (slice pid src : Nat) (r : Nat × Nat) (c n : Nat) : Bytes :=
  let b0 := r.1 / 32 + c
  let d := (List.range n).flatMap (fun i => p.blockBytes pid src r (b0 + i))
  let cnt := min (32 * n) (r.1 + r.2 - 32 * b0)
  beBytes 1 1 ++ beBytes 1 (slice + 64 * b2n p.parity + 128) ++ beBytes 1 pid ++ beBytes 1 p.wire
    ++ beBytes 2 p.leg ++ beBytes 2 p.tensor ++ beBytes 8 (32 * b0) ++ beBytes 4 d.length ++ beBytes 4 cnt
    ++ zeros 4 ++ zeros 4 ++ d

/-- Record the residuals and counts of blocks sent from a wide source buffer (R238). -/
def State.sentBlocks (s : State) (slice pid : Nat) (p : Passage) (src : Nat) (r : Nat × Nat) (c n : Nat) : State :=
  let f := (p.buf src).fmt
  (List.range n).foldl (fun s i =>
    let blk := r.1 / 32 + c + i
    let w := p.wireBlock pid src r blk
    let s1 := s.countNum slice 0 w.2.2.inf w.2.2.sat
    if opFeedback p.operator && !narrow f && narrow p.wire then
      (numbered (p.sendBlock src r blk) 0).foldl (fun s kv => match kv.2 with
        | some v => s.recordResid slice p.tensor pid (32 * blk + kv.1) (if f == 0x08 then pairVal v else f32 v)
            (f32 (decodeElem p.wire w.1 (w.2.1.getD kv.1 0)))
        | none => s) s1
    else s1) s

/-- The next frame of port `k` of a sending group, and the state with its cursor advanced; none where the
whole range has been sent. -/
def State.nextFrame (s : State) (slice pid gi k : Nat) : Option (Bytes × Nat × State) :=
  match s.psg.find (psgKey slice pid) with
  | none => none
  | some p =>
    let g := p.grp gi
    let r := g.range k
    let x := p.progOf gi k
    let left := rangeBlocks r - x.cursor
    if left == 0 then none
    else
      let n := min left (frameBlocks p.wire)
      let fr := p.dataFrame slice pid g.src r x.cursor n
      let s1 := (s.sentBlocks slice pid p g.src r x.cursor n).updPsg slice pid (fun p => { p with
        prog := p.prog.put (progKey gi k) { x with cursor := x.cursor + n } })
      some (fr, fr.length - 32, s1)

/-- All frames of port `k` of a sending group; `fuel` bounds them. -/
def State.allFrames : Nat → State → Nat → Nat → Nat → Nat → List Bytes × State
  | 0, s, _, _, _, _ => ([], s)
  | fuel + 1, s, slice, pid, gi, k =>
    match s.nextFrame slice pid gi k with
    | none => ([], s)
    | some (b, _, s1) =>
      let r := State.allFrames fuel s1 slice pid gi k
      (b :: r.1, r.2)

/-! ### Rows -/

/-- DATA_FRAME (R70): a DATA frame arrives on a terminated port, on a virtual channel; in a pause it is held by
credit (R32), and in a thermal stop (R466). -/
def execDataFrame (p : Fin 256) (vc : Fin 8) (frame : Bytes) (s : State) : Host.Outcome State Fault Refusal :=
  .next (if !s.lpLive p then s
    else if s.paused || s.mem.thermStop then s.updLp p (fun x => { x with heldq := x.heldq ++ [(vc.val, frame, flitsOf frame.length)] })
    else
      let r := s.dataOn p vc frame
      if r.2 then r.1.freeCredit p vc (flitsOf frame.length) else r.1)

/-- GLOBAL_LEG_FRAME (R153, R496): a leg frame arrives on a global port, in the burst accepted there; outside
one it is discarded and counted. -/
def execGlobalLegFrame (g : Fin 64) (_vc : Fin 8) (seq : Fin 65536) (frame : Bytes) (s : State) : Host.Outcome State Fault Refusal :=
  .next (match (s.gp g).burst with
    | some (n, pid, _) => if n == (dhdr frame).slice && pid == (dhdr frame).pid then s.legOn g seq frame else s.countRefused frame
    | none => s.countRefused frame)

/-- STRIPE_FREED (R246): the ports of a slice that were held for a stripe get credit again. -/
def execStripeFreed (slice : Fin 64) (s : State) : Host.Outcome State Fault Refusal :=
  .next (let ps := nubNat ((s.skk.held.filter (fun e => e.2 == slice.val)).map (fun e => refIndex e.1))
    let s1 := { s with skk := { s.skk with held := s.skk.held.filter (fun e => e.2 != slice.val) } }
    ps.foldl (fun s p => s.retryHeld p) s1)

/-- RESIDUAL_CLEAR (R242). -/
def cmdResidualClear (r : Req) (s : State) : CmdOut :=
  let t := r.p 16 2
  let key := 65536 * r.slice + t
  let a := s.skk.resid.get key ⟨0, false, [], []⟩
  guarded s [
      ranges [(16, decide (1 ≤ t)), (18, r.z 18)], sliceChk s r.slice,
      chk (s.skk.resid.has key) 0x0302 t 0,
      match (s.passagesOf r.slice).find? (fun e => e.2.tensor == t && (e.2.st == .running || e.2.st == .stalled)) with
      | some e => some (0x0301, e.2.st.code, 0)
      | none => none]
    (ok { s with skk := { s.skk with resid := s.skk.resid.put key { a with vals := [] } } } (residBytes a.ranges a.wide) 0)

end Sys2Proof.Machine
end

