-- ==== Sys2Proof/Machine/Opt.lean ====
section
/-! DEFINITION. Optimizer bindings, their state transfers, and the optimizer pass of a leg (08 R264 to R277). -/

namespace Sys2Proof.Machine

/-! ### Bindings -/

/-- Key of a binding or a residual area. -/
def tensorKey (slice tensor : Nat) : Nat := 65536 * slice + tensor

/-- A binding. -/
def State.bindingOf (s : State) (slice tensor : Nat) : Option Binding := s.skk.binding.find (tensorKey slice tensor)

/-- Put a binding. -/
def State.putBinding (s : State) (slice tensor : Nat) (b : Binding) : State :=
  { s with skk := { s.skk with binding := s.skk.binding.put (tensorKey slice tensor) b } }

/-- A binding of nothing. -/
def Binding.none_ : Binding :=
  { recipe := 1, split := false, mfmt := 1, mround := 0, locReq := 0, loc := 0, slot := 0, first := 0, count := 0
    counter := 0, lr := 0, b1 := 0, b2 := 0, eps := 0, wd := 0, gs := 0, rows := 0, cols := 0, st := 1, partial_ := false
    skipped := 0, w := [], m := [], mS := [], v := [], vS := [], rStat := [], cStat := [], words := [], damaged := []
    reloaded := [], hbm := 0, sram := 0 }

/-- The value of an FP32 code is zero. -/
def isZero32 (c : Nat) : Bool := (f32 c).eqv (.fin false 0 0)

/-- Whether a recipe and mode hold a component 0 to 4 (R271, R275); the step counter 5 always exists. -/
def Binding.hasComp (b : Binding) (c : Nat) : Bool :=
  match c with
  | 0 => !b.split
  | 1 => b.recipe != 4 || !isZero32 b.b1
  | 2 => b.recipe == 2 || b.recipe == 0x10
  | 3 => b.recipe == 4
  | 4 => b.recipe == 4
  | 5 => true
  | _ => false

/-- Rows the range touches: first row and their number (R266, R268). -/
def Binding.rowRange (b : Binding) : Nat × Nat :=
  let c := max 1 b.cols
  (b.first / c, (b.first + b.count - 1) / c - b.first / c + 1)

/-- Index range of a component: first and count (R275). -/
def Binding.compRange (b : Binding) (c : Nat) : Nat × Nat :=
  match c with
  | 3 => b.rowRange
  | 4 => (0, b.cols)
  | 5 => (0, 1)
  | _ => (b.first, b.count)

/-- Stored format of a component. -/
def Binding.compFmt (b : Binding) (c : Nat) : Nat := if c == 1 || c == 2 then b.mfmt else 0x01

/-- Elements ahead of a part in its stored form: components 0 to 2 start on the tensor's 32-element grid (R224, R275). -/
def lead (c first : Nat) : Nat := if c ≤ 2 then first % 32 else 0

/-- Bytes of a part of a component in its stored form (R268, R275): W for components 0 to 2, 4 for each row or column. -/
def Binding.compBytes (b : Binding) (c first count : Nat) : Nat :=
  if c == 5 then 8 else if c ≤ 2 then wBytes (b.compFmt c) first count else 4 * count

/-- Bytes the state takes (R268, R271). -/
def Binding.stateBytes (b : Binding) : Nat :=
  ((List.range 5).map (fun c => if b.hasComp c then b.compBytes c (b.compRange c).1 (b.compRange c).2 else 0)).foldl (· + ·) 0

/-! ### OPT_BIND (R269 to R273) -/

/-- A finite FP32 code, at least 0. -/
def nonNeg (c : Nat) : Bool := (f32 c).isFin && !lt0 c

/-- 0 at most below the bound 1. -/
def below1 (c : Nat) : Bool := nonNeg c && (f32 c).lt (.fin false 1 0)

/-- The fields of an OPT_BIND block as a binding. -/
def bindOf (b : Bytes) : Binding :=
  { Binding.none_ with
    recipe := le b 2 1, split := bit (byteAt b 3) 0, mfmt := le b 4 1, mround := le b 5 1, locReq := le b 6 1
    slot := le b 7 1, first := le b 8 8, count := le b 16 8, counter := le b 24 8, lr := le b 32 4, b1 := le b 36 4
    b2 := le b 40 4, eps := le b 44 4, wd := le b 48 4, gs := le b 52 4, rows := le b 56 4, cols := le b 60 4 }

/-- A KIND 2 program loads or stores TS0. -/
def usesTs0 (q : Prog) : Bool :=
  q.instrs.any (fun w => (iOpc w == 1 && iA w == 3) || (iOpc w == 2 && iD w == 3))

/-- Rows of a bind or an update (R269). -/
def bindRows (s : State) (slice : Nat) (b : Bytes) : List (Nat × Bool) :=
  let x := bindOf b
  let upd := bit (byteAt b 3) 1
  let adam := x.recipe == 2 || x.recipe == 0x10
  let ts0 := x.recipe == 0x10 && (match s.progOf slice x.slot with
    | some q => q.kind == 2 && usesTs0 q
    | none => false)
  [(0, decide (1 ≤ le b 0 2)), (2, decide (1 ≤ x.recipe ∧ x.recipe ≤ 4) || x.recipe == 0x10),
   (3, decide (byteAt b 3 < 4) && !(x.split && ts0)),
   (4, if x.recipe == 4 && isZero32 x.b1 then x.mfmt == 0 else x.mfmt == 1 || x.mfmt == 2 || x.mfmt == 0x10),
   (5, decide (x.mround ≤ 2)), (6, decide (x.locReq ≤ 2)),
   (7, if x.recipe == 0x10 then decide (x.slot < 32) else x.slot == 0),
   (8, decide (x.first < 2 ^ 40) && (x.mfmt != 0x10 || x.first % 32 == 0)),
   (16, decide (1 ≤ x.count ∧ x.count ≤ 2 ^ 40)),
   (24, decide (x.counter < 2 ^ 63) || (upd && x.counter == 2 ^ 64 - 1)),
   (32, nonNeg x.lr), (36, below1 x.b1),
   (40, if x.recipe == 1 then isZero32 x.b2 else below1 x.b2 && gt0 x.b2),
   (44, if adam || x.recipe == 4 then nonNeg x.eps && gt0 x.eps else isZero32 x.eps),
   (48, nonNeg x.wd && (!x.split || isZero32 x.wd)), (52, (f32 x.gs).isFin && !isZero32 x.gs),
   (56, if x.recipe == 4 then decide (1 ≤ x.rows) else x.rows == 0),
   (60, if x.recipe == 4 then decide (1 ≤ x.cols) && decide (x.first + x.count ≤ x.rows * x.cols) else x.cols == 0)]

/-- Rows of a query: every field but TENSOR_ID is 0. -/
def bindQueryRows (b : Bytes) : List (Nat × Bool) :=
  [(0, decide (1 ≤ le b 0 2)), (2, byteAt b 2 == 0), (3, byteAt b 3 == 4), (4, byteAt b 4 == 0), (5, byteAt b 5 == 0),
   (6, byteAt b 6 == 0), (7, byteAt b 7 == 0), (8, le b 8 8 == 0), (16, le b 16 8 == 0), (24, le b 24 8 == 0)]
  ++ (List.range 8).map (fun i => (32 + 4 * i, le b (32 + 4 * i) 4 == 0))

/-- Check 3 of R270: what an update may not change. -/
def updateRows (x o : Binding) : List (Nat × Bool) :=
  [(2, x.recipe == o.recipe), (3, x.split == o.split), (4, x.mfmt == o.mfmt), (6, x.locReq == o.locReq), (7, x.slot == o.slot),
   (8, x.first == o.first), (16, x.count == o.count), (56, x.rows == o.rows), (60, x.cols == o.cols)]

/-- Where the state of a new binding goes: stacked SRAM, or HBM (R39, R243, R270 check 6). -/
def bindLoc (s : State) (slice : Nat) (x : Binding) : Nat :=
  if x.locReq == 2 then
    (if decide (s.sramPlaced slice + x.stateBytes + minPool ≤ (s.quotas slice).2) then 0 else 1)
  else x.locReq

/-- OPT_BIND (R270, R272, R273). -/
def cmdOptBind (r : Req) (s : State) : CmdOut :=
  let b := r.params
  let t := le b 0 2
  let upd := bit (byteAt b 3) 1
  let qry := bit (byteAt b 3) 2
  let x := bindOf b
  let old := s.bindingOf r.slice t
  let o := old.getD Binding.none_
  let mine := (s.skk.binding.filter (fun e => e.1 / 65536 == r.slice)).length
  let loc := bindLoc s r.slice x
  let n := x.stateBytes
  guarded s [
      ranges (if qry then bindQueryRows b else bindRows s r.slice b), sliceChk s r.slice,
      if upd || qry then chk old.isSome 0x0302 t 0 else chk old.isNone 0x0301 o.st 0,
      if upd then ranges (updateRows x o) else none,
      chk (qry || x.recipe != 0x10 || (match s.progOf r.slice x.slot with
        | some q => q.kind == 2
        | none => false)) 0x0303 4 0,
      chk (upd || qry || (decide (mine < 16) && decide (s.skk.binding.length < 256))) 0x0201 9 0,
      chk (upd || qry || loc == 0 || decide (s.hbmPlaced r.slice + n ≤ (s.quotas r.slice).1)) 0x0201 1
        (s.hbmPlaced r.slice + n - (s.quotas r.slice).1),
      chk (upd || qry || loc == 1 || decide (s.sramPlaced r.slice + n ≤ (s.quotas r.slice).2)) 0x0201 2
        (s.sramPlaced r.slice + n - (s.quotas r.slice).2)]
    (if qry then ok s (o.st + 16 * b2n o.partial_ + 256 * o.recipe + 2 ^ 32 * min o.skipped (2 ^ 32 - 1)) o.counter
     else if upd then
       ok (s.putBinding r.slice t { o with
         mround := x.mround, lr := x.lr, b1 := x.b1, b2 := x.b2, eps := x.eps, wd := x.wd, gs := x.gs
         counter := if x.counter == 2 ^ 64 - 1 then o.counter else x.counter
         partial_ := false, reloaded := [] }) 0 0
     else
       let h := if loc == 1 then n else 0
       let m := if loc == 0 then n else 0
       ok (s.putBinding r.slice t { x with loc := loc, hbm := h, sram := m }) h m)

/-- A passage has OPT_FINAL or an OPTIMIZER leg for a tensor. -/
def Passage.stepsTensor (p : Passage) (t : Nat) : Bool := p.tensor == t && (p.optFinal || p.legs.any (·.optimizer))

/-- OPT_UNBIND (R274). -/
def cmdOptUnbind (r : Req) (s : State) : CmdOut :=
  let t := r.p 16 2
  guarded s [
      ranges [(16, decide (1 ≤ t)), (18, r.z 18)], sliceChk s r.slice,
      chk (s.bindingOf r.slice t).isSome 0x0302 t 0,
      match (s.passagesOf r.slice).find? (fun e => e.2.stepsTensor t) with
      | some e => some (0x0301, e.2.st.code, 0)
      | none => none,
      chk (((s.bindingOf r.slice t).getD Binding.none_).st != 2) 0x0601 t 0]
    (ok { s with skk := { s.skk with binding := s.skk.binding.del (tensorKey r.slice t) } } 0 0)

/-! ### State transfers (R275) -/

/-- The checks OPT_STATE_LOAD and OPT_STATE_DUMP share, then the transfer begins. -/
def optTransfer (load : Bool) (r : Req) (s : State) : CmdOut :=
  let b := r.params
  let t := le b 0 2
  let c := byteAt b 2
  let first := le b 8 8
  let count := le b 16 8
  let addr := le b 24 8
  let old := s.bindingOf r.slice t
  let o := old.getD Binding.none_
  let rg := o.compRange c
  guarded s [
      ranges [(0, decide (1 ≤ t)), (2, decide (c ≤ 5) && (old.isNone || o.hasComp c)), (3, zeroAt b 3 5),
        (8, old.isNone || (decide (rg.1 ≤ first ∧ first < rg.1 + rg.2) && (o.compFmt c != 0x10 || first % 32 == 0))),
        (16, decide (1 ≤ count) && (old.isNone || (if c == 5 then count == 1 else decide (first + count ≤ rg.1 + rg.2)))),
        (24, addr != 0 && addr % 8 == 0)],
      sliceChk s r.slice,
      chk old.isSome 0x0302 t 0,
      match (s.passagesOf r.slice).find? (fun e => e.2.tensor == t && (e.2.st == .running || e.2.st == .stalled)) with
      | some e => some (0x0301, e.2.st.code, 0)
      | none => none,
      chk (o.st != 2) 0x0601 t 0]
    (.wait (s.putBinding r.slice t { o with st := 2 }) (.transfer r.slice t load c first count addr r.data))

/-- OPT_STATE_LOAD (R275): the binding is in TRANSFER until the copy ends. -/
def cmdOptStateLoad (r : Req) (s : State) : CmdOut := optTransfer true r s

/-- OPT_STATE_DUMP (R275). -/
def cmdOptStateDump (r : Req) (s : State) : CmdOut := optTransfer false r s

/-- Put codes from a stored form into a component, for `n` elements from `first`, `skip` elements into the form. -/
def loadCodes (f skip first n : Nat) (d : Bytes) (t : Tbl Nat) : Tbl Nat :=
  (List.range n).foldl (fun t k => putCode t (first + k) (codeAt f d (skip + k))) t

/-- Put the scale bytes of the blocks loaded. -/
def loadScales (f first n : Nat) (d : Bytes) (t : Tbl Nat) : Tbl Nat :=
  if (fmt f).mx then (List.range (ceilDiv n 32)).foldl (fun t k => putCode t (first / 32 + k) (scaleAt f d (32 * k))) t else t

/-- Elements of a component held whole in the first bytes of a stored form: for MX, whole blocks. -/
def wholeElems (f skip count bytes : Nat) : Nat :=
  if (fmt f).mx then min count (bytes / (fmt f).block * 32) else min count (bytes * 8 / (fmt f).ebits - skip)

/-- The binding after the bytes of a load that arrived. Words loaded are no longer damaged; a component loaded
whole counts towards clearing PARTIAL, which ends when every component has been (R273). -/
def Binding.load (b : Binding) (c first count : Nat) (d : Bytes) : Binding :=
  let f := b.compFmt c
  let o := lead c first
  let n := if d.length == b.compBytes c first count then count else wholeElems f o count d.length
  let b1 := match c with
    | 0 => { b with w := loadCodes f o first n d b.w }
    | 1 => { b with m := loadCodes f o first n d b.m, mS := loadScales f first n d b.mS }
    | 2 => { b with v := loadCodes f o first n d b.v, vS := loadScales f first n d b.vS }
    | 3 => { b with rStat := loadCodes f o first n d b.rStat }
    | 4 => { b with cStat := loadCodes f o first n d b.cStat }
    | _ => if 8 ≤ d.length then { b with counter := le d 0 8 } else b
  let whole := c != 5 && (first, n) == b.compRange c
  let re := if b.partial_ && whole && !b.reloaded.contains c then c :: b.reloaded else b.reloaded
  let done := b.partial_ && (List.range 5).all (fun k => !b.hasComp k || re.contains k)
  { b1 with
    damaged := b.damaged.filter (fun x => !(x.1 == c && decide (first ≤ x.2 ∧ x.2 < first + n)))
    partial_ := b.partial_ && !done
    reloaded := if done then [] else re }

/-- The stored form of a part of a component: what lies outside the part on its grid is zero (R224). -/
def Binding.dump (b : Binding) (c first count : Nat) : Bytes :=
  let codes := fun (f : Nat) (t s : Tbl Nat) =>
    if (fmt f).mx then (List.range (ceilDiv count 32)).flatMap (fun k =>
      leBytes 1 (s.get (first / 32 + k) 0) ++ packCodes (fmt f).ebits
        ((List.range 32).map (fun j => if 32 * k + j < count then t.get (first + 32 * k + j) 0 else 0)))
    else packCodes (fmt f).ebits (List.replicate (lead c first) 0 ++ (List.range count).map (fun k => t.get (first + k) 0))
  match c with
  | 0 => codes 1 b.w []
  | 1 => codes b.mfmt b.m b.mS
  | 2 => codes b.mfmt b.v b.vS
  | 3 => codes 1 b.rStat []
  | 4 => codes 1 b.cStat []
  | _ => leBytes 8 b.counter

/-- The end of a transfer: the bytes copied take effect, the binding leaves TRANSFER, and the command completes
unless it has timed out. Check 5 of R275 fails where the host buffer faulted before the end. -/
def State.endTransfer (s : State) (e : Exec) (done : Nat) : State :=
  match e.wait with
  | .transfer slice tensor load c first count addr data =>
    match s.bindingOf slice tensor with
    | none => s.completeExec e 0x0104 3 0
    | some b =>
      let size := b.compBytes c first count
      let n := min (min done size) (if load then data.length else size)
      let b1 := if load then b.load c first count (data.take n) else b
      let b2 := { b1 with st := if b1.damaged == [] then 1 else 3 }
      let s1 := s.putBinding slice tensor b2
      let s2 := if load then s1 else s1.emit (.hostWrite addr ((b.dump c first count).take n))
      if n == size then s2.completeExec e 0 size 0 else s2.completeExec e 0x0104 3 0
  | _ => s

/-! ### The optimizer pass (R264 to R268) -/

/-- Moments of an element, and its master weight, as FP32. -/
def Binding.mVal (b : Binding) (e : Nat) : Nat := decodeElem b.mfmt (b.mS.get (e / 32) 0) (b.m.get e 0)
def Binding.vVal (b : Binding) (e : Nat) : Nat := decodeElem b.mfmt (b.vS.get (e / 32) 0) (b.v.get e 0)
def Binding.wVal (b : Binding) (e : Nat) : Nat := to32 (f32 (b.w.get e 0))

/-- The leg that a passage is in is an optimizer leg. -/
def Passage.optLeg (p : Passage) : Bool := match p.legs[p.leg]? with
  | some l => l.optimizer
  | none => false

/-- Where the recipe reads the gradient of an element and where it puts OUT: B1 and B2 in the templates, the
destination of the leg's group that covers it in FORM 0. -/
def Passage.optBufs (p : Passage) (e : Nat) : Nat × Nat :=
  if p.form != 0 then (1, 2)
  else match p.legGroups.find? (fun gi => decide ((p.grp gi).role ≤ 2) &&
      decide ((p.grp gi).first ≤ e ∧ e < (p.grp gi).first + (p.grp gi).count)) with
    | some gi => ((p.grp gi).dst, (p.grp gi).dst)
    | none => (0xFF, 0xFF)

/-- The gradient of an element: the FP32 value of RED. -/
def Passage.grad (p : Passage) (e : Nat) : Nat :=
  let b := (p.optBufs e).1
  let v := p.value b e
  if (p.buf b).fmt == 0x08 then to32 (pairVal v) else v

/-- Elements of block `blk` in the range, by lane. -/
def Binding.lane (b : Binding) (blk k : Nat) : Bool := decide (b.first ≤ 32 * blk + k ∧ 32 * blk + k < b.first + b.count)

/-- Store a moment's new values in a block: codes and scales. An MX block is emitted with all its elements, an
unchanged one from its decoded value, so that one scale holds. -/
def Binding.putMoment (b : Binding) (codes scales : Tbl Nat) (blk : Nat) (vs : List (Option Nat)) (mode : Nat)
    (sr : Nat → Nat) : Tbl Nat × Tbl Nat :=
  let mx := (fmt b.mfmt).mx
  let some_ := vs.any Option.isSome
  let full := (numbered vs 0).map (fun kv => match kv.2 with
    | some v => (some v, sr kv.1)
    | none => if mx && some_ && b.lane blk kv.1
      then (some (decodeElem b.mfmt (scales.get blk 0) (codes.get (32 * blk + kv.1) 0)), sr kv.1) else (none, 0))
  let r := emitBlock b.mfmt mode false false full
  ((numbered full 0).foldl (fun t kf => if kf.2.1.isSome then putCode t (32 * blk + kf.1) (r.2.1.getD kf.1 0) else t) codes,
   if mx && some_ then putCode scales blk r.1 else scales)

/-- What the recipe makes of one element: master weight, moments and OUT; none where it leaves one as it is. -/
structure ElemOut where
  w    : Option Nat
  m    : Option Nat
  v    : Option Nat
  out  : Option Nat
  skip : Bool

/-- What FACTORED knows after pass 1: the mean of the row statistics (R266). -/
abbrev RMean := Nat

/-- FACTORED, pass 2, on one element. -/
def factoredElem (b : Binding) (rm : RMean) (k : List Nat) (e g : Nat) : ElemOut :=
  let kk := fun (n : Nat) => k.getD n 0
  let c := max 1 b.cols
  let x := divVal (f32 (fmul (fmul (b.rStat.get (e / c) 0) (b.cStat.get (e % c) 0)) (kk 13))) (f32 rm)
  let u0 := fmul (fmul (kk 5) g) (frsq x)
  let mom := !isZero32 b.b1
  let m := fadd (fmul (kk 1) (b.mVal e)) (fmul (kk 14) u0)
  let u := if mom then m else u0
  let w := ffma (fneg (kk 0)) u (fmul (b.wVal e) (kk 9))
  ⟨if b.split then none else some w, if mom then some m else none, none, some (if b.split then fmul (kk 0) u else w), false⟩

/-- A built-in recipe on one element; a non-finite γg leaves it (R267). -/
def recipeElem (b : Binding) (rm : RMean) (k : List Nat) (e g : Nat) : ElemOut :=
  if skips (k.getD 5 0) g then ⟨none, none, none, some (if b.split then 0 else b.wVal e), true⟩
  else if b.recipe == 4 then factoredElem b rm k e g
  else
    let r := recipeStep b.recipe b.split k ⟨b.wVal e, b.mVal e, b.vVal e⟩ g
    ⟨if b.split then none else some r.1.w, some r.1.m, if b.recipe == 2 then some r.1.v else none, some r.2, false⟩

/-- The lanes of a PROGRAM recipe over a block. -/
def progElems (b : Binding) (p : Passage) (q : Prog) (pid blk : Nat) : List ElemOut :=
  let e := fun (k : Nat) => 32 * blk + k
  let env : Env := {
    ld := fun k slot idx => match slot with
      | 0 => p.grad (e k)
      | 3 => b.wVal (e k)
      | 4 => b.mVal (e k)
      | 5 => b.vVal (e k)
      | 13 => q.consts.getD idx 0
      | 14 => b.words.getD idx 0
      | _ => 0
    sr := fun k salt => srBits (salted (p.seed pid) salt) p.iter (e k)
    mode := p.rounding }
  (runProg env q.instrs ((List.range 32).map (b.lane blk))).map (fun l =>
    let val := fun (slot : Nat) => (l.stored slot).map (fun x => x.1)
    ⟨if b.split then none else val 3, val 4, val 5, val 2, false⟩)

/-- The mode and salt with which a PROGRAM recipe stores a moment (R268). -/
def progMode (b : Binding) (q : Prog) (slot dflt : Nat) : Nat × Nat :=
  match q.instrs.find? (fun w => iOpc w == 2 && iD w == slot) with
  | some w => (if iX w % 4 == 3 then b.mround else iX w % 4, iX w / 4)
  | none => (b.mround, dflt)

/-- Step one block: the binding, the passage with OUT stored, the elements skipped and the emission counts. -/
def optBlock (q : Option Prog) (rm : RMean) (pid : Nat) (b : Binding) (p : Passage) (blk : Nat) :
    Binding × Passage × Nat × Nat × Nat :=
  let els := match q with
    | some q => progElems b p q pid blk
    | none => (List.range 32).map (fun k => if b.lane blk k
        then recipeElem b rm b.words (32 * blk + k) (p.grad (32 * blk + k)) else ⟨none, none, none, none, false⟩)
  let ms := match q with
    | some q => (progMode b q 4 1, progMode b q 5 2)
    | none => ((b.mround, 1), (b.mround, 2))
  let sr := fun (salt k : Nat) => srBits (salted (p.seed pid) salt) p.iter (32 * blk + k)
  let w := (numbered els 0).foldl (fun t ke => match ke.2.w with
    | some v => putCode t (32 * blk + ke.1) v
    | none => t) b.w
  let m := b.putMoment b.m b.mS blk (els.map (·.m)) ms.1.1 (sr ms.1.2)
  let v := b.putMoment b.v b.vS blk (els.map (·.v)) ms.2.1 (sr ms.2.2)
  let outs := nubNat ((List.range 32).filterMap (fun k => if b.lane blk k then some (p.optBufs (32 * blk + k)).2 else none))
  let st := outs.foldl (fun (acc : Passage × Nat × Nat) o =>
    let vs := (numbered els 0).map (fun ke =>
      if b.lane blk ke.1 && (p.optBufs (32 * blk + ke.1)).2 == o then ke.2.out else none)
    let r := acc.1.store pid o blk vs p.rounding 0 false
    (r.1, acc.2.1 + r.2.inf, acc.2.2 + r.2.sat)) (p, 0, 0)
  ({ b with w := w, m := m.1, mS := m.2, v := v.1, vS := v.2 }, st.1, els.countP (·.skip), st.2.1, st.2.2)

/-- One more value into a compensated sum with its count. -/
def sumIn (t : Tbl (Nat × Nat)) (k v : Nat) : Tbl (Nat × Nat) := t.upd k (0, 0) (fun x => (twoSum x.1 v, x.2 + 1))

/-- Pass 1 of FACTORED (R266): the statistics, and the mean of the row statistics. -/
def factoredPass1 (b : Binding) (p : Passage) : Binding × RMean :=
  let k := fun (n : Nat) => b.words.getD n 0
  let c := max 1 b.cols
  let sums := (List.range b.count).foldl (fun (acc : Tbl (Nat × Nat) × Tbl (Nat × Nat)) i =>
    let e := b.first + i
    let g := p.grad e
    if skips (k 5) g then acc
    else
      let x := fmul (k 5) g
      let a := fadd (fmul x x) (k 3)
      (sumIn acc.1 (e / c) a, sumIn acc.2 (e % c) a)) ([], [])
  let blend := fun (t : Tbl Nat) (x : Tbl (Nat × Nat)) => x.foldl (fun t e =>
    putCode t e.1 (fadd (fmul (k 2) (t.get e.1 0)) (fmul (to32 (oneLess (f32 b.b2))) (meanOf e.2.1 e.2.2)))) t
  let r := blend b.rStat sums.1
  let rr := b.rowRange
  let tot := (List.range rr.2).foldl (fun acc i => twoSum acc (r.get (rr.1 + i) 0)) 0
  ({ b with rStat := r, cStat := blend b.cStat sums.2 }, meanOf tot rr.2)

/-- The blocks of the range. -/
def Binding.blocks (b : Binding) : List Nat :=
  (List.range ((b.first + b.count - 1) / 32 - b.first / 32 + 1)).map (· + b.first / 32)

/-- The pass over the blocks whose stripe is picked. -/
def State.optRun (s : State) (slice pid : Nat) (pick : Nat → Bool) : State × Nat :=
  match s.psg.find (psgKey slice pid) with
  | none => (s, 0)
  | some p => match s.bindingOf slice p.tensor with
    | none => (s, 0)
    | some b =>
      let q := if b.recipe == 0x10 then s.progOf slice b.slot else none
      let p1 := if b.recipe == 4 then factoredPass1 b p else (b, 0)
      let r := (b.blocks.filter (fun blk => pick (stripeOf blk))).foldl
        (fun (acc : Binding × Passage × Nat × Nat × Nat) blk =>
          let x := optBlock q p1.2 pid acc.1 acc.2.1 blk
          (x.1, x.2.1, acc.2.2.1 + x.2.2.1, acc.2.2.2.1 + x.2.2.2.1, acc.2.2.2.2 + x.2.2.2.2)) (p1.1, p, 0, 0, 0)
      (((s.putBinding slice p.tensor r.1).updPsg slice pid (fun _ => r.2.1)).countNum slice 0 r.2.2.2.1 r.2.2.2.2, r.2.2.1)

/-- A leg is over a binding and its pass can run: its groups are complete and the binding is not in TRANSFER. -/
def State.passRuns (s : State) (slice : Nat) (p : Passage) : Bool :=
  (p.st == .running || p.st == .stalled) && p.optLeg && !p.optDone && p.legGroups.all p.groupDone &&
    (match s.bindingOf slice p.tensor with
     | some b => b.st == 1
     | none => false)

/-- OPTIMIZER_PASS_COMPLETE (R264): every element of the binding is stepped once, the counter advances, and
skipped elements are counted with one WARNING (R267). -/
def execOptimizerPassComplete (slice : Fin 64) (pid : Fin 256) (s : State) : Host.Outcome State Fault Refusal :=
  .next (match s.psg.find (psgKey slice pid) with
    | none => s
    | some p =>
      if !s.passRuns slice p || s.paused || s.mem.thermStop then s
      else
        let r := s.optRun slice pid (fun _ => true)
        match r.1.bindingOf slice p.tensor with
        | none => s
        | some b =>
          let s1 := (r.1.putBinding slice p.tensor { b with counter := (b.counter + 1) % 2 ^ 64, skipped := r.2 }).updPsg
            slice pid (fun p => { p with optDone := true })
          if r.2 == 0 then s1
          else s1.logAdd sevWarning slice (evNamed 5 "OPT_SKIPPED") (agentPassage slice pid) [p.tensor, r.2])

/-- The entry waypoint of an optimizer leg computes its words (R264); the result says whether the binding makes
the passage abort (R273). A binding in TRANSFER is waited for. -/
def State.optEnter (s : State) (slice pid : Nat) : State × Bool :=
  match s.psg.find (psgKey slice pid) with
  | none => (s, false)
  | some p =>
    if !p.optLeg then (s, false)
    else match s.bindingOf slice p.tensor with
      | none => (s, true)
      | some b =>
        if b.st == 2 then (s, false)
        else if b.st == 3 || b.partial_ then
          (s.logAdd sevError slice (evNamed 5 "OPT_STATE_REFUSED") (agentPassage slice pid) [p.tensor, b.st, b2n b.partial_], true)
        else (s.putBinding slice p.tensor { b with words := scalarWords b (b.counter + 1) }, false)

/-- A pass that stops before its end: each stripe was stepped or not, which nobody says (a free choice), PARTIAL
is set and the counter stays (R277). -/
def State.optStop (s : State) (slice pid : Nat) : State :=
  match s.psg.find (psgKey slice pid) with
  | none => s
  | some p =>
    if !s.passRuns slice p then s
    else
      let n := s.free
      let pick := fun (st : Nat) => (Config.freeWord (n + 1 + st)).toNat % 2 == 1
      let began := (Config.freeWord n).toNat % 2 == 1
      let stripes := match s.bindingOf slice p.tensor with
        | some b => (b.first + b.count) / 1024 + 2
        | none => 0
      let s1 := { s with free := n + stripes }
      let s2 := if began then (s1.optRun slice pid pick).1 else s1
      match s2.bindingOf slice p.tensor with
      | none => s2
      | some b => s2.putBinding slice p.tensor { b with partial_ := true, reloaded := [] }

end Sys2Proof.Machine
end

