-- ==== Sys2Proof/Machine/Passages.lean ====
section
/-! DEFINITION. Passages as they run: arming, waypoints and their gates, parks, stalls, aborts, and the passage
commands (02 R53, R54, R59 to R69; 05 R148 to R153, R165; 07 R229, R239; 08 R262). -/

namespace Sys2Proof.Machine

/-! ### Legs, offsets and waypoints -/

/-- A leg of a passage. -/
def Passage.legAt (p : Passage) (n : Nat) : Leg := p.legs.getD n ⟨0, false, false, 0, 0, 0xFFFF, 0⟩

/-- Rotation offset that a leg gives a global port; none where it is dark or a standing port (R53). -/
def Passage.offset (p : Passage) (leg t : Nat) : Option Nat :=
  let l := p.legAt leg
  if l.colour == 0xFFFF then none
  else
    let v := (p.colours.getD l.colour []).getD t 0xFF
    if decide (1 ≤ v ∧ v < 0xFE) then some v else none

/-- The offset a port carries now: none before leg 0. -/
def Passage.offsetNow (p : Passage) (t : Nat) : Option Nat := if p.st == .armed then none else p.offset p.leg t

/-- Leg and iteration that the exit of the current leg enters; leg 0 for an ARMED passage; none where the passage
ends (R63, R67). -/
def Passage.target (p : Passage) : Option (Nat × Nat) :=
  if p.st == .armed then some (0, p.iter)
  else if p.leg + 1 < p.legs.length then some (p.leg + 1, p.iter)
  else if p.rep && (p.iterations == 0 || decide (p.iter + 1 < p.iterations)) then some (0, p.iter + 1)
  else none

/-- Some leg lights a global port. -/
def Passage.lights (p : Passage) : Bool :=
  (List.range p.legs.length).any (fun l => (List.range 64).any (fun t => (p.offset l t).isSome))

/-- The rack at an offset from this one, and the rack whose light comes in at that offset (R53, R498). -/
def State.aimOf (s : State) (p : Passage) (v : Nat) : Nat :=
  let rs := racks p.rackMask
  rs.getD ((rackIndex p.rackMask s.topo.rack + v) % max 1 rs.length) 0
def State.sourceOf (s : State) (p : Passage) (v : Nat) : Nat :=
  let rs := racks p.rackMask
  rs.getD ((rackIndex p.rackMask s.topo.rack + rs.length - v % max 1 rs.length) % max 1 rs.length) 0

/-- The waypoint ahead lights a port on a channel it did not carry, with more than one rack: a colour waypoint (R60). -/
def Passage.colourAhead (p : Passage) : Bool :=
  decide (1 < (racks p.rackMask).length) && (match p.target with
    | some (l, _) => (List.range 64).any (fun t => (p.offset l t).isSome && p.offset l t != p.offsetNow t)
    | none => false)

/-- Racks that have signalled a waypoint with this passage's digest. -/
def Passage.heardFrom (p : Passage) (leg iter : Nat) : List Nat :=
  (p.ready.filter (fun r => r.leg == leg && r.iter == iter % 2 ^ 48 && r.digest == p.digest)).map (·.rack)

/-- Racks that the colour gate ahead still waits for (R60). -/
def State.notHeard (s : State) (p : Passage) : List Nat :=
  match p.target with
  | some (l, i) => if p.colourAhead then (s.others p.rackMask).filter (fun r => !(p.heardFrom l i).contains r) else []
  | none => []

/-- Racks that a REMOTE trigger still waits for (R59). -/
def State.remoteMissing (s : State) (p : Passage) : List Nat :=
  let l := p.legAt p.leg
  if p.st == .armed || l.trigger != 3 then []
  else (bitsSet 64 l.trigArg).filter (fun r => r != s.topo.rack &&
    !p.remote.any (fun x => x.rack == r && x.leg == p.leg && x.iter == p.iter % 2 ^ 48))

/-- The leg is held by what R62 counts: its groups and optimizer pass, or a gate on other modules. -/
def State.heldByR62 (s : State) (p : Passage) : Bool :=
  !p.legDone || s.notHeard p != [] || s.remoteMissing p != []

/-- A STALLED passage whose cause has ended runs again (R62). -/
def State.unstall (s : State) (slice pid : Nat) : State :=
  match s.psg.find (psgKey slice pid) with
  | some p => if p.st == .stalled && !s.heldByR62 p then s.updPsg slice pid (fun p => { p with st := .running }) else s
  | none => s

/-! ### Control frames of passages -/

/-- WAYPOINT_READY (R207): use 0 for the colour gate, 1 for a remote trigger. -/
def readyFrame (slice pid rack leg iter use digest : Nat) : Bytes :=
  ctlHeader 0x21 slice pid rack leg (iter % 2 ^ 48) ++ beBytes 1 use ++ zeros 3 ++ beBytes 4 digest

/-- ABORT (R207). -/
def abortFrame (slice pid rack leg iter cause : Nat) : Bytes :=
  ctlHeader 0x22 slice pid rack leg (iter % 2 ^ 48) ++ beBytes 1 cause ++ zeros 3

/-! ### Aborts (R66, R247) -/

/-- Incomplete blocks of stripes that spilled in place keep their partial sums there (R247). -/
def Passage.keepPartial (p : Passage) (pid : Nat) : Passage :=
  (p.stripes.filter (fun x => x.2 == 1)).foldl (fun p x =>
    let gi := x.1 / 2 ^ 40
    (List.range 32).foldl (fun p i =>
      let blk := 32 * (x.1 % 2 ^ 40) + i
      let tk := p.takeAcc gi blk
      (tk.1.store pid (tk.1.grp gi).dst blk tk.2 p.rounding 0 p.comp).1) p) p

/-- Takes of a passage that no longer carries them wait for another waypoint (12 R372). -/
def State.dropTakes (s : State) (slice pid : Nat) : State :=
  { s with sxt := { s.sxt with takes := s.sxt.takes.map (fun k =>
      if k.slice == slice && !k.dark && (match k.pid with
        | some x => x.1 == pid
        | none => false) then { k with pid := none } else k) } }

/-- Abort a live passage: its transmitters are blanked, the rest of its racks are signalled, its stripes are
dropped unemitted and its buffers stay (R66). -/
def State.abortPassage (s : State) (slice pid cause : Nat) : State :=
  match s.psg.find (psgKey slice pid) with
  | none => s
  | some p0 =>
    if !p0.st.live then s
    else
      let s1 := s.optStop slice pid
      let p := (s1.psg.find (psgKey slice pid)).getD p0
      let s2 := (List.range 64).foldl (fun s t => if (p.offsetNow t).isSome then s.blankPort t else s) s1
      let s3 := s2.queueAll slice p.rackMask 1 (abortFrame slice pid s.topo.rack p.leg p.iter cause)
      let p1 := p.keepPartial pid
      let s4 := s3.updPsg slice pid (fun _ => { p1 with
        st := .aborted, prog := [], acc := [], stripes := [], ready := [], remote := [], heldG := [], rdySent := []
        blanked := none, legDone := false, parkPend := false, parkedByAct := false })
      let mine := fun (f : TxFrame) => match f.tag with
        | some g => g.1 == slice && g.2.1 == pid
        | none => false
      let untag := fun (f : TxFrame) => if mine f then { f with tag := none } else f
      let s5 := { s4 with lnk := { s4.lnk with port := s4.lnk.port.mapVal (fun _ x => { x with
        txq := (x.txq.filter (fun (f : TxFrame) => !(f.done == 0 && mine f))).map untag, sentq := x.sentq.map untag }) } }
      (s5.dropTakes slice pid).retryAll

/-- Abort with PLAN_MISMATCH and its ERROR (R60, R153). -/
def State.planMismatch (s : State) (slice pid rack : Nat) : State :=
  (s.logAdd sevError slice (evNamed 1 "PLAN_MISMATCH") (agentPassage slice pid) [rack]).abortPassage slice pid 2

/-! ### Global ports at a waypoint (R148, R151, R152) -/

/-- A burst header (R152). -/
def burstHeader (kind hall src t dst slice pid leg iter slot digest cred : Nat) : Bytes :=
  let b := beBytes 1 (16 + kind) ++ beBytes 1 hall ++ beBytes 1 src ++ beBytes 1 t ++ beBytes 1 dst
    ++ beBytes 1 (channelTo src dst) ++ beBytes 1 slice ++ beBytes 1 pid ++ beBytes 2 leg ++ beBytes 6 (iter % 2 ^ 48)
    ++ beBytes 8 (slot % 2 ^ 64) ++ beBytes 4 digest ++ beBytes 2 cred ++ zeros 30
  b ++ beBytes 4 (crc32c b)

/-- A port is dark for a calibration take. -/
def State.takenPort (s : State) (t : Nat) : Bool := s.sxt.takes.any (fun k => k.port == t && k.dark)

/-- Give the frames of a burst their FRAME_IDs: by destination rack on a global port (R202). -/
def State.numberFrames (s : State) (t rack : Nat) (fs : List Bytes) : List Bytes × State :=
  let n := (s.path t rack).frameId
  ((numbered fs 0).map (fun kf => setFrameId kf.2 (n + kf.1)),
   s.updPath t rack (fun x => { x with frameId := (x.frameId + fs.length) % 2 ^ 32 }))

/-- What a lit leg port sends from where its groups stand: the burst's header, unless it goes on with the burst
it is in, and the frames of its sending groups. -/
def State.sendLeg (s : State) (slice pid t : Nat) (cont : Bool) : State :=
  match s.psg.find (psgKey slice pid) with
  | none => s
  | some p =>
    if (s.gp t).st != 2 || s.takenPort t then s
    else
      let r := p.legGroups.foldl (fun (acc : List Bytes × State) gi =>
        let g := p.grp gi
        if decide (3 ≤ g.role) && g.ports.contains (refG t) then
          let x := State.allFrames (rangeBlocks (g.range (g.ports.idxOf (refG t)))) acc.2 slice pid gi (g.ports.idxOf (refG t))
          (acc.1 ++ x.1, x.2)
        else acc) ([], s)
      let dst := (s.gp t).dest
      let n := r.2.numberFrames t dst r.1
      let h := if cont then [] else
        burstHeader 0 s.topo.hall s.topo.rack t dst slice pid p.leg p.iter 0 p.digest 0
      let s1 := if n.1 == [] then n.2 else n.2.updGp t (fun x => { x with legFid := (r.2.path t dst).frameId })
      if cont && n.1 == [] then s1 else s1.emit (.burst t h n.1)

/-- Set one non-standing port for the leg entered: the channel and the expected source. A lit port whose channel
stays goes on; another retunes and opens its gate when its lock is confirmed; one that is RELOCKING takes the new
channel as its target (R165); a FAILED or MISCABLED one stays dark. The result says whether its burst continues. -/
def State.setLegPort (s : State) (slice pid : Nat) (p : Passage) (t : Nat) : State × Bool :=
  match p.offset p.leg t with
  | none =>
    let s1 := s.blankPort t
    (s1.updGp t (fun x => { x with role := 0, expectValid := false, burst := none }), false)
  | some v =>
    let dst := s.aimOf p v
    let ch := channelTo s.topo.rack dst
    let x := s.gp t
    let s1 := s.updGp t (fun x => { x with
      role := 1, channel := ch, dest := dst, expectRack := s.sourceOf p v, expectValid := true, errLeg := none
      burst := if x.burst == some (slice, pid, p.leg, p.iter % 2 ^ 48) then x.burst else none })
    if s.takenPort t || s.plane.openPath.has (96 + t / 8) then (s1, false)
    else if x.st == 2 && x.channel == ch then (s1, true)
    else if x.st == 4 || x.st == 5 || x.st == 3 then (s1, false)
    else
      ((s1.updGp t (fun x => { x with st := 2, attempts := 0, tunedAt := some s.ns })).updLaser x.laser (fun l =>
        { l with st := 2, gate := true, channel := ch, measChannel := ch, measValid := true, freqErr := 0 }), false)

/-- Every non-standing global port of the slice for the leg entered, then what each sends. -/
def State.setLegPorts (s : State) (slice pid : Nat) : State :=
  match s.psg.find (psgKey slice pid) with
  | none => s
  | some p =>
    if !p.lights then s
    else
      let standing := s.standingPorts slice
      let r := ((s.gports slice).filter (fun t => !standing.contains t)).foldl
        (fun (acc : State × List (Nat × Bool)) t =>
          let x := acc.1.setLegPort slice pid p t
          (x.1, acc.2 ++ [(t, x.2)])) (s, [])
      r.2.foldl (fun s tc => s.sendLeg slice pid tc.1 tc.2) r.1

/-- The non-standing ports of a passage go dark: no leg lights them (R30). -/
def State.darkLegPorts (s : State) (p : Passage) : State :=
  if !p.lights then s
  else (List.range 64).foldl (fun s t => if (p.offsetNow t).isSome
    then (s.blankPort t).updGp t (fun x => { x with role := 0, expectValid := false }) else s) s

/-! ### The end of a leg (R59, R60, R229, R262) -/

/-- Blocks of a range of elements. -/
def blocksOf (r : Nat × Nat) : List Nat := (List.range (rangeBlocks r)).map (· + r.1 / 32)

/-- Values of a buffer's elements of one block in a range. -/
def Passage.rangeBlock (p : Passage) (b : Nat) (r : Nat × Nat) (blk : Nat) : List (Option Nat) :=
  (List.range 32).map (fun k =>
    if decide (r.1 ≤ 32 * blk + k ∧ 32 * blk + k < r.1 + r.2) then some (p.value b (32 * blk + k)) else none)

/-- Members of the chart a template was derived from. -/
def Passage.memberCount (p : Passage) : Nat :=
  if p.form == 1 then p.legs.length - 1 else (p.grp 0).ports.length

/-- Where a template scales an average or runs its FINISH program (R229, R262): leg, buffer, range and count. -/
def State.finishPoint (s : State) (p : Passage) : Option (Nat × Nat × (Nat × Nat) × Nat) :=
  let k := (racks p.rackMask).length
  if p.form == 1 then some (p.legs.length - 2, 0, (0, p.elems), p.memberCount)
  else if p.form == 2 || p.form == 3 then
    some (k - 1, 1, share 0 p.elems (rackIndex p.rackMask s.topo.rack) k, p.memberCount * k)
  else none

/-- The copy of the own shard of B0 into B1, with which leg 1 begins (R57). -/
def State.copyShard (s : State) (slice pid : Nat) : State :=
  match s.psg.find (psgKey slice pid) with
  | none => s
  | some p =>
    let r := share 0 p.elems (rackIndex p.rackMask s.topo.rack) (racks p.rackMask).length
    s.updPsg slice pid (fun p => (blocksOf r).foldl (fun p blk =>
      (p.store pid 1 blk (p.rangeBlock 0 r blk) p.rounding 0 p.comp).1) p)

/-- The FINISH program over its range, as the last part of its leg (R262). -/
def State.runFinishPass (s : State) (slice pid : Nat) : State :=
  match s.psg.find (psgKey slice pid) with
  | none => s
  | some p => match s.finishPoint p, s.opProg slice p with
    | some (leg, b, r, n), some q =>
      if leg != p.leg || q.kind != 1 then s
      else s.updPsg slice pid (fun p => (blocksOf r).foldl (fun p blk =>
        let f := p.runFinish q pid blk (p.rangeBlock b r blk) n
        (f.1.store pid b blk f.2 p.rounding 0 false).1) p)
    | _, _ => s

/-- AVG's scaling, at the exit waypoint of its leg (R229). -/
def State.runAvg (s : State) (slice pid : Nat) : State :=
  match s.psg.find (psgKey slice pid) with
  | none => s
  | some p => match s.finishPoint p with
    | some (leg, b, r, n) =>
      if leg != p.leg || opBase p.operator != 4 then s
      else s.updPsg slice pid (fun p => (blocksOf r).foldl (fun p blk =>
        (p.store pid b blk ((p.rangeBlock b r blk).map (fun (v : Option Nat) => v.map (avgScale p.comp n))) p.rounding 0 false).1) p)
    | none => s

/-- Step 1 of R60 at a colour waypoint: the transmitters that change are blanked, and the receivers expect the
next leg's sources from its waypoint on. -/
def State.beginExit (s : State) (slice pid : Nat) : State :=
  match s.psg.find (psgKey slice pid) with
  | none => s
  | some p =>
    if !p.colourAhead || p.blanked.isSome then s
    else match p.target with
      | none => s
      | some (l, _) =>
        let s1 := (List.range 64).foldl (fun s t =>
          if (p.offsetNow t).isSome && p.offset l t != p.offsetNow t then s.blankPort t else s) s
        s1.updPsg slice pid (fun p => { p with blanked := some s.ns, rdySent := [] })

/-- The leg of a passage has done all that R59 asks before its gate: groups and optimizer pass. -/
def Passage.legComplete (p : Passage) : Bool := p.legGroups.all p.groupDone && (!p.optLeg || p.optDone)

/-- LEG_COMPLETE (R59, R60, R69): the leg's groups have all completed. FINISH runs, remote triggers are
signalled, and the passage parks, or blanks the transmitters that change. -/
def execLegComplete (slice : Fin 64) (pid : Fin 256) (s : State) : Host.Outcome State Fault Refusal :=
  .next (match s.psg.find (psgKey slice pid) with
    | none => s
    | some p =>
      if s.paused || !(p.st == .running || p.st == .stalled) || p.legDone || !p.legComplete then s
      else
        let k1 := (p.form == 2 || p.form == 3) && p.leg == 0 && (racks p.rackMask).length == 1
        let s1 := (if k1 then s.copyShard slice pid else s).runFinishPass slice pid
        let l := p.legAt p.leg
        let s2 := if l.trigger == 3 then s1.queueAll slice p.rackMask 2
          (readyFrame slice pid s.topo.rack p.leg p.iter 1 p.digest) else s1
        if l.parkSafe && p.parkPend then
          (s2.updPsg slice pid (fun p => { p with st := .parked, parkPend := false, legDone := true, parkedAt := s.ns })).dropTakes
            slice pid
        else
          ((s2.updPsg slice pid (fun p => { p with legDone := true })).beginExit slice pid).unstall slice pid)

/-! ### Entering a leg (R67) -/

/-- Residuals that the passage recorded in the iteration that ends become pending (R239). -/
def State.residualsPend (s : State) (slice pid tensor : Nat) : State :=
  { s with skk := { s.skk with resid := s.skk.resid.mapVal (fun k a =>
      if k == 65536 * slice + tensor then
        { a with vals := a.vals.mapVal (fun _ x => if x.by_ == pid && x.pend.isNone then { x with pend := some s.time16 } else x) }
      else a) } }

/-- A running passage with no take announced carries the earliest one it can for its next waypoint: of a port it lights,
or of any standing port of the slice (12 R362). -/
def State.announceTake (s : State) (slice pid : Nat) : State :=
  match s.psg.find (psgKey slice pid) with
  | none => s
  | some p =>
    let st := s.standingPorts slice
    let has := s.sxt.takes.any (fun k => k.slice == slice && !k.dark && (match k.pid with
      | some x => x.1 == pid
      | none => false))
    let can := fun (k : Take) => k.slice == slice && !k.dark && k.pid.isNone
      && (st.contains k.port || (List.range p.legs.length).any (fun l => (p.offset l k.port).isSome))
    let best := (s.sxt.takes.filter can).foldl (fun (b : Option Take) k => match b with
      | some x => if k.due < x.due then some k else b
      | none => some k) none
    match best with
    | some b =>
      if has || !(p.st == .running) then s
      else { s with sxt := { s.sxt with takes := s.sxt.takes.map (fun k => if k == b then { k with pid := some (pid, s.ns) } else k) } }
    | none => s

/-- A calibration take announced for this waypoint begins: its port stays dark (12 R362). -/
def State.beginTakes (s : State) (slice pid : Nat) : State :=
  let mine := fun (k : Take) => k.slice == slice && !k.dark && (match k.pid with
    | some x => x.1 == pid && decide (x.2 + 10000 ≤ s.ns)
    | none => false)
  let ts := (s.sxt.takes.filter mine).map (·.port)
  let s1 := { s with sxt := { s.sxt with takes := s.sxt.takes.map (fun k => if mine k then { k with dark := true } else k) } }
  (ts.filter (fun t => !(s.standingPorts slice).contains t)).foldl (fun s t => s.blankPort t) s1

/-- The scalar words in effect for the operator's program (R259). -/
def State.scalarsOf (s : State) (slice : Nat) (p : Passage) : List Nat :=
  match s.opProg slice p with
  | some q => q.scalars
  | none => p.scalars

/-- The passage as it stands when leg `l` of iteration `i` is entered. -/
def Passage.entered (p : Passage) (l i now t16 : Nat) (scalars : List Nat) : Passage :=
  { p with
    st := .running, leg := l, iter := i, parity := p.nextParity, w0 := t16, enteredAt := now, prog := [], legDone := false
    timeOpen := decide (p.epoch + (p.legAt l).trigArg ≤ now), blanked := none, rdySent := []
    ready := p.ready.filter (fun r => !(r.leg == l && r.iter == i % 2 ^ 48))
    remote := p.remote.filter (fun r => !(r.leg == p.leg && r.iter == p.iter % 2 ^ 48))
    bytesIn := 0, bytesOut := 0, dupWarned := false, scalars := scalars, optDone := false, heldG := [], rx := [] }

/-- Enter leg `l` of iteration `i` (R67): the record, the groups, frames held for the leg, the transmitters, and
the optimizer's words. -/
def State.enterLeg (s : State) (slice pid l i : Nat) : State :=
  match s.psg.find (psgKey slice pid) with
  | none => s
  | some p =>
    let held := p.heldG
    let s0 := s.beginTakes slice pid
    let park := if p.st == .armed then false else (p.legAt p.leg).parkSafe
    let s1 := (s0.updPsg slice pid (fun p => p.entered l i s.ns s.time16 (s.scalarsOf slice p))).trace 6 slice
      (leBytes 1 pid ++ leBytes 1 (b2n park) ++ leBytes 2 l ++ leBytes 6 (i % 2 ^ 48))
    let k := (racks p.rackMask).length
    let s2 := if (p.form == 2 || p.form == 3) && l == 1 && decide (1 < k) then s1.copyShard slice pid else s1
    let o := s2.optEnter slice pid
    if o.2 then o.1.abortPassage slice pid 1
    else
      let s3 := o.1.setLegPorts slice pid
      (held.foldl (fun s tb => s.legOn tb.1 tb.2.1 tb.2.2) (s3.announceTake slice pid)).retryAll

/-- The waypoint ahead may fire (R59, R60): the leg is complete, its trigger's gate is open, and at a colour
waypoint every other module has signalled. -/
def State.gateOpen (s : State) (p : Passage) : Bool :=
  let l := p.legAt p.leg
  p.legDone && (p.st == .armed || (match l.trigger with
    | 1 => p.timeOpen
    | 2 => decide (0 < p.bells)
    | 3 => s.remoteMissing p == []
    | _ => true))
  && (!p.colourAhead || (p.blanked.isSome && s.notHeard p == []))

/-- Fire the waypoint ahead. -/
def State.fire (s : State) (slice pid : Nat) : State :=
  match s.psg.find (psgKey slice pid) with
  | none => s
  | some p =>
    let bell := p.st != .armed && (p.legAt p.leg).trigger == 2
    let s1 := (s.updPsg slice pid (fun p => if bell then { p with bells := p.bells - 1 } else p))
    let s2 := if p.st == .armed then s1 else s1.runAvg slice pid
    match p.target with
    | some (l, i) =>
      let s3 := if i == p.iter then s2 else s2.residualsPend slice pid p.tensor
      s3.enterLeg slice pid l i
    | none =>
      let s3 := (s2.residualsPend slice pid p.tensor).trace 6 slice
        (leBytes 1 pid ++ leBytes 1 (b2n (p.legAt p.leg).parkSafe) ++ leBytes 2 p.leg ++ leBytes 6 ((p.iter + 1) % 2 ^ 48))
      let s4 := (s3.darkLegPorts p).dropTakes slice pid
      (s4.updPsg slice pid (fun p => { p with
        st := .done, iter := p.iter + 1, w0 := s.time16, legDone := false, parkPend := false, parkedByAct := false
        prog := [], ready := [], remote := [], heldG := [] })).retryAll

/-- A waypoint that retunes a leg port within 4 µs of its last retune waits for their end (R462). -/
def State.retuneFrom (s : State) (p : Passage) : Nat :=
  match p.target with
  | some (l, _) => ((List.range 64).filter (fun t => (p.offset l t).isSome && p.offset l t != p.offsetNow t)).foldl
      (fun m t => match (s.gp t).tunedAt with
        | some a => max m (a + 4000)
        | none => m) 0
  | none => 0

/-- WAYPOINT_FIRE (R67): not in a pause, and not out of ARMED while an activation waits (R434). -/
def execWaypointFire (slice : Fin 64) (pid : Fin 256) (s : State) : Host.Outcome State Fault Refusal :=
  .next (match s.psg.find (psgKey slice pid) with
    | none => s
    | some p =>
      let okState := p.st == .running || p.st == .stalled || (p.st == .armed && s.boot.actWait.isNone)
      if s.paused || !okState || !s.gateOpen p then s else (s.advanceTo (s.retuneFrom p)).fire slice pid)

/-- ARM_EPOCH (R64): the epoch of an ARMED passage has come. Leg 0 is entered, at once where it is not gated. -/
def execArmEpoch (slice : Fin 64) (pid : Fin 256) (s : State) : Host.Outcome State Fault Refusal :=
  .next (match s.psg.find (psgKey slice pid) with
    | none => s
    | some p =>
      if s.paused || p.st != .armed || p.legDone then s
      else
        let s1 := (s.advanceTo p.epoch).updPsg slice pid (fun p => { p with legDone := true })
        if p.colourAhead then s1.beginExit slice pid
        else if s.boot.actWait.isSome then s1 else s1.fire slice pid)

/-- TIME_TRIGGER_OPEN (R59): the astrolabe reaches epoch + TRIGGER_ARG. -/
def execTimeTriggerOpen (slice : Fin 64) (pid : Fin 256) (s : State) : Host.Outcome State Fault Refusal :=
  .next (match s.psg.find (psgKey slice pid) with
    | none => s
    | some p =>
      let l := p.legAt p.leg
      if (p.st == .running || p.st == .stalled || p.st == .parked) && l.trigger == 1 && !p.timeOpen then
        (s.advanceTo (p.epoch + l.trigArg)).updPsg slice pid (fun p => { p with timeOpen := true })
      else s)

/-- LEG_TIMEOUT (R62): a RUNNING passage that R62 holds becomes STALLED, with one WARNING naming the incomplete
groups or the modules not yet heard. -/
def execLegTimeout (slice : Fin 64) (pid : Fin 256) (s : State) : Host.Outcome State Fault Refusal :=
  .next (match s.psg.find (psgKey slice pid) with
    | none => s
    | some p =>
      if p.st != .running || !s.heldByR62 p then s
      else
        let bad := maskOf 64 (fun i => match p.legGroups[i]? with
          | some gi => !p.groupDone gi
          | none => false)
        let missing := maskOf 64 (fun r => (s.notHeard p).contains r || (s.remoteMissing p).contains r)
        ((s.advanceTo (p.enteredAt + p.timeout * 1000000)).updPsg slice pid (fun p => { p with st := .stalled })).logAdd
          sevWarning slice (evNamed 1 "LEG_TIMEOUT") (agentPassage slice pid) [p.leg, p.iter, bad, missing])

/-! ### Signals from other modules (R59, R60, R66) -/

/-- A control frame on a standing port that this module takes: it belongs to the compass burst accepted there,
from the rack the slot expects. -/
def State.standingFrameOk (s : State) (g : Nat) (b : Bytes) : Bool :=
  ctlOk b && decide (1 ≤ ctlSlice b) && s.owner (refG g) == ctlSlice b && !s.col.dark
    && (match (s.gp g).burst with
      | some x => x.1 == ctlSlice b && x.2.1 == 0
      | none => false)
    && ctlRack b == (s.gp g).expectRack

/-- A frame taken from a rack's standing stream on a port: its bytes are counted, and an ACK_RECORD is due (R156). -/
def State.standingIn (s : State) (g : Nat) (b : Bytes) : State :=
  s.updPath g (s.gp g).expectRack (fun x => { x with rxBytes := x.rxBytes + b.length, ackDue := true })

/-- WAYPOINT_READY (R60): kept for the colour gate or a REMOTE trigger; a digest that differs aborts the passage;
one for a waypoint that this module has passed, or for which it has heard everyone, is answered once. -/
def execWaypointReady (g : Fin 64) (frame : Bytes) (s0 : State) : Host.Outcome State Fault Refusal :=
  .next (
    let s := if s0.standingFrameOk g frame then s0.standingIn g frame else s0
    let n := ctlSlice frame
    let pid := ctlPid frame
    let rack := ctlRack frame
    let leg := ctlLeg frame
    let iter := ctlIter frame
    let use := byteAt frame 16
    let digest := be frame 20 4
    if !s0.standingFrameOk g frame || ctlKind frame != 0x21 then s
    else match s.psg.find (psgKey n pid) with
      | none => s
      | some p =>
        if !(s.others p.rackMask).contains rack then s
        else if digest != p.digest && p.st.live then s.planMismatch n pid rack
        else
          let r : Ready := ⟨rack, leg, iter, digest⟩
          if use == 1 then
            (s.updPsg n pid (fun p => if p.remote.contains r then p else { p with remote := p.remote ++ [r] })).unstall n pid
          else
            let mine := readyFrame n pid s.topo.rack leg iter 0 p.digest
            let here := match p.target with
              | some (l, i) => l == leg && i % 2 ^ 48 == iter && p.blanked.isSome
              | none => false
            let passed := p.st.live && p.st != .armed && p.leg == leg && p.iter % 2 ^ 48 == iter
            if passed || (here && s.notHeard p == []) then s.queueStanding n rack 2 mine
            else (s.updPsg n pid (fun p => if p.ready.contains r then p else { p with ready := p.ready ++ [r] })).unstall n pid)

/-- WAYPOINT_READYs that the module sends in the compass slot at hand (R60, R150): 320 ns after the blank, from a
VERIFIED slice, to each other module once in every compass round, until all are heard. -/
def State.sendReadies (s : State) (slice : Nat) : State :=
  if s.paused || (s.topo.slice.get slice (Slice.new 0 0 0 0)).colour != 2 then s
  else (s.passagesOf slice).foldl (fun s e =>
    let p := e.2
    match p.blanked, p.target with
    | some b, some (l, i) =>
      if s.ns < b + 320 || s.notHeard p == [] then s
      else (s.others p.rackMask).foldl (fun s r =>
        let due := match p.rdySent.find r with
          | some t => decide (t + s.compassRound slice ≤ s.ns)
          | none => true
        if due then (s.queueStanding slice r 2 (readyFrame slice e.1 s.topo.rack l i 0 p.digest)).updPsg slice e.1
          (fun p => { p with rdySent := p.rdySent.put r s.ns }) else s) s
    | _, _ => s) s

/-- A NAK_RECORD: the ranges of flits that are missing on a port (R207). -/
def nakRecordFrame (slice pid rack leg iter port : Nat) (rs : List (Nat × Nat)) : Bytes :=
  ctlHeader 0x24 slice pid rack leg iter ++ beBytes 1 port ++ beBytes 1 rs.length ++ zeros 2
    ++ rs.flatMap (fun r => beBytes 4 r.1 ++ beBytes 4 r.2)

/-- NAK_RECORDs that the module queues in the compass slot at hand: of each stream of a leg with missing flits, once in
every compass round until they arrive (R156). -/
def State.sendNaks (s : State) (slice : Nat) : State :=
  (s.passagesOf slice).foldl (fun s e =>
    if !(e.2.st == .running || e.2.st == .stalled) then s
    else e.2.rx.foldl (fun s x =>
      let due := match x.2.nakAt with
        | some t => decide (t + s.compassRound slice ≤ s.ns)
        | none => true
      if x.2.missing == [] || !due then s
      else
        let b := nakRecordFrame slice e.1 s.topo.rack e.2.leg e.2.iter x.1 (x.2.missing.take 16)
        (s.queueStanding slice (s.legSource x.1) 3 b).updPsg slice e.1
          (fun p => { p with rx := p.rx.upd x.1 RxStream.start (fun y => { y with nakAt := some s.ns }) })) s) s

/-- ABORT_SIGNAL (R66): the local copy of the passage is aborted, with a NOTICE. -/
def execAbortSignal (g : Fin 64) (frame : Bytes) (s0 : State) : Host.Outcome State Fault Refusal :=
  .next (
    let s := if s0.standingFrameOk g frame then s0.standingIn g frame else s0
    let n := ctlSlice frame
    let pid := ctlPid frame
    if !s0.standingFrameOk g frame || ctlKind frame != 0x22 then s
    else match s.psg.find (psgKey n pid) with
      | none => s
      | some p =>
        if !p.st.live || !(s.others p.rackMask).contains (ctlRack frame) then s
        else (s.logAdd sevNotice n (evNamed 1 "PASSAGE_ABORTED") (agentPassage n pid) [ctlRack frame, byteAt frame 16]).abortPassage
          n pid 3)

/-! ### Passage commands (R64, R65) -/

/-- The checks that every passage command makes first: its fields, the slice, the passage and its state. -/
def psgChecks (r : Req) (s : State) (arm bell : Bool) (okIn : PSt → Bool) : List Chk :=
  let pid := r.p 16 1
  let c := r.p 18 2
  [ranges [(16, decide (1 ≤ pid)), (17, r.p 17 1 == 0), (18, if bell then decide (1 ≤ c) else c == 0), (20, r.p 20 4 == 0),
    (24, arm || r.p 24 6 == 0), (30, if arm then decide (r.p 30 4 < 1000000000) else r.p 30 4 == 0), (34, r.z 34)],
   sliceChk s r.slice,
   match s.psg.find (psgKey r.slice pid) with
   | none => some (0x0302, pid, 0)
   | some p => chk (okIn p.st) 0x0301 p.st.code 0]

/-- The passage that a command names. -/
def State.named (s : State) (r : Req) : Passage :=
  (s.psg.find (psgKey r.slice (r.p 16 1))).getD (Passage.new (phdr []) ⟨[], [], [], []⟩ [] 0 [])

/-- Terminated ports of a passage's groups that are FAILED, in group order. -/
def State.failedPort (s : State) (p : Passage) : Option Nat :=
  (p.groups.flatMap (·.ports)).find? (fun x => refClass x == 2 && (s.lp (refIndex x)).st == .failed)

/-- PASSAGE_ARM (R54, R64, R72). -/
def cmdPassageArm (r : Req) (s : State) : CmdOut :=
  let pid := r.p 16 1
  let p := s.named r
  let ep := r.p 24 6 * 1000000000 + r.p 30 4
  guarded s (psgChecks r s true false (fun t => t == .loaded || t == .done || t == .aborted) ++ [
      match (s.passagesOf r.slice).find? (fun e => e.1 != pid && e.2.st.live && e.2.lights) with
      | some e => chk (!p.lights) 0x0301 e.2.st.code 0
      | none => none,
      match s.failedPort p with
      | some t => some (0x0505, t, 0)
      | none => none])
    (ok (s.updPsg r.slice pid (fun p => { p with
      st := .armed, leg := 0, iter := 0, parity := false, bells := 0, parkPend := false, parkedByAct := false
      epoch := if ep == 0 then s.ns else ep, prog := [], acc := [], stripes := [], legDone := false, timeOpen := false
      blanked := none, rdySent := [], heldG := [], optDone := false, dupWarned := false, bytesIn := 0, bytesOut := 0
      units := (List.range 48).filter (fun u => !s.skk.retired.contains u), spillNoted := none, residNoted := none })) 0 0)

/-- PASSAGE_DOORBELL (R65). -/
def cmdPassageDoorbell (r : Req) (s : State) : CmdOut :=
  let pid := r.p 16 1
  let n := (s.named r).bells + r.p 18 2
  guarded s (psgChecks r s false true PSt.live ++ [chk (decide (n ≤ 65535)) 0x0201 6 (n - 65535)])
    (ok (s.updPsg r.slice pid (fun p => { p with bells := n })) 0 0)

/-- PASSAGE_PARK (R65, R435). -/
def cmdPassagePark (r : Req) (s : State) : CmdOut :=
  let pid := r.p 16 1
  guarded s (psgChecks r s false false PSt.live)
    (ok (s.updPsg r.slice pid (fun p => { p with parkPend := p.st != .parked, parkedByAct := false })) 0 0)

/-- End a park: the passage runs again at the leg's completed end, LEG_TIMEOUT not counting the park (R69). -/
def State.resumePassage (s : State) (slice pid : Nat) : State :=
  (s.updPsg slice pid (fun p => { p with
    st := .running, parkPend := false, parkedByAct := false, enteredAt := p.enteredAt + (s.ns - p.parkedAt) })).beginExit slice pid

/-- PASSAGE_RESUME (R64). -/
def cmdPassageResume (r : Req) (s : State) : CmdOut :=
  guarded s (psgChecks r s false false (· == .parked)) (ok (s.resumePassage r.slice (r.p 16 1)) 0 0)

/-- PASSAGE_ABORT (R66). -/
def cmdPassageAbort (r : Req) (s : State) : CmdOut :=
  guarded s (psgChecks r s false false PSt.live) (ok (s.abortPassage r.slice (r.p 16 1) 1) 0 0)

/-- Remove a passage: its buffers and ID are free, and so is a tensor's residual area once no loaded passage names
the tensor (R241). Frames still held for it are judged again. -/
def State.unloadPassage (s : State) (slice pid : Nat) : State :=
  match s.psg.find (psgKey slice pid) with
  | none => s
  | some p =>
    let s1 := { s with psg := s.psg.del (psgKey slice pid) }
    let s2 := if (s1.passagesOf slice).any (fun e => e.2.tensor == p.tensor) then s1
      else { s1 with skk := { s1.skk with resid := s1.skk.resid.del (tensorKey slice p.tensor) } }
    s2.retryAll

/-- PASSAGE_UNLOAD (R64). -/
def cmdPassageUnload (r : Req) (s : State) : CmdOut :=
  guarded s (psgChecks r s false false (fun t => t == .loaded || t == .done || t == .aborted))
    (ok (s.unloadPassage r.slice (r.p 16 1)) 0 0)

/-- PASSAGE_QUERY (R65). -/
def cmdPassageQuery (r : Req) (s : State) : CmdOut :=
  let p := s.named r
  let ns := p.w0 / 65536
  guarded s (psgChecks r s false false (fun _ => true))
    (ok s (p.st.code + 256 * p.leg + 2 ^ 20 * (p.iter % 2 ^ 44)) (ns / 1000000000 % 2 ^ 32 * 2 ^ 32 + ns % 1000000000))

/-- STATE_TRANSFER_END (R275): the transfer of a binding ends, with so many bytes copied; a leg that waited for it
is entered in full, or aborted (R273). -/
def execStateTransferEnd (slice : Fin 64) (tensor : Nat) (done : Nat) (s : State) : Host.Outcome State Fault Refusal :=
  .next (match s.hif.execs.find? (fun e => match e.wait with
      | .transfer n t _ _ _ _ _ _ => n == slice.val && t == tensor
      | _ => false) with
    | none => s
    | some e =>
      let s1 := s.endTransfer e done
      (s1.passagesOf slice).foldl (fun s x =>
        if x.2.tensor == tensor && (x.2.st == .running || x.2.st == .stalled) && x.2.optLeg && !x.2.optDone then
          let o := s.optEnter slice x.1
          if o.2 then o.1.abortPassage slice x.1 1 else o.1
        else s) s1)

end Sys2Proof.Machine
end

