-- ==== Sys2Proof/Machine/Fm.lean ====
section
/-! DEFINITION. Fabric memory: windows, queue pairs, the acceptance and order of requests, the operations at
the module that owns the memory, routes to other racks, relays and responses (09). -/

namespace Sys2Proof.Machine

/-! ### Addresses and frames (R278, R205) -/

/-- Fields of a global address. -/
def gaRack (g : Nat) : Nat := bits g 58 6
def gaSlice (g : Nat) : Nat := bits g 52 6
def gaOff (g : Nat) : Nat := bits g 0 52

/-- Header fields that FM_REQ and FM_RSP share; `oper`, `fmt` and `src` are those of FM_REQ. -/
structure FHdr where
  slice : Nat
  stage : Nat
  op    : Nat
  oper  : Nat
  fmt   : Nat
  src   : Nat
  gaddr : Nat
  len   : Nat
  qp    : Nat
  reqId : Nat

/-- Read a header. -/
def fhdr (b : Bytes) : FHdr :=
  ⟨bits (byteAt b 1) 0 6, bits (byteAt b 1) 6 1, byteAt b 2, byteAt b 3, byteAt b 4, bits (byteAt b 5) 0 6, be b 8 8,
   be b 16 4, bits (be b 20 4) 0 18, be b 24 4⟩

/-- STATUS of an FM_RSP. -/
def rspStatus (b : Bytes) : Nat := be b 4 2

/-- Data bytes that an FM_REQ carries after its header; none for an OP that is not defined. -/
def reqData (op len : Nat) : Option Nat :=
  match op with
  | 0x01 => some 0
  | 0x02 => some len
  | 0x03 => some len
  | 0x10 => some 8
  | 0x11 => some 8
  | 0x12 => some 16
  | 0x20 => some 0
  | _ => none

/-- An FM_REQ's length agrees with its header (R200). -/
def reqWellFormed (b : Bytes) : Bool :=
  byteAt b 0 == 0x10 && decide (32 ≤ b.length) && (match reqData (fhdr b).op (fhdr b).len with
    | some n => b.length == 32 + n
    | none => true)

/-- An FM_RSP's length agrees with its header. -/
def rspWellFormed (b : Bytes) : Bool := byteAt b 0 == 0x11 && b.length == 32 + (fhdr b).len

/-- An FM_RSP (R205). -/
def rspFrame (slice op status gaddr qp reqId : Nat) (data : Bytes) : Bytes :=
  beBytes 1 0x11 ++ beBytes 1 slice ++ beBytes 1 op ++ zeros 1 ++ beBytes 2 status ++ zeros 2 ++ beBytes 8 gaddr
    ++ beBytes 4 data.length ++ beBytes 4 qp ++ beBytes 4 reqId ++ zeros 4 ++ data

/-- The FM_REQ of a request, of a stage (R195, R205). -/
def reqFrame (r : FReq) (stage rack : Nat) : Bytes :=
  beBytes 1 0x10 ++ beBytes 1 (r.slice + 64 * stage) ++ beBytes 1 r.op ++ beBytes 1 r.oper ++ beBytes 1 r.fmt
    ++ beBytes 1 rack ++ zeros 2 ++ beBytes 8 r.gaddr ++ beBytes 4 r.len ++ beBytes 4 r.qp ++ beBytes 4 r.reqId
    ++ zeros 4 ++ r.data

/-- A frame with STAGE 1 (R195). -/
def stageOne (b : Bytes) : Bytes := b.take 1 ++ beBytes 1 (bits (byteAt b 1) 0 6 + 64) ++ b.drop 2

/-! ### Operations (R281, R282) -/

/-- Bytes of memory that an operation touches: ATOMIC_ADD_F32 works on a 4-byte word. -/
def opBytes (op len : Nat) : Nat := if op == 0x11 then 4 else len

/-- PUT_REDUCE formats with their element sizes: FP32, BF16, FP16, INT32. -/
def reduceSize (f : Nat) : Option Nat :=
  match f with
  | 0x01 => some 4
  | 0x02 => some 2
  | 0x03 => some 2
  | 0x21 => some 4
  | _ => none

/-- OP, OPERATOR, FORMAT, LENGTH, alignment and the 4 KiB boundary (R281, R282). -/
def opFieldsOk (h : FHdr) (b : Bytes) : Bool :=
  let o := gaOff h.gaddr
  let inPage := decide (o % 4096 + opBytes h.op h.len ≤ 4096)
  let plain := h.oper == 0 && h.fmt == 0
  match h.op with
  | 0x01 => plain && decide (1 ≤ h.len ∧ h.len ≤ 4096) && inPage
  | 0x02 => plain && decide (1 ≤ h.len ∧ h.len ≤ 4096) && inPage
  | 0x03 => (match reduceSize h.fmt with
    | some n => (if h.fmt == 0x21 then [2, 3, 5, 6].contains h.oper else [1, 2, 3].contains h.oper)
        && h.len % n == 0 && o % n == 0 && decide (1 ≤ h.len ∧ h.len ≤ 4096) && inPage
    | none => false)
  | 0x10 => plain && h.len == 8 && o % 8 == 0
  | 0x11 => plain && h.len == 8 && o % 4 == 0 && zeroAt b 36 4
  | 0x12 => plain && h.len == 8 && o % 8 == 0
  | 0x20 => plain && h.len == 0 && o == 0
  | _ => false

/-- Reserved fields of an FM_REQ are 0 (R205). -/
def reqReservedOk (b : Bytes) : Bool :=
  !bit (byteAt b 1) 7 && decide (byteAt b 5 < 64) && zeroAt b 6 2 && decide (be b 20 4 < 2 ^ 18)

/-- Writes: the operations that drive a remote counter (R289). -/
def isWrite (op : Nat) : Bool := [0x02, 0x03, 0x10, 0x11, 0x12].contains op

/-! ### Windows (R279) -/

/-- Size in bytes of a slice's window here. -/
def State.windowBytes (s : State) (n : Nat) : Nat :=
  match s.topo.slice.find n with
  | some x => x.windowGiB * 2 ^ 30
  | none => 0

/-- 64-byte lines that a range touches. -/
def linesOf (o n : Nat) : List Nat := if n == 0 then [] else (List.range ((o + n - 1) / 64 - o / 64 + 1)).map (· + o / 64)

/-- One element of a PUT_REDUCE: decoded, combined and encoded again to nearest even (R282). -/
def reduceElem (f oper : Nat) (old new : Nat) : Nat × Bool × Bool :=
  let v := combine oper (f == 0x21) false (decodeElem f 127 old) (decodeElem f 127 new)
  emitOne f 0 0 (oper == 5) v false

/-- PUT_REDUCE on a byte string: the bytes that result, with its counts of NaN arrivals, infinities and saturations. -/
def reduceBytes (f oper : Nat) (old new : Bytes) : Bytes × Nat × Nat × Nat :=
  let n := (reduceSize f).getD 4
  (List.range (new.length / n)).foldl (fun acc i =>
    let v := reduceElem f oper (le old (n * i) n) (le new (n * i) n)
    let isNan := f != 0x21 && decodeElem f 127 (le new (n * i) n) == nan32
    (acc.1 ++ leBytes n v.1, acc.2.1 + b2n isNan, acc.2.2.1 + b2n v.2.1, acc.2.2.2 + b2n v.2.2)) ([], 0, 0, 0)

/-- Execute an operation on the window of its slice, as one event (R281 to R283): the state, STATUS and data. An
uncorrectable line that it reads or covers only partly stops it, with nothing executed; a PUT over whole lines
clears their errors (R301). -/
def State.fmExec (s : State) (o : FOp) : State × Nat × Bytes :=
  match s.topo.slice.find o.slice with
  | none => (s, 0x0401, [])
  | some x =>
    let a := gaOff o.gaddr
    let n := opBytes o.op o.len
    let whole := fun (l : Nat) => o.op == 0x02 && decide (a ≤ 64 * l ∧ 64 * l + 64 ≤ a + n)
    if o.op == 0x20 then (s, 0, [])
    else if decide (x.windowGiB * 2 ^ 30 < a + o.len) then (s, 0x0101, [])
    else if (linesOf a n).any (fun l => (x.windowBad.contains l && !whole l)
        || s.mem.deadStacks.contains (Config.lineStack o.slice l).toNat) then (s, 0x0503, [])
    else
      let old := Memory.read x.window a n
      let put := fun (b : Bytes) => s.updSlice o.slice (fun y => { y with
        window := Memory.write y.window a b, windowBad := y.windowBad.filter (fun l => !((linesOf a n).contains l && whole l)) })
      match o.op with
      | 0x01 => (s, 0, old)
      | 0x02 => (put (o.data.take n), 0, [])
      | 0x03 =>
        let r := reduceBytes o.fmt o.oper old o.data
        ((put r.1).countNum o.slice r.2.1 r.2.2.1 r.2.2.2, 0, [])
      | 0x10 => (put (leBytes 8 (le old 0 8 + le o.data 0 8)), 0, old)
      | 0x11 => (put (leBytes 4 (fadd (decodeElem 0x01 127 (le old 0 4)) (decodeElem 0x01 127 (le o.data 0 4)))), 0, old ++ zeros 4)
      | 0x12 => (if old == bytesAt o.data 0 8 then put (bytesAt o.data 8 8) else s, 0, old)
      | _ => (s, 0x0101, [])

/-! ### Queues (R285 to R290) -/

/-- A queue that is FREE. -/
def Queue.free : Queue := ⟨0, 0, 0, 0, 0, 0, 0, 0, 0, 0, 0, none⟩

/-- A queue. -/
def State.queue (s : State) (q : Nat) : Queue := s.fm.queue.get q Queue.free

/-- Change a queue that is not FREE. -/
def State.updQueue (s : State) (q : Nat) (f : Queue → Queue) : State :=
  match s.fm.queue.find q with
  | some x => { s with fm := { s.fm with queue := s.fm.queue.put q (f x) } }
  | none => s

/-- REQ_ID of counter increments (R289). -/
def counterId : Nat := 0xFFFFFFFF

/-- Requests of a queue, in order of acceptance, and those of its endpoint, which take credits. -/
def State.reqsOf (s : State) (q : Nat) : List FReq := s.fm.reqs.filter (·.qp == q)
def State.outstanding (s : State) (q : Nat) : List FReq := (s.reqsOf q).filter (·.reqId != counterId)

/-- Set a bit of FMQ_EVENTS. -/
def State.fmEvent (s : State) (i : Nat) : State := { s with fm := { s.fm with events := setBit s.fm.events i } }

/-- Count an error on a queue: since creation and since the last read (R302). -/
def State.queueError (s : State) (q : Nat) : State :=
  s.updQueue q (fun x => { x with errors := satInc 32 x.errors, errRc := satInc 16 x.errRc })

/-- Count in FMQ_SLICE_ERR: 0 NOT_OWNED, 1 RANGE, 2 TIMEOUTS, 3 PATH_FAULTS. -/
def State.fmSliceErr (s : State) (n k : Nat) : State :=
  { s with fm := { s.fm with sliceErr := s.fm.sliceErr.upd n (0, 0, 0, 0) (fun x =>
      (if k == 0 then satInc 16 x.1 else x.1, if k == 1 then satInc 16 x.2.1 else x.2.1,
       if k == 2 then satInc 16 x.2.2.1 else x.2.2.1, if k == 3 then satInc 16 x.2.2.2 else x.2.2.2)) } }

/-- Change a request by its number. -/
def State.updReq (s : State) (ref : Nat) (f : FReq → FReq) : State :=
  { s with fm := { s.fm with reqs := s.fm.reqs.map (fun r => if r.ref == ref then f r else r) } }

/-- A request whose memory is on this module, or a FENCE. -/
def State.isLocal (s : State) (r : FReq) : Bool := gaRack r.gaddr == s.topo.rack || r.op == 0x20

/-- A request waits for a route (R295): started, for another rack, not sent. -/
def State.awaitsRoute (s : State) (r : FReq) : Bool := (r.st == 2 || (r.st == 5 && r.sends == 0)) && !s.isLocal r

/-- The operation that a local request executes. -/
def FReq.toOp (r : FReq) (rack : Nat) : FOp := ⟨r.ref, r.slice, r.op, r.oper, r.fmt, r.gaddr, r.len, r.data, rack, r.qp, r.reqId⟩

/-! ### Start order (R284) -/

/-- Byte ranges at one rack overlap. -/
def overlaps (a b : FReq) : Bool :=
  gaRack a.gaddr == gaRack b.gaddr && decide (gaOff a.gaddr < gaOff b.gaddr + opBytes b.op b.len)
    && decide (gaOff b.gaddr < gaOff a.gaddr + opBytes a.op a.len)

/-- A held request may start, after `earlier` of its queue, of which all have started. -/
def mayStart (earlier : List FReq) (counters : Bool) (r : FReq) : Bool :=
  if r.op == 0x20 then earlier == [] && !counters
  else earlier.all (fun e => e.op != 0x20 && !overlaps e r)

/-- The first requests of a queue that may start now, in their order of arrival. -/
def startable (counters : Bool) : List FReq → List FReq → List Nat
  | _, [] => []
  | earlier, r :: t =>
    if r.st != 1 then startable counters (earlier ++ [r]) t
    else if mayStart earlier counters r then r.ref :: startable counters (earlier ++ [r]) t
    else []

/-- Start what the order of a queue allows: local requests execute, others wait for a route. -/
def State.startReqs (s : State) (q : Nat) : State :=
  let counters := (s.reqsOf q).any (·.reqId == counterId)
  (startable counters [] (s.outstanding q)).foldl (fun s ref =>
    match s.fm.reqs.find? (·.ref == ref) with
    | none => s
    | some r =>
      if s.isLocal r then
        let s1 := s.updReq ref (fun r => { r with st := 4 })
        { s1 with fm := { s1.fm with ops := s1.fm.ops ++ [r.toOp s.topo.rack] } }
      else s.updReq ref (fun r => { r with st := 2 })) s

/-! ### Completion (R289, R294, R301) -/

/-- Count a completion for FMQ_RATE: those of the last whole millisecond. -/
def State.countRate (s : State) : State :=
  let ms := s.ns / 1000000
  { s with fm := if s.fm.rateMs == ms then { s.fm with rateN := s.fm.rateN + 1 }
      else { s.fm with rateMs := ms, rateN := 1, rateLast := if s.fm.rateMs + 1 == ms then s.fm.rateN else 0 } }

/-- What a status of a completion counts as. -/
def State.countStatus (s : State) (n status : Nat) : State :=
  match status with
  | 0x0310 => (s.fmEvent 4).fmSliceErr n 2
  | 0x0505 => (s.fmEvent 5).fmSliceErr n 3
  | 0x0503 => s.fmEvent 6
  | _ => s

/-- A counter increment that failed (R289): one WARNING per queue per minute. -/
def State.counterFail (s : State) (q n status : Nat) : State :=
  let s1 := (s.queueError q).fmEvent 8
  let due := match (s.queue q).warnAt with
    | none => true
    | some t => decide (t + 60000000000 ≤ s.ns)
  if due then
    (s1.updQueue q (fun x => { x with warnAt := some s.ns })).logAdd sevWarning n (evNamed 6 "COUNTER_FAIL")
      (agentKind 7 q) [q, status]
  else s1

/-- The counter increment that a completed write of a queue causes (R289): an ATOMIC_ADD_I64 of the home module. -/
def State.addCounter (s : State) (x : Queue) (r : FReq) : State :=
  let n := if x.cmode == 1 then 1 else opBytes r.op r.len
  let c : FReq := ⟨s.fm.nextRef, r.qp, counterId, r.slice, 0x10, 0, 0, 5, x.cgaddr, 8, leBytes 8 n, 0, 0, 0, [], s.ns, 0, none⟩
  let s1 := { s with fm := { s.fm with reqs := s.fm.reqs ++ [c], nextRef := s.fm.nextRef + 1 } }
  if s.isLocal c then { s1 with fm := { s1.fm with ops := s1.fm.ops ++ [c.toOp s.topo.rack] } } else s1

/-- The FM_RSP of a request goes to its endpoint, unless the session it came in is gone or the port has failed: it
is then discarded and counted (R301). -/
def State.respond (s : State) (r : FReq) (status : Nat) (data : Bytes) : State :=
  let p := refIndex (s.queue r.qp).endpoint
  if s.fm.lostRsp.contains (r.qp, r.reqId) || (s.lp p).st == .failed then
    let s1 := (s.queueError r.qp).fmEvent 7
    { s1 with fm := { s1.fm with lostRsp := s1.fm.lostRsp.filter (· != (r.qp, r.reqId)) } }
  else s.sendOn p 4 (rspFrame r.slice r.op status r.gaddr r.qp r.reqId data) none

/-- A request completes: its record goes, its endpoint hears, a write drives the counter, and later requests of the
queue may start. -/
def State.finishReq (s : State) (r : FReq) (status : Nat) (data : Bytes) : State :=
  let s1 := { s with fm := { s.fm with reqs := s.fm.reqs.filter (·.ref != r.ref) } }
  let s2 :=
    if r.reqId == counterId then (if status == 0 then s1 else s1.counterFail r.qp r.slice status)
    else
      let s2 := (s1.updQueue r.qp (fun x => { x with done := x.done + 1, opsRc := satInc 32 x.opsRc })).countRate
      let s3 := if status == 0 then s2 else (s2.queueError r.qp).countStatus r.slice status
      let s4 := s3.respond r status data
      let x := s4.queue r.qp
      if status == 0 && isWrite r.op && x.cmode != 0 then s4.addCounter x r else s4
  s2.startReqs r.qp

/-! ### Routes to other racks (R295 to R297) -/

/-- Racks of the slice after this one, in ascending cyclic order of its rack set (R297). -/
def State.cyclicRacks (s : State) (n : Nat) : List Nat :=
  let rs := racks (s.rackSet n)
  rs.filter (fun r => decide (s.topo.rack < r)) ++ rs.filter (fun r => decide (r < s.topo.rack))

/-- Answer to another rack: directly, or through the first rack after this one that can be reached (R295, R297). -/
def State.answerRack (s : State) (n dst : Nat) (b : Bytes) : State :=
  if dst == s.topo.rack || n == 0 then s
  else if s.reaches n dst then s.queueStanding n dst 5 b
  else match (s.cyclicRacks n).find? (fun x => x != dst && s.reaches n x) with
    | some x => s.queueStanding n x 5 b
    | none => s.queueStanding n dst 5 b

/-- The relay that a request is sent to: the first rack after this one that is not the target, has not refused it
yet, and is reached on a path that is not broken. -/
def State.relayFor (s : State) (r : FReq) : Option Nat :=
  let c := (s.cyclicRacks r.slice).filter (fun x => x != gaRack r.gaddr && s.reaches r.slice x)
  match c.find? (fun x => !r.tried.contains x) with
  | some x => some x
  | none => c.head?

/-- The time since which no direct path has worked, kept for each request that was sent (R298). -/
def State.judgePaths (s : State) : State :=
  { s with fm := { s.fm with reqs := s.fm.reqs.map (fun r =>
      if r.sends == 0 || s.isLocal r then r
      else if s.reaches r.slice (gaRack r.gaddr) then { r with brokenAt := none }
      else { r with brokenAt := some (r.brokenAt.getD s.ns) }) } }

/-- A new session on an endpoint's port, or its failure: the responses of the requests accepted are lost (R301). -/
def State.loseSession (s : State) (p : Nat) : State :=
  let mine := s.fm.reqs.filter (fun r => r.reqId != counterId && (s.queue r.qp).endpoint == refP p)
  { s with fm := { s.fm with lostRsp := s.fm.lostRsp ++ ((mine.map (fun r => (r.qp, r.reqId))).filter
      (fun x => !s.fm.lostRsp.contains x)) } }

/-! ### Acceptance on terminated ports (R292) -/

/-- The status with which an FM_REQ on a terminated port is refused, and whether its queue is known; none where it
is accepted. -/
def State.fmRefusal (s : State) (p : Nat) (b : Bytes) : Option (Nat × Bool) :=
  let h := fhdr b
  let x := s.queue h.qp
  if h.slice == 0 || s.owner (refP p) != h.slice then some (0x0401, false)
  else if x.st != 1 || x.endpoint != refP p || x.slice != h.slice then some (0x0302, false)
  else if decide (x.credits ≤ (s.outstanding h.qp).length) then some (0x0602, true)
  else if h.reqId == counterId || (s.outstanding h.qp).any (·.reqId == h.reqId) || !opFieldsOk h b || !reqReservedOk b
      || h.src != s.topo.rack then some (0x0101, true)
  else if gaSlice h.gaddr != h.slice || !bit (s.rackSet h.slice) (gaRack h.gaddr) then some (0x0401, true)
  else if gaRack h.gaddr == s.topo.rack && h.op != 0x20 && decide (s.windowBytes h.slice < gaOff h.gaddr + h.len)
    then some (0x0101, true)
  else none

/-- Count a refusal. -/
def State.countRefusal (s : State) (n status : Nat) : State :=
  match status with
  | 0x0401 => (s.fmEvent 0).fmSliceErr n 0
  | 0x0602 => s.fmEvent 1
  | _ => s.fmSliceErr n 1

/-- An FM_REQ that has come in on a terminated port: refused, or accepted and started as its queue allows. In
maintenance mode it is answered with 0x0602 and takes no effect (R402). -/
def State.fmIn (s : State) (p vc : Nat) (b : Bytes) : State :=
  let h := fhdr b
  if !reqWellFormed b then s.nak p b 7
  else if vc != 2 + h.stage then s.nak p b 6
  else if s.mod == .maintenance then s.sendOn p 4 (rspFrame h.slice h.op 0x0602 h.gaddr h.qp h.reqId []) none
  else match s.fmRefusal p b with
    | some (st, known) =>
      let s1 := s.countRefusal h.slice st
      (if known then s1.queueError h.qp else s1).sendOn p 4 (rspFrame h.slice h.op st h.gaddr h.qp h.reqId []) none
    | none =>
      let r : FReq := ⟨s.fm.nextRef, h.qp, h.reqId, h.slice, h.op, h.oper, h.fmt, 1, h.gaddr, h.len, b.drop 32,
        if gaRack h.gaddr == s.topo.rack || h.op == 0x20 then 0 else 1, 0, 0, [], s.ns, 0, none⟩
      ({ s with fm := { s.fm with reqs := s.fm.reqs ++ [r], nextRef := s.fm.nextRef + 1 } }).startReqs h.qp

/-- FM_REQ (R292, R32): held by credit in a pause; otherwise taken, its credit freed. -/
def execFmReq (p : Fin 256) (vc : Fin 8) (frame : Bytes) (s : State) : Host.Outcome State Fault Refusal :=
  .next (if !s.lpLive p then s
    else if s.paused then s.updLp p (fun x => { x with heldq := x.heldq ++ [(vc.val, frame, flitsOf frame.length)] })
    else (s.fmIn p vc frame).freeCredit p vc (flitsOf frame.length))

/-- Requests held on terminated ports by a pause are taken after it, in their order. -/
def State.releaseFm (s : State) : State :=
  (s.lnk.port.filter (fun e => e.2.heldq.any (fun x => byteAt x.2.1 0 == 0x10))).foldl (fun s e =>
    let q := e.2.heldq.filter (fun x => byteAt x.2.1 0 == 0x10)
    let s1 := s.updLp e.1 (fun y => { y with heldq := y.heldq.filter (fun x => byteAt x.2.1 0 != 0x10) })
    q.foldl (fun s x => (s.fmIn e.1 x.1 x.2.1).freeCredit e.1 x.1 x.2.2) s1) s

/-! ### Requests and responses on global ports (R293, R297) -/

/-- A frame of a slice's standing stream that the module takes on a global port: in the compass burst accepted
there. -/
def State.fmFrameOk (s : State) (g : Nat) : Bool :=
  !s.col.dark && (match (s.gp g).burst with
    | some x => x.2.1 == 0 && x.1 == s.owner (refG g)
    | none => false)

/-- Free the credit of a frame of the standing stream on a port (R156). -/
def State.freeStanding (s : State) (g n : Nat) : State :=
  s.updPath g (s.gp g).expectRack (fun x => { x with rxFreed := (x.rxFreed + flitsOf n) % 65536 })

/-- The checks of R293 and what follows: executed, relayed or refused. -/
def State.fmGlobalIn (s : State) (g vc : Nat) (b : Bytes) : State :=
  let h := fhdr b
  let n := s.owner (refG g)
  let refuse := fun (s : State) (st : Nat) => (s.countRefusal h.slice st).answerRack n h.src (rspFrame h.slice h.op st h.gaddr h.qp h.reqId [])
  if !reqWellFormed b || vc != 2 + h.stage then
    s.queueStanding n (s.gp g).expectRack 3
      (nakFrame h.slice 0 s.topo.rack 0 0 (if reqWellFormed b then 6 else 7) (frameIdOf b) h.gaddr)
  else if s.mod == .maintenance then s.answerRack n h.src (rspFrame h.slice h.op 0x0602 h.gaddr h.qp h.reqId [])
  else if h.slice == 0 || n != h.slice || !bit (s.rackSet n) h.src then refuse s 0x0401
  else if gaSlice h.gaddr != h.slice then refuse s 0x0401
  else if gaRack h.gaddr != s.topo.rack then
    if h.stage == 1 then refuse s 0x0101
    else if s.reaches n (gaRack h.gaddr) then
      let s1 := (s.queueStanding n (gaRack h.gaddr) 5 (stageOne b)).fmEvent 3
      { s1 with fm := { s1.fm with relays := s1.fm.relays ++ [⟨n, h.qp, h.reqId, h.src⟩] } }
    else s.answerRack n h.src (rspFrame h.slice h.op 0x0602 h.gaddr h.qp h.reqId [])
  else if decide (s.windowBytes n < gaOff h.gaddr + h.len) || !opFieldsOk h b then refuse s 0x0101
  else
    { s with fm := { s.fm with
        ops := s.fm.ops ++ [⟨s.fm.nextRef, n, h.op, h.oper, h.fmt, h.gaddr, h.len, b.drop 32, h.src, h.qp, h.reqId⟩]
        nextRef := s.fm.nextRef + 1 } }

/-- A response that belongs to no request here: it is sent on to the rack whose request was relayed, or discarded
and counted (R297, R298). -/
def State.strayRsp (s : State) (b : Bytes) : State :=
  let h := fhdr b
  match s.fm.relays.find? (fun x => x.slice == h.slice && x.qp == h.qp && x.reqId == h.reqId) with
  | some x => ({ s with fm := { s.fm with relays := s.fm.relays.erase x } }).answerRack x.slice x.home (stageOne b)
  | none => (s.queueError h.qp).fmEvent 7

/-- A response at the home module: it completes its request, or, as the 0x0602 of a relay, returns it to waiting
(R294, R297). -/
def State.fmRspIn (s : State) (b : Bytes) : State :=
  let h := fhdr b
  match s.fm.reqs.find? (fun r => r.qp == h.qp && r.reqId == h.reqId && r.op == h.op && r.gaddr == h.gaddr
      && r.slice == h.slice && decide (0 < r.sends)) with
  | none => s.strayRsp b
  | some r =>
    if r.route == 2 && rspStatus b == 0x0602 then
      s.updReq r.ref (fun r => { r with st := if r.st == 5 then 5 else 2, route := 1, sends := 0, relay := 0
                                        brokenAt := none, tried := r.tried ++ [r.relay] })
    else s.finishReq r (rspStatus b) (b.drop 32)

/-- FM_REQ_GLOBAL (R293): a request on a standing port; held by credit in a pause. -/
def execFmReqGlobal (g : Fin 64) (vc : Fin 8) (frame : Bytes) (s : State) : Host.Outcome State Fault Refusal :=
  .next (if !s.fmFrameOk g then s
    else
      let s1 := s.standingIn g frame
      if s.paused then { s1 with fm := { s1.fm with heldG := s1.fm.heldG ++ [(g.val, vc.val, frame)] } }
      else (s1.fmGlobalIn g vc frame).freeStanding g frame.length)

/-- FM_RSP (R294): a response on a standing port; held by credit in a pause. -/
def execFmRsp (g : Fin 64) (vc : Fin 8) (frame : Bytes) (s : State) : Host.Outcome State Fault Refusal :=
  .next (if !s.fmFrameOk g || !rspWellFormed frame || vc.val != 4 + (fhdr frame).stage then s
    else
      let s1 := s.standingIn g frame
      if s.paused then { s1 with fm := { s1.fm with heldG := s1.fm.heldG ++ [(g.val, vc.val, frame)] } }
      else (s1.fmRspIn frame).freeStanding g frame.length)

/-- Frames held from global ports by a pause are taken after it. -/
def State.releaseFmG (s : State) : State :=
  s.fm.heldG.foldl (fun s x =>
    (if byteAt x.2.2 0 == 0x11 then s.fmRspIn x.2.2 else s.fmGlobalIn x.1 x.2.1 x.2.2).freeStanding x.1 x.2.2.length)
    { s with fm := { s.fm with heldG := [] } }

/-! ### Events -/

/-- FM_OPERATION_COMPLETE (R283): an operation completes here and its response is sent; the home module completes
the request. In a pause none does (R301); while a thermal stop holds HBM traffic it completes with 0x0602 and nothing
of it executes (R466). -/
def execFmOperationComplete (ref : Nat) (s : State) : Host.Outcome State Fault Refusal :=
  .next (match s.fm.ops.find? (·.ref == ref) with
    | none => s
    | some o =>
      if s.paused then s
      else
        let s1 := { s with fm := { s.fm with ops := s.fm.ops.filter (·.ref != ref) } }
        let r := if s.mem.thermStop then (s1, 0x0602, []) else s1.fmExec o
        match r.1.fm.reqs.find? (·.ref == ref) with
        | some q => r.1.finishReq q r.2.1 r.2.2
        | none => r.1.answerRack o.slice o.srcRack (rspFrame o.slice o.op r.2.1 o.gaddr o.qp o.reqId r.2.2))

/-- RELAY (R297): a request that was never sent, all of whose direct paths are broken, is given to a relay; the
compass slot that reaches the relay sends it as STAGE 0. -/
def execRelay (qp : Fin 262144) (reqId : Nat) (s : State) : Host.Outcome State Fault Refusal :=
  .next (match s.fm.reqs.find? (fun r => r.qp == qp.val && r.reqId == reqId && s.awaitsRoute r) with
    | none => s
    | some r =>
      if s.paused || s.standingPorts r.slice == [] || s.reaches r.slice (gaRack r.gaddr) then s
      else match s.relayFor r with
        | none => s
        | some x => (s.updReq r.ref (fun r => { r with route := 2, relay := x })).fmEvent 3)

/-- FM_ROUTE_TIMEOUT (R298): a request for another rack has not been sent within TIMEOUT_US of its acceptance. A
pause does not count towards it (R301). -/
def execFmRouteTimeout (qp : Fin 262144) (reqId : Nat) (s : State) : Host.Outcome State Fault Refusal :=
  .next (match s.fm.reqs.find? (fun r => r.qp == qp.val && r.reqId == reqId && r.sends == 0 && !s.isLocal r) with
    | none => s
    | some r =>
      if s.paused then s
      else (s.advanceTo (r.at_ + 1000 * (s.queue qp).timeoutUs)).finishReq r 0x0310 [])

/-- FM_PATH_FAULT (R298): no direct path to a sent request's rack has worked for 100 ms. -/
def execFmPathFault (qp : Fin 262144) (reqId : Nat) (s : State) : Host.Outcome State Fault Refusal :=
  .next (match s.fm.reqs.find? (fun r => r.qp == qp.val && r.reqId == reqId && decide (0 < r.sends) && !s.isLocal r) with
    | none => s
    | some r =>
      if s.paused || s.reaches r.slice (gaRack r.gaddr) then s
      else match r.brokenAt with
        | none => s
        | some t => (s.advanceTo (t + 100000000)).finishReq r 0x0505 [])

/-- PATH_PROBE (R296): every 100 ms the next pending frame may be sent over each broken path. -/
def execPathProbe (s : State) : Host.Outcome State Fault Refusal :=
  .next (let s1 := s.advanceTo (s.nextMultiple 100000000)
    { s1 with col := { s1.col with path := s1.col.path.mapVal (fun _ x => if x.broken then { x with probe := true } else x) } })

/-- QP_DRAINED (R290, R384): the last outstanding request of a DRAINING queue has completed: the queue is FREE and its
ring returns to the quota. -/
def execQpDrained (qp : Fin 262144) (s : State) : Host.Outcome State Fault Refusal :=
  .next (if (s.queue qp).st == 2 && s.reqsOf qp == [] then
    ({ s with fm := { s.fm with
        queue := s.fm.queue.del qp, lostRsp := s.fm.lostRsp.filter (fun x => x.1 != qp.val) } }).orphan 3 (fun i => i == qp.val)
    else s)

/-! ### Commands (R279, R286 to R291) -/

/-- HBM quota of a slice that is not placed, in bytes. -/
def State.hbmLeft (s : State) (n : Nat) : Nat := (s.quotas n).1 - s.hbmPlaced n

/-- An outstanding request of any queue addresses window bytes from `lim` on. -/
def State.addressed (s : State) (n lim : Nat) : Bool :=
  s.fm.reqs.any (fun r => r.slice == n && gaRack r.gaddr == s.topo.rack && r.op != 0x20
      && decide (lim < gaOff r.gaddr + opBytes r.op r.len))
    || s.fm.ops.any (fun o => o.slice == n && o.op != 0x20 && decide (lim < gaOff o.gaddr + opBytes o.op o.len))

/-- FM_WINDOW_SET (R279, R280). -/
def cmdFmWindowSet (r : Req) (s : State) : CmdOut :=
  let gib := r.p 16 4
  let new := gib * 2 ^ 30
  let old := s.windowBytes r.slice
  let left := s.hbmLeft r.slice
  guarded s [
      ranges [(16, decide (new ≤ s.hbmBytes)), (20, r.z 20)], sliceChk s r.slice,
      chk (decide (old ≤ new) || !s.addressed r.slice new) 0x0301 1 0,
      chk (decide (new - old ≤ left)) 0x0201 8 (new - old - left)]
    (let s1 := s.updSlice r.slice (fun x => { x with
        windowGiB := gib, window := x.window.filter (fun c => decide (c.1 < new))
        windowBad := x.windowBad.filter (fun l => decide (64 * l < new)) })
     ok s1 new (s1.hbmLeft r.slice))

/-- QP_CREATE (R286, R287, R212). -/
def cmdQpCreate (r : Req) (s : State) : CmdOut :=
  let q := r.p 16 4
  let ep := r.p 20 2
  let cr := r.p 22 2
  let tmo := r.p 24 4
  let mode := bits (r.p 28 1) 0 2
  let cg := r.p 32 8
  let left := s.hbmLeft r.slice
  guarded s [
      ranges [(16, decide (q < 2 ^ 18)), (20, refOk s.fuse ep && refClass ep == 2), (22, decide (1 ≤ cr ∧ cr ≤ 256)),
        (24, tmo == 0 || decide (100 ≤ tmo ∧ tmo ≤ 10000000)), (28, decide (r.p 28 1 ≤ 2)), (29, zeroAt r.inl 13 3),
        (32, cg % 8 == 0 && (mode != 0 || cg == 0)), (40, r.z 40)],
      sliceChk s r.slice,
      chk (s.owner ep == r.slice) 0x0401 ep 0,
      chk (mode == 0 || (gaSlice cg == r.slice && bit (s.rackSet r.slice) (gaRack cg))) 0x0401 (gaRack cg) 0,
      chk ((s.queue q).st == 0) 0x0301 (s.queue q).st 0,
      chk (decide ((s.fm.queue.filter (fun e => e.2.slice == r.slice)).length < 65536)) 0x0201 7 1,
      chk (decide (cr * 4160 ≤ left)) 0x0201 1 (cr * 4160 - left),
      chk ((s.lp (refIndex ep)).st != .failed) 0x0505 ep 0]
    (let x : Queue := ⟨1, r.slice, ep, cr, if tmo == 0 then 10000 else tmo, mode, cg, 0, 0, 0, 0, none⟩
     ok { s with fm := { s.fm with queue := s.fm.queue.put q x } } (cr * 4160) 0)

/-- QP_DESTROY (R290): the queue drains. -/
def cmdQpDestroy (r : Req) (s : State) : CmdOut :=
  let q := r.p 16 4
  guarded s [
      ranges [(16, decide (q < 2 ^ 18)), (20, r.z 20)], sliceChk s r.slice,
      chk ((s.queue q).st != 0 && (s.queue q).slice == r.slice) 0x0302 q 0,
      chk ((s.queue q).st != 2) 0x0601 q 0]
    (ok (s.updQueue q (fun x => { x with st := 2 })) (s.outstanding q).length 0)

/-- The 64-byte descriptor of an outstanding request (R291). -/
def FReq.descr (r : FReq) : Bytes :=
  leBytes 4 r.reqId ++ leBytes 1 r.op ++ leBytes 1 r.oper ++ leBytes 1 r.fmt ++ leBytes 1 r.st ++ leBytes 8 r.gaddr
    ++ leBytes 4 r.len ++ leBytes 1 r.route ++ leBytes 1 r.port ++ leBytes 1 r.relay ++ zeros 1 ++ leBytes 6 (time48 r.at_)
    ++ zeros 2 ++ leBytes 4 r.sends ++ zeros 28

/-- QP_QUERY (R291). -/
def cmdQpQuery (r : Req) (s : State) : CmdOut :=
  let q := r.p 16 4
  let len := r.p 20 4
  let addr := r.p 24 8
  let x := s.queue q
  guarded s [
      ranges [(16, decide (q < 2 ^ 18)), (20, len == 0 || decide (64 ≤ len ∧ len ≤ 16384 ∧ len % 64 = 0)),
        (24, addr % 64 == 0), (32, r.z 32)],
      sliceChk s r.slice,
      chk (x.st == 0 || x.slice == r.slice) 0x0302 q 0]
    (let ds := (s.reqsOf q).take (len / 64)
     let s1 := if addr == 0 || ds == [] then s else s.emit (.hostWrite addr (ds.flatMap FReq.descr))
     ok s1 (x.st + min (s.outstanding q).length 256 * 2 ^ 16 + x.errors * 2 ^ 32) x.done)

end Sys2Proof.Machine
end

