-- ==== Sys2Proof/Machine/Pcs.lean ====
section
/-! DEFINITION. The line codes under the flits: the codeword pairs of a terminated port with their scrambler, headers,
parity and lanes (06 R178 to R180), and the codeword pairs of a colour link (05 R154). -/

namespace Sys2Proof.Machine

/-- The bits of a byte string, each byte most significant bit first. -/
def bitsOf (b : Bytes) : List Bool := b.flatMap (fun x => (List.range 8).map (fun i => bit x.toNat (7 - i)))

/-- `n` symbols of 10 bits, most significant bit first. -/
def symbols : Nat → List Bool → List Nat
  | 0, _ => []
  | n + 1, l => (l.take 10).foldl (fun a b => 2 * a + b2n b) 0 :: symbols n (l.drop 10)

/-! ### The scrambler x^58 + x^39 + 1 (R178) -/

/-- What the scrambler's last 58 output bits add to the next bit. -/
def scrTap (r : Nat) : Bool := bit r 38 != bit r 57

/-- The register after one output bit. -/
def scrPush (r : Nat) (b : Bool) : Nat := (2 * r + b2n b) % 2 ^ 58

/-- Scrambled bits, and the register after them. -/
def scramble : Nat → List Bool → List Bool × Nat
  | r, [] => ([], r)
  | r, b :: t =>
    let o := b != scrTap r
    let e := scramble (scrPush r o) t
    (o :: e.1, e.2)

/-- The receiver's descrambler: it takes the same taps from what it receives. -/
def descramble : Nat → List Bool → List Bool × Nat
  | r, [] => ([], r)
  | r, o :: t =>
    let e := descramble (scrPush r o) t
    ((o != scrTap r) :: e.1, e.2)

/-! ### RS(544,514) over GF(2^10), the KP4 code (R178) -/

/-- Multiplication by x in GF(2^10), modulo x^10 + x^3 + 1. -/
def gfX (a : Nat) : Nat := if a < 512 then 2 * a else Nat.xor (2 * a) 0x409

/-- Multiplication in GF(2^10). -/
def gfMul (a b : Nat) : Nat :=
  ((List.range 10).foldl (fun (x : Nat × Nat) i => (if bit b i then Nat.xor x.1 x.2 else x.1, gfX x.2)) (0, a)).1

/-- A polynomial, highest coefficient first, times (x + c). -/
def polyMul (c : Nat) (p : List Nat) : List Nat :=
  List.zipWith Nat.xor (p ++ [0]) (0 :: p.map (gfMul c))

/-- The generator polynomial with roots α^0 to α^(n-1), without its leading 1. -/
def rsGen (n : Nat) : List Nat :=
  (((List.range n).foldl (fun (x : List Nat × Nat) _ => (polyMul x.2 x.1, gfX x.2)) ([1], 1)).1).tail

/-- The parity symbols of a codeword: the remainder of its data symbols. -/
def rsParity (gen : List Nat) (data : List Nat) : List Nat :=
  data.foldl (fun r d =>
    let f := Nat.xor d (r.headD 0)
    List.zipWith Nat.xor (r.tail ++ [0]) (gen.map (gfMul f))) (gen.map (fun _ => 0))

/-- A whole codeword. -/
def kp4 (data : List Nat) : List Nat := data ++ rsParity (rsGen 30) data

/-! ### Headers and lanes (R179, R180) -/

/-- A header symbol: the sync pattern and its field. -/
def hdrSym (field : Nat) : Nat := 0b110010 * 16 + field % 16

/-- A 10-bit symbol as five PAM4 symbols in Gray code, bits [9:8] first (R180, R154). -/
def pam4 (v : Nat) : List Nat :=
  (List.range 5).map (fun i => match bits v (8 - 2 * i) 2 with
    | 0 => 0 | 1 => 1 | 3 => 2 | _ => 3)

/-- The symbols of a codeword that go to a lane: symbol k to lane (k + shift) mod 4, in ascending k. -/
def laneOf (shift lane : Nat) (cw : List Nat) : List Nat :=
  (List.range cw.length).filterMap (fun k => if (k + shift) % 4 == lane then cw[k]? else none)

/-- The four lanes of a codeword pair in PAM4 symbols, and the scrambler's register after it. -/
def linePair (scr count : Nat) (degraded : Bool) (flits : Bytes) : List (List Nat) × Nat :=
  let e := scramble scr (bitsOf flits)
  let a := kp4 (hdrSym (count % 16) :: hdrSym (count / 16) :: symbols 512 e.1)
  let b := kp4 (hdrSym (8 * b2n degraded) :: hdrSym 0 :: symbols 512 (e.1.drop 5120))
  ((List.range 4).map (fun l => (laneOf 0 l a ++ laneOf 2 l b).flatMap pam4), e.2)

/-! ### Colour links (R154) -/

/-- The two codewords that carry five flits of a burst, as PAM4 symbols. The parity of RS(576,512), whose field
polynomial and generator R154 does not name, is a free value. -/
def burstPair (flits : Bytes) : List Nat :=
  let s := symbols 1024 (bitsOf flits)
  let cw := fun (d : List Nat) => d ++ (List.range 64).map (fun i => (Config.colourParity d i).toNat)
  (cw (s.take 512) ++ cw (s.drop 512)).flatMap pam4

end Sys2Proof.Machine
end

