-- ==== Sys2Proof/Machine/Link.lean ====
section
/-! DEFINITION. The Silga link on terminated ports: flits, training and its sessions, sequence, replay and
credit, hail and time transfer, and the port's faults (06 R178 to R213). -/

namespace Sys2Proof.Machine

/-! ### Flits (R183, R184) -/

/-- One step of the reflected CRC-64 over one bit (R183). -/
def crc64Bit (c : BitVec 64) : BitVec 64 :=
  if c.getLsbD 0 then (c >>> 1) ^^^ 0xC96C5795D7870F42#64 else c >>> 1

/-- The CRC register after one byte. -/
def crc64Byte (c : BitVec 64) (b : Byte) : BitVec 64 :=
  let d := c ^^^ b.setWidth 64
  crc64Bit (crc64Bit (crc64Bit (crc64Bit (crc64Bit (crc64Bit (crc64Bit (crc64Bit d)))))))

/-- CRC-64 of a byte string: ECMA-182 polynomial, reflected, initial value and final XOR all ones (R183). -/
def crc64 (b : Bytes) : Nat :=
  (b.foldl crc64Byte 0xFFFFFFFFFFFFFFFF#64 ^^^ 0xFFFFFFFFFFFFFFFF#64).toNat

/-- A flit from its 16 header bytes and its payload: the payload filled to 232 bytes, then the CRC. -/
def sealFlit (hdr pay : Bytes) : Bytes :=
  let b := padTo 16 hdr ++ padTo 232 pay
  b ++ leBytes 8 (crc64 b)

/-- Header fields. -/
def ftypeOf (f : Bytes) : Nat := byteAt f 0 / 16
def fvcOf (f : Bytes) : Nat := bits (byteAt f 0) 1 3
def fsofOf (f : Bytes) : Bool := bit (byteAt f 0) 0
def feofOf (f : Bytes) : Bool := bit (byteAt f 1) 7
def fseqOf (f : Bytes) : Nat := be f 2 2
def fackOf (f : Bytes) : Nat := be f 4 2
def flastOf (f : Bytes) : Nat := byteAt f 12

/-- The CRC is good, FTYPE is defined and the reserved header fields are 0 (R185). -/
def flitGood (f : Bytes) : Bool :=
  f.length == 256 && le f 248 8 == crc64 (f.take 248) && decide (ftypeOf f ≤ 5)
    && bits (byteAt f 1) 0 7 == 0 && byteAt f 7 == 0 && zeroAt f 13 3

/-- Payload bytes that a FRAME flit carries. -/
def fpayOf (f : Bytes) : Bytes := bytesAt f 16 (if feofOf f then min 232 (flastOf f) else 232)

/-- Header of a flit sent now: its type and frame fields, ACK_SEQ, and the limits of the two virtual channels whose
turn it is (R184, R197). -/
def LPort.header (x : LPort) (ftype vc : Nat) (sof eof : Bool) (seq last : Nat) : Bytes :=
  let c0 := x.crNext % 8
  let c1 := (x.crNext + 1) % 8
  beBytes 1 (16 * ftype + 2 * vc + b2n sof) ++ beBytes 1 (128 * b2n eof) ++ beBytes 2 seq
    ++ beBytes 2 ((x.rxSeq + 65535) % 65536) ++ beBytes 1 (128 + 16 * c0 + 8 + c1) ++ zeros 1
    ++ beBytes 2 (x.ownLimit.getD c0 0) ++ beBytes 2 (x.ownLimit.getD c1 0) ++ beBytes 1 last ++ zeros 3

/-! ### Landing (R186, R307) -/

/-- A T port that a circuit or a probe lands on internal port `p`. -/
def State.landedT (s : State) (p : Nat) : Option Nat :=
  match s.topo.tport.find? (fun e => e.2.probe == some p) with
  | some e => some e.1
  | none => (s.circuits.findSome? (fun c =>
      if c.dst == refI p && refClass c.src == 0 then some c.src
      else if c.src == refI p && refClass c.dst == 0 then some c.dst else none))

/-- The terminated port is landed by a circuit or probed by discovery. -/
def State.landed (s : State) (p : Nat) : Bool :=
  (s.landedT p).isSome || s.inCircuit (refI p)

/-- The terminated port carries a probe: it takes no FRAME flit (R307). -/
def State.probing (s : State) (p : Nat) : Bool := s.topo.tport.any (fun e => e.2.probe == some p)

/-! ### Training (R186 to R191) -/

/-- Forget what a training has exchanged. -/
def LPort.untrained (x : LPort) : LPort :=
  { x with lastTrain := [], trainRun := 0, readyTx := 0, readyRx := 0, trainActive := 0, version := 0 }

/-- A port becomes FAILED: its transmitter is off, and the session with its requests' responses is gone (R212, R301). -/
def State.failPort (s : State) (p : Nat) : State :=
  let s1 := s.updLp p (fun x => { x.untrained with
    st := .failed, since := s.ns, lanes := List.replicate 4 false, keep := false, sessId := 0, retry := none
    wasFailed := true })
  (s1.loseSession p).logAdd sevError (s.owner (refP p)) (evNamed 4 "PORT_FAILED") (agentKind 2 p) [p]

/-- Count a retrain or a failed training attempt; the fourth within 60 s fails the port (R212). -/
def State.linkFault (s : State) (p : Nat) : State :=
  let recent := s.ns :: ((s.lp p).faults.filter (fun t => decide (s.ns < t + 60000000000)))
  let s1 := s.updLp p (fun x => { x with faults := recent })
  if decide (4 ≤ recent.length) then s1.failPort p else s1

/-- A retrain (R194): RETRAIN, asking to keep the session, with one NOTICE. -/
def State.retrain (s : State) (p : Nat) : State :=
  if (s.lp p).st != .active then s
  else
    let s1 := (s.updLp p (fun x => { x.untrained with st := .retrain, keep := true, since := s.ns })).lcount "RETRAINS" p 1
    (s1.logAdd sevNotice (s.owner (refP p)) (evNamed 4 "RETRAIN") (agentKind 2 p) [p]).linkFault p

/-- SIGNAL_DETECT (R191): S0 of a training; an OFF port that is landed or probed is enabled (R186). -/
def execSignalDetect (p : Fin 256) (s : State) : Host.Outcome State Fault Refusal :=
  .next (let x := s.lp p
    if s.lpLive p && (x.st == .acquire || (x.st == .off && s.landed p)) then
      s.updLp p (fun x => { x.untrained with st := .acquire, signal := true, since := s.ns })
    else s)

/-- EQUALISER_CONVERGED (R186): the receiver is equalised on all lanes. -/
def execEqualiserConverged (p : Fin 256) (s : State) : Host.Outcome State Fault Refusal :=
  .next (if (s.lp p).st == .acquire && (s.lp p).signal then s.updLp p (fun x => { x with st := .align }) else s)

/-- SYNC_LOCK_ACQUIRED (R181, R186): a lane holds sync lock; with all lanes locked and deskewed and 64 codewords
decoded, ALIGN becomes NEGOTIATE. -/
def execSyncLockAcquired (p : Fin 256) (lane : Fin 4) (decoded : Bool) (s : State) : Host.Outcome State Fault Refusal :=
  .next (if (s.lp p).st == .off || (s.lp p).st == .failed || (s.lp p).st == .acquire then s
    else s.updLp p (fun x =>
      let y := { x with lanes := x.lanes.set lane true }
      if (y.st == .align || y.st == .retrain) && y.lanes.all id && decoded then { y with st := .negotiate } else y))

/-- Fields of a TRAIN flit (R187). -/
def trainVerMin (f : Bytes) : Nat := be f 16 2
def trainVerMax (f : Bytes) : Nat := be f 18 2
def trainReady (f : Bytes) : Bool := bit (byteAt f 23) 1
def trainKeep (f : Bytes) : Bool := bit (byteAt f 23) 2
def trainNode (f : Bytes) : Nat := be f 44 8

/-- The link version computed under R189 with the far side's range; the module supports version 1 only. -/
def linkVersion (f : Bytes) : Option Nat :=
  if decide (max 1 (trainVerMin f) ≤ min 1 (trainVerMax f)) then some (min 1 (trainVerMax f)) else none

/-- The session will be kept (R190): both sides ask for it, and the far NODE_ID is the one of the session before. -/
def LPort.keeps (x : LPort) : Bool :=
  x.keep && x.sessId != 0
    && (x.lastTrain == [] || (trainKeep (zeros 16 ++ x.lastTrain) && trainNode (zeros 16 ++ x.lastTrain) == x.sessId))

/-- A credit limit received: one behind the limit held is ignored (R197). -/
def newLimit (old new : Nat) : Nat := if decide ((new + 65536 - old) % 65536 < 32768) then new else old

/-- The flits up to `a` leave the replay buffer (R192); those that leave, and the port without them. -/
def LPort.covered (x : LPort) (a : Nat) : List TxFlit × LPort :=
  match findIdxFrom (fun (f : TxFlit) => f.seq == a) x.replay 0 with
  | some (i, _) => (x.replay.take (i + 1), { x with replay := x.replay.drop (i + 1), ackSeq := a, replayRun := 0 })
  | none => ([], x)

/-- Bytes of a frame acknowledged by a list of flits. -/
def ackedOf (fs : List TxFlit) (f : TxFrame) : Nat :=
  ((fs.filter (fun x => x.fid == f.fid && x.vc == f.vc)).map (fun x => x.pay.length)).foldl (· + ·) 0

/-- Data bytes of a passage that an acknowledgement covers count towards its group and its leg (R51, R70). -/
def State.creditAcked (s : State) (tag : Option (Nat × Nat × Nat × Nat)) (n : Nat) : State :=
  match tag with
  | none => s
  | some (slice, pid, gi, k) => s.updPsg slice pid (fun p =>
      let x := p.progOf gi k
      { p with prog := p.prog.put (progKey gi k) { x with acked := x.acked + n }, bytesOut := p.bytesOut + n })

/-- An ACK_SEQ (R192): flits covered leave the replay buffer, and their frames' bytes are acknowledged. -/
def State.ackIn (s : State) (p a : Nat) : State :=
  let c := (s.lp p).covered a
  if c.1 == [] then s
  else
    let note := fun (f : TxFrame) => { f with counted := f.counted + ackedOf c.1 f }
    let live := fun (f : TxFrame) => decide (0 < f.done)
    let gain := ((c.2.sentq ++ c.2.txq.filter live).map (fun f => (f.tag, (f.counted + ackedOf c.1 f - 32) - (f.counted - 32))))
    let s1 := s.updLp p (fun _ => { c.2 with
      sentq := (c.2.sentq.map note).filter (fun f => decide (f.counted < f.bytes.length))
      txq := c.2.txq.map (fun f => if live f then note f else f) })
    gain.foldl (fun s g => s.creditAcked g.1 g.2) s1

/-- What every good flit brings (R184): an acknowledgement and up to two credit limits. -/
def State.headerIn (s : State) (p : Nat) (f : Bytes) : State :=
  let b := byteAt f 6
  let s1 := s.ackIn p (fackOf f)
  s1.updLp p (fun x =>
    let put := fun (l : List Nat) (on : Bool) (v n : Nat) => if on then l.set v (newLimit (l.getD v 0) n) else l
    { x with limit := put (put x.limit (bit b 7) (bits b 4 3) (be f 8 2)) (bit b 3) (bits b 0 3) (be f 10 2) })

/-- Start to wait for a retransmission (R193): a RETRY_REQ with the cause goes out at once. -/
def State.startRetry (s : State) (p cause : Nat) : State :=
  let x := s.lp p
  if x.st != .active || x.retry.isSome then s
  else (s.updLp p (fun x => { x with
      retry := some cause, reqCount := x.reqCount + 1
      local_ := (beBytes 1 2 ++ beBytes 2 x.rxSeq ++ beBytes 1 cause ++ zeros 1 ++ beBytes 4 (x.reqCount + 1)) :: x.local_ })).lcount
    "RETRY_SENT" p 1

/-- A flit is discarded and counted (R185, R193). -/
def State.discardFlit (s : State) (p cause : Nat) : State := (s.lcount "FLIT_DISCARDS" p 1).startRetry p cause

/-- Frames of a session that ended start again from their first flit; the responses of fabric-memory requests
accepted in it are dropped and counted instead (R190, R301). -/
def State.resendFrames (s : State) (p : Nat) : State :=
  let all := (s.lp p).sentq ++ (s.lp p).txq
  let rsp := all.filter (fun f => byteAt f.bytes 0 == 0x11)
  let s1 := s.updLp p (fun x => { x with
    sentq := [], txq := (all.filter (fun f => byteAt f.bytes 0 != 0x11)).map (fun f => { f with done := 0, fid := 0, counted := 0 }) })
  rsp.foldl (fun s f => (s.queueError (fhdr f.bytes).qp).fmEvent 7) s1

/-- A new session (R190). -/
def State.newSession (s : State) (p : Nat) : State :=
  let t := zeros 16 ++ (s.lp p).lastTrain
  let s1 := ((s.resendFrames p).loseSession p).updLp p (fun x => { x with
    txSeq := 0, rxSeq := 0, ackSeq := 0xFFFF, replay := [], replayAt := none, replayOf := none, replayRun := 0
    sent := List.replicate 8 0, limit := (List.range 8).map (fun v => be t (28 + 2 * v) 2), ownLimit := ownAdvert
    open_ := [], heldq := x.heldq.map (fun h => (h.1, h.2.1, 0)), frameId := 0, retry := none, reqCount := 0, hailSeq := 0 })
  if (s.lp p).sessId == 0 then s1 else s1.lcount "SESSION_RESETS" p 1

/-- A kept session goes on: the flits that the far side has not seen are replayed (R190). -/
def State.keptSession (s : State) (p : Nat) : State :=
  let t := zeros 16 ++ (s.lp p).lastTrain
  let next := be t 24 2
  let s1 := s.ackIn p ((next + 65535) % 65536)
  s1.updLp p (fun x => { x with
    limit := (List.range 8).map (fun v => newLimit (x.limit.getD v 0) (be t (28 + 2 * v) 2))
    replayAt := if x.replay == [] then none else some next
    replayOf := if x.replay == [] then none else some next, retry := none })

/-- Enter ACTIVE once READY has been sent and received 8 times (R188). -/
def State.tryActive (s : State) (p : Nat) : State :=
  let x := s.lp p
  if x.st == .negotiate && decide (8 ≤ x.readyTx) && decide (8 ≤ x.readyRx) then
    let s1 := if x.keeps then s.keptSession p else s.newSession p
    let s2 := s1.updLp p (fun x => { x with st := .active, sessId := x.farId, keep := false, trainActive := 0, wasFailed := false })
    if x.wasFailed then s2.logAdd sevNotice (s.owner (refP p)) (evNamed 4 "PORT_BACK") (agentKind 2 p) [p] else s2
  else s

/-- A good TRAIN flit in NEGOTIATE (R188, R189). -/
def State.negotiate (s : State) (p : Nat) (f : Bytes) : State :=
  let c := bytesAt f 16 232
  match linkVersion f with
  | none =>
    let s1 := (s.updLp p (fun x => { x.untrained with st := .incompatible, lastTrain := c })).logAdd sevNotice
      (s.owner (refP p)) (evNamed 4 "INCOMPATIBLE") (agentKind 2 p) [p, trainVerMin f, trainVerMax f]
    match s1.landedT p with
    | some t => if isAX t then (s1.quarantine t 3).endProbe t else s1
    | none => s1
  | some v =>
    (s.updLp p (fun x =>
      let run := if x.lastTrain == c then x.trainRun + 1 else 1
      let ready := decide (8 ≤ run) && x.lanes.all id
      { x with
        lastTrain := c, trainRun := run
        version := if ready then v else x.version
        farRole := if ready then byteAt f 22 else x.farRole
        farId := if ready then trainNode f else x.farId
        farDepth := if ready then be f 26 2 else x.farDepth
        readyRx := if trainReady f then x.readyRx + 1 else x.readyRx })).tryActive p

/-- TRAIN_FLIT (R187 to R189): a TRAIN flit arrives. One that is not good is discarded and counted. -/
def execTrainFlit (p : Fin 256) (flit : Bytes) (s : State) : Host.Outcome State Fault Refusal :=
  .next (let x := s.lp p
    if !s.lpLive p || x.st == .off || x.st == .failed || x.st == .acquire then s
    else if !flitGood flit || ftypeOf flit != 5 || trainNode flit == 0 then s.discardFlit p 1
    else match x.st with
      | .negotiate => s.negotiate p flit
      | .incompatible => if x.lastTrain == bytesAt flit 16 232 then s
          else s.updLp p (fun x => { x.untrained with st := .align })
      | .active => if decide (64 ≤ x.trainActive) then s.retrain p
          else s.updLp p (fun x => { x with trainActive := x.trainActive + 1 })
      | _ => s)

/-- TRAINING_TIMEOUT (R191, R212): not ACTIVE within 100 ms of S0: back to ACQUIRE, and one failed attempt. -/
def execTrainingTimeout (p : Fin 256) (s : State) : Host.Outcome State Fault Refusal :=
  .next (let x := s.lp p
    if x.signal && [LSt.acquire, .align, .negotiate, .retrain].contains x.st then
      let s1 := s.advanceTo (x.since + 100000000)
      (s1.updLp p (fun x => { x.untrained with st := .acquire, since := s1.ns, lanes := List.replicate 4 false })).linkFault p
    else s)

/-- FAILED_PORT_RETRY (R186): every 60 s a FAILED port makes a new attempt. -/
def execFailedPortRetry (p : Fin 256) (s : State) : Host.Outcome State Fault Refusal :=
  .next (let x := s.lp p
    if x.st == .failed && !s.mem.deadDies.contains (p.val / 64) then
      let s1 := s.advanceTo (x.since + 60000000000)
      s1.updLp p (fun x => { x with st := .acquire, since := s1.ns })
    else s)

/-! ### Frames from flits (R185, R193, R200) -/

/-- Length that a frame's header gives it, where its KIND is one of R201 (R200). -/
def frameLength (b : Bytes) : Option Nat :=
  let k := byteAt b 0
  if k == 0x01 then some (32 + be b 16 4)
  else if k == 0x10 then some (match reqData (byteAt b 2) (be b 16 4) with
    | some n => 32 + n
    | none => b.length)
  else if k == 0x11 then some (32 + be b 16 4)
  else if decide (0x20 ≤ k ∧ k ≤ 0x27) then some b.length
  else none

/-- A whole frame is one of R201 and as long as its header says; a control frame is one flit. -/
def frameWhole (b : Bytes) (flits : Nat) : Bool :=
  frameLength b == some b.length && (!decide (0x20 ≤ byteAt b 0) || flits == 1)

/-- Discard an open frame, free its credits and refuse it as MALFORMED (R200). -/
def State.dropOpen (s : State) (p vc : Nat) : State :=
  match (s.lp p).open_.find vc with
  | none => s
  | some (b, n) => ((s.updLp p (fun x => { x with open_ := x.open_.del vc })).freeCredit p vc n).nak p b 7

/-- A FRAME flit in sequence joins its frame; an ill-formed whole frame is refused. A whole frame is then handled as
the frame it is, which frees its credits. -/
def State.assemble (s : State) (p : Nat) (f : Bytes) : State :=
  let vc := fvcOf f
  let s1 := if fsofOf f then s.dropOpen p vc else s
  match (if fsofOf f then some ([], 0) else (s1.lp p).open_.find vc) with
  | none => (s1.freeCredit p vc 1).nak p (fpayOf f) 7
  | some (b, n) =>
    let b1 := b ++ fpayOf f
    if !feofOf f then s1.updLp p (fun x => { x with open_ := x.open_.put vc (b1, n + 1) })
    else
      let s2 := s1.updLp p (fun x => { x with open_ := x.open_.del vc })
      if frameWhole b1 (n + 1) then s2 else (s2.freeCredit p vc (n + 1)).nak p b1 7

/-- A FRAME flit with a good CRC: in sequence it is taken; out of sequence it is discarded, and asked for again
(R193). A probe port takes no frame (R307). -/
def State.frameFlit (s : State) (p : Nat) (f : Bytes) : State :=
  if s.probing p then s.lcount "FLIT_DISCARDS" p 1
  else if fseqOf f == (s.lp p).rxSeq then
    (s.updLp p (fun x => { x with rxSeq := (x.rxSeq + 1) % 65536, retry := none })).assemble p f
  else if (s.lp p).retry.isSome then s
  else s.startRetry p 3

/-- FLIT_RECEIVED (R185, R192, R193): a flit arrives on an ACTIVE port. -/
def execFlitReceived (p : Fin 256) (flit : Bytes) (s : State) : Host.Outcome State Fault Refusal :=
  .next (if !s.lpLive p || (s.lp p).st != .active then s
    else if !flitGood flit then s.discardFlit p 1
    else
      let s1 := s.headerIn p flit
      if ftypeOf flit == 1 then s1.frameFlit p flit else s1)

/-- CODEWORD_UNCORRECTABLE (R181, R212): a codeword is discarded with the flits it touches; more than 10 in a second
are one WARNING a minute. -/
def execCodewordUncorrectable (p : Fin 256) (flits : Nat) (s : State) : Host.Outcome State Fault Refusal :=
  .next (if !s.lpLive p || (s.lp p).st == .off || (s.lp p).st == .failed then s
    else
      let s1 := ((s.lcount "FEC_CW_UNCORRECTABLE" p 1).lcount "FLIT_DISCARDS" p flits).updLp p (fun x => { x with
        cwSecond := s.secs, cwCount := if x.cwSecond == s.secs then x.cwCount + 1 else 1 })
      let s2 := s1.startRetry p 2
      let x := s2.lp p
      let due := match x.cwWarnAt with
        | none => true
        | some t => decide (t + 60000000000 ≤ s.ns)
      if decide (10 < x.cwCount) && due then
        (s2.updLp p (fun x => { x with cwWarnAt := some s.ns })).logAdd sevWarning (s.owner (refP p))
          (evNamed 4 "CODEWORDS_DISCARDED") (agentKind 2 p) [p, x.cwCount]
      else s2)

/-- RETRY_REQ (R193, R194): the sender replays from EXPECT_SEQ, or retrains where it cannot, or where the eighth
replay of one EXPECT_SEQ brought no acknowledgement. -/
def execRetryReq (p : Fin 256) (flit : Bytes) (s : State) : Host.Outcome State Fault Refusal :=
  .next (if !s.lpLive p || (s.lp p).st != .active then s
    else if !flitGood flit || ftypeOf flit != 2 then s.discardFlit p 1
    else
      let s1 := (s.headerIn p flit).lcount "RETRY_RECEIVED" p 1
      let x := s1.lp p
      let e := be flit 16 2
      let start := fun (n : Nat) => s1.updLp p (fun x => { x with replayAt := some e, replayOf := some e, replayRun := n })
      if e == x.txSeq then s1
      else if !x.replay.any (fun f => f.seq == e) then s1.retrain p
      else match x.replayAt, x.replayOf with
        | some _, some o =>
          if o == e || !decide ((o + 65536 - e) % 65536 < 32768) then s1 else start 1
        | _, o =>
          let n := if o == some e then x.replayRun + 1 else 1
          if decide (8 ≤ n) then s1.retrain p else start n)

/-- RETRY_REQ_REPEAT (R193): every 2 µs until the expected flit arrives. -/
def execRetryReqRepeat (p : Fin 256) (s : State) : Host.Outcome State Fault Refusal :=
  .next (match (s.lp p).retry with
    | some c => (s.updLp p (fun x => { x with retry := none })).startRetry p c
    | none => s)

/-- SYNC_LOSS (R194): lock lost on a lane; an ACTIVE port retrains. -/
def execSyncLoss (p : Fin 256) (lane : Fin 4) (s : State) : Host.Outcome State Fault Refusal :=
  .next (if !s.lpLive p || (s.lp p).st == .off || (s.lp p).st == .failed then s
    else
      let s1 := (s.updLp p (fun x => { x with lanes := x.lanes.set lane false })).lcount "SYNC_LOSSES" p 1
      s1.retrain p)

/-- NO_GOOD_CRC_TIMEOUT (R194): no good CRC for 10 µs. -/
def execNoGoodCrcTimeout (p : Fin 256) (s : State) : Host.Outcome State Fault Refusal :=
  .next (s.retrain p)

/-- SIGNAL_LOSS (R194): signal lost for more than 10 µs: ACQUIRE, the session kept for up to 1 s; a port that is no
longer landed is OFF (R186). -/
def execSignalLoss (p : Fin 256) (s : State) : Host.Outcome State Fault Refusal :=
  .next (if !s.lpLive p || (s.lp p).st == .off || (s.lp p).st == .failed then s
    else s.updLp p (fun x => { x.untrained with
      st := if s.landed p then .acquire else .off, signal := false, since := s.ns, lanes := List.replicate 4 false
      keep := x.sessId != 0, retry := none }))

/-- SESSION_HOLD_EXPIRY (R194): after 1 s of signal loss the kept session ends. -/
def execSessionHoldExpiry (p : Fin 256) (s : State) : Host.Outcome State Fault Refusal :=
  .next (let x := s.lp p
    if !x.signal && x.sessId != 0 && x.keep then
      (s.advanceTo (x.since + 1000000000)).updLp p (fun x => { x with keep := false })
    else s)

/-- FEC_DEGRADED (R212): the pre-FEC symbol error ratio over 1 s sets or clears the bit sent in H2; one WARNING in
10 minutes. -/
def execFecDegraded (p : Fin 256) (above : Bool) (s : State) : Host.Outcome State Fault Refusal :=
  .next (if !s.lpLive p then s
    else
      let s1 := s.updLp p (fun x => { x with fecDegraded := above })
      let due := match (s.lp p).fecWarnAt with
        | none => true
        | some t => decide (t + 600000000000 ≤ s.ns)
      if above && due then
        (s1.updLp p (fun x => { x with fecWarnAt := some s.ns })).logAdd sevWarning (s.owner (refP p))
          (evNamed 4 "FEC_DEGRADED") (agentKind 2 p) [p]
      else s1)

/-! ### Hail and time (R208, R209) -/

/-- Payload of the module's HAIL flit on a port. -/
def State.hailPayload (s : State) (port seq : Nat) : Bytes :=
  beBytes 1 1 ++ beBytes 1 0 ++ beBytes 2 port ++ beBytes 8 s.fuse.nodeId ++ beBytes 1 s.topo.hall ++ beBytes 1 s.topo.rack
    ++ beBytes 1 s.topo.strapState ++ beBytes 1 0xFF ++ beBytes 2 1 ++ beBytes 2 1 ++ beBytes 1 (s.owner port) ++ zeros 3
    ++ beBytes 4 seq

/-- HAIL_SEND (R208): a HAIL flit is due on an ACTIVE port. -/
def execHailSend (p : Fin 256) (s : State) : Host.Outcome State Fault Refusal :=
  .next (if s.lpLive p && (s.lp p).st == .active then
    s.updLp p (fun x => { x with
      hailSeq := (x.hailSeq + 1) % 2 ^ 32, local_ := x.local_ ++ [beBytes 1 3 ++ s.hailPayload (refP p) (x.hailSeq + 1)] })
    else s)

/-- The identity a HAIL flit carries. -/
def hailOf (f : Bytes) : Hail :=
  ⟨byteAt f 17, be f 20 8, bits (byteAt f 28) 0 4, bits (byteAt f 29) 0 6, bits (byteAt f 30) 0 2, byteAt f 31, be f 34 2,
   bits (byteAt f 36) 0 6⟩

/-- HAIL (R208, R309, R311): the identity that the far end of a landed port gives is judged; NODE_ID 0 is none, and
the flit is discarded. Discovery is firmware's, and judges nothing in a pause. -/
def execHail (p : Fin 256) (flit : Bytes) (s : State) : Host.Outcome State Fault Refusal :=
  .next (if !s.lpLive p || (s.lp p).st != .active then s
    else if !flitGood flit || ftypeOf flit != 3 || (hailOf flit).nodeId == 0 then s.discardFlit p 1
    else
      let s1 := s.headerIn p flit
      match s1.landedT p with
      | some t => if isAX t && !s.paused then s1.judgeHail t (hailOf flit) else s1
      | none => s1)

/-- Payload of a TIME flit of the module. -/
def State.timePayload (s : State) (msg seq t16 : Nat) : Bytes :=
  let ns := t16 / 65536
  beBytes 1 msg ++ beBytes 1 s.ast.st.code ++ beBytes 2 seq ++ beBytes 6 (ns / 1000000000) ++ beBytes 4 (ns % 1000000000)
    ++ beBytes 2 (t16 % 65536)

/-- SYNC (R209): every 1 ms on every ACTIVE port; the stamp is taken when the flit goes. -/
def execSync (s : State) : Host.Outcome State Fault Refusal :=
  .next { s with lnk := { s.lnk with port := s.lnk.port.mapVal (fun _ x =>
    if x.st == .active then { x with timeSeq := (x.timeSeq + 1) % 65536, local_ := x.local_ ++ [beBytes 1 4 ++ beBytes 1 0 ++ beBytes 1 0 ++ beBytes 2 ((x.timeSeq + 1) % 65536)] }
    else x) } }

/-- DELAY_REQ (R209): answered with its own arrival stamp. -/
def execDelayReq (p : Fin 256) (flit : Bytes) (s : State) : Host.Outcome State Fault Refusal :=
  .next (if !s.lpLive p || (s.lp p).st != .active then s
    else if !flitGood flit || ftypeOf flit != 4 then s.discardFlit p 1
    else
      let s1 := s.headerIn p flit
      if byteAt flit 16 != 1 then s1
      else s1.updLp p (fun x => { x with local_ := x.local_ ++ [beBytes 1 4 ++ s.timePayload 2 (be flit 18 2) s.time16] }))

/-- NAK (R207): the far side refused a frame; it is counted, and its credit freed. -/
def execNak (p : Fin 256) (frame : Bytes) (s : State) : Host.Outcome State Fault Refusal :=
  .next (if s.lpLive p && ctlKind frame == 0x20 then (s.lcount "NAKS_RECEIVED" p 1).freeCredit p 6 (flitsOf frame.length) else s)

/-! ### The transmitter (R183, R192, R197, R198) -/

/-- Payload of a TRAIN flit (R187). -/
def State.trainPayload (s : State) (p : Nat) : Bytes :=
  let x := s.lp p
  let ready := x.version != 0 && x.st == .negotiate && x.lanes.all id
  beBytes 2 1 ++ beBytes 2 1 ++ beBytes 2 (if x.st == .incompatible then 0 else x.version) ++ beBytes 1 0
    ++ beBytes 1 (b2n (x.lanes.all id) + 2 * b2n ready + 4 * b2n x.keep) ++ beBytes 2 x.rxSeq ++ beBytes 2 2048
    ++ (List.range 8).flatMap (fun v => beBytes 2 ((if x.keeps then x.ownLimit else ownAdvert).getD v 0))
    ++ beBytes 8 s.fuse.nodeId

/-- Send one flit in the slot, by its header fields and payload. -/
def State.putFlit (s : State) (p ftype vc : Nat) (sof eof : Bool) (seq last : Nat) (pay : Bytes) : State :=
  let f := sealFlit ((s.lp p).header ftype vc sof eof seq last) pay
  (s.updLp p (fun x => { x with crNext := (x.crNext + 2) % 8, pairBuf := x.pairBuf ++ f })).emit (.flit p f)

/-- A training port sends a TRAIN flit; RETRAIN goes to ALIGN at once (R186). -/
def State.sendTrain (s : State) (p : Nat) : State :=
  let s1 := s.updLp p (fun x => { x with st := if x.st == .retrain then .align else x.st })
  let x := s1.lp p
  let ready := x.version != 0 && x.st == .negotiate && x.lanes.all id
  ((s1.putFlit p 5 0 false false 0 0 (s1.trainPayload p)).updLp p (fun x => { x with
    readyTx := if ready then x.readyTx + 1 else x.readyTx })).tryActive p

/-- A virtual channel's credit allows a new FRAME flit (R197). -/
def LPort.hasCredit (x : LPort) (v : Nat) : Bool :=
  let d := (x.limit.getD v 0 + 65536 - x.sent.getD v 0) % 65536
  decide (1 ≤ d ∧ d ≤ 32767)

/-- New flits may be sent beside those not acknowledged (R192). -/
def LPort.room (x : LPort) : Bool := decide (x.replay.length < min (min x.farDepth 2048) 32767)

/-- The frame whose next flit may go: the first of its virtual channel in the queue, in queue order, with credit; in
a pause no DATA frame is begun (R198, R32). -/
def LPort.pick (x : LPort) (paused : Bool) : List TxFrame → List Nat → Option TxFrame
  | [], _ => none
  | f :: t, busy =>
    if !busy.contains f.vc && x.hasCredit f.vc && !(paused && f.vc ≤ 1 && f.done == 0) then some f
    else LPort.pick x paused t (f.vc :: busy)

/-- Time for which channels with frames waited for credit in this slot (R211). -/
def State.countWaits (s : State) (p : Nat) : State :=
  let x := s.lp p
  let held := (nubNat (x.txq.map (·.vc))).filter (fun v => !x.hasCredit v)
  held.foldl (fun s v =>
    let w := (s.lp p).creditWait.getD v 0
    (s.updLp p (fun x => { x with creditWait := x.creditWait.set v (w + 512) })).lcount
      (match v with
        | 0 => "CREDIT_WAIT_NS0" | 1 => "CREDIT_WAIT_NS1" | 2 => "CREDIT_WAIT_NS2" | 3 => "CREDIT_WAIT_NS3"
        | 4 => "CREDIT_WAIT_NS4" | 5 => "CREDIT_WAIT_NS5" | 6 => "CREDIT_WAIT_NS6" | _ => "CREDIT_WAIT_NS7")
      p ((w + 512) / 100 - w / 100)) s

/-- A sending group of a running passage that lists the port and has more to send: (slice, passage, group, index). -/
def State.senderOf (s : State) (p : Nat) : Option (Nat × Nat × Nat × Nat) :=
  s.psg.findSome? (fun e =>
    if e.2.st == .running || e.2.st == .stalled then
      e.2.legGroups.findSome? (fun gi =>
        let g := e.2.grp gi
        let k := g.ports.idxOf (refP p)
        if decide (3 ≤ g.role) && g.ports.contains (refP p)
            && decide ((e.2.progOf gi k).cursor < rangeBlocks (g.range k))
        then some (e.1 / 256, e.1 % 256, gi, k) else none)
    else none)

/-- Queue the next DATA frame of a leg on a port that has none waiting (R51, R204). -/
def State.feed (s : State) (p : Nat) : State :=
  if s.paused || s.mem.thermStop || s.probing p || (s.lp p).txq.any (fun f => decide (f.vc ≤ 1)) then s
  else match s.senderOf p with
    | none => s
    | some (n, pid, gi, k) => match s.nextFrame n pid gi k with
      | none => s
      | some (b, _, s1) => s1.sendOn p (b2n (bit (byteAt b 1) 6)) b (some (n, pid, gi, k))

/-- The next flit of a frame goes (R192, R197, R202). -/
def State.sendFrameFlit (s : State) (p : Nat) (f : TxFrame) : State :=
  let x := s.lp p
  let first := f.done == 0
  let g := if first then { f with bytes := setFrameId f.bytes x.frameId, fid := x.frameId } else f
  let pay := bytesAt g.bytes g.done 232
  let eof := decide (g.bytes.length ≤ g.done + 232)
  let h := { g with done := g.done + pay.length }
  let s1 := s.putFlit p 1 f.vc first eof x.txSeq (if eof then pay.length else 0) pay
  let s2 := s1.updLp p (fun x => { x with
    txSeq := (x.txSeq + 1) % 65536, replay := x.replay ++ [⟨x.txSeq, f.vc, first, eof, pay, g.fid⟩]
    sent := x.sent.set f.vc ((x.sent.getD f.vc 0 + 1) % 65536)
    frameId := if first then (x.frameId + 1) % 2 ^ 32 else x.frameId
    txq := if eof then x.txq.erase f else x.txq.map (fun y => if y == f then h else y)
    sentq := if eof then x.sentq ++ [h] else x.sentq })
  if eof then s2.emit (.frame p f.vc g.bytes) else s2

/-- A flit of the replay under way goes again (R193); flits acknowledged meanwhile are passed over. -/
def State.sendReplay (s : State) (p q : Nat) : State :=
  match ((s.lp p).replay.find? (fun f => f.seq == q)).orElse (fun _ => (s.lp p).replay.head?) with
  | none => (s.updLp p (fun x => { x with replayAt := none })).putFlit p 0 0 false false 0 0 []
  | some f =>
    let s1 := s.putFlit p 1 f.vc f.sof f.eof f.seq (if f.eof then f.pay.length else 0) f.pay
    (s1.updLp p (fun x => { x with
      replayAt := if (f.seq + 1) % 65536 == x.txSeq then none else some ((f.seq + 1) % 65536) })).lcount "FLITS_REPLAYED" p 1

/-- A link-local flit goes; a SYNC takes its stamp now (R209). -/
def State.sendLocal (s : State) (p : Nat) (b : Bytes) : State :=
  let k := byteAt b 0
  let pay := if k == 4 && byteAt b 1 == 0 then s.timePayload 0 (be b 3 2) s.time16 else b.drop 1
  (s.updLp p (fun x => { x with local_ := x.local_.erase b })).putFlit p k 0 false false 0 0 pay

/-- The flit of one slot of an ACTIVE port: a RETRY_REQ, a replay, another link-local flit, a FRAME flit that credit
allows, or IDLE. A TIME flit goes only at the first flit of a pair; a port held under R370 sends IDLE only. -/
def State.sendActive (s0 : State) (p : Nat) : State :=
  let s := s0.feed p
  let x := s.lp p
  let idle := fun (s : State) => s.putFlit p 0 0 false false 0 0 []
  if x.ringHold.isSome then idle s
  else match x.local_.find? (fun b => byteAt b 0 == 2), x.replayAt with
    | some b, _ => s.sendLocal p b
    | none, some q => s.sendReplay p q
    | none, none =>
      match x.local_.find? (fun b => byteAt b 0 == 3 || x.pos == 0) with
      | some b => s.sendLocal p b
      | none =>
        let s1 := s.countWaits p
        if !x.room || s.probing p then idle s1
        else match x.pick s.paused x.txq [] with
          | some f => s1.sendFrameFlit p f
          | none => idle s1

/-- The five flits of a codeword pair go out on the four lanes (R178 to R180). -/
def State.sendPair (s : State) (p : Nat) : State :=
  let x := s.lp p
  let e := linePair x.scr x.pair x.fecDegraded (padTo 1280 x.pairBuf)
  (s.updLp p (fun x => { x with pos := 0, pair := (x.pair + 1) % 256, pairBuf := [], scr := e.2 })).emit (.pair p e.1)

/-- FLIT_SLOT (R183): one 5.12 ns slot of a port's transmitter. -/
def execFlitSlot (p : Fin 256) (s : State) : Host.Outcome State Fault Refusal :=
  .next (if !s.lpLive p then s
    else
      let s1 := match (s.lp p).st with
        | .active => s.sendActive p
        | .align => s.sendTrain p
        | .negotiate => s.sendTrain p
        | .retrain => s.sendTrain p
        | .incompatible => s.sendTrain p
        | _ => s
      if [LSt.off, .acquire, .failed].contains (s.lp p).st then s1
      else if (s1.lp p).pos == 4 then s1.sendPair p
      else s1.updLp p (fun x => { x with pos := x.pos + 1 }))

end Sys2Proof.Machine
end

