-- ==== Sys2Proof/Machine/Resets.lean ====
section
/-! DEFINITION. SLICE_RESET, and the rows that can end a commit or a release, with which a SLICE_RESET that waits for one
goes on (R47, R50, R328). -/

namespace Sys2Proof.Machine

/-! ### SLICE_RESET (R328) -/

/-- Step 3: every queue of the slice is free. Unsent requests complete with 0x0302, and late responses to sent ones find
no request. -/
def State.freeQueues (s : State) (n : Nat) : State :=
  let qs := (s.fm.queue.filter (fun e => e.2.slice == n && e.2.st != 0)).map Prod.fst
  let mine := s.fm.reqs.filter (fun r => qs.contains r.qp)
  let s1 := (mine.filter (fun r => r.sends == 0)).foldl (fun s r => s.finishReq r 0x0302 []) s
  let refs := mine.map (·.ref)
  let s2 := { s1 with fm := { s1.fm with
    queue := s1.fm.queue.filter (fun e => !qs.contains e.1)
    reqs := s1.fm.reqs.filter (fun r => !qs.contains r.qp)
    ops := s1.fm.ops.filter (fun o => !refs.contains o.ref)
    lostRsp := s1.fm.lostRsp.filter (fun x => !qs.contains x.1) } }
  qs.foldl (fun s q => s.orphan 3 (fun i => i == q)) s2

/-- Step 4: every binding, program and residual area of the slice goes. -/
def State.dropObjects (s : State) (n : Nat) : State :=
  { s with skk := { s.skk with
      binding := s.skk.binding.filter (fun e => e.1 / 65536 != n)
      prog := s.skk.prog.filter (fun e => e.1 / 32 != n)
      resid := s.skk.resid.filter (fun e => e.1 / 65536 != n) } }

/-- Queues of a slice that are not free. -/
def State.queueCount (s : State) (n : Nat) : Nat := (s.fm.queue.filter (fun e => e.2.slice == n && e.2.st != 0)).length

/-- Step 2, once no commit or release of the slice is in progress: PLOTTED plots go, and the mirrors of ACTIVE ones park. -/
def State.releasePlots (s : State) (n : Nat) : State :=
  (s.topo.plot.filter (fun e => e.2.slice == n)).foldl (fun s e =>
    if e.2.st == 1 then { s with topo := { s.topo with plot := s.topo.plot.del e.1 } } else s.releasePlot e.1 e.2) s

/-- A commit or a release of the slice is in progress. -/
def State.plotBusy (s : State) (n : Nat) : Bool := s.topo.plot.any (fun e => e.2.slice == n && (e.2.st == 2 || e.2.releasing))

/-- Step 2 as far as it goes now: the state, and whether every plot of the slice is released. -/
def State.resetPlots (s : State) (n : Nat) : State × Bool :=
  let s1 := if s.plotBusy n then s else s.releasePlots n
  (s1, !s1.topo.plot.any (fun e => e.2.slice == n))

/-- A SLICE_RESET that waits goes on as far as it can. -/
def State.runReset (s : State) (e : Exec) : State :=
  match e.wait with
  | .park n aborted =>
    let r := s.resetPlots n
    if r.2 then ((r.1.freeQueues n).dropObjects n).completeExec e 0 aborted (r.1.queueCount n) else r.1
  | _ => s

/-- Releases whose mirrors are all at park end, and so does what waited for them. -/
def State.settle (s : State) : State :=
  let s1 := s.finishReleases
  s1.hif.execs.foldl State.runReset s1

/-- SLICE_RESET (R328). -/
def cmdSliceReset (r : Req) (s : State) : CmdOut :=
  let n := r.slice
  let live := (s.passagesOf n).filter (fun e => e.2.st.live)
  guarded s [ranges [(16, r.z 16)], sliceChk s n]
    (let s1 := live.foldl (fun s e => s.abortPassage n e.1 1) s
     let s2 := (s1.passagesOf n).foldl (fun s e => s.unloadPassage n e.1) s1
     let p := s2.resetPlots n
     if p.2 then ok ((p.1.freeQueues n).dropObjects n) live.length (p.1.queueCount n)
     else .wait p.1 (.park n live.length))

/-! ### Rows that can end a commit or a release -/

/-- CHART_COMMIT_COMPLETE (R47). -/
def execChartCommitComplete (slice : Fin 64) (s : State) : Host.Outcome State Fault Refusal :=
  .next (s.chartCommitComplete slice).settle

/-- MIRROR_ACQUIRING (R121, R125). -/
def execMirrorAcquiring (out : Fin 1024) (ident : Fin 1024) (s : State) : Host.Outcome State Fault Refusal :=
  .next (s.mirrorAcquiring out ident).settle

/-- MIRROR_PARKED (R121). -/
def execMirrorParked (m : Fin 2048) (s : State) : Host.Outcome State Fault Refusal :=
  .next (s.mirrorParked m).settle

/-- IDENTITY_CHECK (R130). -/
def execIdentityCheck (out : Fin 1024) (ident : Fin 1024) (s : State) : Host.Outcome State Fault Refusal :=
  .next (s.identityCheck out ident).settle

/-- MIRROR_NOT_FOLLOWING (R136). -/
def execMirrorNotFollowing (m : Fin 2048) (s : State) : Host.Outcome State Fault Refusal :=
  .next (s.mirrorNotFollowing m).settle

/-- LATCH_READBACK (R136). -/
def execLatchReadback (m : Fin 2048) (x y : Nat) (s : State) : Host.Outcome State Fault Refusal :=
  .next (s.latchReadback m x y).settle

/-- DRIVER_OVERCURRENT (R136). -/
def execDriverOvercurrent (m : Fin 2048) (s : State) : Host.Outcome State Fault Refusal :=
  .next (s.driverOvercurrent m).settle

/-- HV_SUPPLY_LOST (R136, R495). -/
def execHvSupplyLost (b : Bool) (s : State) : Host.Outcome State Fault Refusal :=
  .next (s.hvSupplyLost b).settle

/-- OPEN_PATH (R491). -/
def execOpenPath (k : Fin 104) (s : State) : Host.Outcome State Fault Refusal :=
  .next (s.openPathRow k).settle

end Sys2Proof.Machine
end

