-- ==== Sys2Proof/Machine/Laser.lean ====
section
/-! DEFINITION. Lasers and their gates: wavelength errors, relocking, spare takeover, foreign light, the cabling
check, the ring heaters, the glass-frog controllers, and LASER_SET (05 R145 to R149, R161 to R174; 16 R491). -/

namespace Sys2Proof.Machine

/-! ### Who serves what -/

/-- A colour front adapter is open at a global port (R491). -/
def State.gOpen (s : State) (t : Nat) : Bool := s.plane.openPath.has (96 + t / 8)

/-- The global port that a laser serves. -/
def State.servedBy (s : State) (l : Nat) : Option Nat := (List.range 64).find? (fun t => (s.gp t).laser == l)

/-- A glass-frog controller runs. -/
def State.gfRuns (s : State) (g : Nat) : Bool := (s.col.gf.get g (0, [])).1 == 2

/-- The passage that lights a non-standing port in its current leg. -/
def State.legOf (s : State) (t : Nat) : Option (Nat × Nat × Passage) :=
  let n := s.owner (refG t)
  match (s.passagesOf n).find? (fun e => (e.2.st == .running || e.2.st == .stalled || e.2.st == .parked)
      && (e.2.offset e.2.leg t).isSome) with
  | some e => some (n, e.1, e.2)
  | none => none

/-- A gate that opens for a leg port again: with a fresh preamble, unless the leg is over for it (R60), a take holds
it dark or its adapter is open. A standing port waits dark for its next slot (R162). -/
def State.relight (s : State) (t : Nat) : State :=
  let x := s.gp t
  let dark := s.updGp t (fun x => { x with st := 0 })
  if x.role != 1 || s.takenPort t || s.gOpen t then dark
  else match s.legOf t with
    | none => dark
    | some (n, pid, p) =>
      let leaves := p.blanked.isSome && (match p.target with
        | some (l, _) => p.offset l t != p.offset p.leg t
        | none => true)
      if leaves then dark
      else ((s.updGp t (fun x => { x with st := 2 })).updLaser x.laser (fun l => { l with st := 2, gate := true })).sendLeg n pid t false

/-- PATH_CLOSED (R491): the mate sense has stayed closed for 1 s. The parked mirrors of plotted circuits
are given their targets again; leg ports reopen their gates; standing ports reopen at their next slot. -/
def execPathClosed (k : Fin 104) (s : State) : Host.Outcome State Fault Refusal :=
  .next (match s.plane.openPath.find k with
    | none => s
    | some t0 =>
      let s1 := { s with plane := { s.plane with openPath := s.plane.openPath.del k } }
      let s2 :=
        if k.val < 96 then
          (s1.circuits.filter (fun c => !c.failed && posOf c.dst / 8 == k.val && decide (refClass c.dst = 0))).foldl
            (fun s c => s.aimCircuit c) s1
        else (adapterPorts k).foldl (fun s t => if (s.gp t).role == 1 && (s.gp t).st == 0 then s.relight t else s) s1
      s2.logAdd sevNotice 0 0x0D21 agentNone [k, (s.ns - t0) / 1000000])

/-! ### Failure and takeover (R166, R167) -/

/-- A global port becomes FAILED (R167). -/
def State.portFail (s : State) (t : Nat) : State :=
  let s1 := (s.updGp t (fun x => { x with st := 4, takeover := false })).updLaser (s.gp t).laser (fun l => { l with gate := false })
  (s1.colEvent 3).logAdd sevError (s.owner (refG t)) (evNamed 3 "PORT_FAILED") (agentKind 3 t) [t]

/-- A laser becomes FAILED: its group's idle spare takes its port over, otherwise the port fails; a spare leaves its
group without one. -/
def State.laserFail (s : State) (l : Nat) : State :=
  let s1 := s.updLaser l (fun x => { x with st := 4, gate := false })
  let s2 := if decide (64 ≤ l) then
      { s1 with col := { s1.col with group := s1.col.group.put (l - 64) (2, (s1.grp (l - 64)).2) } } else s1
  match s.servedBy l with
  | none => s2
  | some t =>
    let g := t / 8
    let busy := (List.range 8).any (fun i => (s2.gp (8 * g + i)).takeover)
    if (s2.grp g).1 == 0 && !busy && decide (l < 64) then s2.updGp t (fun x => { x with st := 3, takeover := true })
    else s2.portFail t

/-! ### Wavelength errors and relocks (R149, R162, R165) -/

/-- A wavelength error at an idle spare: it relocks, dark. -/
def idleSpare (s : State) (l : Nat) : Bool := decide (64 ≤ l) && (s.grp (l - 64)).1 == 0 && (s.servedBy l).isNone

/-- WAVELENGTH_ERROR (R162): the comparator closes the gate of a locked laser; the port it serves is RELOCKING, and a
gate that was open counts as blanked. -/
def execWavelengthError (l : Fin 72) (measChannel : Fin 64) (freqErr : Int) (s : State) : Host.Outcome State Fault Refusal :=
  .next (
    let x := s.laser l
    let out := measChannel.val != x.channel || decide (500 < freqErr.natAbs)
    if !(x.st == 2 || x.st == 5) || !out then s
    else
      let s1 := (s.updLaser l (fun x => { x with
        gate := false, st := if x.st == 5 then 5 else 3, measChannel := measChannel, measValid := true, freqErr := satSigned 16 freqErr })).colEvent 0
      if x.st == 5 then s1
      else if idleSpare s l then s1.updLaser l (fun x => { x with st := 1, attempts := 0 })
      else match s.servedBy l with
        | none => s1
        | some t =>
          let p := s.gp t
          if p.st == 4 || p.st == 5 || p.st == 6 || p.role == 0 then s1
          else s1.updGp t (fun p => { p with
            st := 3, attempts := 0, foreignRun := false, blanks := if x.gate then satInc 16 p.blanks else p.blanks }))

/-- RETUNE_LOCK_TIMEOUT (R149): a port that retuned at its leg's waypoint has no lock after 1.0 µs. Its gate never
opened, so nothing of the leg has left, and it relocks. -/
def execRetuneLockTimeout (g : Fin 64) (s : State) : Host.Outcome State Fault Refusal :=
  .next (match s.legOf g with
    | none => s
    | some (n, pid, p) =>
      let x := s.gp g
      if x.role != 1 || x.st != 2 || x.tunedAt != some p.enteredAt || decide (p.enteredAt + 1000 < s.ns) then s
      else
        let mine := fun (o : Out) => match o with
          | .burst q _ _ => q == g.val
          | _ => false
        let i := s.out.reverse.findIdx mine
        let s1 := { s.advanceTo (p.enteredAt + 1000) with out := s.out.eraseIdx (s.out.length - 1 - i) }
        let s2 := s1.updPsg n pid (fun p => { p with prog := p.legGroups.foldl (fun t gi =>
          let gr := p.grp gi
          let k := gr.ports.idxOf (refG g)
          if decide (3 ≤ gr.role) && gr.ports.contains (refG g) then t.put (progKey gi k) { p.progOf gi k with cursor := 0 } else t) p.prog })
        let s3 := s2.updPath g x.dest (fun y => { y with frameId := x.legFid })
        (s3.updGp g (fun x => { x with st := 3, attempts := 0, foreignRun := false })).updLaser x.laser
          (fun l => { l with st := 1, gate := false, measValid := false }))

/-- A relock attempt that succeeds on a port: one NOTICE, and its gate opens as R162 says. -/
def State.relocked (s : State) (t : Nat) (thermal : Bool) : State :=
  let x := s.gp t
  let s1 := s.updLaser x.laser (fun l => { l with st := 2, gate := false, channel := x.channel, measChannel := x.channel, measValid := true, freqErr := 0 })
  let s2 := s1.updGp t (fun x => { x with
    attempts := 0, foreignAt := if x.foreignRun then some s.ns else x.foreignAt, foreignRun := false })
  let s3 := s2.logAdd sevNotice (s.owner (refG t)) (evNamed 3 "RELOCK") (agentKind 0xE x.laser) [t, x.channel]
  let s4 := s3.relight t
  if thermal then s4.calStart (5 + t / 8) else s4

/-- RELOCK_ATTEMPT_END (R162, R166): an attempt on a relocking port's laser, or on an idle spare, ends. -/
def execRelockAttemptEnd (l : Fin 72) (ok : Bool) (thermal : Bool) (s : State) : Host.Outcome State Fault Refusal :=
  .next (if !s.gfRuns 4 then s
    else if idleSpare s l && (s.laser l).st == 1 then
      let n := (s.laser l).attempts + 1
      if ok then
        let s1 := (s.updLaser l (fun x => { x with st := 2, attempts := 0, measChannel := x.channel, measValid := true, freqErr := 0 })).logAdd
          sevNotice 0 (evNamed 3 "RELOCK") (agentKind 0xE l) [0xFFFF, (s.laser l).channel]
        if thermal then s1.calStart (5 + (l.val - 64)) else s1
      else
        let s1 := ((s.updLaser l (fun x => { x with attempts := n })).colEvent 1).logAdd sevWarning 0
          (evNamed 3 "RELOCK_FAILED") (agentKind 0xE l) [0xFFFF, n]
        if n < 3 then s1 else (s1.laserFail l).logAdd sevWarning 0 (evNamed 3 "SPARE_FAILED") (agentKind 0xE l) [l]
    else match s.servedBy l with
      | none => s
      | some t =>
        if (s.gp t).st != 3 || (s.gp t).takeover then s
        else if ok then s.relocked t thermal
        else
          let n := (s.gp t).attempts + 1
          let s1 := ((s.updGp t (fun x => { x with attempts := n, relockFails := satInc 8 x.relockFails })).colEvent 1).logAdd sevWarning
            (s.owner (refG t)) (evNamed 3 "RELOCK_FAILED") (agentKind 0xE l) [t, n]
          if n < 3 then s1 else s1.laserFail l)

/-- SPARE_TAKEOVER_DONE (R166): the spare is tuned and switched in, and serves the port. -/
def execSpareTakeoverDone (group : Fin 8) (s : State) : Host.Outcome State Fault Refusal :=
  .next (match (List.range 8).find? (fun i => (s.gp (8 * group + i)).takeover) with
    | none => s
    | some i =>
      let t := 8 * group.val + i
      if !s.gfRuns 4 || !s.gfRuns 5 then s
      else
        let ch := (s.gp t).channel
        let s1 := (s.updGp t (fun x => { x with laser := 64 + group, takeover := false, attempts := 0, foreignRun := false })).updLaser (64 + group)
          (fun l => { l with st := 2, gate := false, channel := ch, measChannel := ch, measValid := true, freqErr := 0 })
        let n := satInc 16 (s.grp group).2.2
        let s2 := { s1 with col := { s1.col with group := s1.col.group.put group (1, i, n) } }
        (((s2.colEvent 2).logAdd sevWarning (s.owner (refG t)) (evNamed 3 "SPARE_TAKEOVER") (agentKind 0xE (64 + group)) [t]).relight t))

/-- GATE_FAULT (R170): a gate stays lit; the current is switched off and the laser is FAILED. -/
def execGateFault (l : Fin 72) (s : State) : Host.Outcome State Fault Refusal :=
  .next (if (s.laser l).st == 4 then s
    else ((s.colEvent 7).logAdd sevCritical (match s.servedBy l with
      | some t => s.owner (refG t)
      | none => 0) (evNamed 3 "GATE_FAULT") (agentKind 0xE l) [l]).laserFail l)

/-! ### Foreign light (R163, R164) -/

/-- Foreign light on a port: an ERROR, and a report to the rack where a standing port reaches it. -/
def State.foreignLight (s : State) (t rack : Nat) : State :=
  let n := s.owner (refG t)
  let s1 := (s.colEvent 4).logAdd sevError n (evNamed 3 "FOREIGN_LIGHT") (agentKind 3 t) [t, rack]
  if n != 0 && rack != s.topo.rack && bit (s.rackSet n) rack && (s.standingPorts n).any (fun u => !s.pathBroken u rack) then
    s1.queueStanding n rack 4 (ctlHeader 0x26 n 0 s.topo.rack 0 0 ++ beBytes 1 t ++ beBytes 1 s.topo.rack)
  else s1

/-- FOREIGN_PILOT (R164): the pilot of a rack that is not the expected source has lasted 10 µs. -/
def execForeignPilot (g : Fin 64) (rack : Fin 64) (s : State) : Host.Outcome State Fault Refusal :=
  .next (let x := s.gp g
    if x.expectValid && x.expectRack == rack.val then s
    else (s.updGp g (fun x => { x with pilotRack := rack, pilotValid := true, pilots := 1 + b2n x.expectValid })).foreignLight g rack)

/-- A FOREIGN_LIGHT report for port `t` (R164): the gate closes and the laser relocks; a second one within 10 ms after
a relock fails the laser. -/
def State.foreignReport (s : State) (t : Nat) : State :=
  let x := s.gp t
  if x.st == 4 || x.st == 5 || x.st == 6 || x.takeover then s
  else
    let again := match x.foreignAt with
      | some a => decide (s.ns ≤ a + 10000000)
      | none => false
    if again then s.laserFail x.laser
    else (s.updGp t (fun x => { x with st := 3, attempts := 0, foreignRun := true })).updLaser x.laser
      (fun l => { l with gate := false, st := if l.st == 2 then 3 else l.st })

/-! ### The cabling check (R145, R147) -/

/-- One frame of the check on a port: its own tag decoded with a loopback delay, or not. -/
def State.cablePort (s : State) (t : Nat) (heard : Option Nat) : State :=
  let x := s.gp t
  let bad := s.updGp t (fun x => { x with st := 5, role := 0, cabling := 2, expectValid := false })
  let wrong := ((bad.colEvent 6).logAdd sevError (s.owner (refG t)) (evNamed 3 "MISCABLED") (agentKind 3 t) [t, heard.getD 0]).updLaser
    x.laser (fun l => { l with gate := false })
  match heard with
  | some d =>
    if decide (d < 50) || decide (300 < d) then wrong
    else if x.tagRun + 1 < 3 then s.updGp t (fun x => { x with
      tagRun := x.tagRun + 1, failRun := 0, pilotRack := s.topo.rack, pilotValid := true })
    else (s.updGp t (fun x => { x with
      st := 0, role := 0, cabling := 1, tagRun := 3, failRun := 0, pilotRack := s.topo.rack, pilotValid := true, expectValid := false })).updLaser
        x.laser (fun l => { l with gate := false })
  | none => if x.failRun + 1 < 16 then s.updGp t (fun x => { x with failRun := x.failRun + 1, tagRun := 0 }) else wrong

/-- Milliseconds of uptime, the counter's steps not counted. -/
def State.upMs (s : State) : Nat := ((s.ns : Int) - s.ast.jumped).toNat / 1000000

/-- The start ends: READY, with its duration (R417, R448, R449). -/
def State.enterReady (s : State) : State :=
  ({ s with mod := .ready, boot := { s.boot with lastMs := s.upMs % 2 ^ 32, lastStart := 0 } }).logAdd sevNotice 0 0x0B01
    agentNone [s.upMs, s.boot.active]

/-- CABLING_CHECK_FRAME (R147): a frame of 1 ms ends; `heard` gives the ports that decoded their own tag, with the
loopback delay in ns. A slice that waits for the check goes HAILING once its own ports are judged; a start is READY
once the check has ended (R417). -/
def execCablingCheckFrame (heard : List (Nat × Nat)) (s : State) : Host.Outcome State Fault Refusal :=
  .next (if !s.col.checking then s
    else
      let s1 := s.advanceTo (s.nextMultiple 1000000)
      let s2 := ((List.range 64).filter (fun t => (s.gp t).cabling == 0)).foldl
        (fun s t => s.cablePort t ((heard.find? (fun e => e.1 == t)).map (·.2))) s1
      let open_ := (List.range 64).any (fun t => (s2.gp t).cabling == 0)
      let s3 := s2.topo.slice.foldl (fun s e =>
        if e.2.hailPend && !s2.uncheckedPort e.1 then s.updSlice e.1 (fun x => { x with hailPend := false, colour := 1 }) else s) s2
      let s4 := { s3 with col := { s3.col with checking := open_ } }
      if !open_ && s4.mod == .starting && !s4.ast.acquiring then s4.enterReady else s4)

/-! ### Ring heaters (R168) -/

/-- Clamped power of heater `i` of the colour engine. -/
def State.heaterPower (s : State) (errs : List Int) (i : Nat) : Nat :=
  let acc := (List.range 72).foldl (fun (a : Int) j =>
    a + ofTwos 16 (s.calVal 0x0D 6 (72 * i + j) % 65536) * (-(errs.getD j 0 + s.sxt.cff.get j 0))) 0
  let set := if i < 64 then s.calVal (5 + i / 8) 5 (i % 8) else s.calVal (5 + (i - 64)) 5 8
  let base : Int := (set % 65536 : Nat)
  (max 0 (min (base + acc / 65536) ((set / 65536 % 65536 : Nat) : Int))).toNat

/-- RING_HEATER_UPDATE (R168): every 10 µs GF5 recomputes the heater powers from the drop monitors' misalignments, in
10 MHz; a ring that comes beyond ±5 GHz raises a WARNING. -/
def execRingHeaterUpdate (errs : List Int) (s : State) : Host.Outcome State Fault Refusal :=
  .next (if !s.gfRuns 5 then s
    else
      let s1 := s.advanceTo (s.nextMultiple 10000)
      let e := fun (h : Nat) => satSigned 16 (errs.getD h 0)
      let off := (List.range 72).filter (fun h => decide (500 < (e h).natAbs) && decide ((s.col.ring.get h (0, 0)).2.natAbs ≤ 500))
      let s2 := { s1 with col := { s1.col with ring := s1.col.ring.putAll (List.range 72) (fun h => (s1.heaterPower errs h, e h)) } }
      off.foldl (fun s h => s.logAdd sevWarning 0 (evNamed 3 "RING_MISALIGNED") (agentKind 0xE h) [h, toTwos 64 (e h)]) s2)

/-! ### Glass-frog controllers (R170) -/

/-- GF4 runs again: relocks and takeovers under way start over (R165). -/
def State.gfBack (s : State) (g : Nat) : State :=
  let s1 := { s with col := { s.col with gf := s.col.gf.put g (2, (s.col.gf.get g (0, [])).2) } }
  if g == 4 then
    { s1 with col := { s1.col with port := s1.col.port.mapVal (fun _ p => if p.st == 3 then { p with attempts := 0 } else p)
                                   laser := s1.col.laser.mapVal (fun _ l => if l.st == 1 then { l with attempts := 0 } else l) } }
  else s1

/-- GF_CONTROLLER_LOST (R170, R405): the outputs hold, and the controller is reloaded, once a core of cluster 1 runs;
after three losses in 10 minutes it stays stopped. -/
def execGfControllerLost (gf : Fin 8) (s : State) : Host.Outcome State Fault Refusal :=
  .next (if !s.gfRuns gf then s
    else
      let old := (s.col.gf.get gf (0, [])).2
      let ls := s.ns :: old.filter (fun t => decide (s.ns < t + 600000000000))
      let stop := decide (3 ≤ ls.length)
      let s1 := { s with col := { s.col with gf := s.col.gf.put gf (if stop then 4 else 1, ls) } }
      let s2 := if gf.val == 4 || gf.val == 5 then s1.colEvent 8 else s1
      let s3 := s2.logAdd (if stop then sevError else sevWarning) 0 (evNamed 3 "GF_LOST") (agentKind 0xD (16 + gf.val)) [gf.val, ls.length]
      if stop || s.paused || s.clusterHalted 1 then s3 else s3.gfBack gf)

/-! ### LASER_SET (R172 to R174) -/

/-- Entry `i` of a LASER_SET block: laser, mode, channel, currents. -/
def lasEntry (b : Bytes) (i : Nat) : Nat × Nat × Nat × List Nat :=
  let o := 16 + 16 * i
  (le b o 1, le b (o + 1) 1, le b (o + 2) 1, (List.range 4).map (fun k => le b (o + 4 + 2 * k) 2))

/-- Range rows of entry `i`. -/
def lasRows (b : Bytes) (i : Nat) (earlier : List Nat) : List (Nat × Bool) :=
  let o := 16 + 16 * i
  let e := lasEntry b i
  [(o, decide (e.1 < 72) && !earlier.contains e.1), (o + 1, decide (e.2.1 ≤ 5)),
   (o + 2, if e.2.1 == 0 then decide (e.2.2.1 < 64) else e.2.2.1 == 0), (o + 3, zeroAt b (o + 3) 1)]
  ++ (List.range 4).map (fun k => (o + 4 + 2 * k,
      if e.2.1 == 1 then decide (e.2.2.2.getD k 0 ≤ (Config.currentLimit e.1 k).toNat) else e.2.2.2.getD k 0 == 0))
  ++ [(o + 12, zeroAt b (o + 12) 4)]

/-- A laser returns to firmware control: its gate closes and it is idle (R172, R174). -/
def State.laserRelease (s : State) (l : Nat) : State :=
  s.updLaser l (fun x => { x with st := if x.st == 5 then 0 else x.st, gate := false, byMaint := false })

/-- Act on one entry; the count of lasers that ended FAILED. What a laser measures and whether a RETEST passes are
free values. -/
def lasAct (acc : State × Nat) (e : Nat × Nat × Nat × List Nat) : State × Nat :=
  let s := acc.1
  let l := e.1
  match e.2.1 with
  | 0 =>
    let f := s.fresh 9
    (f.2.updLaser l (fun x => { x with
      st := 5, gate := false, byMaint := true, channel := e.2.2.1, measChannel := e.2.2.1, measValid := true
      freqErr := (f.1 % 301 : Nat) - 150 }), acc.2)
  | 1 =>
    let f := s.fresh 6
    let g := f.2.fresh 16
    let v := g.2.fresh 1
    (v.2.updLaser l (fun x => { x with
      st := 5, gate := false, byMaint := true, measChannel := f.1, measValid := v.1 == 1, freqErr := ofTwos 16 g.1 }), acc.2)
  | 2 => (s.updLaser l (fun x => { x with gate := true, byMaint := true }), acc.2)
  | 3 => (s.updLaser l (fun x => { x with gate := false, byMaint := true }), acc.2)
  | 4 =>
    let f := s.fresh 1
    if f.1 == 1 then
      let s1 := f.2.updLaser l (fun x => { x with st := 0, gate := false, attempts := 0, byMaint := false })
      (if decide (64 ≤ l) && (s1.grp (l - 64)).1 == 2 then
        { s1 with col := { s1.col with group := s1.col.group.put (l - 64) (0, (s1.grp (l - 64)).2) } } else s1, acc.2)
    else (f.2, acc.2 + 1)
  | _ => (s.laserRelease l, acc.2)

/-- LASER_SET (R172, R173, R405, R492). -/
def cmdLaserSet (r : Req) (s : State) : CmdOut :=
  let n := r.b 0 2
  let es := (List.range n).map (lasEntry r.params)
  let firstBad := fun (p : Nat × Nat × Nat × List Nat → Bool) => match es.find? p with
    | some e => some (0x0301, e.1, 0)
    | none => none
  let lit := fun (e : Nat × Nat × Nat × List Nat) =>
    let x := s.laser e.1
    (x.st == 2 || x.st == 5) && x.channel == 0 && x.measValid && x.measChannel == 0 && decide (x.freqErr.natAbs ≤ 250)
      && (decide (64 ≤ e.1) || (s.gp e.1).cabling == 1)
  guarded s [
      ranges ([(0, decide (1 ≤ n ∧ n ≤ 72)), (2, zeroAt r.params 2 14)]
        ++ (List.range n).flatMap (fun i => lasRows r.params i ((es.take i).map Prod.fst))),
      chk (!s.clusterHalted 1) 0x0602 0 0,
      firstBad (fun e => (match s.servedBy e.1 with
        | some t => s.owner (refG t) != 0
        | none => false) || (decide (64 ≤ e.1) && (s.grp (e.1 - 64)).1 == 1)),
      firstBad (fun e => decide (e.1 < 64) && s.gOpen e.1),
      firstBad (fun e => e.2.1 == 2 && !lit e),
      firstBad (fun e => if e.2.1 == 4 then (s.laser e.1).st != 4 else decide (e.2.1 ≤ 3) && (s.laser e.1).st == 4)]
    (let res := es.foldl lasAct (s, 0)
     .done res.1 (if res.2 == 0 then 0 else 0x0502) n res.2)

/-- On leaving maintenance every laser set by hand returns to firmware control (R174). -/
def State.releaseLasers (s : State) : State :=
  (s.col.laser.filter (fun e => e.2.byMaint)).foldl (fun s e => s.laserRelease e.1) s

end Sys2Proof.Machine
end

