-- ==== Sys2Proof/Machine/Colour.lean ====
section
/-! DEFINITION. The standing stream: compass slots, burst headers, the control frames that run on standing ports,
and the holdover margin (05 R151 to R160; 06 R207, R210; 09 R295, R296; 10 R315 to R317; 12 R362). -/

namespace Sys2Proof.Machine

/-! ### Darkness of the standing ports (R159, R170) -/

/-- Every standing port goes dark. -/
def State.darkStanding (s : State) : State :=
  (List.range 64).foldl (fun s t => if (s.gp t).role == 2 then s.blankPort t else s) s

/-- The module holds its standing ports dark, with COMPASS_DARK. -/
def State.compassDark (s : State) : State :=
  let s1 := s.darkStanding
  ({ s1 with col := { s1.col with dark := true } }).colEvent 10

/-- What R159 makes of the time state at a slot boundary: LOCKED resumes the rotation, FREE_RUNNING stops it. -/
def State.compassClock (s : State) : State :=
  if s.ast.st == .locked && !s.col.seqFault then { s with col := { s.col with dark := false, margin := 0 } }
  else if s.ast.st == .freeRunning && !s.col.dark then
    s.compassDark.logAdd sevError 0 (evNamed 3 "COMPASS_DARK") agentNone [3]
  else s

/-- HOLDOVER_MARGIN_STEP (R159): another whole second of holdover widens the dark intervals by 5 ns; beyond 500 ns the
standing ports go dark. -/
def execHoldoverMarginStep (s : State) : Host.Outcome State Fault Refusal :=
  .next (if !(s.ast.st == .holdover || s.ast.st == .unqualified) || s.ns < s.ast.h0 then s
    else
      let n := (s.ns - s.ast.h0) / 1000000000 + 1
      let s1 := s.advanceTo (s.ast.h0 + n * 1000000000)
      let s2 := { s1 with col := { s1.col with margin := min 500 (5 * n) } }
      let s3 := if s.col.margin == 0 then s2.colEvent 9 else s2
      if decide (500 < 5 * n) && !s3.col.dark then
        s3.compassDark.logAdd sevError 0 (evNamed 3 "COMPASS_DARK") agentNone [s.ast.st.code]
      else s3)

/-- COLOUR_SEQUENCER_FAULT (R170). -/
def execColourSequencerFault (s : State) : Host.Outcome State Fault Refusal :=
  .next (if s.col.seqFault then s
    else
      let s1 := s.compassDark
      ({ s1 with col := { s1.col with seqFault := true } }).logAdd sevCritical 0 (evNamed 3 "SEQUENCER_FAULT") agentNone [])

/-! ### What a slot carries (R152, R158, R160) -/

/-- Flits that a standing burst carries with a margin of `m` ns: whole codeword pairs between the first codeword and the
closing of the gate. -/
def slotFlits (m : Nat) : Nat := 5 * ((150784 - 200 * m) / 10240)

/-- PLAN_DIGEST of a KIND 1 header: over K, S and the rack mask (R152). -/
def State.compassDigest (s : State) (n : Nat) : Nat :=
  crc32c (leBytes 1 (racks (s.rackSet n)).length ++ leBytes 1 (s.standingPorts n).length ++ leBytes 8 (s.rackSet n))

/-- A frame that waits for a slot, or a request that does (R295). -/
structure StItem where
  ref  : Option Nat
  prec : Nat
  bytes : Bytes
  again : Bool
  /-- the entry of the queue it came from -/
  src  : Option StFrame

/-- The rack a request that waits for a route is sent to: its relay, or its target. -/
def FReq.hop (r : FReq) : Nat := if r.route == 2 then r.relay else gaRack r.gaddr

/-- What waits for a rack, in order of precedence and age. -/
def State.slotItems (s : State) (n dst : Nat) : List StItem :=
  let q := s.col.stq.filter (fun f => f.slice == n && f.rack == dst)
  ((List.range 5).flatMap (fun c => (q.filter (fun f => f.prec == c + 1)).map
      (fun f => (⟨none, f.prec, f.bytes, f.again, some f⟩ : StItem))))
    ++ (s.fm.reqs.filter (fun r => s.awaitsRoute r && r.slice == n && r.hop == dst)).map
      (fun r => (⟨some r.ref, 5, reqFrame r (if r.route == 2 then 0 else 1) s.topo.rack, false, none⟩ : StItem))

/-- Flits that the far side's credit allows on a path (R156). -/
def Path.credit (x : Path) : Nat :=
  let d := (x.limit + 65536 - x.used % 65536) % 65536
  if d ≤ 32767 then d else 0

/-- What a burst takes of the items: the frames, the flits left and the credit left. Frames of fabric memory need a path
that is not broken and credit; one may probe a broken path; none begins in a pause. -/
def pickItems (paused broken elsewhere : Bool) : List StItem → Nat → Nat → Bool → List StItem
  | [], _, _, _ => []
  | i :: t, room, credit, probe =>
    let n := flitsOf i.bytes.length
    if room < n then []
    else if i.prec == 5 then
      if paused || credit < n || (broken && !probe) then pickItems paused broken elsewhere t room credit probe
      else i :: pickItems paused broken elsewhere t (room - n) (credit - n) false
    else if broken && elsewhere then pickItems paused broken elsewhere t room credit probe
    else i :: pickItems paused broken elsewhere t (room - n) credit probe

/-- ACK_RECORDs due for streams from a rack, queued (R156). -/
def State.queueAcks (s : State) (n dst : Nat) : State :=
  (s.standingPorts n).foldl (fun s u =>
    if (s.path u dst).ackDue then
      (s.queueStanding n dst 3 (ctlHeader 0x23 n 0 s.topo.rack 0 0 ++ beBytes 1 u ++ zeros 7 ++ beBytes 8 (s.path u dst).rxBytes)).updPath u dst
        (fun x => { x with ackDue := false })
    else s) s

/-- One frame of a standing burst is sent: its FRAME_ID, its stream's counts, and the record that R296 and R156 watch. -/
def State.sendItem (acc : State × List Bytes) (t dst : Nat) (i : StItem) : State × List Bytes :=
  let s := acc.1
  let id := (s.path t dst).frameId
  let b := if i.again then i.bytes else setFrameId i.bytes id
  let n := flitsOf b.length
  let counted := byteAt b 0 != 0x23
  let endF := (s.path 64 dst).flits + n
  let s1 := s.updPath t dst (fun x => { x with
    frameId := if i.again then x.frameId else (x.frameId + 1) % 2 ^ 32
    used := if i.prec == 5 then (x.used + n) % 65536 else x.used
    sent := if counted then x.sent + b.length else x.sent
    unacked := if counted then x.unacked ++ [(x.sent + b.length, endF, s.ns, b)] else x.unacked
    probe := if i.prec == 5 then false else x.probe })
  let s2 := s1.updPath 64 dst (fun x => { x with flits := endF })
  let s3 := match i.src with
    | some f => { s2 with col := { s2.col with stq := s2.col.stq.erase f } }
    | none => s2
  let s4 := match i.ref with
    | some r => s3.updReq r (fun q => { q with
        st := if q.st == 5 then 5 else 3, sends := q.sends + 1, port := t
        brokenAt := if q.route == 2 then some (q.brokenAt.getD s.ns) else q.brokenAt })
    | none => s3
  (s4, acc.2 ++ [b])

/-- The burst of a lit standing port (R160, R315). -/
def State.sendSlot (s : State) (n k t dst : Nat) : State :=
  let cred := (s.path t dst).rxFreed
  let hdr := fun (kind slice slot digest : Nat) => burstHeader kind s.topo.hall s.topo.rack t dst slice 0 0 0 slot digest cred
  if (s.topo.slice.get n (Slice.new 0 0 0 0)).colour == 1 || 2000 * k % 1000000000 == 0 then
    let f := s.fresh 32
    f.2.emit (.burst t (hdr 4 0 0 (s.sliceDigest n)) [sealFlit (beBytes 1 0x30) (s.hailPayload (refG t) f.1)])
  else
    let s1 := s.queueAcks n dst
    let items := pickItems s.paused (s1.pathBroken t dst) (s1.reaches n dst) (s1.slotItems n dst) (slotFlits s.col.margin)
      (s1.path t dst).credit (s1.path t dst).probe
    let r := items.foldl (fun acc i => State.sendItem acc t dst i) (s1, [])
    if r.2 == [] then r.1.emit (.burst t (hdr 2 n k 0) [])
    else r.1.emit (.burst t (hdr 1 n k (s.compassDigest n)) r.2)

/-- A standing port at a slot boundary (R158, R165): its source and target are the slot's; it opens its gate, unless it
is FAILED, MISCABLED, under a take, behind an open adapter, or still relocking. -/
def State.slotPort (s : State) (n k u t : Nat) : State :=
  match s.compassDest n k u, s.compassSource n k u with
  | some dst, some src =>
    let ch := channelTo s.topo.rack dst
    let s1 := s.updGp t (fun x => { x with
      role := 2, dest := dst, channel := ch, expectRack := src, expectValid := true, burst := none })
    let x := s1.gp t
    if x.st == 3 || x.st == 4 || x.st == 5 || x.st == 6 then s1
    else if s.takenPort t || s.gOpen t then s1.blankPort t
    else
      let s2 := (s1.updGp t (fun x => { x with st := 2, attempts := 0 })).updLaser x.laser (fun l =>
        { l with st := 2, gate := true, channel := ch, measChannel := ch, measValid := true, freqErr := 0 })
      s2.sendSlot n k t dst
  | _, _ => s.blankPort t

/-- Precedence of a frame of the standing stream, by its kind (R160). -/
def precOf (b : Bytes) : Nat :=
  match byteAt b 0 with
  | 0x22 => 1 | 0x21 => 2 | 0x26 => 4 | 0x10 => 5 | 0x11 => 5 | _ => 3

/-- Bytes of a list of unacknowledged frames. -/
def unackedBytes (us : List (Nat × Nat × Nat × Bytes)) : Nat := (us.map (fun u => u.2.2.2.length)).foldl (· + ·) 0

/-- Paths whose oldest frame has waited more than 4 compass rounds for its ACK_RECORD are broken; their frames wait
again (R296). -/
def State.breakPaths (s : State) (n : Nat) : State :=
  let old := fun (x : Path) => match x.unacked.head? with
    | some u => decide (u.2.2.1 + 4 * s.compassRound n < s.ns)
    | none => false
  (s.standingPorts n).foldl (fun s t => (racks (s.rackSet n)).foldl (fun s r =>
    let x := s.path t r
    if x.broken || !old x then s
    else
      let back := x.unacked.map (fun u => (⟨n, r, precOf u.2.2.2, u.2.2.2, false⟩ : StFrame))
      let s1 := s.updPath t r (fun x => { x with broken := true, unacked := [], sent := x.sent - unackedBytes x.unacked })
      ({ s1 with col := { s1.col with stq := back ++ s1.col.stq } }).fmEvent 2) s) s

/-- Takes of standing ports whose slice has no live passage begin at the first boundary 1 ms after the deadline (R362). -/
def State.idleTakes (s : State) (n : Nat) : State :=
  if (s.passagesOf n).any (fun e => e.2.st.live) then s
  else { s with sxt := { s.sxt with takes := s.sxt.takes.map (fun k =>
    if k.slice == n && (s.standingPorts n).contains k.port && decide (k.due + 1000000 ≤ s.ns) then { k with dark := true } else k) } }

/-- What a slot does for one slice. -/
def State.slotSlice (s : State) (n k : Nat) : State :=
  let s1 := ((s.sendReadies n).sendNaks n).idleTakes n
  let s2 := (numbered (s1.standingPorts n) 0).foldl (fun s ut => s.slotPort n k ut.1 ut.2) s1
  s2.breakPaths n

/-- COMPASS_SLOT (R157 to R160): the next slot begins, whether or not the module is in a pause. -/
def execCompassSlot (s : State) : Host.Outcome State Fault Refusal :=
  .next (
    let t := s.nextMultiple 2000
    let k := t / 2000
    let s1 := (s.advanceTo t).compassClock
    let s2 := { s1 with col := { s1.col with slot := k } }
    if s2.col.dark then s2
    else ((s2.topo.slice.filter (fun e => decide (1 ≤ e.2.colour))).foldl (fun s e => s.slotSlice e.1 k) s2).judgePaths)

/-! ### Burst headers at a receiver (R153, R315, R317) -/

/-- What a header says. -/
structure BHdr where
  kind : Nat
  hall : Nat
  src : Nat
  port : Nat
  dst : Nat
  chan : Nat
  slice : Nat
  pid : Nat
  leg : Nat
  iter : Nat
  slot : Nat
  digest : Nat
  cred : Nat

/-- Read a header. -/
def bhdr (b : Bytes) : BHdr :=
  ⟨byteAt b 0 % 16, byteAt b 1 % 16, bits (byteAt b 2) 0 6, bits (byteAt b 3) 0 6, bits (byteAt b 4) 0 6, bits (byteAt b 5) 0 6,
   bits (byteAt b 6) 0 6, byteAt b 7, be b 8 2, be b 10 6, be b 16 8, be b 24 4, be b 28 2⟩

/-- A header of 64 bytes, of version 1, whose CRC holds. -/
def headerGood (b : Bytes) : Bool := b.length == 64 && byteAt b 0 / 16 == 1 && decide (byteAt b 0 % 16 ≤ 4)
  && be b 60 4 == crc32c (b.take 60)

/-- Legs whose burst a non-standing port may take now: the current one, and the one whose waypoint it has blanked for;
with the expected source. -/
def State.legsAt (s : State) (t : Nat) : List (Nat × Nat × Passage × Nat × Nat × Nat) :=
  let n := s.owner (refG t)
  (s.passagesOf n).flatMap (fun e =>
    let p := e.2
    let at_ := fun (l i : Nat) => match p.offset l t with
      | some v => [(n, e.1, p, l, i, s.sourceOf p v)]
      | none => []
    (if p.st == .running || p.st == .stalled || p.st == .parked then at_ p.leg p.iter else [])
      ++ (if p.st.live && p.blanked.isSome then (match p.target with
        | some (l, i) => at_ l i
        | none => []) else []))

/-- A header from the expected source whose other fields differ (R153): the data is discarded, with one ERROR per leg,
and the passage is aborted. -/
def State.headerMismatch (s : State) (t src : Nat) : State :=
  let s1 := (s.updGp t (fun x => { x with burst := none })).colEvent 5
  let n := s.owner (refG t)
  match s.legsAt t with
  | (n, pid, p, _) :: _ =>
    if (s.gp t).errLeg == some p.leg then s1
    else (s1.updGp t (fun x => { x with errLeg := some p.leg })).planMismatch n pid src
  | [] =>
    if (s.gp t).errLeg.isSome then s1
    else (s1.updGp t (fun x => { x with errLeg := some 0 })).logAdd sevError n (evNamed 3 "HEADER_MISMATCH") (agentKind 3 t) [t, src]

/-- A KIND 4 burst from the expected rack (R315 to R317). -/
def State.hailIn (s : State) (t n : Nat) (h : BHdr) (flit : Bytes) : State :=
  let x := s.topo.slice.get n (Slice.new 0 0 0 0)
  if !flitGood flit || ftypeOf flit != 3 || (hailOf flit).nodeId == 0 then s
  else if h.digest == s.sliceDigest n then
    let heard := setBit x.heard h.src
    let ports := setBit x.heardPorts t
    let all := x.colour == 1 && (s.others x.rackMask).all (bit heard) && (s.standingPorts n).all (bit ports)
    s.updSlice n (fun y => { y with
      heard := heard, heardPorts := ports, mismatch := clrBit y.mismatch h.src, colour := if all then 2 else y.colour })
  else
    let s1 := s.updSlice n (fun y => { y with mismatch := setBit y.mismatch h.src })
    let due := match x.mismatchAt.find h.src with
      | some a => decide (a + 60000000000 ≤ s.ns)
      | none => true
    if due then (s1.updSlice n (fun y => { y with mismatchAt := y.mismatchAt.put h.src s.ns })).logAdd sevError n
      (evNamed 3 "SLICE_DIGEST") (agentKind 0xB h.src) [h.src, h.digest] else s1

/-- A good header at a standing port. -/
def State.standingHeader (s : State) (t : Nat) (h : BHdr) (flit : Bytes) : State :=
  let n := s.owner (refG t)
  let good := h.slice == n && h.slot == s.col.slot && h.pid == 0
  if h.kind == 4 then
    if h.slice == 0 then s.hailIn t n h flit else s.headerMismatch t h.src
  else if (h.kind == 1 && good && h.digest == s.compassDigest n) || (h.kind == 2 && good) then
    (s.updGp t (fun x => { x with burst := some (n, 0, 0, 0), errLeg := none })).updPath t h.src (fun x => { x with
      limit := newLimit x.limit ((Config.standingCredit.toNat + h.cred) % 65536) })
  else s.headerMismatch t h.src

/-- A good header at a non-standing port. -/
def State.legHeader (s : State) (t : Nat) (h : BHdr) : State :=
  match (s.legsAt t).find? (fun x => h.kind == 0 && h.slice == x.1 && h.pid == x.2.1 && h.digest == x.2.2.1.digest
      && h.leg == x.2.2.2.1 && h.iter == x.2.2.2.2.1 % 2 ^ 48 && h.src == x.2.2.2.2.2) with
  | some x => s.updGp t (fun y => { y with burst := some (x.1, x.2.1, h.leg, h.iter) })
  | none => s.headerMismatch t h.src

/-- A preamble that is not recognised, or a header whose check fails (R153). -/
def State.preambleFail (s : State) (t : Nat) : State :=
  let s1 := s.updGp t (fun x => { x with burst := none, preambleFails := satInc 8 x.preambleFails })
  match s.legsAt t with
  | (n, pid, _, l, i, src) :: _ =>
    s1.queueStanding n src 3 (ctlHeader 0x25 n pid s.topo.rack l (i % 2 ^ 48) ++ beBytes 1 t)
  | [] => s1

/-- BURST_HEADER (R153): a burst arrives at a global receiver; `hailFlit` is the flit of a KIND 4 burst. -/
def execBurstHeader (g : Fin 64) (header : Option Bytes) (hailFlit : Bytes) (s : State) : Host.Outcome State Fault Refusal :=
  .next (
    let x := s.gp g
    let standing := (s.standingPorts (s.owner (refG g))).contains g.val
    if x.st == 6 || (standing && s.col.dark) then s
    else match header with
      | none => s.preambleFail g
      | some b =>
        if !headerGood b then s.preambleFail g
        else
          let h := bhdr b
          let sources := if standing then (if x.expectValid then [x.expectRack] else []) else (s.legsAt g).map (fun x => x.2.2.2.2.2)
          if h.dst != s.topo.rack || h.port != g.val || h.chan != channelTo h.src h.dst || h.hall != s.topo.hall || !sources.contains h.src then
            (s.updGp g (fun x => { x with burst := none })).foreignLight g h.src
          else if standing then s.standingHeader g h hailFlit
          else s.legHeader g h)

/-! ### Control frames of the standing stream (R156, R164, R207) -/

/-- The bytes of a standing stream up to `n` are acknowledged: its path works (R156, R296). -/
def State.ackStanding (s : State) (t rack n : Nat) : State :=
  let x := s.path t rack
  if n ≤ x.acked || x.sent < n then s
  else (s.updPath t rack (fun x => { x with
    acked := n, broken := false, unacked := x.unacked.filter (fun u => decide (n < u.1)) })).judgePaths

/-- The sending groups of the current leg that list a global port, with its index. -/
def Passage.senders (p : Passage) (t : Nat) : List (Nat × Nat) :=
  p.legGroups.filterMap (fun gi =>
    let g := p.grp gi
    if decide (3 ≤ g.role) && g.ports.contains (refG t) then some (gi, g.ports.idxOf (refG t)) else none)

/-- Spread acknowledged bytes over the groups of a port, in order. -/
def spreadAck (p : Passage) : List (Nat × Nat) → Nat → Tbl GProg → Tbl GProg
  | [], _, t => t
  | gk :: rest, n, t =>
    let r := (p.grp gk.1).range gk.2
    let own := wBytes p.wire r.1 r.2
    let x := p.progOf gk.1 gk.2
    spreadAck p rest (n - own) (t.put (progKey gk.1 gk.2) { x with acked := max x.acked (min n own) })

/-- ACK_RECORD (R156): bytes of a leg, or of the standing stream, have arrived at the rack that sends it. -/
def execAckRecord (g : Fin 64) (frame : Bytes) (s : State) : Host.Outcome State Fault Refusal :=
  .next (
    let n := ctlSlice frame
    let pid := ctlPid frame
    let t := bits (byteAt frame 16) 0 6
    let bytes := be frame 24 8
    if !s.standingFrameOk g frame || ctlKind frame != 0x23 then s
    else if pid == 0 then s.ackStanding t (ctlRack frame) bytes
    else match s.psg.find (psgKey n pid) with
      | none => s
      | some p =>
        if !(p.st == .running || p.st == .stalled) || ctlLeg frame != p.leg || ctlIter frame != p.iter % 2 ^ 48
            || (s.gp t).dest != ctlRack frame then s
        else
          let prog := spreadAck p (p.senders t) bytes p.prog
          let sum := fun (q : Tbl GProg) => ((p.senders t).map (fun gk => (q.get (progKey gk.1 gk.2) ⟨0, 0, 0, []⟩).acked)).foldl (· + ·) 0
          s.updPsg n pid (fun p => { p with prog := prog, bytesOut := p.bytesOut + (sum prog - sum p.prog) }))

/-- Ranges that a NAK_RECORD names, as (first, number). -/
def nakRanges (b : Bytes) : List (Nat × Nat) := (List.range (min (byteAt b 17) 16)).map (fun i => (be b (20 + 8 * i) 4, be b (24 + 8 * i) 4))

/-- Flits from `a` up to `b` that a range names. -/
def named (rs : List (Nat × Nat)) (a b : Nat) : Bool := rs.any (fun r => decide (r.1 < b) && decide (a < r.1 + r.2))

/-- Frames that a port of a leg has sent, in order, with the flit index at which each ends (R156, R210). -/
def Passage.legFrames (p : Passage) (slice pid t : Nat) : List (Bytes × Nat) :=
  let fb := frameBlocks p.wire
  let bs := (p.senders t).flatMap (fun gk =>
    let c := (p.progOf gk.1 gk.2).cursor
    (List.range (ceilDiv c fb)).map (fun i =>
      p.dataFrame slice pid (p.grp gk.1).src ((p.grp gk.1).range gk.2) (i * fb) (min fb (c - i * fb))))
  (bs.foldl (fun (acc : List (Bytes × Nat) × Nat) b => (acc.1 ++ [(b, acc.2 + flitsOf b.length)], acc.2 + flitsOf b.length)) ([], 0)).1

/-- NAK_RECORD (R156): the source sends the flits named again, on the same port: those of its leg from its source buffer,
those of its standing stream in the next slots that reach the rack. -/
def execNakRecord (g : Fin 64) (frame : Bytes) (s0 : State) : Host.Outcome State Fault Refusal :=
  .next (
    let n := ctlSlice frame
    let pid := ctlPid frame
    let t := bits (byteAt frame 16) 0 6
    let rack := ctlRack frame
    let rs := nakRanges frame
    if !s0.standingFrameOk g frame || ctlKind frame != 0x24 || byteAt frame 17 == 0 || decide (16 < byteAt frame 17) then s0
    else
      let s := s0.standingIn g frame
      if pid == 0 then
        let hit := fun (u : Nat × Nat × Nat × Bytes) => named rs (u.2.1 - flitsOf u.2.2.2.length) u.2.1
        let lost := (s.path t rack).unacked.filter hit
        let s1 := s.updPath t rack (fun x => { x with
          sent := x.sent - unackedBytes lost
          unacked := (x.unacked.filter (fun u => !hit u)).map (fun u =>
            (u.1 - unackedBytes (lost.filter (fun v => decide (v.1 ≤ u.1))), u.2)) })
        { s1 with col := { s1.col with stq := lost.map (fun u =>
            (⟨n, rack, precOf u.2.2.2, u.2.2.2, true⟩ : StFrame)) ++ s1.col.stq } }
      else match s.psg.find (psgKey n pid) with
        | none => s
        | some p =>
          if !(p.st == .running || p.st == .stalled || p.st == .parked) || ctlLeg frame != p.leg || ctlIter frame != p.iter % 2 ^ 48
              || (s.gp t).st != 2 || (s.gp t).dest != rack then s
          else
            let fs := (numbered (p.legFrames n pid t) 0).filter (fun kf => named rs (kf.2.2 - flitsOf kf.2.1.length) kf.2.2)
            if fs == [] then s
            else s.emit (.burst t [] (fs.map (fun kf => setFrameId kf.2.1 ((s.gp t).legFid + kf.1)))))

/-- PREAMBLE_REQUEST (R153): the source sends a new preamble and header in-band, its gate staying open. -/
def execPreambleRequest (g : Fin 64) (frame : Bytes) (s0 : State) : Host.Outcome State Fault Refusal :=
  .next (
    let n := ctlSlice frame
    let pid := ctlPid frame
    let t := bits (byteAt frame 16) 0 6
    if !s0.standingFrameOk g frame || ctlKind frame != 0x25 then s0
    else
      let s := s0.standingIn g frame
      match s.psg.find (psgKey n pid) with
      | none => s
      | some p =>
        let x := s.gp t
        if !(p.st == .running || p.st == .stalled || p.st == .parked) || ctlLeg frame != p.leg || ctlIter frame != p.iter % 2 ^ 48
            || x.st != 2 || x.role != 1 || x.dest != ctlRack frame then s
        else s.emit (.burst t (burstHeader 0 s.topo.hall s.topo.rack t x.dest n pid p.leg p.iter 0 p.digest 0) []))

/-- FOREIGN_LIGHT (R164): light of this module's port landed at a rack that did not expect it. -/
def execForeignLight (g : Fin 64) (frame : Bytes) (s : State) : Host.Outcome State Fault Refusal :=
  .next (if !s.standingFrameOk g frame || ctlKind frame != 0x26 then s
    else (s.standingIn g frame).foreignReport (bits (byteAt frame 16) 0 6))

/-- CREDIT (R156): the cumulative credit limit of the standing stream to a rack. -/
def execCredit (g : Fin 64) (frame : Bytes) (s : State) : Host.Outcome State Fault Refusal :=
  .next (if !s.standingFrameOk g frame || ctlKind frame != 0x27 then s
    else (s.standingIn g frame).updPath (bits (byteAt frame 16) 0 6) (ctlRack frame)
      (fun x => { x with limit := newLimit x.limit (be frame 18 2) }))

end Sys2Proof.Machine
end

