-- ==== Sys2Proof/Machine/Cal.lean ====
section
/-! DEFINITION. Sextant calibration and the thermal loops: runs, dark passes, takes, judging, commits, the calibration
store, feed-forward and the terminated heaters, and the calibration commands (12). -/

namespace Sys2Proof.Machine

/-! ### Regions and tables (R358, R359) -/

/-- The regions of the variant, ascending. -/
def State.regions (s : State) : List Nat := (List.range 32).filter s.hasRegion

/-- Entries of a table in a region. -/
def entriesOf (r t : Nat) : Nat :=
  match t with
  | 1 => 131072
  | 2 => 128
  | 3 => 128
  | 4 => 576
  | 5 => if r ≤ 4 then 256 else 9
  | 6 => if r ≤ 4 then 4352 else 5184
  | 7 => if r ≤ 4 then 512 else 44
  | _ => if r ≤ 4 then 257 else 73

/-- Bytes of an entry of a table. -/
def entryBytes (t : Nat) : Nat :=
  match t with
  | 4 => 16 | 6 => 2 | 7 => 2 | 8 => 8 | _ => 4

/-- Set a bit of SXT_EVENTS. -/
def State.sxtEvent (s : State) (i : Nat) : State := { s with sxt := { s.sxt with events := setBit s.sxt.events i } }

/-- Keys of the store and of the working tables. -/
def storeKey (r t k : Nat) : Nat := 1024 * r + 4 * t + k
def tableKey (r t : Nat) : Nat := 256 * r + t

/-- Calibration runs, like scrub and telemetry, pause while cluster 3 is halted and in a pause of the module (R367,
R405). -/
def State.calPaused (s : State) : Bool := s.paused || s.clusterHalted 3

/-! ### Lasers of a colour group -/

/-- Lasers of a region. -/
def lasersOf (r : Nat) : List Nat := if decide (5 ≤ r ∧ r ≤ 12) then (List.range 8).map (· + 8 * (r - 5)) ++ [64 + (r - 5)] else []

/-- Region of a laser. -/
def regionOf (l : Nat) : Nat := if l < 64 then 5 + l / 8 else 5 + (l - 64)

/-- A laser that still needs a dark pass in the run of its region (two passes, R363). -/
def State.needsPass (s : State) (l : Nat) : Bool :=
  (s.region (regionOf l)).running && !(s.region (regionOf l)).sweep && (s.laser l).st != 4 && decide ((s.region (regionOf l)).passes.get l 0 < 2)

/-- A dark window of a laser (R361): its gate closed, and the laser needed for nothing. -/
def State.darkWindow (s : State) (l : Nat) : Bool :=
  (s.laser l).st != 5 && !(s.laser l).gate && (match s.servedBy l with
    | none => true
    | some t =>
      let n := s.owner (refG t)
      (s.gp t).st != 3 && (s.gp t).st != 6 &&
        (n == 0 || (!(s.standingPorts n).contains t && (s.legOf t).isNone) || (s.gp t).st == 4 || (s.gp t).st == 5))

/-- The take that holds a laser's port dark. -/
def State.takeOf (s : State) (l : Nat) : Option Take := s.sxt.takes.find? (fun k => k.laser == l && k.dark)

/-- State of a region as SXT_REGION.STATE shows it (R377). -/
def State.regionState (s : State) (r : Nat) : Nat :=
  let x := s.region r
  if !s.hasRegion r then 0
  else if s.sxt.takes.any (fun k => k.region == r) then 4
  else if x.running then (if (lasersOf r).any (fun l => s.needsPass l && !s.darkWindow l) then 3 else 2)
  else if x.pending != [] then 5 else if x.degraded then 6 else 1

/-! ### Starting (R360, R363) -/

/-- CAL_TEMPERATURE_TRIGGER (R360): the region's temperature, averaged over 1 s, in 0.01 °C; a run starts where it has
left the last accepted run's by more than ΔT, unless HOLD is set. -/
def execCalTemperatureTrigger (region : Fin 32) (temp : Int) (s : State) : Host.Outcome State Fault Refusal :=
  .next (if !s.hasRegion region then s
    else
      let x := s.region region
      let s1 := s.updRegion region (fun x => { x with tempNow := satSigned 16 temp })
      if x.hold || s.calPaused || decide ((temp - x.tempRun).natAbs ≤ 10 * x.deltaT) then s1 else s1.calStart region)

/-- CAL_RERUN (R363): 60 s after a rejection the region runs again. -/
def execCalRerun (region : Fin 32) (s : State) : Host.Outcome State Fault Refusal :=
  .next (match (s.region region).rerunAt with
    | none => s
    | some t => if s.calPaused || !s.hasRegion region then s else (s.advanceTo t).calStart region)

/-! ### Dark passes and takes (R361, R362) -/

/-- A take's dark pass ends: the port tunes again, or resumes at its next slot; a laser that needs its second pass has
its take announced again. -/
def State.endTake (s : State) (k : Take) : State :=
  let s1 := ({ s with sxt := { s.sxt with takes := s.sxt.takes.erase k } }).sxtEvent 1
  let s2 := if (s1.standingPorts k.slice).contains k.port then s1 else s1.relight k.port
  if s2.needsPass k.laser then
    let s3 := { s2 with sxt := { s2.sxt with takes := s2.sxt.takes ++ [{ k with pid := none, dark := false }] } }
    (s3.passagesOf k.slice).foldl (fun s e => s.announceTake k.slice e.1) s3
  else s2

/-- DARK_PASS (R361): a dark pass of a laser ends, or a waypoint cuts it short and it is abandoned. -/
def execDarkPass (l : Fin 72) (cut : Bool) (s : State) : Host.Outcome State Fault Refusal :=
  .next (if s.calPaused || !s.needsPass l || cut then s
    else
      let done := s.updRegion (regionOf l) (fun x => { x with passes := x.passes.upd l 0 (· + 1) })
      match s.takeOf l with
      | some k => done.endTake k
      | none => if s.darkWindow l then done else s)

/-- CAL_DEADLINE (R362): a laser that has found no dark window takes its port; the take is announced in a passage. -/
def execCalDeadline (l : Fin 72) (s : State) : Host.Outcome State Fault Refusal :=
  .next (match s.servedBy l with
    | none => s
    | some t =>
      let n := s.owner (refG t)
      let x := s.region (regionOf l)
      if s.calPaused || !s.needsPass l || n == 0 || s.sxt.takes.any (fun k => k.laser == l.val) || s.darkWindow l then s
      else
        let due := x.started + x.deadline * 1000000000
        let s1 := s.advanceTo due
        let k : Take := ⟨regionOf l, l, t, n, due, none, false⟩
        let s2 : State := { s1 with sxt := { s1.sxt with takes := s1.sxt.takes ++ [k] } }
        (s2.passagesOf n).foldl (fun s e => s.announceTake n e.1) s2)

/-! ### Judging (R363, R366) -/

/-- Highest SEQ known for a table: stored, waiting or working. -/
def State.lastSeq (s : State) (r t : Nat) : Nat :=
  let get := fun (x : Option CalRec) => (x.map (·.seq)).getD 0
  [get (s.sxt.store.find (storeKey r t 0)), get (s.sxt.store.find (storeKey r t 1)),
   get ((s.sxt.writes.find (tableKey r t)).map (·.1)), get ((s.region r).pending.find t)].foldl max 0

/-- An accepted table: its record waits to be written and to take effect; in a cold sweep, with every plane dark, it is
in effect at once. -/
def State.acceptTable (s : State) (r t : Nat) (temp : Int) : State :=
  let sweep := (s.region r).sweep
  let c : CalRec := ⟨s.lastSeq r t + 1, satSigned 16 temp, if sweep then 2 else 0, s.secs⟩
  let s1 := { s with sxt := { s.sxt with
    writes := s.sxt.writes.put (tableKey r t) (c, 0, 0)
    working := if sweep then s.sxt.working.put (tableKey r t) c else s.sxt.working } }
  s1.updRegion r (fun x => { x with
    accepted := satInc 16 x.accepted, pending := if sweep then x.pending else x.pending.put t c })

/-- Runs that a CAL_RUN waits for count a region's tables; the last one completes it (R374). -/
def State.countRun (s : State) (r acc rej : Nat) : State :=
  let s1 : State := { s with hif := { s.hif with execs := s.hif.execs.map (fun (e : Exec) => match e.wait with
    | .calRun rs a j => if rs.contains r then { e with wait := .calRun (rs.filter (· != r)) (a + acc) (j + rej) } else e
    | _ => e) } }
  (s1.hif.execs.filter (fun (e : Exec) => match e.wait with
    | .calRun [] _ _ => true
    | _ => false)).foldl (fun (s : State) (e : Exec) => match e.wait with
      | .calRun _ a j => s.completeExec e 0 a j
      | _ => s) s1

/-- CAL_RUN_JUDGED (R363): the run of a region ends. Each table is accepted where its passes agree and the temperature
moved by no more than 0.5 °C; a rejection is counted and brings a rerun after 60 s. -/
def execCalRunJudged (region : Fin 32) (tables : List (Nat × Bool)) (temp : Int) (moved : Nat) (s : State) :
    Host.Outcome State Fault Refusal :=
  .next (
    let r := region.val
    if !s.hasRegion r || s.calPaused || !(s.region r).running || (lasersOf r).any s.needsPass then s
    else
      let okT := fun (t : Nat) => decide (moved ≤ 50) && tables.any (fun e => e.1 == t && e.2)
      let good := (tablesOf r).filter okT
      let nbad := (tablesOf r).length - good.length
      let x := s.region r
      let s1 := good.foldl (fun s t => s.acceptTable r t temp) s
      let s2 :=
        if nbad == 0 then s1.updRegion r (fun y => { y with
          running := false, sweep := false, bad := 0, degraded := false, tempRun := satSigned 16 temp, lastS := s.secs, rerunAt := none })
        else
          let s2 := (s1.updRegion r (fun y => { y with
            running := false, sweep := false, bad := y.bad + 1, rerunAt := some (s.ns + 60000000000)
            rejected := satAdd 16 y.rejected nbad, rejTotal := satAdd 16 y.rejTotal nbad })).sxtEvent 0
          if x.degraded || !(x.sweep || x.bad + 1 == 3) then s2
          else
            let s3 := (s2.updRegion r (fun y => { y with degraded := true })).sxtEvent 2
            if x.bad + 1 == 3 then s3.logAdd sevWarning 0 (evNamed 9 "DEGRADED") agentNone [r, nbad] else s3
      s2.countRun r good.length nbad)

/-- CORRECTION_COMMIT (R364, R68): an accepted correction takes effect. -/
def execCorrectionCommit (region : Fin 32) (table : Fin 16) (s : State) : Host.Outcome State Fault Refusal :=
  .next (match (s.region region).pending.find table with
    | none => s
    | some c =>
      if s.paused then s
      else
        let s1 := s.updRegion region (fun x => { x with pending := x.pending.del table })
        { s1 with sxt := { s1.sxt with working := s1.sxt.working.put (tableKey region table) c } })

/-- CAL_STORE_WRITE (R366): the record of an accepted table is written over the older run record; a failed write is
retried once after 1 s, and a second failure is an ERROR. -/
def execCalStoreWrite (region : Fin 32) (table : Fin 16) (ok : Bool) (s : State) : Host.Outcome State Fault Refusal :=
  .next (match s.sxt.writes.find (tableKey region table) with
    | none => s
    | some (c, n, at_) =>
      let s1 := if n == 0 then s else s.advanceTo (at_ + 1000000000)
      let drop := { s1 with sxt := { s1.sxt with writes := s1.sxt.writes.del (tableKey region table) } }
      if ok then
        let seq := fun (k : Nat) => match s.sxt.store.find (storeKey region table k) with
          | some x => x.seq + 1
          | none => 0
        { drop with sxt := { drop.sxt with
          store := drop.sxt.store.put (storeKey region table (if seq 0 ≤ seq 1 then 0 else 1)) c } }
      else if n == 0 then { s1 with sxt := { s1.sxt with writes := s1.sxt.writes.put (tableKey region table) (c, 1, s1.ns) } }
      else (drop.sxtEvent 4).logAdd sevError 0 (evNamed 9 "STORE_WRITE_FAIL") agentNone [region, table])

/-- A cold start seeds every table from its best record (R367); a region seeded otherwise than from a run record is
swept, with one NOTICE. -/
def State.seedTables (s : State) : State :=
  let best := fun (r t : Nat) =>
    let a := s.sxt.store.find (storeKey r t 0)
    let b := s.sxt.store.find (storeKey r t 1)
    match a, b with
    | some x, some y => some (if y.seq ≤ x.seq then x else y)
    | some x, none => some x
    | none, some y => some y
    | none, none => none
  let seed := fun (r t : Nat) => match best r t with
    | some x => x
    | none => (s.sxt.store.find (storeKey r t 2)).getD ⟨0, 0, 4, 0⟩
  let working := s.regions.foldl (fun w r => (tablesOf r).foldl (fun w t => Tbl.put w (tableKey r t) (seed r t)) w) []
  let s1 := { s with sxt := { s.sxt with working := working } }
  (s.regions.filter (fun r => (tablesOf r).any (fun t => (best r t).isNone))).foldl (fun s r =>
    ((s.updRegion r (fun x => { x with running := true, started := s.ns, sweep := true, passes := [] })).sxtEvent 7).logAdd
      sevNotice 0 (evNamed 9 "COLD_SWEEP") agentNone [r]) s1

/-- Runs in progress are abandoned by a pause, with their takes and the corrections pending (R367). -/
def State.abandonRuns (s : State) : State :=
  { s with sxt := { s.sxt with
      region := s.sxt.region.mapVal (fun _ x => { x with pending := [], passes := [] }), takes := [] } }

/-- After the pause, each region that was running starts a new run. -/
def State.restartRuns (s : State) : State :=
  { s with sxt := { s.sxt with region := s.sxt.region.mapVal (fun _ x => if x.running then { x with started := s.ns } else x) } }

/-! ### Feed-forward and terminated heaters (R31, R368 to R370) -/

/-- One step of the three filters: time constants 50, 300 and 3,000 µs at a step of 10 µs. -/
def pfStep (pf : List Rat) (p : Rat) : List Rat :=
  [pf.getD 0 0 + (p - pf.getD 0 0) * 10 / 50, pf.getD 1 0 + (p - pf.getD 1 0) * 10 / 300,
   pf.getD 2 0 + (p - pf.getD 2 0) * 10 / 3000]

/-- A prediction in whole units of 10 MHz; the direction of rounding is free. -/
def ffRound (x : Rat) : Int :=
  let f := x.floor
  if x == f then f else if Config.ffUp (x - f).num (x - f).den then f + 1 else f

/-- The prediction f of heater `j` of a region (R368), 16 bits. -/
def State.predict (s : State) (r j : Nat) : Int :=
  let ref := s.calVal r 8 0
  let e := s.calVal r 8 (1 + j)
  let a := fun (k : Nat) => ((ofTwos 16 (bits e (16 * k) 16) : Int) : Rat)
  let pref : Rat := (bits ref 0 16 : Nat) / 10
  let tref : Rat := ((ofTwos 16 (bits ref 16 16) : Int) : Rat) / 100
  let pf := fun (k : Nat) => s.sxt.pf.getD k 0 - pref
  satSigned 16 (ffRound ((a 0 * pf 0 + a 1 * pf 1 + a 2 * pf 2) / 100 + a 3 * ((s.sxt.coolant : Rat) / 100 - tref) / 10))

/-- FEEDFORWARD_UPDATE (R368): the base-die power in 0.1 W and the coolant inlet in 0.01 °C are published, and each
running glass-frog controller updates its predictions. -/
def execFeedforwardUpdate (power : Nat) (coolant : Int) (s : State) : Host.Outcome State Fault Refusal :=
  .next (
    let s0 := s.advanceTo (s.nextMultiple 10000)
    let p := min power 65535
    let s1 := { s0 with sxt := { s0.sxt with
      power := p, coolant := satSigned 16 coolant, stale := false, pf := pfStep s.sxt.pf ((p : Rat) / 10) } }
    let engines := (List.range s.fuse.ioDies).filter s.gfRuns
    let tring := engines.foldl (fun t e => (List.range 256).foldl (fun t i =>
      Tbl.upd t (256 * e + i) (0, 0, 0) (fun x => (x.1, x.2.1, s1.predict (1 + e) i))) t) s1.sxt.tring
    let cff := if s.gfRuns 5 then s1.sxt.cff.putAll (List.range 72) (fun h => s1.predict 0x0D h) else s1.sxt.cff
    { s1 with sxt := { s1.sxt with tring := tring, cff := cff } })

/-- Clamped power of heater `i` of a terminated engine (R369). -/
def State.tringPower (s : State) (e : Nat) (errs : List Int) (i : Nat) : Nat :=
  let acc := (List.range 17).foldl (fun (a : Int) d =>
    if i + d < 8 || 263 < i + d then a
    else
      let j := i + d - 8
      a + ofTwos 16 (s.calVal (1 + e) 6 (17 * i + d) % 65536) * (-(errs.getD j 0 + (s.sxt.tring.get (256 * e + j) (0, 0, 0)).2.2))) 0
  let set := s.calVal (1 + e) 5 i
  let base : Int := (set % 65536 : Nat)
  (max 0 (min (base + acc / 65536) ((set / 65536 % 65536 : Nat) : Int))).toNat

/-- TERMINATED_HEATER_UPDATE (R369, R370): the controller of an engine recomputes its heaters; a port whose lanes are
all within ±3 GHz, or that has been held for 20 µs, sends FRAME flits again. -/
def execTerminatedHeaterUpdate (engine : Fin 4) (errs : List Int) (s : State) : Host.Outcome State Fault Refusal :=
  .next (if !(s.gfRuns engine && decide (engine.val < s.fuse.ioDies)) then s
    else
      let s1 := s.advanceTo (s.nextMultiple 10000)
      let e := fun (i : Nat) => satSigned 16 (errs.getD i 0)
      let s2 := { s1 with sxt := { s1.sxt with tring := (List.range 256).foldl (fun t i =>
        Tbl.upd t (256 * engine + i) (0, 0, 0) (fun x => (s1.tringPower engine errs i, e i, x.2.2))) s1.sxt.tring } }
      (List.range 64).foldl (fun s k =>
        let p := 64 * engine.val + k
        match (s.lp p).ringHold with
        | some t =>
          if (List.range 4).all (fun l => decide ((e (4 * k + l)).natAbs ≤ 300)) || decide (t + 20000 ≤ s.ns) then
            s.updLp p (fun x => { x with ringHold := none }) else s
        | none => s) s2)

/-- POWER_PUBLICATION_LAPSE (R31): 100 µs without a publication; the predictions stand and one WARNING is recorded. -/
def execPowerPublicationLapse (s : State) : Host.Outcome State Fault Refusal :=
  .next (if s.sxt.stale then s
    else (({ s with sxt := { s.sxt with stale := true } }).sxtEvent 6).logAdd sevWarning 0 (evNamed 9 "FF_STALE") agentNone [])

/-- RING_HOLD (R370, R360): a lane of a port leaves its guard band; the port sends only IDLE flits, and its engine's
region runs. -/
def execRingHold (p : Fin 256) (s : State) : Host.Outcome State Fault Refusal :=
  .next (if !s.lpLive p || (s.lp p).ringHold.isSome then s
    else
      let s1 := (s.updLp p (fun x => { x with ringHold := some s.ns })).sxtEvent 5
      let due := match s.sxt.holdAt.find p with
        | some t => decide (t + 60000000000 ≤ s.ns)
        | none => true
      let s2 := if due then ({ s1 with sxt := { s1.sxt with holdAt := s1.sxt.holdAt.put p s.ns } }).logAdd sevNotice (s.owner (refP p))
        (evNamed 9 "RING_HOLD") (agentKind 2 p) [refP p] else s1
      if s.calPaused then s2 else s2.calStart (1 + p.val / 64))

/-! ### Calibration commands (R373 to R376) -/

/-- The record of a copy that CAL_GET names. -/
def State.calCopy (s : State) (r t copy : Nat) : Option CalRec :=
  let a := s.sxt.store.find (storeKey r t 0)
  let b := s.sxt.store.find (storeKey r t 1)
  let newer := match a, b with
    | some x, some y => decide (y.seq ≤ x.seq)
    | some _, none => true
    | _, _ => false
  match copy with
  | 0 => s.sxt.working.find (tableKey r t)
  | 1 => if newer then a else b
  | 2 => if newer then b else a
  | _ => s.sxt.store.find (storeKey r t 2)

/-- A record header and entries (R365). -/
def recordBytes (r t : Nat) (c : CalRec) (first count : Nat) : Bytes :=
  let seq := if bit c.flags 2 then 2 ^ 32 else c.seq
  let pay := (List.range count).flatMap (fun i => leBytes (entryBytes t) (Config.calEntry r t seq (first + i)).toNat)
  let h := leBytes 1 t ++ leBytes 1 r ++ leBytes 2 1 ++ leBytes 4 c.seq ++ leBytes 4 pay.length ++ leBytes 2 (toTwos 16 c.temp)
    ++ leBytes 1 c.flags ++ zeros 1 ++ leBytes 6 c.timeS ++ zeros 6
  h ++ leBytes 4 (crc32c (h ++ pay)) ++ pay

/-- CAL_GET (R373). -/
def cmdCalGet (r : Req) (s : State) : CmdOut :=
  let t := r.b 0 1
  let g := r.b 1 1
  let copy := r.b 2 1
  let first := r.b 4 4
  let n := r.b 8 4
  let all := entriesOf g t
  guarded s [
      ranges [(0, decide (1 ≤ t ∧ t ≤ 8)), (1, s.hasRegion g && (tablesOf g).contains t), (2, decide (copy ≤ 3)), (3, zeroAt r.params 3 1),
        (4, decide (first < all)), (8, decide (1 ≤ n ∧ n ≤ 131072) && decide (first + n ≤ all)),
        (12, decide (32 + n * entryBytes t ≤ r.b 12 4)), (16, r.b 16 8 % 32 == 0), (24, zeroAt r.params 24 8)],
      chk (s.calCopy g t copy).isSome 0x0302 copy 0]
    (match s.calCopy g t copy with
     | some c => ok (s.emit (.hostWrite (r.b 16 8) (recordBytes g t c first n))) n all
     | none => ok s 0 all)

/-- CAL_RUN (R374). -/
def cmdCalRun (r : Req) (s : State) : CmdOut :=
  let g := r.p 16 1
  let rs := if g == 0xFF then s.regions else [g]
  guarded s [
      ranges [(16, g == 0xFF || s.hasRegion g), (17, decide (r.p 17 1 ≤ 1)), (18, r.z 18)],
      match rs.find? (fun x => (s.region x).hold) with
      | some x => some (0x0301, x, 0)
      | none => none,
      match rs.find? (fun x => (s.region x).running) with
      | some x => some (0x0601, x, 0)
      | none => none]
    (let s1 := rs.foldl (fun s x => s.calStart x) s
     if bit (r.p 17 1) 0 then .wait s1 (.calRun rs 0 0) else ok s1 rs.length 0)

/-- CAL_CONFIG (R375): the settings of a region, or of every one. -/
def cmdCalConfig (r : Req) (s : State) : CmdOut :=
  let g := r.p 16 1
  let dt := r.p 17 1
  let dl := r.p 18 2
  let h := r.p 20 1
  let rs := if g == 0xFF then s.regions else [g]
  let set := dt != 0 || dl != 0 || bit h 1
  guarded s [
      ranges [(16, g == 0xFF || s.hasRegion g), (17, dt == 0 || decide (5 ≤ dt ∧ dt ≤ 100)), (18, dl == 0 || decide (1 ≤ dl ∧ dl ≤ 600)),
        (20, decide (h ≤ 3)), (21, r.z 21)]]
    (ok (rs.foldl (fun s x => s.updRegion x (fun y => { y with
        deltaT := if dt == 0 then y.deltaT else dt
        deadline := if dl == 0 then y.deadline else dl
        hold := if bit h 1 then bit h 0 else y.hold })) s) (if set then rs.length else 0) 0)

/-- CAL_QUERY (R376). -/
def cmdCalQuery (r : Req) (s : State) : CmdOut :=
  let g := r.p 16 1
  let x := s.region g
  guarded s [ranges [(16, s.hasRegion g), (17, r.z 17)]]
    (ok s (s.regionState g + x.deltaT * 2 ^ 8 + toTwos 16 x.tempNow * 2 ^ 16 + toTwos 16 x.tempRun * 2 ^ 32 + x.deadline * 2 ^ 48)
      (x.lastS % 2 ^ 48 + min x.rejTotal 65535 * 2 ^ 48))

end Sys2Proof.Machine
end

