-- ==== Sys2Proof/Machine/Boot.lean ====
section
/-! DEFINITION. Start-up, pauses and power: the cold start, the choice of a slot, warm restarts and what ends a pause,
and the loss of the input (14 R417 to R423, R432, R436, R439; 15 R456, R457; 16 R476, R481). -/

namespace Sys2Proof.Machine

/-- Set a bit of BOOT_EVENTS. -/
def State.bootEvent (s : State) (i : Nat) : State := { s with boot := { s.boot with events := setBit s.boot.events i } }

/-! ### What a cold start keeps (R423) -/

/-- SEQ of the first entry after a cold start (R408). -/
def Log.nextSeq (g : Log) : Nat :=
  match g.journal.getLast? with
  | some e => (e.seq + 1) % 2 ^ 32
  | none => 0

/-- A slice as the configuration store restores it (R319). -/
def Slice.restored (x : Slice) : Slice := Slice.new x.rackMask x.hbmGiB x.sramMiB x.standing

/-- The module with everything lost that a cold start loses: fuses, keys, images, the configuration and calibration
stores, the journal and the standing of the front adapters stay. A partial image leaves its area empty. -/
def State.wiped (s : State) : State :=
  let b := s.boot
  let stale := match b.staging with
    | some g => g.cls
    | none => 0
  { s with
    mod := .starting
    ast := { Ast.reset with
      mode := s.ast.mode, transport := s.ast.transport, domain := s.ast.domain, preferB := s.ast.preferB
      ppsDelay := s.ast.ppsDelay, seconds := s.ast.seconds, secondsArmed := s.ast.mode == 2
      tenMhz := s.ast.mode == 2, portB := s.ast.preferB }
    bnc := Bnc.reset
    log := { Log.reset with journal := s.log.journal, seq := s.log.nextSeq }
    hif := Hif.reset
    topo := { Topo.reset with
      owner := s.topo.owner
      slice := s.topo.slice.mapVal (fun _ x => x.restored)
      tport := Tbl.mapVal (s.topo.tport.filter (fun e => e.2.admitted != 0)) (fun _ t =>
        { TPort.blank with admitted := t.admitted, admitCause := t.admitCause }) }
    plane := { Plane.reset with openPath := s.plane.openPath.mapVal (fun _ _ => 0) }
    col := Col.reset
    psg := []
    skk := Skk.reset
    fm := Fm.reset
    boot := { Boot.reset with
      keys := b.keys, active := b.active, trial := b.trial, trialStarts := b.trialStarts, fallback := b.fallback
      recSeq := b.recSeq, slot := if stale == 1 then b.slot.del (1 - b.active) else b.slot
      reserve := b.reserve, staged := b.staged && stale != 1, rejected := b.rejected && stale != 1
      fusedSv := b.fusedSv, cfgVersion := b.cfgVersion, handover := b.handover, cfgKept := b.cfgKept
      loader := b.loader, trust := b.trust, power := b.power }
    sxt := { Sxt.reset with
      store := s.sxt.store, coolant := s.sxt.coolant
      region := s.sxt.region.mapVal (fun _ x =>
        { Region.reset with hold := x.hold, deltaT := x.deltaT, deadline := x.deadline, tempNow := x.tempNow }) }
    mem := Mem.reset
    lnk := ⟨[]⟩ }

/-! ### The slot (R432) -/

/-- The image of a slot verifies: found good, and not below the fused security version (R432, R441). -/
def Boot.verifies (b : Boot) (slotOk : Bool × Bool) (k : Nat) : Bool :=
  (match b.slot.find k with
    | some i => decide (b.fusedSv ≤ i.sv)
    | none => false) && (if k == 0 then slotOk.1 else slotOk.2)

/-- The tadpole loader's choice: the boot record it writes and whether the start fell back; none for recovery. -/
def Boot.choose (b : Boot) (slotOk : Bool × Bool) : Option (Boot × Bool) :=
  let unconfirmed := b.trial && decide (1 ≤ b.trialStarts)
  let b1 := if unconfirmed then
      { b with active := 1 - b.active, trial := false, fallback := true, recSeq := b.recSeq + 1, rejected := true, staged := false }
    else { b with trialStarts := if b.trial then 1 else b.trialStarts, recSeq := b.recSeq + 1 }
  if b1.verifies slotOk b1.active then some (b1, unconfirmed)
  else if b1.verifies slotOk (1 - b1.active) then
    some ({ b1 with active := 1 - b1.active, trial := false, fallback := true, recSeq := b1.recSeq + 1 }, true)
  else none

/-- The image that runs. -/
def Boot.image (b : Boot) : Img := b.slot.get b.active ⟨0, 0, 1, 1, []⟩

/-! ### Steps of a cold start (R417, R419) -/

/-- Step 1: the straps (R303, R304). Bits: HALL_ID [10:7], RACK_ID [6:1], STRAP_PARITY [0]. -/
def State.takeStraps (s : State) (v : Option Nat) : State :=
  let ones := fun (x : Nat) => (bitsSet 11 x).length % 2 == 1
  match v with
  | some x =>
    if ones x then { s with topo := { s.topo with
      hall := bits x 7 4, rack := bits x 1 6, strapState := 0, straps := x % 2 ^ 11 } }
    else ({ s with topo := { s.topo with hall := 0, rack := 0, strapState := 1, straps := x % 2 ^ 11 } }).logAdd sevError 0
      (evNamed 7 "STRAPS_INVALID") agentNone [x % 2 ^ 11]
  | none => ({ s with topo := { s.topo with hall := 0, rack := 0, strapState := 1, straps := 0 } }).logAdd sevError 0
      (evNamed 7 "STRAPS_INVALID") agentNone []

/-- Step 4: the configuration store, migrated, read in a version kept, or lost (R439). -/
def State.takeConfig (s : State) : State :=
  let vs := s.boot.cfgVersion
  let vi := s.boot.image.cfg
  if vs == vi then s
  else if s.boot.cfgKept == some vi then { s with boot := { s.boot with cfgVersion := vi, cfgKept := none } }
  else if decide (vs < vi ∧ vi ≤ vs + 2) then
    ({ s with boot := { s.boot with cfgVersion := vi, cfgKept := some vs } }).logAdd sevNotice 0 0x0B1A agentNone [vs, vi]
  else
    ({ s with
      boot := { s.boot with cfgVersion := vi, cfgKept := none }
      topo := { s.topo with slice := [], owner := [], tport := [] } }).logAdd sevError 0 0x0B1B agentNone []

/-- Slices restored in ascending number, each with the largest quota that still fits the HBM in service (R457). -/
def State.fitQuotas (s : State) : State :=
  let room := s.hbmBytes - snapArea - s.bnc.trace.ringMib * 2 ^ 20
  (s.topo.slice.foldl (fun (acc : State × Nat) e =>
    let got := min e.2.hbmGiB ((room - acc.2) / 2 ^ 30)
    let s1 := acc.1.updSlice e.1 (fun x => { x with hbmGiB := got })
    (if got == e.2.hbmGiB then s1 else s1.logAdd sevError e.1 0x0C0A agentNone [e.1, e.2.hbmGiB, got], acc.2 + got * 2 ^ 30))
    (s, 0)).1

/-- Cores in service of a cluster. -/
def coresIn (bad : List Nat) (k : Nat) : Nat := ((List.range 8).filter (fun i => !bad.contains (8 * k + i))).length

/-- Too few newt cores to run the firmware (R456). -/
def coresShort (bad : List Nat) : Bool := bad.contains 0 || (List.range 4).any (fun k => decide (coresIn bad k < 4))

/-- Steps 3 and 4: parts retired at the start, with their entries (R456). -/
def State.retireParts (s : State) (c : ColdStart) : State :=
  let hbm := (List.range s.fuse.stacks).filter c.badStacks.contains
  let cores := (List.range 32).filter c.badCores.contains
  let units := (List.range 48).filter c.badUnits.contains
  let s1 := { s with
    mem := { s.mem with badStacks := hbm, badCores := cores }
    skk := { s.skk with retired := units } }
  let s2 := cores.foldl (fun s k => s.logAdd sevError 0 0x0C07 (agentKind 4 k) [k]) s1
  let s3 := units.foldl (fun s k => s.logAdd sevError 0 0x0C06 (agentKind 5 k) [k]) s2
  if c.recorderOk then s3
  else
    let f := s3.fresh 64
    ({ f.2 with log := { f.2.log with mode := 1, events := setBit f.2.log.events 0 } }).logAdd sevCritical 0 0x0A02 agentNone [f.1, 0]

/-- Step 5: the frog controllers; one whose image fails twice stays stopped, with its ERROR (R422). -/
def State.loadFrogs (s : State) (bad : List Nat) : State :=
  let s1 := { s with
    plane := { s.plane with
      hvA := true, hvB := true
      tf := (List.range 16).map (fun k => (k, { (s.tfc k) with st := if bad.contains k then 4 else 2 })) }
    col := { s.col with gf := (List.range 8).map (fun g => (g, (if bad.contains (16 + g) then 4 else 2, []))) } }
  let s2 := ((List.range 16).filter bad.contains).foldl (fun s k =>
    s.logAdd sevError 0 (evNamed 2 "TF_STOPPED") (agentKind 0xD k) [k]) s1
  ((List.range 8).filter (fun g => bad.contains (16 + g))).foldl (fun s g =>
    s.logAdd sevError 0 (evNamed 3 "GF_LOST") (agentKind 0xD (16 + g)) [g, 2]) s2

/-- FAILED with its FATAL entry; the spec gives no codes for its cause. -/
def State.enterFailed (s : State) : State :=
  let f := s.fresh 64
  f.2.fatal 0x0B06 agentNone [f.1]

/-- Steps 3 to 7 under the image chosen: time acquisition is then open. -/
def State.startMain (s : State) (c : ColdStart) : State :=
  let s1 := (s.retireParts c).takeConfig
  if !c.sramOk || coresShort s1.mem.badCores then s1.enterFailed
  else
    let s2 := ((s1.fitQuotas).loadFrogs c.badFrogs).seedTables
    let s3 := c.lateSteps.foldl (fun s e => s.logAdd sevWarning 0 0x0B04 agentNone [e.1, e.2]) s2
    { s3 with
      ast := { s3.ast with acquiring := true }
      boot := { s3.boot with handover := s3.boot.image.hand } }

/-- A cold start from E0 to the end of step 6 (R417, R419). -/
def State.coldStart (s : State) (c : ColdStart) : State :=
  let s0 := s.wiped
  let s1 := { s0 with boot := { s0.boot with power := true, stopped := !c.loaderOk } }
  if !c.loaderOk then s1
  else
    let s2 := s1.takeStraps c.straps
    match s2.boot.choose c.slotOk with
    | none => ({ s2 with boot := { s2.boot with recovery := true } }).enterFailed
    | some (b, fell) =>
      let f := s2.fresh 64
      let s3 := { f.2 with boot := b }
      (if fell then s3.logAdd sevError 0 0x0B05 agentNone [b.active, f.1] else s3).startMain c

/-- COLD_START (R417): the input comes into range, or MOD_RESET_N is released. -/
def execColdStart (c : ColdStart) (s : State) : Host.Outcome State Fault Refusal := .next (s.coldStart c)

/-- MOD_RESET_N (R417, R476): low for at least 100 ms, it causes a cold start at its release, where the input is in range;
a shorter pulse is ignored. -/
def execModResetN (lowMs : Nat) (c : ColdStart) (s : State) : Host.Outcome State Fault Refusal :=
  .next (if decide (100 ≤ lowMs) && s.boot.power then s.coldStart c else s)

/-- INPUT_LOSS (R481): all light is blanked and the planes go dark; the module is dead until the input returns. -/
def execInputLoss (_how : InputLoss) (s : State) : Host.Outcome State Fault Refusal :=
  .next (let s1 := s.wiped
    { s1 with boot := { s1.boot with power := false } })

/-- Steps 7 and 8 (R347, R147, R319): with valid straps the cabling check opens on every global port, and the slices
that are to hail wait for it; without, READY follows at once (R304). -/
def State.beginCheck (s : State) : State :=
  if s.topo.strapState != 0 then s.enterReady
  else
    { s with
      col := { s.col with
        checking := true
        port := (List.range 64).map (fun t => (t, { (GPort.reset t) with
          st := 6, role := 3, channel := 0, cabling := 0, expectRack := s.topo.rack, expectValid := true }))
        laser := (List.range 64).map (fun l => (l, { Laser.reset with
          st := 2, gate := true, measChannel := 0, measValid := true })) }
      topo := { s.topo with slice := s.topo.slice.mapVal (fun _ x =>
        { x with hailPend := decide (1 ≤ x.standing) && decide (2 ≤ (racks x.rackMask).length) }) } }

/-- TIME_ACQUISITION_END (R347): at LOCKED, or 30 s after the step began, whichever comes first. -/
def execTimeAcquisitionEnd (s : State) : Host.Outcome State Fault Refusal :=
  .next (if !s.ast.acquiring then s
    else
      let s1 := if s.ast.st == .locked then s else s.advanceTo ((30000000000 : Int) + s.ast.jumped).toNat
      ({ s1 with ast := { s1.ast with acquiring := false } }).beginCheck)

/-! ### Cleosh sessions and the update lock that a pause ends (R428, R429) -/

/-- The update lock ends: an image being staged is discarded, its area left empty, with LOCK_LAPSED. -/
def State.endLock (s : State) : State :=
  match s.boot.lock with
  | none => s
  | some l =>
    let s1 := { s with boot := { s.boot with lock := none } }
    match s1.boot.staging with
    | none => s1
    | some _ => (({ s1 with boot := { s1.boot with staging := none } }).bootEvent 6).logAdd sevNotice 0 0x0B12 agentNone [l.port]

/-- A session ends, and with it the lock it holds. -/
def State.endSession (s : State) (id : Nat) : State :=
  let s1 := { s with boot := { s.boot with sess := s.boot.sess.del id } }
  match s.boot.lock with
  | some l => if l.sess == id then s1.endLock else s1
  | none => s1

/-- Every session ends. -/
def State.endSessions (s : State) : State :=
  ({ s with boot := { s.boot with sess := [] } }).endLock

/-! ### Parking for an activation or a fallback (R434, R438) -/

/-- Every passage RUNNING or STALLED is asked to park, marked as parked by activation. -/
def State.parkForAct (s : State) : State :=
  { s with psg := s.psg.mapVal (fun _ p =>
      if (p.st == .running || p.st == .stalled) && !p.parkPend then { p with parkPend := true, parkedByAct := true } else p) }

/-- The passages that an activation parked resume, and those it asked to park go on. -/
def State.unparkForAct (s : State) : State :=
  (s.psg.filter (fun e => e.2.parkedByAct)).foldl (fun s e =>
    if e.2.st == .parked then s.resumePassage (e.1 / 256) (e.1 % 256)
    else s.updPsg (e.1 / 256) (e.1 % 256) (fun p => { p with parkPend := false, parkedByAct := false })) s

/-- An activation that waits is abandoned; the image stays staged (R434, R435). -/
def State.abandonAct (s : State) (arg : Nat) : State :=
  ((({ s with boot := { s.boot with actWait := none } }).unparkForAct).bootEvent 3).logAdd sevWarning 0 0x0B17 agentNone [arg]

/-! ### Pauses (R420, R434, R440) -/

/-- A pause begins: sessions end, frog controllers are ordered to hold, the servo stops, calibration runs are
abandoned, and the newt domain writes GATE_ON (R31, R133, R348, R367, R399). -/
def State.beginPause (s : State) (m : Mod) (p : Pause) : State :=
  let s1 := s.endSessions.abandonRuns
  let s2 := { s1 with
    mod := m
    ast := { s1.ast with servoStopped := true }
    plane := { s1.plane with tf := s1.plane.tf.mapVal (fun _ t => if t.st == 2 then { t with st := 3, holdAt := s1.ns } else t) }
    boot := { s1.boot with pause := some p, restartReq := false } }
  s2.traceAt (traceTime s2.time16) 8 0 false 1 (leBytes 4 1 ++ leBytes 4 agentNone)

/-- The MAINT_EXIT that waits for its warm restart. -/
def State.exitWait (s : State) : Option Exec := s.hif.execs.find? (fun e => match e.wait with
  | .exitRestart _ => true
  | _ => false)

/-- The boot record of an image that a trial gave up: the other slot, the image REJECTED (R432, R438). -/
def Boot.fallBack (b : Boot) : Boot :=
  { b with active := 1 - b.active, trial := false, trialStarts := 0, fallback := true, recSeq := b.recSeq + 1
           rejected := true, staged := false, healthPending := false, fbWait := none
           fallbacks := satInc 16 b.fallbacks }

/-- An unplanned restart (R420, R421, R435, R438): the third within 10 minutes is FAILED; one in a trial falls back. -/
def State.unplanned (s : State) (cause core : Nat) : State :=
  let recent := s.boot.unplannedAt.filter (fun t => decide (s.ns < t + 600000000000))
  let s1 := ({ s with boot := { s.boot with
    unplannedAt := s.ns :: recent, warmUnplanned := satInc 16 s.boot.warmUnplanned } }).bootEvent 9
  let s2 := s1.logAdd sevError 0 0x0B03 (agentKind 4 core) [cause, core]
  let s3 := if s2.boot.actWait.isSome then s2.abandonAct 0 else s2
  if decide (2 ≤ recent.length) then s3.endSessions.enterFailed
  else if s3.boot.trial then ({ s3 with boot := s3.boot.fallBack }).beginPause .warmRestart ⟨3, s.ns, 0, 0⟩
  else s3.beginPause .warmRestart ⟨1, s.ns, cause, 0⟩

/-- WARM_RESTART (R420): a planned one follows the request that waits for it; a watchdog or a firmware fault makes an
unplanned one in READY or MAINTENANCE. A halted core's watchdog is suspended (R404). -/
def execWarmRestart (cause : RestartCause) (core : Fin 32) (s : State) : Host.Outcome State Fault Refusal :=
  .next (let up := s.alive && (s.mod == .ready || s.mod == .maintenance)
    match cause with
    | .maintExit => if up && s.exitWait.isSome then s.beginPause .warmRestart ⟨0, s.ns, 0, 0⟩ else s
    | .cleosh =>
      if up && s.boot.restartReq && s.hif.execs == [] then
        (if s.boot.actWait.isSome then s.abandonAct 0 else s).beginPause .warmRestart ⟨0, s.ns, 1, 0⟩
      else s
    | .watchdog => if up && !s.coreHalted core then s.unplanned 2 core else s
    | .fault => if up then s.unplanned 3 core else s)

/-! ### The end of a pause (R420, R436) -/

/-- Passages are aborted and their table is gone. -/
def State.losePassages (s : State) : State :=
  let s1 := s.psg.foldl (fun s e => s.abortPassage (e.1 / 256) (e.1 % 256) 1) s
  s1.psg.foldl (fun s e => s.unloadPassage (e.1 / 256) (e.1 % 256)) s1

/-- Every queue is free, with its requests gone. -/
def State.loseQueues (s : State) : State := { s with fm := { s.fm with queue := [], reqs := [], lostRsp := [] } }

/-- One table whose check word fails is discarded: 0 plots, 1 passages, 2 queues, 3 bindings, 4 programs, 5 residual
areas, 6 counter selections, 7 trace selections. -/
def State.loseTable (s : State) (k : Nat) : State :=
  match k with
  | 0 => { s with topo := { s.topo with plot := [] } }
  | 1 => s.losePassages
  | 2 => s.loseQueues
  | 3 => { s with skk := { s.skk with binding := [] } }
  | 4 => { s with skk := { s.skk with prog := [] } }
  | 5 => { s with skk := { s.skk with resid := [] } }
  | 6 => { s with bnc := { s.bnc with ctr := [] } }
  | 7 => { s with bnc := { s.bnc with trace := { Trace.reset with ringMib := s.bnc.trace.ringMib } } }
  | _ => s

/-- Tables discarded after an unplanned restart, with one ERROR. -/
def State.loseTables (s : State) (bad : List Nat) : State :=
  let ks := (List.range 8).filter bad.contains
  if ks == [] then s
  else (ks.foldl State.loseTable s).logAdd sevError 0 (evNamed 0xB "TABLES_LOST") agentNone [maskOf 8 ks.contains]

/-- What a fallback to an image that cannot read the handover version loses (R436). -/
def State.loseHandover (s : State) : State :=
  let i := s.boot.image
  if decide (s.boot.handover ≤ i.hand ∧ i.hand ≤ s.boot.handover + 2) then s
  else
    let s1 := (s.psg.foldl (fun s e => s.abortPassage (e.1 / 256) (e.1 % 256) 1) s).loseQueues
    { s1 with skk := { s1.skk with binding := [], prog := [], resid := [] } }

/-- A command in execution over an unplanned restart completes after it with 0x0602 and its EFFECT (R94, R101). -/
def State.cutExec (s : State) (e : Exec) : State :=
  if e.discard then s
  else
    let goesOn := match e.wait with
      | .commit .. => true
      | .release .. => true
      | .calRun .. => true
      | .transfer .. => true
      | .drain .. => true
      | _ => false
    let kept := goesOn || (match e.wait with
      | .park .. => true
      | _ => false)
    let s1 := (s.complete e.fn e.ring e.seq e.tag 0x0602 (if goesOn then 2 else 1) 0 e.logged e.dma false).trace 7 e.slice
      (cmdBody e.fn e.ring e.opcode e.tag 0x0602 e.seq true)
    { s1 with hif := { s1.hif with execs :=
        if kept then s1.hif.execs.map (fun x => if x == e then { x with discard := true } else x) else s1.hif.execs.erase e } }

/-- Everything that waited for the end of the pause goes on: controllers, servo, credit, held frames, calibration runs
and cores (R213, R301, R348, R367, R420). Mirrors and lasers set in maintenance are released (R407). -/
def State.resumeAll (s : State) (p : Pause) : State :=
  let d := s.ns - p.x0
  let s1 := { s with
    mod := .ready
    bnc := { s.bnc with core := [] }
    plane := { s.plane with tf := s.plane.tf.mapVal (fun _ t => if t.st == 0 then t else { t with st := 2, holdAt := 0 }) }
    col := { s.col with gf := s.col.gf.mapVal (fun _ g => (2, g.2)) }
    ast := { s.ast with servoStopped := false, lostInPause := false }
    fm := { s.fm with reqs := s.fm.reqs.map (fun (r : FReq) => { r with at_ := r.at_ + d, brokenAt := r.brokenAt.map (· + d) }) }
    psg := s.psg.mapVal (fun _ (q : Passage) => if q.st == PSt.running || q.st == PSt.stalled then { q with enteredAt := q.enteredAt + d } else q)
    boot := { s.boot with pause := none, lastMs := d / 1000000 % 2 ^ 32, lastStart := p.kind + 1 } }
  let s2 := s1.traceAt (traceTime s1.time16) 9 0 false 1 (leBytes 4 1 ++ leBytes 4 agentNone)
  let s3 := if s.ast.lostInPause && s2.ast.st == .locked then s2.enterTime .holdover else s2
  (((((s3.flushLog.gfBack 4).holdWhere (fun _ => true) 4 false).releaseFm.releaseFmG).retryAll.restartRuns).parkTestMirrors).releaseLasers

/-- Keys that a CLASS 3 image puts into slots 1 to 3 (R443). -/
def trustKeys (keys : Tbl Key) (h : Bytes) (at_ : Nat) : Tbl Key :=
  [1, 2, 3].foldl (fun t k =>
    if Config.trustHas h k then Tbl.put t k ⟨4, (Config.trustUsage h k).toNat, if Config.trustSet2 h k then 2 else 1,
      padTo 16 (Config.trustLabel h k), padTo 48 (Config.trustPub h k), at_⟩
    else Tbl.del t k) keys

/-- The fused security version rises to an image's, and never falls (R438, R441). -/
def State.raiseSv (s : State) (sv : Nat) : State :=
  if sv ≤ s.boot.fusedSv then s
  else ({ s with boot := { s.boot with fusedSv := sv } }).bootEvent 10

/-- A loader or trust store installed in place (R440). -/
def State.installImage (s : State) (cls : Nat) : State :=
  match s.boot.reserve.find cls with
  | none => s
  | some i =>
    let b := s.boot
    let b1 := { b with reserve := b.reserve.del cls }
    let b2 := if cls == 2 then { b1 with loader := some i }
      else { b1 with trust := some i, keys := trustKeys b1.keys i.head s.secs }
    (({ s with boot := b2 }).raiseSv i.sv).logAdd sevCritical 0 0x0B22 agentNone [cls, i.version]

/-- What each kind of pause leaves at its end. -/
def State.endPause (s : State) (p : Pause) : State :=
  let ms := (s.ns - p.x0) / 1000000
  match p.kind with
  | 0 =>
    let s1 := ({ s with boot := { s.boot with warmPlanned := satInc 16 s.boot.warmPlanned } }).logAdd sevNotice 0 0x0B02 agentNone [p.cause, ms]
    match s1.exitWait with
    | some e =>
      (match e.wait with
        | .exitRestart cores => (s1.logAdd sevNotice 0 0x0A21 agentNone [1]).completeExec e 0 cores 0
        | _ => s1)
    | none => s1
  | 2 =>
    let b := s.boot
    let s1 := ({ s with boot := { b with
      activations := satInc 16 b.activations, healthPending := true, t0 := s.ns, checks := 0, trialStarts := 1
      staged := false, handover := b.image.hand } }).takeConfig
    ((s1.bootEvent 2).logAdd sevNotice 0 0x0B16 agentNone [s1.boot.image.version, ms]).unparkForAct
  | 3 =>
    let s1 := (s.loseHandover.takeConfig).bootEvent 5
    let s2 := { s1 with boot := { s1.boot with handover := s1.boot.image.hand, cfgKept := none } }
    (s2.logAdd sevError 0 0x0B19 agentNone [p.cause, p.aborted]).unparkForAct
  | 4 => s.installImage p.cause
  | _ => s

/-- WARM_RESTART_DONE (R420, R436): the end of a pause. A planned pause takes over every table; where both copies of the
plane record fail the module enters FAILED with the light held. -/
def execWarmRestartDone (badTables : List Nat) (planeOk : Bool) (s : State) : Host.Outcome State Fault Refusal :=
  .next (match s.boot.pause with
    | none => s
    | some p =>
      if !planeOk then ({ s with boot := { s.boot with pause := none } }).enterFailed
      else
        let s1 := if p.kind == 1 || p.kind == 3 then s.loseTables badTables else s
        let s2 := (s1.resumeAll p).endPause p
        (s2.hif.execs.foldl State.cutExec s2).settle)

end Sys2Proof.Machine
end

