-- ==== Sys2Proof/Machine/Cleosh.lean ====
section
/-! DEFINITION. The Cleosh service protocol, the update lock, staging, activation, health, loader commits, roles and
keys, measurements and attestation (14 R424 to R447). -/

namespace Sys2Proof.Machine

/-! ### Datagrams (R425, R426) -/

/-- A header: TYPE, session, SEQ, ACK, MSG_ID, OFFSET, SEG_LEN and the flags of byte 30. -/
def cleoshHeader (typ sess seq ack msg off len flags : Nat) : Bytes :=
  beBytes 2 0x434C ++ beBytes 1 1 ++ beBytes 1 typ ++ beBytes 8 sess ++ beBytes 4 seq ++ beBytes 4 ack ++ beBytes 4 msg
    ++ beBytes 4 off ++ beBytes 2 len ++ beBytes 1 flags ++ [0]

/-- Change a session that is open. -/
def State.updSess (s : State) (id : Nat) (f : Sess → Sess) : State :=
  match s.boot.sess.find id with
  | none => s
  | some x => { s with boot := { s.boot with sess := s.boot.sess.put id (f x) } }

/-- Send a message of at most 1,024 bytes in a session: one segment, which carries the acknowledgement with it. -/
def State.cleoshSend (s : State) (id typ : Nat) (body : Bytes) : State :=
  match s.boot.sess.find id with
  | none => s
  | some x =>
    let d := cleoshHeader typ id x.txSeq x.rxSeq x.txMsg 0 body.length 1 ++ body
    (s.updSess id (fun x => { x with
      txSeq := x.txSeq + 1, txMsg := x.txMsg + 1, unackedRx := 0, unacked := x.unacked ++ [(x.txSeq, d)] })).emit (.cleosh id d)

/-- Send an acknowledgement alone. -/
def State.cleoshAck (s : State) (id : Nat) : State :=
  match s.boot.sess.find id with
  | none => s
  | some x => (s.updSess id (fun x => { x with unackedRx := 0 })).emit
      (.cleosh id (cleoshHeader 0x7F id x.txSeq x.rxSeq x.txMsg 0 0 2))

/-- The body of RESULT (R427). -/
def resultBody (msg status detail w0 w1 : Nat) : Bytes :=
  beBytes 4 msg ++ beBytes 2 status ++ beBytes 2 detail ++ beBytes 8 w0 ++ beBytes 8 w1

/-- Answer a message with RESULT. -/
def State.result (s : State) (id msg status detail w0 w1 : Nat) : State :=
  s.cleoshSend id 0x7F (resultBody msg status detail w0 w1)

/-- The message types a client sends. -/
def clientTypes : List Nat :=
  [0x01, 0x03, 0x10, 0x20, 0x23, 0x30, 0x31, 0x32, 0x40, 0x41, 0x42, 0x50, 0x51, 0x52, 0x53, 0x7E]

/-- A header of R425, its length that of the datagram. -/
def datagramOk (b : Bytes) : Bool :=
  decide (32 ≤ b.length) && be b 0 2 == 0x434C && be b 2 1 == 1 && be b 28 2 == b.length - 32 && decide (be b 28 2 ≤ 1024)
    && decide (be b 30 1 < 4) && be b 31 1 == 0 && (be b 28 2 != 0 || bit (be b 30 1) 1)
    && (bit (be b 30 1) 1 || clientTypes.contains (be b 3 1))

/-- Count a datagram dropped (R424, R426). -/
def State.dropDatagram (s : State) (port : Nat) : State :=
  { s with boot := { s.boot with dropped := s.boot.dropped.upd port 0 (satInc 32) } }

/-- A message of a session came: its time, and the lock's where it is the holder (R428, R429). -/
def State.sessionHeard (s : State) (id : Nat) : State :=
  let s1 := s.updSess id (fun x => { x with last := s.ns })
  match s1.boot.lock with
  | some l => if l.sess == id then { s1 with boot := { s1.boot with lock := some { l with last := s.ns } } } else s1
  | none => s1

/-- A segment in order: put to its message, which is whole with LAST; an acknowledgement follows every 32nd (R426). -/
def State.takeSegment (s : State) (port id : Nat) (x : Sess) (b : Bytes) : State :=
  let typ := be b 3 1
  let seg := b.drop 32
  let fits := be b 20 4 == x.rxMsg && be b 24 4 == x.part.length && (x.part == [] || typ == x.partTyp)
    && decide (x.part.length + seg.length ≤ 1048584)
  if !fits then s.dropDatagram port
  else
    let body := x.part ++ seg
    let last := bit (be b 30 1) 0
    let s1 := (s.updSess id (fun x => { x with
      rxSeq := x.rxSeq + 1, unackedRx := x.unackedRx + 1, partTyp := typ
      part := if last then [] else body
      rxMsg := if last then x.rxMsg + 1 else x.rxMsg
      whole := if last then x.whole ++ [(be b 20 4, typ, body)] else x.whole })).sessionHeard id
    if decide (32 ≤ x.unackedRx + 1) then s1.cleoshAck id else s1

/-- Cleosh is served: in no pause, and not by a dead module. -/
def State.served (s : State) : Bool := !s.ringsPaused

/-- CLEOSH_DATAGRAM (R424 to R426): dropped and counted where its source is not link-local, its header is bad or its
session unknown. Its ACK frees what was sent; a segment out of order only asks for an acknowledgement. -/
def execCleoshDatagram (port : Fin 2) (linkLocal : Bool) (bytes : Bytes) (s : State) : Host.Outcome State Fault Refusal :=
  .next (if !s.served then s
    else
      let s := { s with boot := { s.boot with svcLink := setBit s.boot.svcLink port } }
      if !linkLocal || !datagramOk bytes then s.dropDatagram port
      else if be bytes 3 1 == 0x01 && !bit (be bytes 30 1) 1 then
        (if be bytes 4 8 == 0 then s else s.dropDatagram port)
      else
        let id := be bytes 4 8
        match s.boot.sess.find id with
        | none => s.dropDatagram port
        | some x =>
          if x.port != port.val then s.dropDatagram port
          else
            let left := x.unacked.filter (fun u => decide (be bytes 16 4 ≤ u.1))
            let s1 := s.updSess id (fun x => { x with
              unacked := left, resends := if left.length == x.unacked.length then x.resends else 0 })
            if bit (be bytes 30 1) 1 then s1
            else if be bytes 12 4 != x.rxSeq then s1.updSess id (fun x => { x with unackedRx := x.unackedRx + 1 })
            else s1.takeSegment port id ((s1.boot.sess.find id).getD x) bytes)

/-- CLEOSH_RESEND (R426): 20 ms without progress resends from the oldest segment; after 10 of them the session ends. -/
def execCleoshResend (sess : Nat) (s : State) : Host.Outcome State Fault Refusal :=
  .next (match s.boot.sess.find sess with
    | none => s
    | some x =>
      if !s.served || x.unacked == [] then s
      else if decide (10 ≤ x.resends) then s.endSession sess
      else x.unacked.foldl (fun s u => s.emit (.cleosh sess u.2)) (s.updSess sess (fun x => { x with resends := x.resends + 1 })))

/-- CLEOSH_ACK_TIMER (R426): 1 ms after the first unacknowledged segment, ACK. -/
def execCleoshAckTimer (sess : Nat) (s : State) : Host.Outcome State Fault Refusal :=
  .next (match s.boot.sess.find sess with
    | none => s
    | some x => if !s.served || x.unackedRx == 0 then s else s.cleoshAck sess)

/-! ### Sessions (R428) -/

/-- HELLO (R428): a session opens with CHALLENGE; a port holds four, and ignores HELLO for 60 s after five failures. -/
def execHello (port : Fin 2) (addr : Bytes) (keyIndex : Nat) (s : State) : Host.Outcome State Fault Refusal :=
  .next (if !s.served || decide (s.ns < s.boot.ignoreUntil.get port 0) then s
    else
      let refuse := fun (st : Nat) => s.emit (.cleosh 0 (cleoshHeader 0x7F 0 0 1 0 0 24 1 ++ resultBody 0 st 0 0 0))
      if decide (16 ≤ keyIndex) then refuse 0x0101
      else if decide (4 ≤ (s.boot.sess.filter (fun e => e.2.port == port.val)).length) then refuse 0x0601
      else
        let a := s.fresh 64
        let b := a.2.fresh 64
        let nonce := a.1 + b.1 * 2 ^ 64
        let id := s.boot.nextSess
        let x : Sess := ⟨port, padTo 16 addr, keyIndex, 0, nonce, s.ns, s.ns, 0, 1, 0, 1, [], 0, 1, [], [], 0⟩
        let s1 := { b.2 with boot := { b.2.boot with sess := b.2.boot.sess.put id x, nextSess := id + 1 } }
        s1.cleoshSend id 0x02 (beBytes 16 nonce ++ padTo 16 s.fuse.serial ++ beBytes 1 port))

/-- The message a row acts on: the oldest whole one of its session, with its bytes as R427 lays them out. -/
def State.takeMsg (s : State) (m : CMsg) (typ : Nat) (signed : Bool) : Option (Sess × State) :=
  if !s.served then none
  else match s.boot.sess.find m.sess with
    | none => none
    | some x =>
      if x.whole.head? == some (m.msgId, typ, m.body ++ (if signed then beBytes 4 m.sig.length ++ m.sig else [])) then
        some (x, (s.updSess m.sess (fun x => { x with whole := x.whole.tail })))
      else none

/-- The session holds the update lock. -/
def State.holdsLock (s : State) (id : Nat) : Bool :=
  match s.boot.lock with
  | some l => l.sess == id
  | none => false

/-- The signature of a signed message by the session's key (R427, R428). -/
def State.signedOk (s : State) (x : Sess) (m : CMsg) (typ : Nat) : Bool :=
  match s.boot.keys.find x.key with
  | none => false
  | some k => m.sig.length == sigLenOf k.param
      && Config.sigVerify k.param k.pub (beBytes 8 m.sess ++ beBytes 4 m.msgId ++ beBytes 1 typ ++ m.body) m.sig

/-- A failed check of a message: STATUS, DETAIL, WORD0. -/
abbrev MChk := Option (Nat × Nat × Nat)

/-- A check that passes where the condition holds. -/
def mchk (ok : Bool) (status detail w0 : Nat) : MChk := if ok then none else some (status, detail, w0)

/-- The first failure in order. -/
def firstM : List MChk → MChk
  | [] => none
  | none :: t => firstM t
  | some e :: _ => some e

/-- A message row: role, lock and signature, then the message's own checks, then its effect (R428). A message that fails
a check is answered with RESULT and has no other effect. -/
def State.message (s : State) (m : CMsg) (typ role : Nat) (lock signed : Bool) (checks : Sess → State → List MChk)
    (act : Sess → State → State) : State :=
  match s.takeMsg m typ signed with
  | none => s
  | some (x, s1) =>
    match firstM ([mchk (decide (role ≤ x.role)) 0x0403 0 role, mchk (!lock || s1.holdsLock m.sess) 0x0301 1 0,
        mchk (!signed || s1.signedOk x m typ) 0x0403 4 0] ++ checks x s1) with
    | some e => s1.result m.sess m.msgId e.1 e.2.1 e.2.2 0
    | none => act x s1

/-- A failed AUTH (R428). -/
def State.authFail (s : State) (x : Sess) (m : CMsg) : State :=
  let s1 := (s.result m.sess m.msgId 0x0403 0 0 0).endSession m.sess
  let recent := s.ns :: (s.boot.authAt.get x.port []).filter (fun t => decide (s.ns < t + 60000000000))
  let b := s1.boot
  let s2 := { s1 with boot := { b with
    authFails := b.authFails.upd x.port 0 (satInc 16)
    authAt := b.authAt.put x.port recent
    ignoreUntil := if decide (5 ≤ recent.length) then b.ignoreUntil.put x.port (s.ns + 60000000000) else b.ignoreUntil } }
  (s2.bootEvent 7).logAdd sevWarning 0 0x0B10 agentNone [x.port, x.key]

/-- AUTH (R428): within 10 s of CHALLENGE, a signature by the key of KEY_INDEX, which must have SERVICE usage. -/
def execAuth (m : CMsg) (s : State) : Host.Outcome State Fault Refusal :=
  .next (match s.takeMsg m 0x03 true with
    | none => s
    | some (x, s1) =>
      match s1.boot.keys.find x.key with
      | none => s1.authFail x m
      | some k =>
        if bit k.usage 1 && decide (s.ns < x.since + 10000000000) && m.body == [] && m.sig.length == sigLenOf k.param
            && Config.sigVerify k.param k.pub
              (beBytes 16 x.nonce ++ padTo 16 s.fuse.serial ++ beBytes 8 m.sess ++ beBytes 1 x.port) m.sig then
          (s1.updSess m.sess (fun x => { x with role := k.role })).result m.sess m.msgId 0 0 0 0
        else s1.authFail x m)

/-- AUTH_TIMEOUT (R428): 10 s after CHALLENGE a session without AUTH ends. -/
def execAuthTimeout (sess : Nat) (s : State) : Host.Outcome State Fault Refusal :=
  .next (match s.boot.sess.find sess with
    | none => s
    | some x => if x.role == 0 then (s.advanceTo (x.since + 10000000000)).endSession sess else s)

/-- SESSION_IDLE (R428): 300 s without a message ends a session. -/
def execSessionIdle (sess : Nat) (s : State) : Host.Outcome State Fault Refusal :=
  .next (match s.boot.sess.find sess with
    | none => s
    | some x => (s.advanceTo (x.last + 300000000000)).endSession sess)

/-- CLOSE (R428): the session ends. -/
def execClose (sess : Nat) (s : State) : Host.Outcome State Fault Refusal :=
  .next (match s.boot.sess.find sess with
    | none => s
    | some x => (match x.whole.head? with
      | some w => if w.2.1 == 0x7E then s.endSession sess else s
      | none => s))

/-! ### Status and the lock (R427, R429) -/

/-- Seconds left of the 300 s of a trial. -/
def State.healthLeft (s : State) : Nat := if s.boot.healthPending then 300 - (s.ns - s.boot.t0) / 1000000000 else 0

/-- The module is claimed: a slot from 4 to 15 holds a key (R444). -/
def Boot.claimed (b : Boot) : Bool := b.keys.any (fun e => decide (4 ≤ e.1))

/-- BOOT_STATE [7:0] (R449). -/
def Boot.stateBits (b : Boot) : Nat :=
  b.active + 2 * b2n b.healthPending + 4 * b2n b.staged + 8 * b2n b.rejected + 16 * b2n b.claimed + 32 * b2n b.lock.isSome
    + 64 * (match b.lock with
      | some l => l.port
      | none => 0) + 128 * b2n b.actWait.isSome

/-- FW_ACTIVE and FW_INACTIVE (R105). -/
def Boot.fwActive (b : Boot) : Nat := b.image.version
def Boot.fwInactive (b : Boot) : Nat := match b.slot.find (1 - b.active) with
  | some i => i.version
  | none => 0

/-- The body of STATUS. -/
def State.statusBody (s : State) : Bytes :=
  let b := s.boot
  beBytes 1 s.mod.code ++ beBytes 1 b.stateBits ++ zeros 2 ++ beBytes 8 b.fwActive ++ beBytes 8 b.fwInactive
    ++ beBytes 4 b.fusedSv ++ beBytes 2 b.cfgVersion ++ beBytes 2 s.healthLeft
    ++ (match b.lock with
      | some l => beBytes 1 l.port ++ beBytes 1 l.key ++ zeros 2 ++ padTo 16 l.addr
      | none => zeros 20)

/-- STATUS_REQ (R427). -/
def execStatusReq (m : CMsg) (s : State) : Host.Outcome State Fault Refusal :=
  .next (s.message m 0x10 1 false false (fun _ _ => [mchk (m.body == []) 0x0101 0 0])
    (fun _ s => s.cleoshSend m.sess 0x11 s.statusBody))

/-- BUSY, naming the holder. -/
def State.sendBusy (s : State) (id : Nat) (l : Lock) : State :=
  s.cleoshSend id 0x22 (beBytes 1 l.port ++ beBytes 1 l.key ++ zeros 2 ++ beBytes 4 ((s.ns - l.at_) / 1000000000) ++ padTo 16 l.addr)

/-- The lock is granted to a session. -/
def State.grantLock (s : State) (id : Nat) (x : Sess) : State :=
  (({ s with boot := { s.boot with lock := some ⟨id, x.port, x.key, x.addr, s.ns, s.ns⟩ } }).cleoshSend id 0x21 []).logAdd
    sevInfo 0 0x0B11 agentNone [x.port, x.key]

/-- LOCK_REQ (R429): a free lock is granted. A request of port A stamped within 10 µs of the grant to port B goes before
it, and B's session is told that it is busy; every other requester gets BUSY. -/
def execLockReq (m : CMsg) (s : State) : Host.Outcome State Fault Refusal :=
  .next (s.message m 0x20 3 false false (fun _ _ => [mchk (m.body == []) 0x0101 0 0]) (fun x s =>
    match s.boot.lock with
    | none => s.grantLock m.sess x
    | some l =>
      if l.sess == m.sess then s.cleoshSend m.sess 0x21 []
      else if x.port == 0 && l.port == 1 && decide (s.ns ≤ l.at_ + 10000) && s.boot.staging.isNone then
        let s1 := s.grantLock m.sess x
        (match s1.boot.lock with
          | some l1 => s1.sendBusy l.sess l1
          | none => s1)
      else s.sendBusy m.sess l))

/-- LOCK_RELEASE (R429). -/
def execLockRelease (m : CMsg) (s : State) : Host.Outcome State Fault Refusal :=
  .next (s.message m 0x23 3 true false (fun _ _ => [mchk (m.body == []) 0x0101 0 0])
    (fun _ s => s.endLock.result m.sess m.msgId 0 0 0 0))

/-- LOCK_IDLE_EXPIRY (R429): 120 s without a message from the holder. -/
def execLockIdleExpiry (s : State) : Host.Outcome State Fault Refusal :=
  .next (match s.boot.lock with
    | none => s
    | some l => (s.advanceTo (l.last + 120000000000)).endLock)

/-! ### Staging (R430, R431) -/

/-- Components an image of a class holds, and the limit of its payload. -/
def compsOf (cls : Nat) : Nat := if cls == 1 then 4 else 1
def payloadMax (cls : Nat) : Nat := if cls == 1 then 512 * 2 ^ 20 else if cls == 2 then 4 * 2 ^ 20 else 64 * 2 ^ 10

/-- Bytes before the payload of an image. -/
def imageHead (cls : Nat) : Nat := 256 + 64 * compsOf cls + 16224

/-- STAGE_BEGIN (R431): the target area is emptied at acceptance. -/
def execStageBegin (m : CMsg) (s : State) : Host.Outcome State Fault Refusal :=
  let cls := be m.body 0 1
  let total := be m.body 8 8
  .next (s.message m 0x30 (if cls == 2 || cls == 3 then 4 else 3) true false
    (fun _ s => [
      mchk (m.body.length == 16 && decide (1 ≤ cls ∧ cls ≤ 3) && zeroAt m.body 1 7) 0x0101 2 0,
      mchk (!s.boot.healthPending && s.boot.actWait.isNone) 0x0301 9 0,
      mchk (cls == 1 || s.mod == .maintenance) 0x0301 9 0,
      mchk (decide (imageHead cls ≤ total ∧ total ≤ imageHead cls + payloadMax cls)) 0x0101 2 0])
    (fun _ s =>
      let b := { s.boot with staging := some ⟨m.sess, cls, total, []⟩ }
      let b1 := if cls == 1 then { b with slot := b.slot.del (1 - b.active), staged := false, rejected := false }
        else { b with reserve := b.reserve.del cls }
      ({ s with boot := b1 }).result m.sess m.msgId 0 0 0 0))

/-- STAGE_BLOCK (R427): a block of up to 1 MiB at a multiple of 1 MiB within TOTAL_LEN. -/
def execStageBlock (m : CMsg) (s : State) : Host.Outcome State Fault Refusal :=
  let off := be m.body 0 8
  let d := m.body.drop 8
  .next (s.message m 0x31 3 true false
    (fun _ s => match s.boot.staging with
      | none => [mchk false 0x0301 9 0]
      | some g => [mchk (decide (9 ≤ m.body.length ∧ m.body.length ≤ 1048584 ∧ off % 1048576 = 0
          ∧ off + d.length ≤ g.total)) 0x0101 0 0])
    (fun _ s => (match s.boot.staging with
      | none => s
      | some g => { s with boot := { s.boot with staging := some { g with blocks := g.blocks.put (off / 1048576) d } } }).result
        m.sess m.msgId 0 0 0 0))

/-- The image received, in offset order; none where a block before the last is missing or short. -/
def Stage.image (g : Stage) : Option Bytes :=
  let n := g.blocks.length
  if g.blocks.keys == List.range n && (g.blocks.vals.dropLast).all (fun b => b.length == 1048576)
    && (g.blocks.vals.map List.length).foldl (· + ·) 0 == g.total then some (g.blocks.vals.flatten) else none

/-- MAGIC, CLASS and the ranges of R430. -/
def imageFormatOk (cls : Nat) (b : Bytes) : Bool :=
  let plen := le b 32 8
  le b 0 4 == 0x314D5753 && byteAt b 4 == cls && decide (byteAt b 5 ≤ 3) && (cls != 3 || byteAt b 5 == 0)
    && decide (le b 16 4 ≤ 64 ∧ 1 ≤ le b 20 2 ∧ 1 ≤ le b 22 2) && le b 24 2 == compsOf cls
    && decide (plen ≤ payloadMax cls ∧ b.length = imageHead cls + plen)
    && zeroAt b 6 2 && zeroAt b 26 6 && zeroAt b 72 184
    && (List.range (compsOf cls)).all (fun i =>
      let e := 256 + 64 * i
      decide (1 ≤ byteAt b e ∧ byteAt b e ≤ 6 ∧ le b (e + 8) 8 + le b (e + 16) 8 ≤ plen)
        && zeroAt b (e + 1) 7 && zeroAt b (e + 24) 8)

/-- Payload and component hashes. -/
def imageHashOk (cls : Nat) (b : Bytes) : Bool :=
  let p := b.drop (imageHead cls)
  be b 40 32 == (Config.sha256 p).toNat && (List.range (compsOf cls)).all (fun i =>
    let e := 256 + 64 * i
    be b (e + 32) 32 == (Config.sha256 (bytesAt p (le b (e + 8) 8) (le b (e + 16) 8))).toNat)

/-- The checks of STAGE_END in their order (R431); the NAND is read without error. -/
def State.imageChk (s : State) (cls : Nat) (b : Bytes) : MChk :=
  let n := 256 + 64 * compsOf cls
  let signer := match s.boot.keys.find (byteAt b 5) with
    | some k => if k.role == 4 && bit k.usage 2 && k.param == 2 then some k else none
    | none => none
  firstM [
    mchk (imageFormatOk cls b) 0x0101 2 0,
    mchk signer.isSome 0x0403 3 0,
    mchk (match signer with
      | some k => Config.sigVerify 2 k.pub (b.take n) (bytesAt b n 16224)
      | none => false) 0x0403 4 0,
    mchk (imageHashOk cls b) 0x0101 5 0,
    mchk (decide (s.boot.fusedSv ≤ le b 16 4)) 0x0403 6 0,
    mchk (cls != 3 || Config.trustSlot0 (b.take n)) 0x0403 14 0]

/-- What is kept of an image. -/
def imgOf (cls : Nat) (b : Bytes) : Img := ⟨le b 8 8, le b 16 4, le b 20 2, le b 22 2, b.take (256 + 64 * compsOf cls)⟩

/-- STAGE_END (R431): the staged image is verified, and kept or refused. In recovery, success is followed by a cold
start (R419). -/
def execStageEnd (m : CMsg) (s : State) : Host.Outcome State Fault Refusal :=
  .next (s.message m 0x32 3 true false
    (fun _ s => [mchk (m.body == []) 0x0101 0 0, mchk s.boot.staging.isSome 0x0301 9 0])
    (fun _ s => match s.boot.staging with
      | none => s
      | some g =>
        let s1 := { s with boot := { s.boot with staging := none } }
        let reject := fun (e : Nat × Nat × Nat) => ((s1.result m.sess m.msgId e.1 e.2.1 e.2.2 0).bootEvent 1).logAdd sevWarning 0
          0x0B14 agentNone [e.2.1]
        match g.image with
        | none => reject (0x0101, 1, 0)
        | some b =>
          match s1.imageChk g.cls b with
          | some e => reject e
          | none =>
            let i := imgOf g.cls b
            let x := s1.boot
            if g.cls != 1 then
              ({ s1 with boot := { x with reserve := x.reserve.put g.cls i } }).result m.sess m.msgId 0 0 i.version 0
            else
              let s2 := ({ s1 with boot := { x with slot := x.slot.put (1 - x.active) i, staged := true, rejected := false } }).result
                m.sess m.msgId 0 0 i.version 0
              let s3 := (s2.bootEvent 0).logAdd sevNotice 0 0x0B13 agentNone [i.version]
              if s3.boot.recovery then s3.wiped else s3))

/-! ### Activation (R433 to R435) -/

/-- ACTIVATE (R433, R434): accepted, every RUNNING or STALLED passage is asked to park; RESULT comes at P0. -/
def execActivate (m : CMsg) (s : State) : Host.Outcome State Fault Refusal :=
  let w := be m.body 0 2
  .next (s.message m 0x40 3 true true
    (fun _ s =>
      let i := s.boot.slot.get (1 - s.boot.active) ⟨0, 0, 0, 0, []⟩
      [mchk (m.body.length == 2 && decide (w ≤ 3600)) 0x0101 0 0,
       mchk (s.boot.staged || s.boot.rejected) 0x0301 8 0,
       mchk (!s.boot.rejected) 0x0301 13 0,
       mchk (s.mod == .ready && !s.boot.healthPending && s.boot.actWait.isNone) 0x0301 9 0,
       mchk (decide (s.boot.fusedSv ≤ i.sv)) 0x0403 6 0,
       mchk (decide (s.boot.cfgVersion ≤ i.cfg ∧ i.cfg ≤ s.boot.cfgVersion + 2)) 0x0301 10 0,
       mchk (decide (s.boot.handover ≤ i.hand ∧ i.hand ≤ s.boot.handover + 2)) 0x0301 11 0])
    (fun _ s =>
      let i := s.boot.slot.get (1 - s.boot.active) ⟨0, 0, 0, 0, []⟩
      (({ s with boot := { s.boot with actWait := some (s.ns, if w == 0 then 600 else w, m.sess, m.msgId) } }).parkForAct).logAdd
        sevNotice 0 0x0B15 agentNone [i.version]))

/-- Something that P0 waits for is in progress (R434). -/
def State.busyForP0 (s : State) : Bool :=
  s.psg.any (fun e => e.2.st == .running || e.2.st == .stalled)
    || s.topo.plot.any (fun e => e.2.st == 2 || e.2.releasing)
    || s.skk.binding.any (fun e => e.2.st == 2)
    || s.sxt.takes.any (·.dark)
    || s.plane.mirror.any (fun e => e.2.st == .moving || e.2.st == .acquiring)
    || s.hif.execs != []

/-- ACTIVATION_P0 (R434): the boot record is written, RESULT is sent, and the pause starts. -/
def execActivationP0 (s : State) : Host.Outcome State Fault Refusal :=
  .next (match s.boot.actWait with
    | none => s
    | some (_, _, id, msg) =>
      if s.mod != .ready || !s.alive || s.busyForP0 then s
      else
        let b := s.boot
        let s1 := { s with boot := { b with
          active := 1 - b.active, trial := true, trialStarts := 0, fallback := false, recSeq := b.recSeq + 1, actWait := none } }
        (s1.result id msg 0 0 0 0).beginPause .activating ⟨2, s.ns, 0, 0⟩)

/-- ACTIVATION_ABANDONED (R434): P0 has not come by A0 + WAIT_S. -/
def execActivationAbandoned (s : State) : Host.Outcome State Fault Refusal :=
  .next (match s.boot.actWait with
    | none => s
    | some (a0, w, id, msg) =>
      let s1 := s.advanceTo (a0 + w * 1000000000)
      let arg := match s1.psg.find? (fun e => e.2.st == .running || e.2.st == .stalled) with
        | some e => e.1
        | none => 0
      (s1.result id msg 0x0310 12 arg 0).abandonAct arg)

/-! ### Health and fallback (R437, R438) -/

/-- HEALTH_CONFIRMED (R438): every check has passed, C2 not before T0 + 30 s. -/
def execHealthConfirmed (s : State) : Host.Outcome State Fault Refusal :=
  .next (if !s.boot.healthPending || s.boot.fbWait.isSome || s.paused then s
    else
      let s1 := s.advanceTo (s.boot.t0 + 30000000000)
      let b := s1.boot
      let s2 := ({ s1 with boot := { b with
        trial := false, recSeq := b.recSeq + 1, cfgKept := none, healthPending := false, checks := 0x3F } }).raiseSv b.image.sv
      (s2.bootEvent 4).logAdd sevNotice 0 0x0B18 agentNone [s2.boot.fusedSv])

/-- HEALTH_FALLBACK (R438): a check fails, or 300 s pass; passages are asked to park. -/
def execHealthFallback (failed : Fin 64) (s : State) : Host.Outcome State Fault Refusal :=
  .next (if !s.boot.healthPending || s.boot.fbWait.isSome || s.paused then s
    else
      let s1 := if failed.val == 0 then s.advanceTo (s.boot.t0 + 300000000000) else s
      ({ s1 with boot := { s1.boot with fbWait := some (s1.ns, failed.val) } }).parkForAct)

/-- FALLBACK_PARK_END (R438): every passage is parked, or 60 s have passed and those not parked are aborted; the other
slot is activated with the kept configuration copy. -/
def execFallbackParkEnd (s : State) : Host.Outcome State Fault Refusal :=
  .next (match s.boot.fbWait with
    | none => s
    | some (at_, failed) =>
      if s.paused then s
      else
        let late := s.psg.filter (fun e => e.2.st == .running || e.2.st == .stalled)
        let s1 := if late == [] then s else s.advanceTo (at_ + 60000000000)
        let s2 := late.foldl (fun s e => s.abortPassage (e.1 / 256) (e.1 % 256) 1) s1
        ({ s2 with boot := s2.boot.fallBack }).beginPause .activating ⟨3, s2.ns, failed, late.length⟩)

/-! ### Loader, restart (R427, R440) -/

/-- LOADER_COMMIT (R440): a staged loader or trust store is installed in a pause of its own; commands in execution
complete before it (R94). -/
def execLoaderCommit (m : CMsg) (s : State) : Host.Outcome State Fault Refusal :=
  let cls := be m.body 0 1
  .next (if s.hif.execs != [] then s
    else s.message m 0x41 4 true true
      (fun _ s => [
        mchk (m.body.length == 1 && (cls == 2 || cls == 3)) 0x0101 0 0,
        mchk (s.mod == .maintenance && !(s.psg.any (fun e => e.2.st == .armed || e.2.st == .running || e.2.st == .stalled))) 0x0301 9 0,
        mchk (s.boot.reserve.has cls) 0x0301 8 0])
      (fun _ s => (s.result m.sess m.msgId 0 0 0 0).beginPause .loaderUpdate ⟨4, s.ns, cls, 0⟩))

/-- RESTART (R427): KIND 0 asks for a warm restart, which WARM_RESTART begins; KIND 1 causes a cold start. -/
def execRestart (m : CMsg) (s : State) : Host.Outcome State Fault Refusal :=
  let kind := be m.body 0 1
  .next (s.message m 0x42 3 true true
    (fun _ s => [
      mchk (m.body.length == 1 && decide (kind ≤ 1)) 0x0101 0 0,
      mchk (kind == 1 || s.mod != .failed) 0x0504 0 0,
      mchk (kind == 1 || !s.boot.healthPending) 0x0602 0 0])
    (fun _ s =>
      let s1 := s.result m.sess m.msgId 0 0 0 0
      if kind == 1 then s1.wiped else { s1 with boot := { s1.boot with restartReq := true } }))

/-! ### Keys (R443, R444) -/

/-- A key entry's fields that ENROLL and CLAIM may carry, its SLOT apart (R443). -/
def keyFieldsOk (b : Bytes) : Bool :=
  byteAt b 1 == 1 && decide (1 ≤ byteAt b 4 ∧ byteAt b 4 ≤ 2) && zeroAt b 5 3
    && (byteAt b 4 == 2 || zeroAt b 56 16)

/-- A key is enrolled in a slot. -/
def State.putKey (s : State) (slot role usage : Nat) (b : Bytes) : State :=
  let k : Key := ⟨role, usage, byteAt b 4, bytesAt b 8 16, bytesAt b 24 48, s.secs % 2 ^ 48⟩
  ((({ s with boot := { s.boot with keys := s.boot.keys.put slot k } }).bootEvent 8).logAdd sevWarning 0 0x0B20 agentNone [slot, role])

/-- A key slot is emptied; the sessions of its key end (R428). -/
def State.dropKey (s : State) (slot : Nat) : State :=
  match s.boot.keys.find slot with
  | none => s
  | some k =>
    let s1 := (({ s with boot := { s.boot with keys := s.boot.keys.del slot } }).bootEvent 8).logAdd sevWarning 0 0x0B20 agentNone [slot, k.role]
    (s.boot.sess.filter (fun e => e.2.key == slot && e.2.role != 0)).foldl (fun s e => s.endSession e.1) s1

/-- ENROLL (R443): a key of slots 4 to 15, with a role no higher than the session's. -/
def execEnroll (m : CMsg) (s : State) : Host.Outcome State Fault Refusal :=
  let b := m.body
  .next (s.message m 0x50 3 true true
    (fun x _ => [
      mchk (b.length == 72 && decide (4 ≤ byteAt b 0 ∧ byteAt b 0 ≤ 15 ∧ 1 ≤ byteAt b 2 ∧ byteAt b 2 ≤ 3 ∧ byteAt b 3 ≤ 3)
        && keyFieldsOk b) 0x0101 0 0,
      mchk (decide (byteAt b 2 ≤ x.role)) 0x0403 0 (byteAt b 2)])
    (fun _ s => (s.putKey (byteAt b 0) (byteAt b 2) (byteAt b 3) b).result m.sess m.msgId 0 0 0 0))

/-- REVOKE (R443): a slot of 4 to 15 is emptied; a session may not revoke its own key. -/
def execRevoke (m : CMsg) (s : State) : Host.Outcome State Fault Refusal :=
  let slot := be m.body 0 1
  .next (s.message m 0x51 3 true true
    (fun x _ => [
      mchk (m.body.length == 1 && decide (4 ≤ slot ∧ slot ≤ 15)) 0x0101 0 0,
      mchk (slot != x.key) 0x0403 0 0])
    (fun _ s => (s.dropKey slot).result m.sess m.msgId 0 0 0 0))

/-- CLAIM (R444): on an UNCLAIMED module, within 600 s of a cold start, with the code fused; its key goes to slot 4 as a
Custodian with HOST and SERVICE. Three wrong codes refuse it until the next cold start. -/
def execClaim (m : CMsg) (s : State) : Host.Outcome State Fault Refusal :=
  let b := m.body.drop 16
  .next (match s.takeMsg m 0x52 false with
    | none => s
    | some (x, s1) =>
      let wrong := (Config.sha256 (m.body.take 16)).toNat != s1.fuse.claim
      match firstM [
          mchk (m.body.length == 88 && keyFieldsOk b) 0x0101 0 0,
          mchk (!s1.boot.claimed && decide (s1.upMs ≤ 600000) && decide (s1.boot.claimBad < 3)) 0x0301 9 0] with
      | some e => s1.result m.sess m.msgId e.1 e.2.1 e.2.2 0
      | none =>
        if wrong then
          ({ s1 with boot := { s1.boot with
            claimBad := s1.boot.claimBad + 1, claimFails := s1.boot.claimFails.upd x.port 0 (satInc 16) } }).result m.sess m.msgId 0x0403 0 0 0
        else ((s1.putKey 4 3 3 b).logAdd sevNotice 0 0x0B21 agentNone []).result m.sess m.msgId 0 0 0 0)

/-- UNCLAIM (R444): slots 4 to 15 are emptied. -/
def execUnclaim (m : CMsg) (s : State) : Host.Outcome State Fault Refusal :=
  .next (s.message m 0x53 4 true true (fun _ _ => [mchk (m.body == []) 0x0101 0 0])
    (fun _ s => (((List.range 16).drop 4).foldl State.dropKey (s.result m.sess m.msgId 0 0 0 0))))

/-! ### Trust commands (R445 to R447) -/

/-- FW_QUERY (R446). -/
def cmdFwQuery (r : Req) (s : State) : CmdOut :=
  guarded s [ranges [(16, r.z 16)]]
    (ok s s.boot.fwActive (s.boot.stateBits + s.boot.cfgVersion % 2 ^ 16 * 2 ^ 16 + s.healthLeft * 2 ^ 32 + s.boot.fusedSv * 2 ^ 48))

/-- The 96-byte entry of a key slot (R443). -/
def keyEntry (b : Boot) (n : Nat) : Bytes :=
  match b.keys.find n with
  | none => leBytes 1 n ++ zeros 95
  | some k => leBytes 1 n ++ [1] ++ leBytes 1 k.role ++ leBytes 1 k.usage ++ leBytes 1 k.param ++ zeros 3 ++ padTo 16 k.label
      ++ padTo 48 k.pub ++ leBytes 6 k.at_ ++ zeros 18

/-- The rows of KEY_LIST and MEASUREMENTS. -/
def resultRows (r : Req) (least : Nat) : List (Nat × Bool) :=
  [(0, r.b 0 8 % 32 == 0), (8, decide (least ≤ r.b 8 4)), (12, zeroAt r.params 12 4)]

/-- KEY_LIST (R446). -/
def cmdKeyList (r : Req) (s : State) : CmdOut :=
  guarded s [ranges (resultRows r 1536)]
    (ok (s.emit (.hostWrite (r.b 0 8) ((List.range 16).flatMap (keyEntry s.boot)))) s.boot.keys.length 0)

/-- The digest of component KIND `k` in an image's entries. -/
def compDigest (h : Bytes) (k : Nat) : Nat :=
  match (List.range 4).find? (fun i => byteAt h (256 + 64 * i) == k) with
  | some i => be h (256 + 64 * i + 32) 32
  | none => (Config.shippedMeasure (10 + k)).toNat

/-- A measurement: VERSION of the item, or 0, and its SHA-256 (R445). -/
def State.measurement (s : State) (i : Nat) : Nat × Nat :=
  let b := s.boot
  let img := b.image
  let shipped := fun (x : Option Img) => match x with
    | some y => (y.version, be y.head 40 32)
    | none => (0, (Config.shippedMeasure i).toNat)
  match i with
  | 0 => (0, Config.romMeasure.toNat)
  | 1 => (0, (Config.fuseMeasure b.fusedSv b.claimed).toNat)
  | 2 => shipped b.loader
  | 3 => shipped b.trust
  | 4 => (0, (Config.bankMeasure (((List.range 16).drop 4).flatMap (keyEntry b))).toNat)
  | 5 => (img.version, (Config.sha256 img.head).toNat)
  | _ => (img.version, compDigest img.head (i - 5))

/-- The ten entries of MEASUREMENTS. -/
def State.measureEntries (s : State) : Bytes :=
  (List.range 10).flatMap (fun i =>
    let x := s.measurement i
    leBytes 1 i ++ zeros 7 ++ leBytes 8 x.1 ++ beBytes 32 x.2)

/-- MEASUREMENTS (R446). -/
def cmdMeasurements (r : Req) (s : State) : CmdOut :=
  guarded s [ranges (resultRows r 480)] (ok (s.emit (.hostWrite (r.b 0 8) s.measureEntries)) 10 0)

/-- The report of R447 up to its signature. -/
def State.report (s : State) (nonce : Bytes) : Bytes :=
  leBytes 4 1 ++ leBytes 4 33924 ++ padTo 32 nonce ++ padTo 16 s.fuse.serial ++ leBytes 8 s.boot.fwActive
    ++ leBytes 4 s.boot.fusedSv ++ leBytes 1 s.boot.active ++ leBytes 1 s.mod.code ++ [10, 0]
    ++ leBytes 6 s.secs ++ leBytes 4 (s.ns % 1000000000) ++ zeros 14 ++ padTo 32 Config.identityKey
    ++ s.measureEntries ++ zeros 4 ++ padTo 16224 Config.identityCert

/-- ATTEST (R446, R447). -/
def cmdAttest (r : Req) (s : State) : CmdOut :=
  guarded s [ranges [(32, r.b 32 8 % 32 == 0), (40, decide (33924 ≤ r.b 40 4)), (44, zeroAt r.params 44 4)]]
    (let body := s.report (r.params.take 32)
     ok (s.emit (.hostWrite (r.b 32 8) (body ++ padTo 17088 (Config.attestSign body)))) 33924 0)

end Sys2Proof.Machine
end

