-- ==== Sys2Proof/Machine/Faults.lean ====
section
/-! DEFINITION. Protection of memory, scrub, retirement, saturation, die-to-die links and temperatures
(15 R450 to R469; 16 R484, R486). Memories: 1 stacked SRAM, 2 HBM, 3 base-die SRAM; 0 stands for the newt caches. -/

namespace Sys2Proof.Machine

/-! ### Corrections (R451, R452) -/

/-- Key of a tile, stack or bank. -/
def corrKey (mem unit : Nat) : Nat := 65536 * mem + unit

/-- Source of the corrections and of the uncorrectable reads of a memory (R469). -/
def corrSource (mem : Nat) : Nat := 0xC00 + 2 * (mem - 1)

/-- Corrections of a unit since an instant. -/
def State.correctedSince (s : State) (key t0 : Nat) : Nat :=
  (((s.mem.corr.get key []).filter (fun e => decide (t0 ≤ e.1))).map Prod.snd).foldl (· + ·) 0

/-- Corrections are counted; more than 60 in 60 s raise MEM_CORRECTABLE, with one WARNING for each rise (R452). -/
def State.addCorr (s : State) (mem unit n : Nat) : State :=
  let key := corrKey mem unit
  let kept : List (Nat × Nat) := (s.mem.corr.get key []).filter (fun e => decide (s.ns < e.1 + 600000000000))
  let s1 := ({ s with mem := { s.mem with corr := s.mem.corr.put key ((s.ns, n) :: kept) } }).count (corrSource mem) unit n
  let c : Nat := s1.correctedSince key (s1.ns - 60000000000)
  if decide (60 < c) && !s1.mem.rateHigh.contains key then
    ({ s1 with mem := { s1.mem with rateHigh := s1.mem.rateHigh ++ [key] } }).logAdd sevWarning 0 0x0C01 agentNone [mem, unit, c]
  else s1

/-- MEM_REPAIR (R451): HBM takes a soft repair at once and a hard one at the next cold start; the SRAMs theirs then. -/
def execMemRepair (mem : Fin 4) (addr : Nat) (s : State) : Host.Outcome State Fault Refusal :=
  .next (if mem.val == 0 then s
    else
      let s1 := { s with mem := { s.mem with repairs := s.mem.repairs ++ [(mem.val, addr)] } }
      (s1.count 0xC07 mem 1).logAdd sevNotice 0 0x0C02 agentNone [mem, addr, if mem.val == 2 then 0 else 1])

/-- The instant from which fewer than 6 corrections lie in the last 600 s: newest first, until six are counted. -/
def clearAt : List (Nat × Nat) → Nat → Nat
  | [], _ => 0
  | (t, n) :: rest, seen => if decide (6 ≤ seen + n) then t + 600000000000 + 1 else clearAt rest (seen + n)

/-- MEM_CORRECTABLE_CLEAR (R452): fewer than 6 corrections in the last 600 s. -/
def execMemCorrectableClear (mem : Fin 4) (idx : Nat) (s : State) : Host.Outcome State Fault Refusal :=
  .next (let key := corrKey mem idx
    if !s.mem.rateHigh.contains key then s
    else
      let s1 := s.advanceTo (clearAt (s.mem.corr.get key []) 0)
      { s1 with mem := { s1.mem with rateHigh := s1.mem.rateHigh.filter (· != key) } })

/-! ### Poison (R453, R454) -/

/-- An uncorrectable location is poisoned; the map holds 65,536, and the one that fills it is reported. -/
def State.poison (s : State) (mem addr consumer : Nat) : State :=
  let known := s.mem.poison.contains (mem, addr)
  let room := decide (s.mem.poison.length < 65536)
  let s1 := if known || !room then s
    else ({ s with mem := { s.mem with poison := s.mem.poison ++ [(mem, addr)] } }).count 0xC08 mem 1
  let s2 := { s1 with hif := { s1.hif with memUnc := true } }
  let s3 := (s2.count (corrSource mem + 1) (Config.memUnit mem addr).toNat 1).logAdd sevError 0 0x0C03 agentNone [mem, addr, consumer]
  if !known && s3.mem.poison.length == 65536 && s.mem.poison.length != 65536 then s3.logAdd sevCritical 0 0x0C04 agentNone [] else s3

/-- ERROR naming tensor, leg and element range of a passage (R247, R454). -/
def State.rangeError (s : State) (slice pid : Nat) (name : String) : State :=
  match s.psg.find (psgKey slice pid) with
  | none => s
  | some p => s.logAdd sevError slice (evNamed 5 name) (agentPassage slice pid) [p.tensor, p.leg, 0, p.elems]

/-- Position of an element in a residual area's set. -/
def residPos (e : Nat) : List (Nat × Nat) → Nat → Nat
  | [], n => n
  | (f, c) :: t, n => if decide (f ≤ e ∧ e < f + c) then n + (e - f) else residPos e t (n + c)

/-- The residuals of the 32-byte word that holds an element are zeroed and counted, with one WARNING for each iteration
(R247). -/
def State.loseResidWord (s : State) (slice tensor e : Nat) : State :=
  match s.skk.resid.find (tensorKey slice tensor) with
  | none => s
  | some a =>
    let n := if a.wide then 8 else 16
    let word := fun (x : Nat) => residPos x a.ranges 0 / n
    let s1 := (a.vals.keys.filter (fun x => word x == word e)).foldl (fun s x => s.zeroResid slice tensor x) s
    let more := fun (x : Nat × Nat × Nat × Nat) => (x.1, x.2.1, x.2.2.1, satInc 16 x.2.2.2)
    let s2 := ({ s1 with skk := { s1.skk with num := s1.skk.num.upd slice (0, 0, 0, 0) more } }).skkEvent 4
    match (s2.passagesOf slice).find? (fun p => p.2.tensor == tensor && p.2.st.live) with
    | none => s2.logAdd sevWarning slice (evNamed 5 "RESIDUAL_LOST") agentNone [tensor, e]
    | some p =>
      if p.2.residNoted == some p.2.iter then s2
      else (s2.updPsg slice p.1 (fun p => { p with residNoted := some p.iter })).logAdd sevWarning slice
        (evNamed 5 "RESIDUAL_LOST") (agentPassage slice p.1) [tensor, e]

/-- A state word of a binding is lost: the binding is DAMAGED, and a pass over it stops and aborts its passage, PARTIAL
set and the counter not advanced (R273, R277). -/
def State.damage (s : State) (slice tensor comp e : Nat) : State :=
  match s.bindingOf slice tensor with
  | none => s
  | some _ =>
    let users := (s.passagesOf slice).filter (fun p => p.2.tensor == tensor && s.passRuns slice p.2)
    let s1 := users.foldl (fun s p =>
      (s.abortPassage slice p.1 1).logAdd sevError slice (evNamed 5 "OPT_STATE_DAMAGED") (agentPassage slice p.1) [tensor, comp, e]) s
    match s1.bindingOf slice tensor with
    | none => s1
    | some b => s1.putBinding slice tensor { b with
        st := if b.st == 2 then 2 else 3, damaged := b.damaged ++ [(comp, e)] }

/-- The held record whose slot is lost: a TRUNCATION record stands in its place. -/
def truncRec (t : TRec) : TRec :=
  { t with typ := 0xD, body := padTo 16 (leBytes 4 t.seq ++ leBytes 4 1 ++ leBytes 2 (2 ^ t.typ)) }

/-- A list with its element `n` changed. -/
def changeAt {α : Type} (f : α → α) : List α → Nat → List α
  | [], _ => []
  | x :: t, 0 => f x :: t
  | x :: t, n + 1 => x :: changeAt f t n

/-- What the consumer of an uncorrectable read does (R454), by the row of its table: `obj` is the passage (rows 1 and
3), tensor + 2^16 × element (2), tensor + 2^16 × component + 2^20 × element (4), window offset (5), 16 × function + ring
(6), request (7), record (8), epoch (9), core (12). -/
def State.consume (s : State) (mem addr consumer slice obj : Nat) : State :=
  match consumer with
  | 1 => ((s.rangeError slice obj "ACC_UNCORRECTABLE").skkEvent 5).abortPassage slice obj 1
  | 2 => s.loseResidWord slice (obj % 65536) (obj / 65536)
  | 3 => (s.rangeError slice obj "SOURCE_UNCORRECTABLE").abortPassage slice obj 1
  | 4 => s.damage slice (obj % 65536) (obj / 65536 % 16) (obj / 2 ^ 20)
  | 5 => s.updSlice slice (fun x => { x with
      windowBad := if x.windowBad.contains (obj / 64) then x.windowBad else x.windowBad ++ [obj / 64] })
  | 6 => (match s.ringExec (obj / 16) (obj % 16) with
      | some e => s.completeExec e 0x0503 mem addr
      | none => s)
  | 7 => (match s.fm.reqs.find? (·.ref == obj) with
      | some r => ({ s with fm := { s.fm with ops := s.fm.ops.filter (·.ref != obj) } }).finishReq r 0x0503 []
      | none => s)
  | 8 =>
    let t := s.bnc.trace
    { s with bnc := { s.bnc with trace :=
      if obj < t.main.length then { t with main := changeAt truncRec t.main obj }
      else { t with post := changeAt truncRec t.post (obj - t.main.length) } } }
  | 9 => { s with bnc := { s.bnc with snaps := s.bnc.snaps.map (fun (x : Snap) => if x.epoch == obj then { x with bad := true } else x) } }
  | 10 =>
    if s.log.mode == 2 then s
    else
      let m := s.log.mode + 1
      let lost := s.log.entries.foldl (fun t e => Tbl.upd t e.sev 0 (satInc 32)) s.log.lost
      let n := s.log.entries.length
      let s1 := { s with log := { s.log with mode := m, entries := [], lost := lost, events := setBit s.log.events (m - 1) } }
      s1.logAdd sevCritical 0 (0x0A01 + m) agentNone (if m == 1 then [addr, n] else [addr])
  | 12 => if s.alive && (s.mod == .ready || s.mod == .maintenance) then s.unplanned 3 obj else s
  | _ => s

/-- MEM_UNCORRECTABLE (R453, R454): the location is poisoned and its consumer responds; the newt caches have no
location to poison. -/
def execMemUncorrectable (mem : Fin 4) (addr : Nat) (consumer : Fin 14) (slice : Fin 64) (obj : Nat) (s : State) :
    Host.Outcome State Fault Refusal :=
  .next ((if mem.val == 0 then s else s.poison mem addr consumer).consume mem addr consumer slice obj)

/-! ### Scrub (R455) -/

/-- Bytes of a memory. -/
def State.memBytes (s : State) (mem : Nat) : Nat :=
  match mem with
  | 1 => 6144 * 2 ^ 20
  | 2 => s.hbmBytes
  | 3 => 192 * 2 ^ 20
  | _ => 0

/-- SCRUB_PASS (R455): a pass over a memory ends, with the corrections it made and the locations it found uncorrectable;
or it is not finished at twice its period, and becomes overdue. It pauses with cluster 3 and in a pause (R405). -/
def execScrubPass (mem : Fin 4) (overdue : Bool) (corrected : List (Nat × Nat)) (bad : List Nat) (s : State) :
    Host.Outcome State Fault Refusal :=
  .next (if mem.val == 0 || s.calPaused then s
    else
      let s1 := corrected.foldl (fun s e => s.addCorr mem e.1 e.2) s
      let s2 := bad.foldl (fun s a => s.poison mem a 0) s1
      if overdue then
        if s2.mem.overdue.contains mem.val then s2
        else ({ s2 with mem := { s2.mem with overdue := s2.mem.overdue ++ [mem.val] } }).logAdd sevNotice 0 0x0C0B agentNone [mem]
      else
        let s3 := s2.count 0xC06 mem (s2.memBytes mem)
        { s3 with mem := { s3.mem with overdue := s3.mem.overdue.filter (· != mem.val) } })

/-! ### Retirement (R456) -/

/-- A passage has a stripe on a unit: one that is open, or one of the tensor that its optimizer pass steps (R217). -/
def State.usesUnit (s : State) (slice u : Nat) (p : Passage) : Bool :=
  let on := fun (st : Nat) => p.units.getD (st % max 1 p.units.length) 64 == u
  p.st.live && (p.stripes.keys.any (fun k => on (k % 2 ^ 40)) ||
    (s.passRuns slice p && (match s.bindingOf slice p.tensor with
      | some b => b.blocks.any (fun blk => on (stripeOf blk))
      | none => false)))

/-- UNIT_KNOWN_ANSWER_TEST (R456): a unit that fails leaves service; every passage with a stripe on it is aborted (R247). -/
def execUnitKnownAnswerTest (u : Fin 48) (pass : Bool) (s : State) : Host.Outcome State Fault Refusal :=
  .next (if pass || s.skk.retired.contains u.val then s
    else
      let hit := s.psg.filter (fun e => s.usesUnit (e.1 / 256) u e.2)
      let s1 := ({ s with skk := { s.skk with retired := s.skk.retired ++ [u.val] } }).skkEvent 6
      let s2 := s1.logAdd sevError 0 0x0C06 (agentKind 5 u) [u]
      hit.foldl (fun s e => s.abortPassage (e.1 / 256) (e.1 % 256) 1) s2)

/-- HBM_STACK_FAILED (R456): the stack's interface is lost, and every access to it is uncorrectable until a cold start.
An activation that waits is abandoned, since C6 cannot pass (R467). -/
def execHbmStackFailed (k : Fin 8) (s : State) : Host.Outcome State Fault Refusal :=
  .next (if decide (s.fuse.stacks ≤ k.val) || s.mem.badStacks.contains k.val || s.mem.deadStacks.contains k.val then s
    else
      let s1 := { s with mem := { s.mem with deadStacks := s.mem.deadStacks ++ [k.val] } }
      let s2 := s1.logAdd sevCritical 0 0x0C05 (agentKind 9 k) [k]
      if s2.boot.actWait.isSome then s2.abandonAct 0 else s2)

/-! ### Saturation (R461) -/

/-- Key of a resource and a slice. -/
def overKey (res n : Nat) : Nat := 64 * res + n

/-- One slice in one interval at one resource. -/
def State.overSlice (s : State) (res n : Nat) (oversub : Bool) : State :=
  let k := overKey res n
  let held := s.mem.overAlarm.contains (res, n)
  if oversub then
    let run := min 1000 (s.mem.overMs.get k 0 + 1)
    let s1 := ({ s with mem := { s.mem with
      overMs := s.mem.overMs.put k run, calm := s.mem.calm.del k
      overAlarm := if decide (1000 ≤ run) && !held then s.mem.overAlarm ++ [(res, n)] else s.mem.overAlarm } }).count 0xC11 n 1
    s1
  else if !held then { s with mem := { s.mem with overMs := s.mem.overMs.del k } }
  else
    let c := s.mem.calm.get k 0 + 1
    { s with mem := { s.mem with
      overMs := s.mem.overMs.del k
      calm := if decide (1000 ≤ c) then s.mem.calm.del k else s.mem.calm.put k c
      overAlarm := if decide (1000 ≤ c) then s.mem.overAlarm.filter (· != (res, n)) else s.mem.overAlarm } }

/-- SATURATION_INTERVAL (R461): 1 ms of one resource ends. `busy` is in µs of it, `waited` counts the requests that
waited, and `waits` gives the µs that each slice's requests waited. Intervals inside a pause neither count nor break. -/
def execSaturationInterval (resource : Fin 7) (busy : Nat) (waited : Nat) (waits : List (Nat × Nat)) (s : State) :
    Host.Outcome State Fault Refusal :=
  .next (let s0 := s.advanceTo (s.nextMultiple 1000000)
    if resource.val == 0 || s0.ringsPaused then s0
    else
      let sat := decide (980 ≤ busy) && decide (0 < waited)
      let oversub := fun (n : Nat) => sat && waits.any (fun w => w.1 == n && decide (500 ≤ w.2))
      let s1 := if sat then s0.count 0xC10 resource 1 else s0
      let s2 := ((List.range 64).drop 1).foldl (fun s n => s.overSlice resource n (oversub n)) s1
      let new := ((List.range 64).drop 1).filter (fun n =>
        s2.mem.overAlarm.contains (resource.val, n) && !s1.mem.overAlarm.contains (resource.val, n))
      let due := match s2.mem.overWarn.find resource with
        | some t => decide (t + 60000000000 ≤ s2.ns)
        | none => true
      if new == [] || !due then s2
      else ({ s2 with mem := { s2.mem with overWarn := s2.mem.overWarn.put resource s2.ns } }).logAdd sevWarning 0 0x0C10 agentNone
        [resource, maskOf 64 new.contains, 1000])

/-! ### Die-to-die ports (R465) -/

/-- DIE_LINK_LANE_FAIL (R465): a lane is spared; with a third lane, or with training lost for 100 ms, the port fails and
so do the terminated ports of its I/O die, until the next cold start. -/
def execDieLinkLaneFail (die : Fin 4) (lane : Nat) (trainingLost : Bool) (s : State) : Host.Outcome State Fault Refusal :=
  .next (if decide (s.fuse.ioDies ≤ die.val) || s.mem.deadDies.contains die.val then s
    else
      let n := s.mem.lanes.get die 0
      if !trainingLost && decide (n < 2) then
        ({ s with mem := { s.mem with lanes := s.mem.lanes.put die (n + 1) } }).logAdd sevNotice 0 0x0C08 agentNone [die, lane]
      else
        let s1 := ({ s with mem := { s.mem with deadDies := s.mem.deadDies ++ [die.val] } }).logAdd sevCritical 0 0x0C09 agentNone [die]
        ((List.range 64).map (· + 64 * die.val)).foldl (fun s p => s.failPort p) s1)

/-! ### Temperatures (R466, R486) -/

/-- A thermal stop ends below 100 °C: frames that waited go on. -/
def State.thermResume (s : State) (temp : Int) : State :=
  if s.mem.thermStop && decide (temp < 10000) then ({ s with mem := { s.mem with thermStop := false } }).retryAll else s

/-- THROTTLE_STEP (R466): every 10 ms the issue rate falls by an eighth above 100 °C, to a quarter at least, and rises by
an eighth below 95 °C. -/
def execThrottleStep (temp : Int) (s : State) : Host.Outcome State Fault Refusal :=
  .next (let s1 := (s.advanceTo (s.nextMultiple 10000000)).thermResume temp
    if decide (10000 < temp) then
      let r := max 2 (s1.mem.rate - 1)
      let s2 := { s1 with mem := { s1.mem with rate := r } }
      let due := match s1.mem.throttleAt with
        | some t => decide (t + 3600000000000 ≤ s1.ns)
        | none => true
      if due then ({ s2 with mem := { s2.mem with throttleAt := some s2.ns } }).logAdd sevError 0 0x0D12 agentNone [r * 125 / 10]
      else s2
    else if decide (temp < 9500) then { s1 with mem := { s1.mem with rate := min 8 (s1.mem.rate + 1) } }
    else s1)

/-- THERMAL_STOP (R466): above 110 °C for 1 s skink units and HBM traffic stop, until below 100 °C. -/
def execThermalStop (temp : Int) (s : State) : Host.Outcome State Fault Refusal :=
  .next (if decide (11000 < temp) && !s.mem.thermStop then
      ({ s with mem := { s.mem with thermStop := true } }).logAdd sevCritical 0 0x0D13 agentNone [toTwos 64 temp]
    else s.thermResume temp)

/-- Recommended limit of a temperature sensor in 0.01 °C (R486), in the row order of its table; none for the others. -/
def sensorLimit (sensor : Nat) : Option Int :=
  match sensor with
  | 0 => some 9500 | 1 => some 9500 | 2 => some 8500 | 3 => some 9500
  | 4 => some 7500 | 5 => some 7000 | 6 => some 5500 | 7 => some 5000
  | _ => none

/-- A WARNING of a sensor is due: none within 10 minutes. -/
def State.sensorDue (s : State) (sensor : Nat) : Bool :=
  match s.mem.warnAt.find sensor with
  | some t => decide (t + 600000000000 ≤ s.ns)
  | none => true

/-- SENSOR_LIMIT (R466, R484): a reading of temperature sensor 0 to 7, or of the coolant (sensor 8): flow in 0.1 L/min
and inlet in 0.01 °C. Its alarm stands while the reading is out of range. Telemetry pauses with cluster 3 (R405). -/
def execSensorLimit (sensor : Fin 16) (reading : Int) (second : Int) (s : State) : Host.Outcome State Fault Refusal :=
  .next (if s.calPaused then s
    else if sensor.val == 8 then
      let out := decide (reading < 180) || decide (second < 2000) || decide (4500 < second)
      let s1 := { s with mem := { s.mem with coolantOut := out } }
      if out && s.sensorDue 8 then
        ({ s1 with mem := { s1.mem with warnAt := s1.mem.warnAt.put 8 s1.ns } }).logAdd sevWarning 0 0x0D11 agentNone
          [toTwos 64 reading, toTwos 64 second]
      else s1
    else match sensorLimit sensor with
      | none => s
      | some lim =>
        let rest := s.mem.hot.filter (· != sensor.val)
        if decide (reading ≤ lim) then { s with mem := { s.mem with hot := rest } }
        else
          let s1 := { s with mem := { s.mem with hot := rest ++ [sensor.val] } }
          if s.sensorDue sensor then
            ({ s1 with mem := { s1.mem with warnAt := s1.mem.warnAt.put sensor s1.ns } }).logAdd sevWarning 0 0x0D10 agentNone
              [sensor, toTwos 64 reading]
          else s1)

/-- MOD_FAULT_N is low (R476): FAILED, a start that has stopped, no input. -/
def State.faultLow (s : State) : Bool := s.mod == .failed || !s.alive

end Sys2Proof.Machine
end

