-- ==== Sys2Proof/Machine/Maint.lean ====
section
/-! DEFINITION. Maintenance mode: its entry, the drain and its exit (13 R402, R407). -/

namespace Sys2Proof.Machine

/-- MAINT_ENTER (R402): the module is in MAINTENANCE at once; the command completes when no fabric-memory request is
outstanding. -/
def cmdMaintEnter (r : Req) (s : State) : CmdOut :=
  let reason := r.b 0 1
  guarded s [
      ranges [(0, decide (reason ≤ 2)), (1, zeroAt r.params 1 7)],
      chk (s.mod == .ready) 0x0301 s.mod.code 0,
      match s.psg.find? (fun e => e.2.st == .armed || e.2.st == .running || e.2.st == .stalled) with
      | some e => some (0x0301, e.2.st.code, e.1)
      | none => none]
    (let s1 := ({ s with mod := .maintenance }).logAdd sevNotice 0 0x0A20 agentNone [reason, r.b 26 1]
     if s1.fm.reqs == [] then ok s1 0 0 else .wait s1 (.drain s1.fm.reqs.length))

/-- MAINT_DRAIN_DONE (R402): no request is outstanding any more. -/
def execMaintDrainDone (s : State) : Host.Outcome State Fault Refusal :=
  .next (match s.hif.execs.find? (fun e => match e.wait with
      | .drain _ => true
      | _ => false) with
    | none => s
    | some e => (match e.wait with
      | .drain n => if s.fm.reqs == [] then s.completeExec e 0 n 0 else s
      | _ => s))

/-- MAINT_EXIT (R407): breakpoints are cleared and cores resume, test mirrors park and lasers are released; then READY,
or with RESTART a warm restart first, for which the command waits. -/
def cmdMaintExit (r : Req) (s : State) : CmdOut :=
  let restart := r.p 16 1 == 1
  guarded s [
      ranges [(16, decide (r.p 16 1 ≤ 1)), (17, r.z 17)],
      chk (s.mod == .maintenance) 0x0301 s.mod.code 0]
    (let cores := (s.bnc.core.filter (fun e => e.2.st != 0)).length
     let s1 := (({ s with bnc := { s.bnc with core := [] } }).flushLog.parkTestMirrors).releaseLasers
     if restart then .wait s1 (.exitRestart cores)
     else ok (({ s1 with mod := .ready }).logAdd sevNotice 0 0x0A21 agentNone [0]) cores 0)

end Sys2Proof.Machine
end

