-- ==== Sys2Proof/Machine/Commands.lean ====
section
/-! DEFINITION. The host commands as the module starts them: IDENTIFY, NOP and FUNCTION_QUERY, the rows of the 63
commands, the fetch of a ring with checks 1 to 4 of R97, and single-step (03_host_interface). -/

namespace Sys2Proof.Machine

/-! ### IDENTIFY, NOP, FUNCTION_QUERY (R105, R106) -/

/-- The part number of a variant (R1, R105). -/
def partNumber (variant : Nat) : Bytes :=
  padTo 16 (ascii (if variant == 0x48 then "EN-MW2-48" else if variant == 0x44 then "EN-MW2-44"
    else if variant == 0x28 then "EN-MW2-28" else "EN-MW2-24"))

/-- VARIANT, IO_DIES and HBM_STACKS as one byte each. -/
def Fuse.idBytes (f : Fuse) : Bytes := leBytes 1 f.variant ++ leBytes 1 f.ioDies ++ leBytes 1 f.stacks

/-- The 256-byte identity block (R105). -/
def State.identity (s : State) (fn : Nat) : Bytes :=
  padTo 256 (partNumber s.fuse.variant ++ s.fuse.idBytes ++ leBytes 1 (s.hbmBytes / (48 * 2 ^ 30)) ++ zeros 4
    ++ padTo 16 s.fuse.serial ++ leBytes 1 s.topo.hall ++ leBytes 1 s.topo.rack ++ leBytes 1 s.topo.strapState ++ zeros 1
    ++ leBytes 2 1 ++ leBytes 2 1 ++ leBytes 8 s.boot.fwActive ++ leBytes 8 s.boot.fwInactive ++ leBytes 4 s.boot.fusedSv
    ++ leBytes 1 s.boot.active ++ zeros 3 ++ leBytes 8 s.hbmBytes ++ leBytes 8 6442450944 ++ leBytes 1 fn ++ leBytes 1 16
    ++ leBytes 1 63 ++ zeros 1 ++ leBytes 4 1)

/-- IDENTIFY (R105). -/
def cmdIdentify (r : Req) (s : State) : CmdOut :=
  let addr := r.p 16 8
  guarded s [ranges [(16, decide (addr ≠ 0 ∧ addr % 16 = 0)), (24, r.z 24)]]
    (ok (s.emit (.hostWrite addr (s.identity r.fn))) (le s.fuse.idBytes 0 3) 0)

/-- NOP (R106). -/
def cmdNop (r : Req) (s : State) : CmdOut :=
  guarded s [ranges [(16, r.z 16)]] (ok s s.hif.heartbeat 0)

/-- FUNCTION_QUERY (R106). -/
def cmdFunctionQuery (r : Req) (s : State) : CmdOut :=
  guarded s [ranges [(16, r.z 16)]]
    (ok s (maskOf 64 (fun n => decide (1 ≤ n ∧ n ≤ s.hif.numVfs))) (maskOf 64 (fun n => decide (1 ≤ n) && s.hasSlice n)))

/-! ### The commands by opcode (R102) -/

/-- The own part of the command of an opcode; an opcode outside the catalogue has none. -/
def runCmd (opcode : Nat) (r : Req) (s : State) : CmdOut :=
  match opcode with
  | 0x0001 => cmdIdentify r s
  | 0x0002 => cmdNop r s
  | 0x0003 => cmdFunctionQuery r s
  | 0x0101 => cmdSliceCreate r s
  | 0x0102 => cmdSliceAssign r s
  | 0x0103 => cmdSliceQuery r s
  | 0x0104 => cmdSliceReset r s
  | 0x0105 => cmdSliceDelete r s
  | 0x0106 => cmdPortAdmit r s
  | 0x0107 => cmdStandingSet r s
  | 0x0201 => cmdChartLoad r s
  | 0x0202 => cmdChartQuery r s
  | 0x0203 => cmdChartCommit r s
  | 0x0204 => cmdChartRelease r s
  | 0x0301 => cmdPassageLoad r s
  | 0x0302 => cmdPassageArm r s
  | 0x0303 => cmdPassageDoorbell r s
  | 0x0304 => cmdPassagePark r s
  | 0x0305 => cmdPassageResume r s
  | 0x0306 => cmdPassageAbort r s
  | 0x0307 => cmdPassageUnload r s
  | 0x0308 => cmdPassageQuery r s
  | 0x0401 => cmdFmWindowSet r s
  | 0x0402 => cmdQpCreate r s
  | 0x0403 => cmdQpDestroy r s
  | 0x0404 => cmdQpQuery r s
  | 0x0501 => cmdOptBind r s
  | 0x0502 => cmdOptUnbind r s
  | 0x0503 => cmdOptStateLoad r s
  | 0x0504 => cmdOptStateDump r s
  | 0x0505 => cmdProgLoad r s
  | 0x0506 => cmdProgUnload r s
  | 0x0507 => cmdResidualClear r s
  | 0x0601 => cmdCalGet r s
  | 0x0602 => cmdCalRun r s
  | 0x0603 => cmdCalConfig r s
  | 0x0604 => cmdCalQuery r s
  | 0x0701 => cmdTimeGet r s
  | 0x0702 => cmdTimeStatus r s
  | 0x0703 => cmdTimeConfig r s
  | 0x0704 => cmdTriggerSet r s
  | 0x0801 => cmdCtrSelect r s
  | 0x0802 => cmdCtrSnapshot r s
  | 0x0803 => cmdTraceConfig r s
  | 0x0804 => cmdTraceArm r s
  | 0x0805 => cmdTraceStop r s
  | 0x0806 => cmdTraceQuery r s
  | 0x0901 => cmdLogRead r s
  | 0x0902 => cmdLogNonce r s
  | 0x0903 => cmdLogClear r s
  | 0x0A01 => cmdFwQuery r s
  | 0x0A02 => cmdAttest r s
  | 0x0A03 => cmdKeyList r s
  | 0x0A04 => cmdMeasurements r s
  | 0x0B01 => cmdMaintEnter r s
  | 0x0B02 => cmdMaintExit r s
  | 0x0B03 => cmdMirrorSet r s
  | 0x0B04 => cmdLaserSet r s
  | 0x0B05 => cmdBreakSet r s
  | 0x0B06 => cmdCoreResume r s
  | _ => .done s 0x0102 opcode 0

/-! ### Fetching (R83 to R89, R95 to R97, R110, R500) -/

/-- The ring past the command it names: FETCH and EXPECT_SEQ advance, nothing is held (R88, R110). -/
def Ring.stepFetch (r : Ring) : Ring :=
  { r with fetch := (r.fetch + 1) % r.size, expectSeq := (r.expectSeq + 1) % 256, held := none, stepPending := false }

/-- Checks 2 to 4 of R97 on a 64-byte entry. -/
def headerChk (fn : Nat) (e : Bytes) : Chk :=
  let opcode := le e 0 2
  let ptr := bit (byteAt e 2) 0
  match catalogue.find opcode with
  | none => some (0x0102, opcode, 0)
  | some i => firstFail [
      ranges [(2, decide (byteAt e 2 < 4)), (8, sliceFieldOk fn opcode (le e 8 2)), (12, zeroAt e 12 4),
        (28, !ptr || zeroAt e 28 4), (32, !ptr || zeroAt e 32 32)],
      chk (ptr == i.ptr && le e 10 2 == if i.ptr then 16 else 48) 0x0103 (b2n i.ptr) 0]

/-- ADDR and LEN of the descriptor of a command by pointer (R500, 1 and 2). -/
def descrChk (i : CmdInfo) (e : Bytes) : Chk :=
  if !i.ptr then none
  else firstFail [chk (decide (le e 16 8 ≠ 0 ∧ le e 16 8 % 8 = 0)) 0x0104 1 0,
    chk (decide (1 ≤ le e 24 4 ∧ le e 24 4 ≤ 1048576)) 0x0104 2 0]

/-- The command that an entry and its block give: inline bytes 16 to 63, or LEN bytes of the block (R95, R96). -/
def Held.req (h : Held) (fn : Fin 64) (ring : Fin 16) : Req :=
  let e := h.entry
  let len := le e 24 4
  { fn := fn, ring := ring, seq := ⟨byteAt e 3 % 256, Nat.mod_lt _ (by decide)⟩, tag := le e 4 4, slice := le e 8 2
    params := if bit (byteAt e 2) 0 then (if len ≤ 1048576 then padTo len (h.block.getD []) else []) else bytesAt e 16 48
    data := h.data
    dma := if bit (byteAt e 2) 0 && h.block.isNone then .readFault else h.dma }

/-- A fetched command starts: FETCH and EXPECT_SEQ advance, and checks 2 to 9 of R97 are made. -/
def State.startCmd (s : State) (fn : Fin 64) (ring : Fin 16) (h : Held) : State :=
  let r := h.req fn ring
  let opcode := le h.entry 0 2
  let s := s.updRing fn ring Ring.stepFetch
  match headerChk fn h.entry, catalogue.find opcode with
  | none, some i => s.runReq opcode i r (descrChk i h.entry) (runCmd opcode)
  | some x, _ => s.refuseCmd opcode r x
  | none, none => s

/-- The command that a ring holds starts, unless the module is in a pause (R94, R110). -/
def State.startHeld (s : State) (fn : Fin 64) (ring : Fin 16) : State :=
  match (s.ring fn ring).held with
  | some h => if s.ringsPaused then s.updRing fn ring (fun r => { r with stepPending := true }) else s.startCmd fn ring h
  | none => s

/-- A command whose SEQ differs from EXPECT_SEQ: its completion, then the ring stops (R88). -/
def State.seqGap (s : State) (fn : Fin 64) (ring : Fin 16) (h : Held) : State :=
  let expect := (s.ring fn ring).expectSeq
  let s1 := (s.updRing fn ring Ring.stepFetch).refuseCmd (le h.entry 0 2) (h.req fn ring) (0x0105, expect, 0)
  (s1.fnErr fn 3).updRing fn ring Ring.toError

/-- COMMAND_FETCH (R84, R85, R97, R110): what the module's read of the next entry brings (none: the read fails) and, by
pointer, of its block. In STEP_HELD, or by its STEP_HELD flag, the command is held; a held command of a ring that runs
again, or for which STEP was written in a pause, starts instead. -/
def execCommandFetch (fn : Fin 64) (ring : Fin 16) (entry : Option Bytes) (block : Option Bytes) (data : Bytes) (dma : Dma)
    (s : State) : Host.Outcome State Fault Refusal :=
  .next (let r := s.ring fn ring
    if s.ringsPaused || !(r.st == .running || r.st == .stepHeld) || (s.ringExec fn ring).isSome then s
    else match r.held with
    | some _ => if r.st == .running || r.stepPending then s.startHeld fn ring else s
    | none =>
      if r.fetch == r.tail || decide (r.size ≤ r.unread) then s
      else match entry with
      | none => (s.fnErr fn 4).updRing fn ring Ring.toError
      | some e =>
        let h : Held := ⟨padTo 64 e, block, data, dma⟩
        if byteAt h.entry 3 != r.expectSeq then s.seqGap fn ring h
        else if r.st == .stepHeld || bit (byteAt h.entry 2) 1 then
          s.updRing fn ring (fun r => { r with st := .stepHeld, stepMode := true, held := some h })
        else s.startCmd fn ring h)

/-- A write of STEP = 1: the held command starts; with none held, STEP_EMPTY is set (R110). -/
def State.writeStep (s : State) (fn : Fin 64) (ring : Fin 16) (v : Nat) : State :=
  if !bit v 0 then s
  else if (s.ring fn ring).held.isNone then s.fnErr fn 6
  else s.startHeld fn ring

/-- A write of HIF_RING_CFG, with what clearing STEP_MODE starts: a command held at that moment is the next of the
running ring (R110). -/
def State.writeCfgRun (s : State) (fn : Fin 64) (ring : Fin 16) (v : Nat) : State :=
  let s1 := s.writeCfg fn ring v
  if (s1.ring fn ring).st == .running && !s1.ringsPaused then s1.startHeld fn ring else s1

/-- HIF_RING_STEP_DB (R110). -/
def execHifRingStepDb (fn : Fin 64) (ring : Fin 16) (value : Nat) (s : State) : Host.Outcome State Fault Refusal :=
  .next (s.writeStep fn ring value)

/-- STEP_MODE_CLEAR (R110): the HIF_RING_CFG write that clears STEP_MODE. -/
def execStepModeClear (fn : Fin 64) (ring : Fin 16) (value : Nat) (s : State) : Host.Outcome State Fault Refusal :=
  .next (s.writeCfgRun fn ring value)

/-! ### The rows of the host commands -/

/-- IDENTIFY (R105), opcode 0x0001. -/
def execIdentify (r : Req) (s : State) : Host.Outcome State Fault Refusal := .next (s.hostRow 0x0001 r cmdIdentify)

/-- NOP (R106), opcode 0x0002. -/
def execNop (r : Req) (s : State) : Host.Outcome State Fault Refusal := .next (s.hostRow 0x0002 r cmdNop)

/-- FUNCTION_QUERY (R106), opcode 0x0003. -/
def execFunctionQuery (r : Req) (s : State) : Host.Outcome State Fault Refusal := .next (s.hostRow 0x0003 r cmdFunctionQuery)

/-- SLICE_CREATE (R320), opcode 0x0101. -/
def execSliceCreate (r : Req) (s : State) : Host.Outcome State Fault Refusal := .next (s.hostRow 0x0101 r cmdSliceCreate)

/-- SLICE_ASSIGN (R323), opcode 0x0102. -/
def execSliceAssign (r : Req) (s : State) : Host.Outcome State Fault Refusal := .next (s.hostRow 0x0102 r cmdSliceAssign)

/-- SLICE_QUERY (R327), opcode 0x0103. -/
def execSliceQuery (r : Req) (s : State) : Host.Outcome State Fault Refusal := .next (s.hostRow 0x0103 r cmdSliceQuery)

/-- SLICE_RESET (R328), opcode 0x0104. -/
def execSliceReset (r : Req) (s : State) : Host.Outcome State Fault Refusal := .next (s.hostRow 0x0104 r cmdSliceReset)

/-- SLICE_DELETE (R329), opcode 0x0105. -/
def execSliceDelete (r : Req) (s : State) : Host.Outcome State Fault Refusal := .next (s.hostRow 0x0105 r cmdSliceDelete)

/-- PORT_ADMIT (R326), opcode 0x0106. -/
def execPortAdmit (r : Req) (s : State) : Host.Outcome State Fault Refusal := .next (s.hostRow 0x0106 r cmdPortAdmit)

/-- STANDING_SET (R325), opcode 0x0107. -/
def execStandingSet (r : Req) (s : State) : Host.Outcome State Fault Refusal := .next (s.hostRow 0x0107 r cmdStandingSet)

/-- CHART_LOAD (R45), opcode 0x0201. -/
def execChartLoad (r : Req) (s : State) : Host.Outcome State Fault Refusal := .next (s.hostRow 0x0201 r cmdChartLoad)

/-- CHART_QUERY (R118), opcode 0x0202. -/
def execChartQuery (r : Req) (s : State) : Host.Outcome State Fault Refusal := .next (s.hostRow 0x0202 r cmdChartQuery)

/-- CHART_COMMIT (R47), opcode 0x0203. -/
def execChartCommit (r : Req) (s : State) : Host.Outcome State Fault Refusal := .next (s.hostRow 0x0203 r cmdChartCommit)

/-- CHART_RELEASE (R50), opcode 0x0204. -/
def execChartRelease (r : Req) (s : State) : Host.Outcome State Fault Refusal := .next (s.hostRow 0x0204 r cmdChartRelease)

/-- PASSAGE_LOAD (R55), opcode 0x0301. -/
def execPassageLoad (r : Req) (s : State) : Host.Outcome State Fault Refusal := .next (s.hostRow 0x0301 r cmdPassageLoad)

/-- PASSAGE_ARM (R64), opcode 0x0302. -/
def execPassageArm (r : Req) (s : State) : Host.Outcome State Fault Refusal := .next (s.hostRow 0x0302 r cmdPassageArm)

/-- PASSAGE_DOORBELL (R65), opcode 0x0303. -/
def execPassageDoorbell (r : Req) (s : State) : Host.Outcome State Fault Refusal := .next (s.hostRow 0x0303 r cmdPassageDoorbell)

/-- PASSAGE_PARK (R65), opcode 0x0304. -/
def execPassagePark (r : Req) (s : State) : Host.Outcome State Fault Refusal := .next (s.hostRow 0x0304 r cmdPassagePark)

/-- PASSAGE_RESUME (R64), opcode 0x0305. -/
def execPassageResume (r : Req) (s : State) : Host.Outcome State Fault Refusal := .next (s.hostRow 0x0305 r cmdPassageResume)

/-- PASSAGE_ABORT (R66), opcode 0x0306. -/
def execPassageAbort (r : Req) (s : State) : Host.Outcome State Fault Refusal := .next (s.hostRow 0x0306 r cmdPassageAbort)

/-- PASSAGE_UNLOAD (R64), opcode 0x0307. -/
def execPassageUnload (r : Req) (s : State) : Host.Outcome State Fault Refusal := .next (s.hostRow 0x0307 r cmdPassageUnload)

/-- PASSAGE_QUERY (R65), opcode 0x0308. -/
def execPassageQuery (r : Req) (s : State) : Host.Outcome State Fault Refusal := .next (s.hostRow 0x0308 r cmdPassageQuery)

/-- FM_WINDOW_SET (R280), opcode 0x0401. -/
def execFmWindowSet (r : Req) (s : State) : Host.Outcome State Fault Refusal := .next (s.hostRow 0x0401 r cmdFmWindowSet)

/-- QP_CREATE (R287), opcode 0x0402. -/
def execQpCreate (r : Req) (s : State) : Host.Outcome State Fault Refusal := .next (s.hostRow 0x0402 r cmdQpCreate)

/-- QP_DESTROY (R290), opcode 0x0403. -/
def execQpDestroy (r : Req) (s : State) : Host.Outcome State Fault Refusal := .next (s.hostRow 0x0403 r cmdQpDestroy)

/-- QP_QUERY (R291), opcode 0x0404. -/
def execQpQuery (r : Req) (s : State) : Host.Outcome State Fault Refusal := .next (s.hostRow 0x0404 r cmdQpQuery)

/-- OPT_BIND (R270), opcode 0x0501. -/
def execOptBind (r : Req) (s : State) : Host.Outcome State Fault Refusal := .next (s.hostRow 0x0501 r cmdOptBind)

/-- OPT_UNBIND (R274), opcode 0x0502. -/
def execOptUnbind (r : Req) (s : State) : Host.Outcome State Fault Refusal := .next (s.hostRow 0x0502 r cmdOptUnbind)

/-- OPT_STATE_LOAD (R275), opcode 0x0503. -/
def execOptStateLoad (r : Req) (s : State) : Host.Outcome State Fault Refusal := .next (s.hostRow 0x0503 r cmdOptStateLoad)

/-- OPT_STATE_DUMP (R275), opcode 0x0504. -/
def execOptStateDump (r : Req) (s : State) : Host.Outcome State Fault Refusal := .next (s.hostRow 0x0504 r cmdOptStateDump)

/-- PROG_LOAD (R258), opcode 0x0505. -/
def execProgLoad (r : Req) (s : State) : Host.Outcome State Fault Refusal := .next (s.hostRow 0x0505 r cmdProgLoad)

/-- PROG_UNLOAD (R260), opcode 0x0506. -/
def execProgUnload (r : Req) (s : State) : Host.Outcome State Fault Refusal := .next (s.hostRow 0x0506 r cmdProgUnload)

/-- RESIDUAL_CLEAR (R242), opcode 0x0507. -/
def execResidualClear (r : Req) (s : State) : Host.Outcome State Fault Refusal := .next (s.hostRow 0x0507 r cmdResidualClear)

/-- CAL_GET (R373), opcode 0x0601. -/
def execCalGet (r : Req) (s : State) : Host.Outcome State Fault Refusal := .next (s.hostRow 0x0601 r cmdCalGet)

/-- CAL_RUN (R374), opcode 0x0602. -/
def execCalRun (r : Req) (s : State) : Host.Outcome State Fault Refusal := .next (s.hostRow 0x0602 r cmdCalRun)

/-- CAL_CONFIG (R375), opcode 0x0603. -/
def execCalConfig (r : Req) (s : State) : Host.Outcome State Fault Refusal := .next (s.hostRow 0x0603 r cmdCalConfig)

/-- CAL_QUERY (R376), opcode 0x0604. -/
def execCalQuery (r : Req) (s : State) : Host.Outcome State Fault Refusal := .next (s.hostRow 0x0604 r cmdCalQuery)

/-- TIME_GET (R354), opcode 0x0701. -/
def execTimeGet (r : Req) (s : State) : Host.Outcome State Fault Refusal := .next (s.hostRow 0x0701 r cmdTimeGet)

/-- TIME_STATUS (R355), opcode 0x0702. -/
def execTimeStatus (r : Req) (s : State) : Host.Outcome State Fault Refusal := .next (s.hostRow 0x0702 r cmdTimeStatus)

/-- TIME_CONFIG (R356), opcode 0x0703. -/
def execTimeConfig (r : Req) (s : State) : Host.Outcome State Fault Refusal := .next (s.hostRow 0x0703 r cmdTimeConfig)

/-- TRIGGER_SET (R351), opcode 0x0704. -/
def execTriggerSet (r : Req) (s : State) : Host.Outcome State Fault Refusal := .next (s.hostRow 0x0704 r cmdTriggerSet)

/-- CTR_SELECT (R383), opcode 0x0801. -/
def execCtrSelect (r : Req) (s : State) : Host.Outcome State Fault Refusal := .next (s.hostRow 0x0801 r cmdCtrSelect)

/-- CTR_SNAPSHOT (R387), opcode 0x0802. -/
def execCtrSnapshot (r : Req) (s : State) : Host.Outcome State Fault Refusal := .next (s.hostRow 0x0802 r cmdCtrSnapshot)

/-- TRACE_CONFIG (R396), opcode 0x0803. -/
def execTraceConfig (r : Req) (s : State) : Host.Outcome State Fault Refusal := .next (s.hostRow 0x0803 r cmdTraceConfig)

/-- TRACE_ARM (R397), opcode 0x0804. -/
def execTraceArm (r : Req) (s : State) : Host.Outcome State Fault Refusal := .next (s.hostRow 0x0804 r cmdTraceArm)

/-- TRACE_STOP (R397), opcode 0x0805. -/
def execTraceStop (r : Req) (s : State) : Host.Outcome State Fault Refusal := .next (s.hostRow 0x0805 r cmdTraceStop)

/-- TRACE_QUERY (R397), opcode 0x0806. -/
def execTraceQuery (r : Req) (s : State) : Host.Outcome State Fault Refusal := .next (s.hostRow 0x0806 r cmdTraceQuery)

/-- LOG_READ (R411), opcode 0x0901. -/
def execLogRead (r : Req) (s : State) : Host.Outcome State Fault Refusal := .next (s.hostRow 0x0901 r cmdLogRead)

/-- LOG_NONCE (R401), opcode 0x0902. -/
def execLogNonce (r : Req) (s : State) : Host.Outcome State Fault Refusal := .next (s.hostRow 0x0902 r cmdLogNonce)

/-- LOG_CLEAR (R412), opcode 0x0903. -/
def execLogClear (r : Req) (s : State) : Host.Outcome State Fault Refusal := .next (s.hostRow 0x0903 r cmdLogClear)

/-- FW_QUERY (R446), opcode 0x0A01. -/
def execFwQuery (r : Req) (s : State) : Host.Outcome State Fault Refusal := .next (s.hostRow 0x0A01 r cmdFwQuery)

/-- ATTEST (R447), opcode 0x0A02. -/
def execAttest (r : Req) (s : State) : Host.Outcome State Fault Refusal := .next (s.hostRow 0x0A02 r cmdAttest)

/-- KEY_LIST (R446), opcode 0x0A03. -/
def execKeyList (r : Req) (s : State) : Host.Outcome State Fault Refusal := .next (s.hostRow 0x0A03 r cmdKeyList)

/-- MEASUREMENTS (R446), opcode 0x0A04. -/
def execMeasurements (r : Req) (s : State) : Host.Outcome State Fault Refusal := .next (s.hostRow 0x0A04 r cmdMeasurements)

/-- MAINT_ENTER (R402), opcode 0x0B01. -/
def execMaintEnter (r : Req) (s : State) : Host.Outcome State Fault Refusal := .next (s.hostRow 0x0B01 r cmdMaintEnter)

/-- MAINT_EXIT (R407), opcode 0x0B02. -/
def execMaintExit (r : Req) (s : State) : Host.Outcome State Fault Refusal := .next (s.hostRow 0x0B02 r cmdMaintExit)

/-- MIRROR_SET (R142), opcode 0x0B03. -/
def execMirrorSet (r : Req) (s : State) : Host.Outcome State Fault Refusal := .next (s.hostRow 0x0B03 r cmdMirrorSet)

/-- LASER_SET (R173), opcode 0x0B04. -/
def execLaserSet (r : Req) (s : State) : Host.Outcome State Fault Refusal := .next (s.hostRow 0x0B04 r cmdLaserSet)

/-- BREAK_SET (R404), opcode 0x0B05. -/
def execBreakSet (r : Req) (s : State) : Host.Outcome State Fault Refusal := .next (s.hostRow 0x0B05 r cmdBreakSet)

/-- CORE_RESUME (R406), opcode 0x0B06. -/
def execCoreResume (r : Req) (s : State) : Host.Outcome State Fault Refusal := .next (s.hostRow 0x0B06 r cmdCoreResume)

end Sys2Proof.Machine
end

