-- ==== Sys2Proof/Machine/Regs.lean ====
section
/-! DEFINITION. The registers of BAR0: what each reads as, what a write of each does by its access code, what a read
clears, and the status page (03_host_interface, and the register maps of the other chapters). A register is taken as
its aligned 64-bit word; a 32-bit access is one half of it (R79). -/

namespace Sys2Proof.Machine

/-- A field of `w` bits at bit `lo` of a word. -/
def fld (lo w v : Nat) : Nat := v % 2 ^ w * 2 ^ lo

/-- A signed field. -/
def sfld (lo w : Nat) (v : Int) : Nat := toTwos w (satSigned w v) * 2 ^ lo

/-- Index of an offset in an array of `n` entries of `stride` bytes from `base`. -/
def arr (base stride n off : Nat) : Option Nat :=
  if decide (base ≤ off ∧ off < base + stride * n) then some ((off - base) / stride) else none

/-- Whole MiB, rounded up. -/
def mib (bytes : Nat) : Nat := ceilDiv bytes (2 ^ 20)

/-! ### The HIF_ registers (R80, R81) -/

/-- Code of a ring state (R87). -/
def RingSt.code : RingSt → Nat
  | .disabled => 0 | .running => 1 | .stepHeld => 2 | .error => 3 | .draining => 4

/-- ENABLE as HIF_RING_CFG reads it (R82). -/
def Ring.enabled (r : Ring) : Bool := r.st == .running || r.st == .stepHeld || r.st == .error

/-- A register of a ring (R81); the write-only ones read 0. -/
def Ring.word (r : Ring) (o : Nat) : Nat :=
  match o with
  | 0x00 => fld 12 52 r.cmdBase
  | 0x08 => fld 12 52 r.cplBase
  | 0x10 => fld 0 5 r.log2 + fld 8 1 (b2n r.enabled) + fld 9 1 (b2n r.stepMode)
  | 0x30 => fld 0 3 r.st.code + fld 16 16 r.fetch + fld 32 8 r.expectSeq + fld 40 1 (b2n r.phase)
  | _ => 0

/-- A register of a function block (R81). -/
def State.fnWord (s : State) (fn off : Nat) : Nat :=
  let b := s.fnb fn
  match arr 0x100 0x40 16 off with
  | some k => (s.ring fn k).word ((off - 0x100) % 0x40)
  | none =>
    match off with
    | 0x00 => fld 0 6 fn + fld 8 6 fn
    | 0x08 => b2n b.spEnable + fld 12 52 b.spAddr
    | 0x10 => if fn == 0 then b.spSlice else fn
    | 0x18 => b.err
    | _ => 0

/-- A global HIF_ register, or one of the PF's function block (R80). -/
def State.hifWord (s : State) (off : Nat) : Nat :=
  match off with
  | 0x00 => le s.fuse.idBytes 0 1 + fld 8 4 s.fuse.ioDies + fld 12 4 s.fuse.stacks + fld 16 8 1 + fld 24 8 s.fuse.stepping
  | 0x08 => fld 0 3 s.hif.gen + fld 4 4 s.hif.width + fld 8 1 (b2n s.hif.flit)
  | 0x10 => s.mod.code
  | 0x18 => s.hif.heartbeat
  | _ => if decide (0x10000 ≤ off ∧ off < 0x20000) then s.fnWord 0 (off - 0x10000) else 0

/-! ### TRP_, COL_ (R140, R171) -/

/-- Number of mirrors that satisfy `p`. -/
def State.mirrorCount (s : State) (p : MirSt → Bool) : Nat := (s.plane.mirror.filter (fun e => p e.2.st)).length

/-- Code of a mirror state (R118). -/
def MirSt.code : MirSt → Nat
  | .parked => 0 | .moving => 1 | .acquiring => 2 | .settled => 3 | .held => 4 | .failed => 5 | .dark => 6

/-- Slice of the port at a mirror's position; 0 where the position has no port. -/
def State.mirrorSlice (s : State) (m : Nat) : Nat := if darkMirror s.fuse m then 0 else s.owner (portAt (m % 1024))

/-- TRP_TF_STATUS (R140). -/
def State.tfWord (s : State) (n : Nat) : Nat :=
  let x := s.tfc n
  fld 0 3 x.st + fld 8 8 ((x.restarts.filter (fun t => decide (s.ns < t + 600000000000))).length) + fld 16 16 (min x.overruns 65535)
    + fld 32 32 (if x.st == 3 then (s.ns - x.holdAt) / 1000000 else 0)

/-- TRP_MIRROR. -/
def State.mirrorWord (s : State) (m : Nat) : Nat :=
  let x := s.mirror m
  fld 0 3 x.st.code + fld 3 3 x.fault + fld 8 6 (s.mirrorSlice m) + fld 32 16 x.partner

/-- TRP_DRIVE. -/
def State.driveWord (s : State) (m : Nat) : Nat :=
  let x := s.mirror m
  fld 0 16 x.x + fld 16 16 x.y + (Config.driveMax m false).toNat * 2 ^ 32 + (Config.driveMax m true).toNat * 2 ^ 48

/-- TRP_TAP_IN and TRP_TAP_OUT of one position, as 32 bits. -/
def State.tapIn (s : State) (p : Nat) : Nat := let x := s.plane.tapIn.get p (0x8000, 0x8000); fld 0 16 x.1 + fld 16 16 x.2
def State.tapOut (s : State) (o : Nat) : Nat := let x := s.plane.tapOut.get o (0x8000, 0xFFFF); fld 0 16 x.1 + fld 16 16 x.2

/-- A TRP_ register. -/
def State.trpWord (s : State) (off : Nat) : Nat :=
  match off with
  | 0x100000 => 1024 + fld 12 4 2 + fld 16 9 s.fuse.livePorts
  | 0x100008 => fld 0 12 (s.mirrorCount (fun x => x == .moving || x == .acquiring)) + fld 16 12 (s.mirrorCount (· == .held))
      + fld 32 12 (s.mirrorCount (· == .failed)) + fld 48 12 (s.mirrorCount (· == .settled))
  | 0x100010 => s.plane.events
  | 0x100018 => fld 0 16 s.plane.hvAV + fld 16 16 s.plane.hvBV
  | _ =>
    match arr 0x100100 8 16 off, arr 0x101000 8 2048 off, arr 0x105000 8 2048 off with
    | some n, _, _ => s.tfWord n
    | _, some m, _ => s.mirrorWord m
    | _, _, some m => s.driveWord m
    | _, _, _ =>
      match arr 0x109000 8 512 off, arr 0x10A000 8 512 off with
      | some k, _ => s.tapIn (2 * k) + s.tapIn (2 * k + 1) * 2 ^ 32
      | _, some k => s.tapOut (2 * k) + s.tapOut (2 * k + 1) * 2 ^ 32
      | _, _ => 0

/-- Number of global ports that satisfy `p`. -/
def State.gpCount (s : State) (p : GPort → Bool) : Nat := ((List.range 64).filter (fun t => p (s.gp t))).length

/-- COL_PORT. -/
def State.colPortWord (s : State) (t : Nat) : Nat :=
  let g := s.gp t
  fld 0 4 g.st + fld 4 4 g.role + fld 8 6 g.channel + fld 16 7 g.laser + fld 24 6 (s.owner (refG t)) + fld 32 6 g.dest
    + fld 40 2 g.attempts + sfld 48 16 (s.laser g.laser).freqErr

/-- COL_PORT_RX. -/
def State.colRxWord (s : State) (t : Nat) : Nat :=
  let g := s.gp t
  fld 0 6 g.expectRack + fld 6 1 (b2n g.expectValid) + fld 8 6 g.pilotRack + fld 14 1 (b2n g.pilotValid) + fld 16 3 g.pilots
    + fld 32 16 g.rxPower

/-- COL_PORT_ERR. -/
def GPort.errWord (g : GPort) : Nat :=
  fld 0 16 g.blanks + fld 16 8 g.relockFails + fld 24 8 g.preambleFails + fld 32 32 g.uncorrectable

/-- A COL_ register. -/
def State.colWord (s : State) (off : Nat) : Nat :=
  match off with
  | 0x900000 => 72 + fld 8 7 64 + fld 16 7 64 + fld 24 4 8
  | 0x900008 => fld 0 7 (s.gpCount (fun g => (s.laser g.laser).gate)) + fld 8 7 (s.gpCount (fun g => g.st == 3 || g.takeover))
      + fld 16 7 (s.gpCount (fun g => g.st == 4 || g.st == 5)) + fld 24 4 ((s.col.group.filter (fun e => e.2.1 == 1)).length)
  | 0x900010 => s.col.events
  | 0x900018 => fld 0 16 s.col.slot + fld 16 10 s.col.margin + fld 32 1 (b2n s.col.dark)
  | _ =>
    match arr 0x900100 8 8 off, arr 0x901000 16 64 off, arr 0x902000 8 64 off with
    | some g, _, _ => let x := s.grp g; fld 0 2 x.1 + fld 8 3 x.2.1 + fld 16 16 x.2.2
    | _, some t, _ => if off % 16 == 0 then s.colPortWord t else s.colRxWord t
    | _, _, some t => (s.gp t).errWord
    | _, _, _ =>
      match arr 0x903000 8 72 off, arr 0x904000 8 72 off with
      | some n, _ => let x := s.laser n
        fld 0 3 x.st + fld 3 1 (b2n x.gate) + fld 8 6 x.measChannel + fld 14 1 (b2n x.measValid) + sfld 16 16 x.freqErr
      | _, some h => let x := s.col.ring.get h (0, 0); fld 0 16 x.1 + sfld 16 16 x.2
      | _, _ => 0

/-! ### SKK_, FMQ_ (R248, R302) -/

/-- Stripes of all passages in the pool, as (slice, stripe key, passage). -/
def State.poolStripes (s : State) : List (Nat × Nat × Passage) :=
  s.psg.flatMap (fun e => (e.2.stripes.filter (fun x => x.2 == 0)).map (fun x => (e.1 / 256, x.1, e.2)))

/-- Staging stripes held on a unit (R217). -/
def State.unitStripes (s : State) (u : Nat) : Nat :=
  (s.poolStripes.filter (fun x => x.2.2.units.getD (x.2.1 % 2 ^ 40 % max 1 x.2.2.units.length) 0 == u)).length

/-- Pools of all slices in bytes, and what is in use of them. -/
def State.pools (s : State) : Nat × Nat :=
  (s.topo.slice.keys.filter (· != 0)).foldl (fun a n => (a.1 + s.poolSize n, a.2 + s.poolUsed n)) (0, 0)

/-- Bytes of the stripes of a slice that lie in HBM. -/
def State.spillUsed (s : State) (n : Nat) : Nat :=
  ((s.passagesOf n).map (fun e => (e.2.stripes.filter (fun x => x.2 != 0)).length * e.2.stripeBytes)).foldl (· + ·) 0

/-- The SKK_ registers of slice `n` from 1: SKK_STAGE, SKK_SPILL, SKK_NUM, SKK_RESID. -/
def State.skkSlice (s : State) (n k : Nat) : Nat :=
  let x := s.skk.num.get n (0, 0, 0, 0)
  match k with
  | 0 => fld 0 16 (mib (s.poolSize n)) + fld 16 16 (mib (s.poolUsed n)) + fld 32 16 (mib (4096 * s.skk.peak.get n 0))
  | 1 => fld 0 32 (mib (s.spillUsed n)) + fld 32 32 (mib (4096 * s.skk.spilled.get n 0))
  | 2 => fld 0 16 x.1 + fld 16 16 x.2.1 + fld 32 16 x.2.2.1 + fld 48 16 x.2.2.2
  | _ => fld 0 16 (mib (s.residPlaced n 0)) + fld 16 32 (mib (s.residPlaced n 1)) + fld 48 16 (s.skk.overwrites.get n 0)

/-- An SKK_ register. Units are idle between the commands that give them work. -/
def State.skkWord (s : State) (off : Nat) : Nat :=
  match off with
  | 0xB00000 => 48 + fld 8 8 128 + fld 16 4 4
  | 0xB00008 => fld 0 6 (48 - s.skk.retired.length) + fld 16 6 s.skk.retired.length
      + fld 24 7 (let p := s.pools; if p.1 == 0 then 0 else 100 * p.2 / p.1)
  | 0xB00010 => s.skk.events
  | _ =>
    match arr 0xB00100 8 48 off, arr 0xB01000 16 64 off, arr 0xB02000 16 64 off with
    | some u, _, _ => (if s.skk.retired.contains u then 2 else 0) + fld 8 6 (s.skk.unitSlice.get u 0) + fld 16 16 (s.unitStripes u)
    | _, some n, _ => if n == 0 || !s.hasSlice n then 0 else s.skkSlice n (off % 16 / 8)
    | _, _, some n => if n == 0 || !s.hasSlice n then 0 else s.skkSlice n (2 + off % 16 / 8)
    | _, _, _ => 0

/-- Requests completed in the last whole millisecond. -/
def State.fmRate (s : State) : Nat :=
  let ms := s.ns / 1000000
  if s.fm.rateMs == ms then s.fm.rateLast else if s.fm.rateMs + 1 == ms then s.fm.rateN else 0

/-- FMQ_QP and FMQ_QP_CNT. -/
def State.qpWord (s : State) (q k : Nat) : Nat :=
  let x := s.queue q
  if x.st == 0 then 0
  else if k == 0 then fld 0 2 x.st + fld 2 6 x.slice + fld 8 16 x.endpoint + fld 32 9 (s.outstanding q).length
  else fld 0 32 x.opsRc + fld 32 16 (min x.errRc 65535)

/-- FMQ_SLICE and FMQ_SLICE_ERR. -/
def State.fmSliceWord (s : State) (n k : Nat) : Nat :=
  let x := s.fm.sliceErr.get n (0, 0, 0, 0)
  if k == 0 then fld 0 16 (match s.topo.slice.find n with
    | some y => y.windowGiB
    | none => 0) + fld 16 19 (s.queueCount n)
  else fld 0 16 (min x.1 65535) + fld 16 16 (min x.2.1 65535) + fld 32 16 (min x.2.2.1 65535) + fld 48 16 (min x.2.2.2 65535)

/-- An FMQ_ register. -/
def State.fmqWord (s : State) (off : Nat) : Nat :=
  match off with
  | 0x1300000 => 262144 + fld 20 6 32
  | 0x1300008 => fld 0 19 ((s.fm.queue.filter (fun e => e.2.st != 0)).length)
      + fld 32 16 (min ((s.fm.reqs.filter (fun r => r.reqId != counterId)).length) 65535)
  | 0x1300010 => s.fm.events
  | 0x1300018 => fld 0 32 s.fmRate
  | _ =>
    match arr 0x1301000 16 64 off, arr 0x1302000 8 64 off, arr 0x1400000 16 262144 off with
    | some n, _, _ => if n == 0 then 0 else s.fmSliceWord n (off % 16 / 8)
    | _, some t, _ => maskOf 64 (fun d => s.pathBroken t d)
    | _, _, some q => s.qpWord q (off % 16 / 8)
    | _, _, _ => 0

/-! ### AST_, SXT_ (R357, R377) -/

/-- An AST_ register. -/
def State.astWord (s : State) (off : Nat) : Nat :=
  match off with
  | 0x2300000 => 15 + fld 4 5 16
  | 0x2300008 => fld 0 48 s.secs
  | 0x2300010 => fld 0 32 s.ast.latchNs + fld 32 16 s.ast.latchFrac
  | 0x2300018 => s.ast.statusBits + fld 32 32 s.stateSecs
  | 0x2300020 => sfld 0 32 s.ast.offset + fld 32 32 s.ast.pathDelay
  | 0x2300028 => sfld 0 32 s.ast.rate
  | 0x2300030 => fld 0 64 s.ast.master
  | 0x2300038 => s.ast.events
  | 0x2300040 => fld 0 16 s.ast.steps + fld 16 16 s.ast.masterChanges + fld 32 16 s.ast.losses
  | _ =>
    match arr 0x2300100 16 16 off with
    | some n =>
      let x := s.trig n
      if off % 16 == 0 then fld 0 2 x.kind + fld 2 1 (b2n x.active) + fld 32 32 x.fired else fld 0 32 x.skipped
    | none => 0

/-- SXT_REGION and SXT_REGION_RUNS. -/
def State.regionWord (s : State) (r k : Nat) : Nat :=
  let x := s.region r
  if k == 0 then fld 0 3 (s.regionState r) + fld 3 1 (b2n x.hold) + fld 8 8 x.deltaT + sfld 16 16 x.tempNow + sfld 32 16 x.tempRun
  else fld 0 16 (min x.accepted 65535) + fld 16 16 (min x.rejected 65535) + fld 32 32 x.lastS

/-- An SXT_ register. -/
def State.sxtWord (s : State) (off : Nat) : Nat :=
  let count := fun (p : Region → Bool) => (s.sxt.region.filter (fun e => p e.2)).length
  match off with
  | 0x2400000 => fld 0 6 s.regions.length
  | 0x2400008 => fld 0 6 (count (·.running)) + fld 8 6 (count (fun x => x.pending != [])) + fld 16 6 s.sxt.takes.length
      + fld 24 6 (count (·.degraded))
  | 0x2400010 => s.sxt.events
  | 0x2400018 => fld 0 16 s.sxt.power + sfld 16 16 s.sxt.coolant
  | _ =>
    match arr 0x2400100 16 32 off, arr 0x2401000 8 1024 off, arr 0x2403000 8 72 off with
    | some r, _, _ => s.regionWord r (off % 16 / 8)
    | _, some h, _ =>
      if decide (s.fuse.ioDies ≤ h / 256) then 0
      else
        let x := s.sxt.tring.get h (0, 0, 0)
        fld 0 16 x.1 + sfld 16 16 x.2.1 + sfld 32 16 x.2.2 + fld 48 1 (b2n (s.lp (h / 4)).ringHold.isSome)
    | _, _, some h => sfld 0 16 (s.sxt.cff.get h 0)
    | _, _, _ => 0

/-! ### BNC_, LOG_, BOOT_ (R415, R416, R449) -/

/-- BNC_SEL. -/
def State.selWord (s : State) (n : Nat) : Nat :=
  match s.bnc.ctr.find n with
  | some c => fld 0 12 c.source + fld 12 6 c.owner + fld 18 1 (b2n c.selected) + fld 19 1 (b2n c.orphan) + fld 32 32 c.inst
  | none => 0

/-- One of the four words of a BNC_SRCDIR entry. -/
def srcDirWord (n k : Nat) : Nat :=
  if k == 0 then fld 0 1 (b2n (srcDefined n)) + fld 1 3 (srcScope n) + fld 4 1 (b2n (Config.srcFw n))
    + fld 8 8 (Config.srcAgentKind n).toNat + fld 16 32 (srcMax n)
  else bits (Config.srcName n).toNat (64 * (k - 1)) 64

/-- One of the four words of a LOG_EVDIR entry. -/
def evDirWord (e k : Nat) : Nat :=
  if k == 0 then fld 0 1 (b2n (Config.evDefined e)) + fld 1 3 (Config.evSeverity e).toNat + fld 8 8 (Config.evAgentKind e).toNat
  else bits (Config.evName e).toNat (64 * (k - 1)) 64

/-- A BNC_ register. -/
def State.bncWord (s : State) (off : Nat) : Nat :=
  let t := s.bnc.trace
  match off with
  | 0x2800000 => 8192 + fld 16 12 (((List.range 4096).filter srcDefined).length) + fld 32 14 8192
  | 0x2800008 => s.bnc.epoch
  | 0x2800010 => s.bnc.events
  | 0x2800018 => fld 0 2 t.st + fld 4 2 t.mode + fld 8 14 t.ringMib + fld 32 32 t.held.length
  | 0x2800020 => fld 0 18 t.stage.length + fld 32 18 t.peak
  | _ =>
    match arr 0x2800108 8 13 off, arr 0x2800200 16 32 off, arr 0x2810000 8 8192 off with
    | some y, _, _ => fld 0 48 (t.drops.get (y + 1) 0)
    | _, some c, _ =>
      let x := s.core c
      if off % 16 == 0 then fld 0 2 x.st + fld 2 2 x.bpHit + fld 4 4 (maskOf 4 (fun i => x.bps.has i)) else fld 0 64 x.pc
    | _, _, some n => s.selWord n
    | _, _, _ =>
      match arr 0x2820000 32 4096 off with
      | some n => srcDirWord n (off % 32 / 8)
      | none => 0

/-- LOG_SEQ as the reader sees it: NEWEST and OLDEST of what is held. An empty recorder has neither, and the word is a
free value. -/
def State.logSeqWord (s : State) : Nat :=
  match s.log.entries with
  | [] => (s.fresh 64).1
  | e :: t => (t.getLastD e).seq + fld 32 32 e.seq

/-- A LOG_ register. -/
def State.logWord (s : State) (off : Nat) : Nat :=
  match off with
  | 0x3000000 => 262144 + fld 32 19 262144
  | 0x3000008 => fld 0 2 s.log.mode + fld 8 19 s.log.entries.length + fld 32 19 s.log.journal.length
  | 0x3000010 => s.logSeqWord
  | 0x3000018 => fld 0 7 s.log.jqueue.length + fld 16 16 (min s.log.writeFails 65535) + fld 32 32 s.log.dropped
  | 0x3000020 => s.log.events
  | _ =>
    match arr 0x3000100 8 7 off, arr 0x3010000 32 4096 off with
    | some v, _ => fld 0 19 ((s.log.entries.filter (fun e => e.sev == v)).length) + fld 32 32 (s.log.lost.get v 0)
    | _, some e => evDirWord e (off % 32 / 8)
    | _, _ => 0

/-- A BOOT_ register. -/
def State.bootWord (s : State) (off : Nat) : Nat :=
  let b := s.boot
  match off with
  | 0x3100000 => 2 + fld 4 5 16 + fld 9 7 64
  | 0x3100008 => b.stateBits + fld 8 4 b.lastStart + fld 12 4 (match b.lock with
      | some l => l.key
      | none => 0) + fld 16 9 s.healthLeft + fld 25 6 b.checks
  | 0x3100010 => b.fwActive
  | 0x3100018 => b.fwInactive
  | 0x3100020 => fld 0 7 b.fusedSv + fld 8 7 (match b.slot.find (1 - b.active) with
      | some i => i.sv
      | none => 0) + fld 16 16 b.cfgVersion + fld 32 16 b.handover
  | 0x3100028 => b.events
  | 0x3100030 => fld 0 32 b.lastMs
  | 0x3100038 => fld 0 16 b.warmPlanned + fld 16 16 b.warmUnplanned + fld 32 16 b.activations + fld 48 16 b.fallbacks
  | _ =>
    match arr 0x3100100 16 2 off with
    | some p =>
      if off % 16 == 0 then fld 0 48 (if p == 0 then s.fuse.macA else s.fuse.macB) + fld 48 1 (b2n (bit b.svcLink p))
        + fld 49 3 ((b.sess.filter (fun e => e.2.port == p)).length)
      else fld 0 16 (min (b.authFails.get p 0) 65535) + fld 16 16 (min (b.claimFails.get p 0) 65535) + fld 32 32 (b.dropped.get p 0)
    | none => 0

/-! ### Reading (R15, R78, R79) -/

/-- The 64-bit word at an aligned offset of PF BAR0, by block; reserved offsets read 0 (R78). -/
def State.pfWord (s : State) (off : Nat) : Nat :=
  if off < 0x100000 then s.hifWord off
  else if off < 0x900000 then s.trpWord off
  else if off < 0xB00000 then s.colWord off
  else if off < 0x1300000 then s.skkWord off
  else if off < 0x2300000 then s.fmqWord off
  else if off < 0x2400000 then s.astWord off
  else if off < 0x2800000 then s.sxtWord off
  else if off < 0x3000000 then s.bncWord off
  else if off < 0x3100000 then s.logWord off
  else if off < 0x3200000 then s.bootWord off
  else 0

/-- The half of a word that an access takes: all of it, or the upper or lower 32 bits. -/
def half (wide upper : Bool) (v : Nat) : Nat := if wide then v % 2 ^ 64 else if upper then v / 2 ^ 32 % 2 ^ 32 else v % 2 ^ 32

/-- An access of BAR0 is naturally aligned (R79). -/
def aligned (wide : Bool) (off : Nat) : Bool := if wide then off % 8 == 0 else off % 4 == 0

/-- What a read of the lower or upper half clears or latches (the RC fields, and AST_NOW_S). -/
def State.readEffect (s : State) (off : Nat) (lo hi : Bool) : State :=
  let keep := fun (c : Bool) (v : Nat) => if c then 0 else v
  match arr 0x100100 8 16 off, arr 0x902000 8 64 off, arr 0xB01000 16 64 off with
  | some n, _, _ => s.updTf n (fun x => { x with overruns := keep lo x.overruns })
  | _, some t, _ => s.updGp t (fun g => { g with
      blanks := keep lo g.blanks, relockFails := keep lo g.relockFails, preambleFails := keep lo g.preambleFails
      uncorrectable := keep hi g.uncorrectable })
  | _, _, some n =>
    if !hi then s
    else if off % 16 == 0 then { s with skk := { s.skk with peak := s.skk.peak.del n } }
    else { s with skk := { s.skk with spilled := s.skk.spilled.del n } }
  | _, _, _ =>
    match arr 0xB02000 16 64 off, arr 0x1301000 16 64 off, arr 0x1400000 16 262144 off with
    | some n, _, _ =>
      if off % 16 == 0 then { s with skk := { s.skk with num := s.skk.num.upd n (0, 0, 0, 0) (fun x =>
        (keep lo x.1, keep lo x.2.1, keep hi x.2.2.1, keep hi x.2.2.2)) } }
      else if hi then { s with skk := { s.skk with overwrites := s.skk.overwrites.del n } } else s
    | _, some n, _ =>
      if off % 16 == 0 then s
      else { s with fm := { s.fm with sliceErr := s.fm.sliceErr.upd n (0, 0, 0, 0) (fun x =>
        (keep lo x.1, keep lo x.2.1, keep hi x.2.2.1, keep hi x.2.2.2)) } }
    | _, _, some q =>
      if off % 16 == 0 || (s.queue q).st == 0 then s
      else s.updQueue q (fun x => { x with opsRc := keep lo x.opsRc, errRc := keep hi x.errRc })
    | _, _, _ =>
      match arr 0x2300100 16 16 off, arr 0x2400100 16 32 off, arr 0x3100100 16 2 off with
      | some n, _, _ =>
        if off % 16 == 0 || !lo || !s.ast.trig.has n then s else s.setTrig n { s.trig n with skipped := 0 }
      | _, some r, _ => if off % 16 == 0 || !lo then s else s.updRegion r (fun x => { x with rejected := 0 })
      | _, _, some p =>
        if off % 16 == 0 then s
        else { s with boot := { s.boot with
          authFails := if lo then s.boot.authFails.del p else s.boot.authFails
          claimFails := if lo then s.boot.claimFails.del p else s.boot.claimFails
          dropped := if hi then s.boot.dropped.del p else s.boot.dropped } }
      | _, _, _ =>
        match off with
        | 0x2300008 => { s with ast := { s.ast with latchNs := s.ns % 1000000000, latchFrac := s.time16 % 2 ^ 16 } }
        | 0x2800020 => if hi then { s with bnc := { s.bnc with trace := { s.bnc.trace with peak := 0 } } } else s
        | 0x3000010 => if s.log.entries == [] then { s with free := s.free + 1 } else s
        | _ => s

/-- REGISTER_READ_CLEAR (R15): a read of a register, which returns its value and clears its RC fields. A misaligned one
returns 0 and sets ACCESS_WIDTH (R79). -/
def execRegisterReadClear (t : RegTarget) (wide : Bool) (s : State) : Host.Outcome State Fault Refusal :=
  .next (match t with
    | .pf off =>
      if !aligned wide off then (s.fnErr 0 0).answer 0
      else
        let upper := !wide && off % 8 == 4
        let base := off / 8 * 8
        (s.readEffect base (wide || !upper) (wide || upper)).answer (half wide upper (s.pfWord base))
    | .vf n off =>
      if !aligned wide off then (s.fnErr n 0).answer 0
      else s.answer (half wide (!wide && off % 8 == 4) (if off < 0x10000 then s.fnWord n (off / 8 * 8) else 0))
    | .bar2 n off => s.answer (if aligned wide off then half wide (!wide && off % 8 == 4) (s.bar2 n (off / 8 * 8)) else 0)
    | .sriov => s.answer s.hif.numVfs)

/-! ### Writing (R15, R81, R82) -/

/-- The value of a register with one access written into it. -/
def merge (cur v : Nat) (wide upper : Bool) : Nat :=
  if wide then v % 2 ^ 64 else if upper then cur % 2 ^ 32 + v % 2 ^ 32 * 2 ^ 32 else cur / 2 ^ 32 * 2 ^ 32 + v % 2 ^ 32

/-- A RW1C register: bits written as 1 are cleared. -/
def w1c (cur v : Nat) : Nat := Nat.xor cur (Nat.land cur v)

/-- HIF_SP_ADDR written (R81, R90). -/
def State.writeSp (s : State) (fn v : Nat) : State :=
  s.updFn fn (fun b => { b with spEnable := bit v 0, spAddr := bits v 12 52 })

/-- A write of a register of a ring. The upper half of a doorbell or of HIF_RING_CFG carries nothing. -/
def State.writeRing (s : State) (fn : Fin 64) (k : Fin 16) (o : Nat) (wide upper : Bool) (v : Nat) : State :=
  let r := s.ring fn k
  let v' := merge (r.word o) v wide upper
  match o with
  | 0x00 => s.writeBase fn k false v'
  | 0x08 => s.writeBase fn k true v'
  | 0x10 => if upper then s else s.writeCfgRun fn k v'
  | 0x18 => if upper then s else s.writeTail fn k v'
  | 0x20 => if upper then s else s.writeHead fn k v'
  | 0x28 => if upper then s else s.writeStep fn k v'
  | 0x38 => if upper then s else s.writeResume fn k v'
  | _ => s

/-- A write of a register of a function block (R81). -/
def State.writeFnWord (s : State) (fn : Fin 64) (off : Nat) (wide upper : Bool) (v : Nat) : State :=
  match arr 0x100 0x40 16 off with
  | some k => s.writeRing fn ⟨k % 16, Nat.mod_lt _ (by decide)⟩ ((off - 0x100) % 0x40) wide upper v
  | none =>
    match off with
    | 0x08 => s.writeSp fn (merge (s.fnWord fn 0x08) v wide upper)
    | 0x10 => if upper || fn.val != 0 then s else s.updFn fn (fun b => { b with spSlice := v % 64 })
    | 0x18 => if upper then s else s.updFn fn (fun b => { b with err := w1c b.err v })
    | _ => s

/-- A write of a register of PF BAR0 outside the function block: the event registers clear, the others are read-only. -/
def State.writePf (s : State) (off : Nat) (upper : Bool) (v : Nat) : State :=
  if upper then s
  else match off with
  | 0x100010 => { s with plane := { s.plane with events := w1c s.plane.events v } }
  | 0x900010 => { s with col := { s.col with events := w1c s.col.events v } }
  | 0xB00010 => { s with skk := { s.skk with events := w1c s.skk.events v } }
  | 0x1300010 => { s with fm := { s.fm with events := w1c s.fm.events v } }
  | 0x2300038 => { s with ast := { s.ast with events := w1c s.ast.events v } }
  | 0x2400010 => { s with sxt := { s.sxt with events := w1c s.sxt.events v } }
  | 0x2800010 => { s with bnc := { s.bnc with events := w1c s.bnc.events v } }
  | 0x3000020 => { s with log := { s.log with events := w1c s.log.events v } }
  | 0x3100028 => { s with boot := { s.boot with events := w1c s.boot.events v } }
  | _ => s

/-- REGISTER_WRITE (R15): a write of a register, by its access code; of the SR-IOV capability, the number of VFs
enabled (R74). -/
def execRegisterWrite (t : RegTarget) (wide : Bool) (value : Nat) (s : State) : Host.Outcome State Fault Refusal :=
  .next (match t with
    | .pf off =>
      if !aligned wide off then s.fnErr 0 0
      else
        let upper := !wide && off % 8 == 4
        if decide (0x10000 ≤ off ∧ off < 0x20000) then s.writeFnWord 0 (off / 8 * 8 - 0x10000) wide upper value
        else s.writePf (off / 8 * 8) upper value
    | .vf n off =>
      if !aligned wide off then s.fnErr n 0
      else if off < 0x10000 then s.writeFnWord n (off / 8 * 8) wide (!wide && off % 8 == 4) value else s
    | .bar2 _ _ => s
    | .sriov => { s with hif := { s.hif with numVfs := min value 63 } })

/-- STATUS_PAGE_ENABLE (R90): a write of HIF_SP_ADDR. -/
def execStatusPageEnable (fn : Fin 64) (value : Nat) (s : State) : Host.Outcome State Fault Refusal := .next (s.writeSp fn value)

/-! ### The status page (R90 to R93) -/

/-- A condition of the slices that a function's page shows: the PF's shows all of them, the page of VF n slice n. -/
def State.ofSlices (s : State) (fn : Nat) (p : Nat → Bool) : Bool :=
  if fn == 0 then s.topo.slice.keys.any p else p fn

/-- A circuit of the slice is held open-loop (R132). -/
def State.openLoop (s : State) (n : Nat) : Bool :=
  s.topo.plot.any (fun e => e.2.slice == n && e.2.circuits.any (fun c =>
    !c.failed && !c.superseded && ((s.mirror (mir0 c)).st == .held || (s.mirror (mir1 c)).st == .held)))

/-- Light of the monitor band on a port of the slice (R131). -/
def State.bandOn (s : State) (fn : Nat) : Bool := s.plane.band.any (fun t => fn == 0 || s.owner (refT t) == fn)

/-- Whether an alarm of R93 stands on the page of a function. -/
def State.alarm (s : State) (fn i : Nat) : Bool :=
  match i with
  | 0 => s.ast.st == .unqualified || s.ast.st == .freeRunning
  | 1 => s.ast.st != .locked
  | 2 => s.mem.overAlarm.any (fun e => fn == 0 || e.2 == fn)
  | 3 => s.ofSlices fn (fun n => (s.passagesOf n).any (fun e => e.2.st == .stalled))
  | 4 => s.ofSlices fn (fun n => s.sxt.takes.any (fun k => k.slice == n && !k.dark))
  | 5 => s.mem.rateHigh != []
  | 6 => s.hif.memUnc
  | 7 => s.ofSlices fn s.openLoop
  | 8 => s.ofSlices fn (fun n => (s.gports n).any (fun t => decide (64 ≤ (s.gp t).laser)))
  | 9 => s.mem.hot != []
  | 10 => s.mem.coolantOut
  | 11 => s.boot.staged
  | 12 => s.boot.healthPending
  | 13 => s.log.mode != 0
  | 14 => s.topo.tport.any (fun e => e.2.st == .quarantined)
  | 15 => s.bandOn fn
  | 16 => s.ofSlices fn (fun n => (match s.topo.slice.find n with
      | some x => x.subAlarm
      | none => false))
  | _ => false

/-- A time in 2^-16 ns as seconds, nanoseconds and fraction, 12 bytes. -/
def stampBytes (t16 : Nat) : Bytes :=
  leBytes 6 (t16 / 2 ^ 16 / 1000000000) ++ leBytes 4 (t16 / 2 ^ 16 % 1000000000) ++ leBytes 2 (t16 % 2 ^ 16)

/-- A passage entry of the status page (R92). -/
def State.pageEntry (s : State) (n pid : Nat) (p : Passage) : Bytes :=
  let take := s.sxt.takes.find? (fun k => k.slice == n && !k.dark && (match k.pid with
    | some x => x.1 == pid
    | none => false))
  let safe := match p.legs[p.leg]? with
    | some l => l.parkSafe
    | none => false
  leBytes 1 pid ++ leBytes 1 p.st.code ++ leBytes 2 p.leg
    ++ leBytes 1 (b2n safe + 2 * b2n p.parkPend + 4 * b2n take.isSome) ++ zeros 3 ++ leBytes 8 p.iter ++ stampBytes p.w0
    ++ leBytes 2 p.bells ++ leBytes 2 (match take with
      | some k => refG k.port
      | none => 0xFFFF) ++ leBytes 8 p.bytesIn ++ leBytes 8 p.bytesOut ++ zeros 16

/-- The slice that a function's page shows. -/
def State.pageSlice (s : State) (fn : Nat) : Nat := if fn == 0 then (s.fnb 0).spSlice else fn

/-- LOG_SEQ of the page: SEQ of the newest entry; before the first entry, a free value. -/
def State.newestSeq (s : State) : Nat :=
  match s.log.entries.getLast? with
  | some e => e.seq
  | none => (s.fresh 32).1

/-- Bytes 8 to 4,087 of a function's page (R91). -/
def State.pageBody (s : State) (fn : Nat) : Bytes :=
  let n := s.pageSlice fn
  let ps := (s.passagesOf n).take 16
  padTo 4080 (leBytes 8 s.hif.heartbeat ++ stampBytes s.time16 ++ leBytes 1 s.mod.code ++ leBytes 1 s.ast.st.code
    ++ leBytes 1 n ++ leBytes 1 ps.length ++ leBytes 8 (maskOf 17 (s.alarm fn)) ++ leBytes 8 s.bnc.epoch
    ++ leBytes 4 s.newestSeq ++ leBytes 1 (s.log.maxSince (s.fnb fn).logMark) ++ zeros 11
    ++ ps.flatMap (fun e => s.pageEntry n e.1 e.2))

/-- Rewrite one page: SEQ_BEGIN, the body, SEQ_END; a write that fails sets SP_WRITE_FAULT. -/
def State.writePage (s : State) (fn : Nat) (fault : Bool) : State :=
  let b := s.fnb fn
  let seq := (b.spSeq + 1) % 2 ^ 64
  let s1 := s.updFn fn (fun x => { x with spSeq := seq })
  if fault then s1.fnErr fn 7
  else ((s1.emit (.hostWrite (4096 * b.spAddr) (leBytes 8 seq))).emit (.hostWrite (4096 * b.spAddr + 8) (s.pageBody fn))).emit
    (.hostWrite (4096 * b.spAddr + 4088) (leBytes 8 seq))

/-- STATUS_PAGE_REFRESH (R90): at the next multiple of 10 µs the heartbeat advances and every enabled page is rewritten,
but in a pause (R94). `faulted` names the functions whose page write fails. -/
def execStatusPageRefresh (faulted : List Nat) (s : State) : Host.Outcome State Fault Refusal :=
  .next (if s.ringsPaused then s
    else
      let s1 := s.advanceTo (s.nextMultiple 10000)
      let s2 := { s1 with hif := { s1.hif with heartbeat := (s1.hif.heartbeat + 1) % 2 ^ 64 } }
      let s3 := (List.range 64).foldl (fun s fn => if (s.fnb fn).spEnable then s.writePage fn (faulted.contains fn) else s) s2
      if s3.log.entries == [] then { s3 with free := s3.free + 1 } else s3)

end Sys2Proof.Machine
end

