-- ==== Sys2Proof/Machine/Dispatch.lean ====
section
/-! DEFINITION. One arm for each command: a direct call of its meaning. -/

namespace Sys2Proof.Machine

def exec (i : Instr) (s : State) : Host.Outcome State Fault Refusal :=
  match i with
  | .identify r => Sys2Proof.Machine.execIdentify r s
  | .nop r => Sys2Proof.Machine.execNop r s
  | .functionQuery r => Sys2Proof.Machine.execFunctionQuery r s
  | .sliceCreate r => Sys2Proof.Machine.execSliceCreate r s
  | .sliceAssign r => Sys2Proof.Machine.execSliceAssign r s
  | .sliceQuery r => Sys2Proof.Machine.execSliceQuery r s
  | .sliceReset r => Sys2Proof.Machine.execSliceReset r s
  | .sliceDelete r => Sys2Proof.Machine.execSliceDelete r s
  | .portAdmit r => Sys2Proof.Machine.execPortAdmit r s
  | .standingSet r => Sys2Proof.Machine.execStandingSet r s
  | .chartLoad r => Sys2Proof.Machine.execChartLoad r s
  | .chartQuery r => Sys2Proof.Machine.execChartQuery r s
  | .chartCommit r => Sys2Proof.Machine.execChartCommit r s
  | .chartCommitComplete slice => Sys2Proof.Machine.execChartCommitComplete slice s
  | .chartRelease r => Sys2Proof.Machine.execChartRelease r s
  | .passageLoad r => Sys2Proof.Machine.execPassageLoad r s
  | .passageArm r => Sys2Proof.Machine.execPassageArm r s
  | .passageDoorbell r => Sys2Proof.Machine.execPassageDoorbell r s
  | .passagePark r => Sys2Proof.Machine.execPassagePark r s
  | .passageResume r => Sys2Proof.Machine.execPassageResume r s
  | .passageAbort r => Sys2Proof.Machine.execPassageAbort r s
  | .passageUnload r => Sys2Proof.Machine.execPassageUnload r s
  | .passageQuery r => Sys2Proof.Machine.execPassageQuery r s
  | .fmWindowSet r => Sys2Proof.Machine.execFmWindowSet r s
  | .qpCreate r => Sys2Proof.Machine.execQpCreate r s
  | .qpDestroy r => Sys2Proof.Machine.execQpDestroy r s
  | .qpDrained qp => Sys2Proof.Machine.execQpDrained qp s
  | .qpQuery r => Sys2Proof.Machine.execQpQuery r s
  | .optBind r => Sys2Proof.Machine.execOptBind r s
  | .optUnbind r => Sys2Proof.Machine.execOptUnbind r s
  | .optStateLoad r => Sys2Proof.Machine.execOptStateLoad r s
  | .optStateDump r => Sys2Proof.Machine.execOptStateDump r s
  | .stateTransferEnd slice tensor done => Sys2Proof.Machine.execStateTransferEnd slice tensor done s
  | .progLoad r => Sys2Proof.Machine.execProgLoad r s
  | .progUnload r => Sys2Proof.Machine.execProgUnload r s
  | .residualClear r => Sys2Proof.Machine.execResidualClear r s
  | .calGet r => Sys2Proof.Machine.execCalGet r s
  | .calRun r => Sys2Proof.Machine.execCalRun r s
  | .calConfig r => Sys2Proof.Machine.execCalConfig r s
  | .calQuery r => Sys2Proof.Machine.execCalQuery r s
  | .timeGet r => Sys2Proof.Machine.execTimeGet r s
  | .timeStatus r => Sys2Proof.Machine.execTimeStatus r s
  | .timeConfig r => Sys2Proof.Machine.execTimeConfig r s
  | .triggerSet r => Sys2Proof.Machine.execTriggerSet r s
  | .ctrSelect r => Sys2Proof.Machine.execCtrSelect r s
  | .ctrSnapshot r => Sys2Proof.Machine.execCtrSnapshot r s
  | .traceConfig r => Sys2Proof.Machine.execTraceConfig r s
  | .traceArm r => Sys2Proof.Machine.execTraceArm r s
  | .traceStop r => Sys2Proof.Machine.execTraceStop r s
  | .traceQuery r => Sys2Proof.Machine.execTraceQuery r s
  | .logRead r => Sys2Proof.Machine.execLogRead r s
  | .logNonce r => Sys2Proof.Machine.execLogNonce r s
  | .logClear r => Sys2Proof.Machine.execLogClear r s
  | .fwQuery r => Sys2Proof.Machine.execFwQuery r s
  | .attest r => Sys2Proof.Machine.execAttest r s
  | .keyList r => Sys2Proof.Machine.execKeyList r s
  | .measurements r => Sys2Proof.Machine.execMeasurements r s
  | .maintEnter r => Sys2Proof.Machine.execMaintEnter r s
  | .maintDrainDone => Sys2Proof.Machine.execMaintDrainDone s
  | .maintExit r => Sys2Proof.Machine.execMaintExit r s
  | .mirrorSet r => Sys2Proof.Machine.execMirrorSet r s
  | .laserSet r => Sys2Proof.Machine.execLaserSet r s
  | .breakSet r => Sys2Proof.Machine.execBreakSet r s
  | .coreResume r => Sys2Proof.Machine.execCoreResume r s
  | .commandFetch fn ring entry block data dma => Sys2Proof.Machine.execCommandFetch fn ring entry block data dma s
  | .commandTimeout fn ring => Sys2Proof.Machine.execCommandTimeout fn ring s
  | .ringDrainDone fn ring => Sys2Proof.Machine.execRingDrainDone fn ring s
  | .hifRingCmdDb fn ring value => Sys2Proof.Machine.execHifRingCmdDb fn ring value s
  | .hifRingCplDb fn ring value => Sys2Proof.Machine.execHifRingCplDb fn ring value s
  | .hifRingStepDb fn ring value => Sys2Proof.Machine.execHifRingStepDb fn ring value s
  | .hifRingCtrlResume fn ring value => Sys2Proof.Machine.execHifRingCtrlResume fn ring value s
  | .ringEnable fn ring value => Sys2Proof.Machine.execRingEnable fn ring value s
  | .ringDisable fn ring value => Sys2Proof.Machine.execRingDisable fn ring value s
  | .stepModeSet fn ring value => Sys2Proof.Machine.execStepModeSet fn ring value s
  | .stepModeClear fn ring value => Sys2Proof.Machine.execStepModeClear fn ring value s
  | .statusPageEnable fn value => Sys2Proof.Machine.execStatusPageEnable fn value s
  | .registerWrite t wide value => Sys2Proof.Machine.execRegisterWrite t wide value s
  | .registerReadClear t wide => Sys2Proof.Machine.execRegisterReadClear t wide s
  | .astNowSRead => Sys2Proof.Machine.execAstNowSRead s
  | .bar0BadAccess fn write => Sys2Proof.Machine.execBar0BadAccess fn write s
  | .statusPageRefresh faulted => Sys2Proof.Machine.execStatusPageRefresh faulted s
  | .functionLevelReset fn => Sys2Proof.Machine.execFunctionLevelReset fn s
  | .pcieLinkDown => Sys2Proof.Machine.execPcieLinkDown s
  | .legComplete slice pid => Sys2Proof.Machine.execLegComplete slice pid s
  | .waypointFire slice pid => Sys2Proof.Machine.execWaypointFire slice pid s
  | .timeTriggerOpen slice pid => Sys2Proof.Machine.execTimeTriggerOpen slice pid s
  | .legTimeout slice pid => Sys2Proof.Machine.execLegTimeout slice pid s
  | .waypointReady g frame => Sys2Proof.Machine.execWaypointReady g frame s
  | .abortSignal g frame => Sys2Proof.Machine.execAbortSignal g frame s
  | .dataFrame p vc frame => Sys2Proof.Machine.execDataFrame p vc frame s
  | .globalLegFrame g vc seq frame => Sys2Proof.Machine.execGlobalLegFrame g vc seq frame s
  | .stripeFreed slice => Sys2Proof.Machine.execStripeFreed slice s
  | .optimizerPassComplete slice pid => Sys2Proof.Machine.execOptimizerPassComplete slice pid s
  | .signalDetect p => Sys2Proof.Machine.execSignalDetect p s
  | .trainFlit p flit => Sys2Proof.Machine.execTrainFlit p flit s
  | .trainingTimeout p => Sys2Proof.Machine.execTrainingTimeout p s
  | .failedPortRetry p => Sys2Proof.Machine.execFailedPortRetry p s
  | .flitReceived p flit => Sys2Proof.Machine.execFlitReceived p flit s
  | .codewordUncorrectable p flits => Sys2Proof.Machine.execCodewordUncorrectable p flits s
  | .retryReq p flit => Sys2Proof.Machine.execRetryReq p flit s
  | .retryReqRepeat p => Sys2Proof.Machine.execRetryReqRepeat p s
  | .syncLoss p lane => Sys2Proof.Machine.execSyncLoss p lane s
  | .noGoodCrcTimeout p => Sys2Proof.Machine.execNoGoodCrcTimeout p s
  | .signalLoss p => Sys2Proof.Machine.execSignalLoss p s
  | .sessionHoldExpiry p => Sys2Proof.Machine.execSessionHoldExpiry p s
  | .fecDegraded p above => Sys2Proof.Machine.execFecDegraded p above s
  | .hailSend p => Sys2Proof.Machine.execHailSend p s
  | .hail p flit => Sys2Proof.Machine.execHail p flit s
  | .sync => Sys2Proof.Machine.execSync s
  | .delayReq p flit => Sys2Proof.Machine.execDelayReq p flit s
  | .nak p frame => Sys2Proof.Machine.execNak p frame s
  | .ackRecord g frame => Sys2Proof.Machine.execAckRecord g frame s
  | .nakRecord g frame => Sys2Proof.Machine.execNakRecord g frame s
  | .preambleRequest g frame => Sys2Proof.Machine.execPreambleRequest g frame s
  | .foreignLight g frame => Sys2Proof.Machine.execForeignLight g frame s
  | .credit g frame => Sys2Proof.Machine.execCredit g frame s
  | .burstHeader g header hailFlit => Sys2Proof.Machine.execBurstHeader g header hailFlit s
  | .compassSlot => Sys2Proof.Machine.execCompassSlot s
  | .retuneLockTimeout g => Sys2Proof.Machine.execRetuneLockTimeout g s
  | .wavelengthError l measChannel freqErr => Sys2Proof.Machine.execWavelengthError l measChannel freqErr s
  | .relockAttemptEnd l ok thermal => Sys2Proof.Machine.execRelockAttemptEnd l ok thermal s
  | .spareTakeoverDone group => Sys2Proof.Machine.execSpareTakeoverDone group s
  | .foreignPilot g rack => Sys2Proof.Machine.execForeignPilot g rack s
  | .gateFault l => Sys2Proof.Machine.execGateFault l s
  | .cablingCheckFrame heard => Sys2Proof.Machine.execCablingCheckFrame heard s
  | .holdoverMarginStep => Sys2Proof.Machine.execHoldoverMarginStep s
  | .ringHeaterUpdate errs => Sys2Proof.Machine.execRingHeaterUpdate errs s
  | .colourSequencerFault => Sys2Proof.Machine.execColourSequencerFault s
  | .gfControllerLost gf => Sys2Proof.Machine.execGfControllerLost gf s
  | .tfBatchSlot tf => Sys2Proof.Machine.execTfBatchSlot tf s
  | .mirrorAcquiring out ident => Sys2Proof.Machine.execMirrorAcquiring out ident s
  | .mirrorSettled out loss => Sys2Proof.Machine.execMirrorSettled out loss s
  | .mirrorParked m => Sys2Proof.Machine.execMirrorParked m s
  | .loopFrame out dx0 dy0 dx1 dy1 => Sys2Proof.Machine.execLoopFrame out dx0 dy0 dx1 dy1 s
  | .identityCheck out ident => Sys2Proof.Machine.execIdentityCheck out ident s
  | .monitorBandDetect t power => Sys2Proof.Machine.execMonitorBandDetect t power s
  | .monitorBandClear t => Sys2Proof.Machine.execMonitorBandClear t s
  | .monitorLoss what lost => Sys2Proof.Machine.execMonitorLoss what lost s
  | .mirrorNotFollowing m => Sys2Proof.Machine.execMirrorNotFollowing m s
  | .latchReadback m x y => Sys2Proof.Machine.execLatchReadback m x y s
  | .driverOvercurrent m => Sys2Proof.Machine.execDriverOvercurrent m s
  | .hvSupplyLost b => Sys2Proof.Machine.execHvSupplyLost b s
  | .hvSupplyRestored b => Sys2Proof.Machine.execHvSupplyRestored b s
  | .tfWatchdog tf => Sys2Proof.Machine.execTfWatchdog tf s
  | .tfReloaded tf => Sys2Proof.Machine.execTfReloaded tf s
  | .openPath k => Sys2Proof.Machine.execOpenPath k s
  | .pathClosed k => Sys2Proof.Machine.execPathClosed k s
  | .portLit t => Sys2Proof.Machine.execPortLit t s
  | .portDark t => Sys2Proof.Machine.execPortDark t s
  | .probeStart t => Sys2Proof.Machine.execProbeStart t s
  | .probeTimeout t => Sys2Proof.Machine.execProbeTimeout t s
  | .silentRetry t => Sys2Proof.Machine.execSilentRetry t s
  | .positionLost slice a => Sys2Proof.Machine.execPositionLost slice a s
  | .strapSample levels => Sys2Proof.Machine.execStrapSample levels s
  | .ptpMessage m => Sys2Proof.Machine.execPtpMessage m s
  | .ppsEdge offset => Sys2Proof.Machine.execPpsEdge offset s
  | .disciplineLost => Sys2Proof.Machine.execDisciplineLost s
  | .holdoverExpiry => Sys2Proof.Machine.execHoldoverExpiry s
  | .unqualifiedExpiry => Sys2Proof.Machine.execUnqualifiedExpiry s
  | .masterChange master offset => Sys2Proof.Machine.execMasterChange master offset s
  | .timeStep masterTime => Sys2Proof.Machine.execTimeStep masterTime s
  | .timeAcquisitionEnd => Sys2Proof.Machine.execTimeAcquisitionEnd s
  | .counterSnapshotTrigger k => Sys2Proof.Machine.execCounterSnapshotTrigger k s
  | .sextantSweepTrigger k => Sys2Proof.Machine.execSextantSweepTrigger k s
  | .snapshotWritten => Sys2Proof.Machine.execSnapshotWritten s
  | .calTemperatureTrigger region temp => Sys2Proof.Machine.execCalTemperatureTrigger region temp s
  | .darkPass l cut => Sys2Proof.Machine.execDarkPass l cut s
  | .calDeadline l => Sys2Proof.Machine.execCalDeadline l s
  | .calRunJudged region tables temp moved => Sys2Proof.Machine.execCalRunJudged region tables temp moved s
  | .calRerun region => Sys2Proof.Machine.execCalRerun region s
  | .correctionCommit region table => Sys2Proof.Machine.execCorrectionCommit region table s
  | .calStoreWrite region table ok => Sys2Proof.Machine.execCalStoreWrite region table ok s
  | .feedforwardUpdate power coolant => Sys2Proof.Machine.execFeedforwardUpdate power coolant s
  | .terminatedHeaterUpdate engine errs => Sys2Proof.Machine.execTerminatedHeaterUpdate engine errs s
  | .powerPublicationLapse => Sys2Proof.Machine.execPowerPublicationLapse s
  | .ringHold p => Sys2Proof.Machine.execRingHold p s
  | .traceRecord typ slice domain stretch body => Sys2Proof.Machine.execTraceRecord typ slice domain stretch body s
  | .traceTriggered seq => Sys2Proof.Machine.execTraceTriggered seq s
  | .traceRingFull => Sys2Proof.Machine.execTraceRingFull s
  | .loglineEntry severity slice event agent args => Sys2Proof.Machine.execLoglineEntry severity slice event agent args s
  | .journalWrite ok => Sys2Proof.Machine.execJournalWrite ok s
  | .recorderStandby addr => Sys2Proof.Machine.execRecorderStandby addr s
  | .breakHit core index pc => Sys2Proof.Machine.execBreakHit core index pc s
  | .coldStart c => Sys2Proof.Machine.execColdStart c s
  | .modResetN lowMs c => Sys2Proof.Machine.execModResetN lowMs c s
  | .warmRestart cause core => Sys2Proof.Machine.execWarmRestart cause core s
  | .warmRestartDone badTables planeOk => Sys2Proof.Machine.execWarmRestartDone badTables planeOk s
  | .inputLoss how => Sys2Proof.Machine.execInputLoss how s
  | .cleoshDatagram port linkLocal bytes => Sys2Proof.Machine.execCleoshDatagram port linkLocal bytes s
  | .cleoshResend sess => Sys2Proof.Machine.execCleoshResend sess s
  | .cleoshAckTimer sess => Sys2Proof.Machine.execCleoshAckTimer sess s
  | .hello port addr keyIndex => Sys2Proof.Machine.execHello port addr keyIndex s
  | .auth m => Sys2Proof.Machine.execAuth m s
  | .authTimeout sess => Sys2Proof.Machine.execAuthTimeout sess s
  | .sessionIdle sess => Sys2Proof.Machine.execSessionIdle sess s
  | .statusReq m => Sys2Proof.Machine.execStatusReq m s
  | .lockReq m => Sys2Proof.Machine.execLockReq m s
  | .lockRelease m => Sys2Proof.Machine.execLockRelease m s
  | .lockIdleExpiry => Sys2Proof.Machine.execLockIdleExpiry s
  | .stageBegin m => Sys2Proof.Machine.execStageBegin m s
  | .stageBlock m => Sys2Proof.Machine.execStageBlock m s
  | .stageEnd m => Sys2Proof.Machine.execStageEnd m s
  | .activate m => Sys2Proof.Machine.execActivate m s
  | .activationP0 => Sys2Proof.Machine.execActivationP0 s
  | .activationAbandoned => Sys2Proof.Machine.execActivationAbandoned s
  | .healthConfirmed => Sys2Proof.Machine.execHealthConfirmed s
  | .healthFallback failed => Sys2Proof.Machine.execHealthFallback failed s
  | .loaderCommit m => Sys2Proof.Machine.execLoaderCommit m s
  | .restart m => Sys2Proof.Machine.execRestart m s
  | .enroll m => Sys2Proof.Machine.execEnroll m s
  | .revoke m => Sys2Proof.Machine.execRevoke m s
  | .claim m => Sys2Proof.Machine.execClaim m s
  | .unclaim m => Sys2Proof.Machine.execUnclaim m s
  | .close sess => Sys2Proof.Machine.execClose sess s
  | .memRepair mem addr => Sys2Proof.Machine.execMemRepair mem addr s
  | .memUncorrectable mem addr consumer slice obj => Sys2Proof.Machine.execMemUncorrectable mem addr consumer slice obj s
  | .scrubPass mem overdue corrected bad => Sys2Proof.Machine.execScrubPass mem overdue corrected bad s
  | .unitKnownAnswerTest u pass => Sys2Proof.Machine.execUnitKnownAnswerTest u pass s
  | .hbmStackFailed k => Sys2Proof.Machine.execHbmStackFailed k s
  | .saturationInterval resource busy waited waits => Sys2Proof.Machine.execSaturationInterval resource busy waited waits s
  | .dieLinkLaneFail die lane trainingLost => Sys2Proof.Machine.execDieLinkLaneFail die lane trainingLost s
  | .throttleStep temp => Sys2Proof.Machine.execThrottleStep temp s
  | .thermalStop temp => Sys2Proof.Machine.execThermalStop temp s
  | .sensorLimit sensor reading second => Sys2Proof.Machine.execSensorLimit sensor reading second s
  | .fmReq p vc frame => Sys2Proof.Machine.execFmReq p vc frame s
  | .fmReqGlobal g vc frame => Sys2Proof.Machine.execFmReqGlobal g vc frame s
  | .fmOperationComplete ref => Sys2Proof.Machine.execFmOperationComplete ref s
  | .fmRsp g vc frame => Sys2Proof.Machine.execFmRsp g vc frame s
  | .pathProbe => Sys2Proof.Machine.execPathProbe s
  | .relay qp reqId => Sys2Proof.Machine.execRelay qp reqId s
  | .fmRouteTimeout qp reqId => Sys2Proof.Machine.execFmRouteTimeout qp reqId s
  | .fmPathFault qp reqId => Sys2Proof.Machine.execFmPathFault qp reqId s
  | .armEpoch slice pid => Sys2Proof.Machine.execArmEpoch slice pid s
  | .pcieLinkUp gen width => Sys2Proof.Machine.execPcieLinkUp gen width s
  | .equaliserConverged p => Sys2Proof.Machine.execEqualiserConverged p s
  | .syncLockAcquired p lane decoded => Sys2Proof.Machine.execSyncLockAcquired p lane decoded s
  | .flitSlot p => Sys2Proof.Machine.execFlitSlot p s
  | .tenMhzLost => Sys2Proof.Machine.execTenMhzLost s
  | .holdLong out => Sys2Proof.Machine.execHoldLong out s
  | .ppsOut => Sys2Proof.Machine.execPpsOut s
  | .traceStageDrain n => Sys2Proof.Machine.execTraceStageDrain n s
  | .memCorrectableClear mem idx => Sys2Proof.Machine.execMemCorrectableClear mem idx s
  | .fallbackParkEnd => Sys2Proof.Machine.execFallbackParkEnd s

end Sys2Proof.Machine
end

