-- ==== Sys2Proof/Safety.lean ====
section
/-! DEFINITION. What the statements mean by a command that is accepted, a completion that is written, and a legal state
of the block. -/

namespace Sys2Proof.Safety

open Sys2Proof.Machine

/-- The module can start the host command of an opcode and its checks 3 to 8 of R97 pass: its ring is RUNNING with a
free completion slot and nothing in execution, no pause runs, host memory answers, and slice, authority, module state
and parameter block are as R97 asks. -/
def accepts (opcode : Nat) (r : Req) (s : State) : Bool :=
  s.canStart r.fn r.ring && (s.ring r.fn r.ring).st == .running && r.dma == .ok && sliceFieldOk r.fn opcode r.slice
    && (match catalogue.find opcode with
      | some i => authChk s i opcode r.fn r.slice r.params == none && blockChk i opcode r == none
      | none => false)

/-- The last thing put out is the completion of the command, at the ring's completion index and in its phase, with this
status and these result words (R86, R99). -/
def Completed (r : Req) (s t : State) (status w0 w1 : Nat) : Prop :=
  ∃ c : Cpl, t.out.getLast? = some (.completion r.fn r.ring (s.ring r.fn r.ring).cplIndex c)
    ∧ c.tag = r.tag % 2 ^ 32 ∧ c.status = status ∧ c.seq = r.seq ∧ c.phase = (s.ring r.fn r.ring).phase
    ∧ c.word0 = w0 % 2 ^ 64 ∧ c.word1 = w1 % 2 ^ 64 ∧ c.time = time48 t.ns ∧ c.ring = r.ring

/-- What the end of a command does to the host interface and the binnacle: the completion index of its ring advances by
one (R86), and the trace may take its records. Nothing else of either changes. -/
def Quiet (r : Req) (s t : State) : Prop :=
  t.hif = { s.hif with ring := t.hif.ring } ∧ t.ring r.fn r.ring = (s.ring r.fn r.ring).stepCpl
    ∧ (∀ (f : Nat) (k : Fin 16), ¬(f = r.fn ∧ k = r.ring) → t.ring f k = s.ring f k)
    ∧ t.bnc = { s.bnc with trace := t.bnc.trace, events := t.bnc.events }

/-- The command puts out its completion and nothing else. -/
def Silent (s t : State) : Prop := ∃ c, t.out = s.out ++ [c]

/-- The command writes these bytes to host memory at this address, then its completion, and puts out nothing else. -/
def Writes (addr : Nat) (b : Bytes) (s t : State) : Prop := ∃ c, t.out = s.out ++ [.hostWrite addr b, c]

/-- Only the trace, of the whole binnacle, differs. -/
def Traced (s t : State) : Prop := t.bnc = { s.bnc with trace := t.bnc.trace, events := t.bnc.events }

/-- The command is in execution on its ring, waiting in the module (R85). -/
def Waits (opcode : Nat) (r : Req) (t : State) (w : Wait) : Prop :=
  ∃ e ∈ t.hif.execs, e.fn = r.fn ∧ e.ring = r.ring ∧ e.tag = r.tag ∧ e.seq = r.seq ∧ e.opcode = opcode ∧ e.wait = w
    ∧ e.discard = false

/-- Only the registers of one ring, and of its function block, differ (R81). -/
def OnlyRing (fn : Nat) (k : Fin 16) (s t : State) : Prop :=
  t = { s with hif := { s.hif with ring := t.hif.ring, fn := t.hif.fn } }
    ∧ (∀ (f : Nat) (j : Fin 16), ¬(f = fn ∧ j = k) → t.ring f j = s.ring f j) ∧ ∀ f, f ≠ fn → t.fnb f = s.fnb f

/-- No plot is being released and no SLICE_RESET waits, so that the parking of a mirror ends nothing else (R50, R328). -/
def NothingReleasing (s : State) : Prop :=
  (∀ e ∈ s.topo.plot, e.2.releasing = false) ∧ ∀ x ∈ s.hif.execs, ∀ n a, x.wait ≠ .park n a

/-- Only mirrors, of the whole plane, differ. -/
def OnlyMirrors (s t : State) : Prop := t = { s with plane := { s.plane with mirror := t.plane.mirror } }

/-- No frame is held back on a terminated port, so that nothing waits for a passage to move on (R70, R246). -/
def NoHeld (s : State) : Prop := ∀ e ∈ s.lnk.port, e.2.heldq = []

/-- Every passage but one stands as it did. -/
def OtherPassages (slice pid : Nat) (s t : State) : Prop := ∀ k, k ≠ psgKey slice pid → t.psg.find k = s.psg.find k

/-- The fields a command of R64 and R65 does not use are 0, and it names a passage of a slice that exists. -/
def Names (r : Req) (s : State) (p : Passage) : Prop :=
  1 ≤ r.p 16 1 ∧ r.p 17 1 = 0 ∧ r.p 20 4 = 0 ∧ r.z 34 = true ∧ s.hasSlice r.slice = true
    ∧ s.psg.find (psgKey r.slice (r.p 16 1)) = some p

/-- The numbers of the requests outstanding lie below the next one to be given (R291). -/
def RefsBelow (s : State) : Prop := ∀ x ∈ s.fm.reqs, x.ref < s.fm.nextRef

/-- The endpoint of a request can be answered: its queue is there, its port has not failed, and no session change has lost
the answer (R301). -/
def Answerable (r : FReq) (s : State) : Prop :=
  (s.fm.queue.find r.qp).isSome = true ∧ (s.lp (refIndex (s.queue r.qp).endpoint)).st ≠ .failed
    ∧ s.fm.lostRsp.contains (r.qp, r.reqId) = false ∧ r.reqId ≠ counterId

/-- A request has completed with a status and data: its record is gone, its queue has counted it, and its response waits on
virtual channel 4 of its endpoint's port (R294). -/
def Answered (r : FReq) (status : Nat) (data : Bytes) (s t : State) : Prop :=
  (∀ x ∈ t.fm.reqs, x.ref ≠ r.ref) ∧ (t.queue r.qp).done = (s.queue r.qp).done + 1
    ∧ (t.lp (refIndex (s.queue r.qp).endpoint)).txq = (s.lp (refIndex (s.queue r.qp).endpoint)).txq
        ++ [⟨4, rspFrame r.slice r.op status r.gaddr r.qp r.reqId data, 0, none, 0, 0⟩]

/-- Only the registers of one terminated port differ. -/
def OnlyLink (p : Nat) (s t : State) : Prop :=
  t = { s with lnk := { s.lnk with port := t.lnk.port } } ∧ ∀ q, q ≠ p → t.lp q = s.lp q

/-- Only the registers of one terminated port, and the selected counters, differ. -/
def LinkAndCounters (p : Nat) (s t : State) : Prop :=
  t = { s with lnk := { s.lnk with port := t.lnk.port }, bnc := { s.bnc with ctr := t.bnc.ctr } }
    ∧ ∀ q, q ≠ p → t.lp q = s.lp q

/-- The message is the oldest whole one of its open session, in a module that serves Cleosh (R426). -/
def Heard (m : CMsg) (typ : Nat) (x : Sess) (s : State) : Prop :=
  s.served = true ∧ s.boot.sess.find m.sess = some x ∧ x.whole.head? = some (m.msgId, typ, m.body)

/-- The same of a message that carries a signature (R427). -/
def HeardSigned (m : CMsg) (typ : Nat) (x : Sess) (s : State) : Prop :=
  s.served = true ∧ s.boot.sess.find m.sess = some x
    ∧ x.whole.head? = some (m.msgId, typ, m.body ++ beBytes 4 m.sig.length ++ m.sig)

/-- The module answers the message with one of its own, of this type and body, in the same session (R425, R426). -/
def Replied (m : CMsg) (x : Sess) (typ : Nat) (body : Bytes) (s t : State) : Prop :=
  t.out = s.out ++ [.cleosh m.sess (cleoshHeader typ m.sess x.txSeq x.rxSeq x.txMsg 0 body.length 1 ++ body)]

/-- The module answers the message with RESULT (R427). -/
def Resulted (m : CMsg) (x : Sess) (status detail w0 w1 : Nat) (s t : State) : Prop :=
  Replied m x 0x7F (resultBody m.msgId status detail w0 w1) s t

/-- The message is taken from its session, which stays open, and other sessions stand as they did. -/
def Taken (m : CMsg) (x : Sess) (s t : State) : Prop :=
  (∃ y, t.boot.sess.find m.sess = some y ∧ y.whole = x.whole.tail ∧ y.role = x.role ∧ y.key = x.key
      ∧ y.rxSeq = x.rxSeq ∧ y.rxMsg = x.rxMsg)
    ∧ ∀ k, k ≠ m.sess → t.boot.sess.find k = s.boot.sess.find k

/-- The rows of the host commands by opcode (R102). -/
def hostRows : List (Nat × (Req → Instr)) := [
  (0x0001, .identify), (0x0002, .nop), (0x0003, .functionQuery), (0x0101, .sliceCreate),
  (0x0102, .sliceAssign), (0x0103, .sliceQuery), (0x0104, .sliceReset), (0x0105, .sliceDelete),
  (0x0106, .portAdmit), (0x0107, .standingSet), (0x0201, .chartLoad), (0x0202, .chartQuery),
  (0x0203, .chartCommit), (0x0204, .chartRelease), (0x0301, .passageLoad), (0x0302, .passageArm),
  (0x0303, .passageDoorbell), (0x0304, .passagePark), (0x0305, .passageResume), (0x0306, .passageAbort),
  (0x0307, .passageUnload), (0x0308, .passageQuery), (0x0401, .fmWindowSet), (0x0402, .qpCreate),
  (0x0403, .qpDestroy), (0x0404, .qpQuery), (0x0501, .optBind), (0x0502, .optUnbind),
  (0x0503, .optStateLoad), (0x0504, .optStateDump), (0x0505, .progLoad), (0x0506, .progUnload),
  (0x0507, .residualClear), (0x0601, .calGet), (0x0602, .calRun), (0x0603, .calConfig),
  (0x0604, .calQuery), (0x0701, .timeGet), (0x0702, .timeStatus), (0x0703, .timeConfig),
  (0x0704, .triggerSet), (0x0801, .ctrSelect), (0x0802, .ctrSnapshot), (0x0803, .traceConfig),
  (0x0804, .traceArm), (0x0805, .traceStop), (0x0806, .traceQuery), (0x0901, .logRead),
  (0x0902, .logNonce), (0x0903, .logClear), (0x0A01, .fwQuery), (0x0A02, .attest),
  (0x0A03, .keyList), (0x0A04, .measurements), (0x0B01, .maintEnter), (0x0B02, .maintExit),
  (0x0B03, .mirrorSet), (0x0B04, .laserSet), (0x0B05, .breakSet), (0x0B06, .coreResume)]

/-- Every fabric-memory window is in the canonical form of `Memory.wf`. -/
def windowsWf (s : State) : Bool := s.topo.slice.all (fun e => Memory.wf e.2.window)

/-- A legal state: the part is one of the four variants (R1), and every fabric-memory window is in canonical form. -/
def Legal (s : State) : Prop :=
  (s.fuse.variant = 0x48 ∨ s.fuse.variant = 0x44 ∨ s.fuse.variant = 0x28 ∨ s.fuse.variant = 0x24) ∧ windowsWf s = true

end Sys2Proof.Safety
end

