-- ==== Sys2Proof/Certificates/Slice0/Obligations.lean ====
section
/-! DEFINITION. What is stated of the block, for the provers: one definition for each statement. -/

open Sys2Proof Sys2Proof.Machine Sys2Proof.Safety

/-- A step takes the command at the front of the queue and runs it on the state with the queue's rest; with no command
waiting it is one reference cycle of the astrolabe and nothing else, which is the model's choice (log entry 1). -/
def Obligations.StepRunsFrontCommand : Prop :=
  (∀ (c : Instr) (rest : List Instr) (s : State), s.pending = c :: rest → step s = exec c { s with pending := rest })
  ∧ (∀ s : State, s.pending = [] → step s = .next { s with ast := s.ast.tick })

/-- NOP and FUNCTION_QUERY (R106): both are inline commands whose bytes 16 to 63 are reserved. NOP returns HIF_HEARTBEAT
and 0; FUNCTION_QUERY returns the masks of enabled VFs and of existing slices, bit 0 of both reading 0. Neither changes
anything but its own completion, trace and log. -/
def Obligations.NopAndFunctionQuery : Prop :=
  ((catalogue.find 0x0002).map (·.ptr) = some false ∧ (catalogue.find 0x0003).map (·.ptr) = some false)
  ∧ (∀ (r : Req) (s : State), accepts 0x0002 r s = true → r.z 16 = true →
      ∃ t, exec (.nop r) s = .next t ∧ Completed r s t 0 s.hif.heartbeat 0
        ∧ Silent s t ∧ Quiet r s t ∧ t = { s with hif := t.hif, bnc := t.bnc, out := t.out })
  ∧ (∀ (r : Req) (s : State), accepts 0x0003 r s = true → r.z 16 = true →
      ∃ t w0 w1, exec (.functionQuery r) s = .next t ∧ Completed r s t 0 w0 w1
        ∧ (∀ n, n < 64 → (bit w0 n = true ↔ 1 ≤ n ∧ n ≤ s.hif.numVfs) ∧ (bit w1 n = true ↔ 1 ≤ n ∧ s.hasSlice n = true))
        ∧ Silent s t ∧ Quiet r s t ∧ t = { s with hif := t.hif, bnc := t.bnc, out := t.out })
  ∧ (∀ (r : Req) (s : State), accepts 0x0002 r s = true → r.z 16 = false →
      ∃ t, exec (.nop r) s = .next t ∧ Completed r s t 0x0101 16 0 ∧ Silent s t ∧ Quiet r s t
        ∧ t = { s with hif := t.hif, bnc := t.bnc, out := t.out })
  ∧ (∀ (r : Req) (s : State), accepts 0x0003 r s = true → r.z 16 = false →
      ∃ t, exec (.functionQuery r) s = .next t ∧ Completed r s t 0x0101 16 0 ∧ Silent s t ∧ Quiet r s t
        ∧ t = { s with hif := t.hif, bnc := t.bnc, out := t.out })

/-- The doorbells of a ring (R84, R89): a TAIL below N is the ring's tail; a HEAD that names the end of k completions
written and not released releases exactly them; any other TAIL or HEAD is ignored, sets DB_RANGE and puts a RUNNING or
STEP_HELD ring in ERROR. Nothing but that ring and its function block changes.
STEP, RESUME and the end of a drain (R87, R110): a STEP write with nothing held sets STEP_EMPTY and does no more, and a
write whose bit 0 is 0 does nothing; in a pause a STEP write is kept; RESUME leaves ERROR by STEP_MODE; a DRAINING ring
with nothing in execution becomes DISABLED. -/
def Obligations.Doorbells : Prop :=
  ((∀ (fn : Fin 64) (k : Fin 16) (v : Nat) (s : State), v % 2 ^ 16 < 2 ^ (s.ring fn k).log2 →
      ∃ t, exec (.hifRingCmdDb fn k v) s = .next t ∧ t.ring fn k = { s.ring fn k with tail := v % 2 ^ 16 }
        ∧ t.fnb fn = s.fnb fn ∧ OnlyRing fn k s t)
  ∧ (∀ (fn : Fin 64) (k : Fin 16) (v : Nat) (s : State), 2 ^ (s.ring fn k).log2 ≤ v % 2 ^ 16 →
      ∃ t, exec (.hifRingCmdDb fn k v) s = .next t ∧ (t.ring fn k).tail = (s.ring fn k).tail
        ∧ bit (t.fnb fn).err 2 = true
        ∧ ((s.ring fn k).st = .running ∨ (s.ring fn k).st = .stepHeld → (t.ring fn k).st = .error) ∧ OnlyRing fn k s t)
  ∧ (∀ (fn : Fin 64) (k : Fin 16) (v n : Nat) (s : State), n ≤ (s.ring fn k).unread → n < 2 ^ (s.ring fn k).log2 →
      (s.ring fn k).unread ≤ 2 ^ (s.ring fn k).log2 →
      v % 2 ^ 16 = ((s.ring fn k).cplIndex + 2 ^ (s.ring fn k).log2 - (s.ring fn k).unread + n) % 2 ^ (s.ring fn k).log2 →
      ∃ t, exec (.hifRingCplDb fn k v) s = .next t ∧ t.ring fn k = { s.ring fn k with unread := (s.ring fn k).unread - n }
        ∧ t.fnb fn = s.fnb fn ∧ OnlyRing fn k s t)
  ∧ (∀ (fn : Fin 64) (k : Fin 16) (v : Nat) (s : State), (s.ring fn k).unread ≤ 2 ^ (s.ring fn k).log2 →
      (∀ n, n ≤ (s.ring fn k).unread →
        v % 2 ^ 16 ≠ ((s.ring fn k).cplIndex + 2 ^ (s.ring fn k).log2 - (s.ring fn k).unread + n) % 2 ^ (s.ring fn k).log2) →
      ∃ t, exec (.hifRingCplDb fn k v) s = .next t ∧ (t.ring fn k).unread = (s.ring fn k).unread
        ∧ bit (t.fnb fn).err 2 = true
        ∧ ((s.ring fn k).st = .running ∨ (s.ring fn k).st = .stepHeld → (t.ring fn k).st = .error) ∧ OnlyRing fn k s t))
  ∧ ((∀ (fn : Fin 64) (k : Fin 16) (v : Nat) (s : State), bit v 0 = true → (s.ring fn k).held = none →
      ∃ t, exec (.hifRingStepDb fn k v) s = .next t ∧ bit (t.fnb fn).err 6 = true ∧ t.ring fn k = s.ring fn k
        ∧ OnlyRing fn k s t)
  ∧ (∀ (fn : Fin 64) (k : Fin 16) (v : Nat) (s : State), bit v 0 = false → exec (.hifRingStepDb fn k v) s = .next s)
  ∧ (∀ (fn : Fin 64) (k : Fin 16) (v : Nat) (s : State), bit v 0 = true → (s.ring fn k).held.isSome = true →
      s.ringsPaused = true →
      ∃ t, exec (.hifRingStepDb fn k v) s = .next t ∧ t.ring fn k = { s.ring fn k with stepPending := true }
        ∧ OnlyRing fn k s t)
  ∧ (∀ (fn : Fin 64) (k : Fin 16) (v : Nat) (s : State), bit v 0 = true → (s.ring fn k).st = .error →
      ∃ t, exec (.hifRingCtrlResume fn k v) s = .next t
        ∧ t.ring fn k = { s.ring fn k with st := if (s.ring fn k).stepMode then .stepHeld else .running }
        ∧ t.fnb fn = s.fnb fn ∧ OnlyRing fn k s t)
  ∧ (∀ (fn : Fin 64) (k : Fin 16) (v : Nat) (s : State), (s.ring fn k).st ≠ .error →
      exec (.hifRingCtrlResume fn k v) s = .next s)
  ∧ (∀ (fn : Fin 64) (k : Fin 16) (s : State), (s.ring fn k).st = .draining → s.ringExec fn k = none →
      ∃ t, exec (.ringDrainDone fn k) s = .next t ∧ t.ring fn k = { s.ring fn k with st := .disabled }
        ∧ t.fnb fn = s.fnb fn ∧ OnlyRing fn k s t))

/-- Writes of HIF_RING_CFG (R82, R87, R110): ENABLE of a DISABLED ring with 4 to 16 in LOG2_ENTRIES starts it from index 0,
sequence 0 and phase 1; any other LOG2_ENTRIES leaves it DISABLED with CFG_WHILE_ENABLED; ENABLE while DRAINING is
ignored; clearing ENABLE drains and drops a held command; STEP_MODE moves the ring between RUNNING and STEP_HELD, and a
command held when it is cleared starts as a STEP write would start it. -/
def Obligations.RingConfiguration : Prop :=
  (∀ (fn : Fin 64) (k : Fin 16) (v : Nat) (s : State), (s.ring fn k).st = .disabled → bit v 8 = true →
      4 ≤ bits v 0 5 → bits v 0 5 ≤ 16 →
      ∃ t, exec (.ringEnable fn k v) s = .next t
        ∧ t.ring fn k = { s.ring fn k with
            log2 := bits v 0 5, stepMode := bit v 9, st := if bit v 9 then .stepHeld else .running
            fetch := 0, expectSeq := 0, cplIndex := 0, phase := true, unread := 0, held := none, stepPending := false }
        ∧ t.fnb fn = s.fnb fn ∧ OnlyRing fn k s t)
  ∧ (∀ (fn : Fin 64) (k : Fin 16) (v : Nat) (s : State), (s.ring fn k).st = .disabled → bit v 8 = true →
      (bits v 0 5 < 4 ∨ 16 < bits v 0 5) →
      ∃ t, exec (.ringEnable fn k v) s = .next t ∧ (t.ring fn k).st = .disabled ∧ bit (t.fnb fn).err 1 = true
        ∧ OnlyRing fn k s t)
  ∧ (∀ (fn : Fin 64) (k : Fin 16) (v : Nat) (s : State), (s.ring fn k).st = .draining → bit v 8 = true →
      ∃ t, exec (.ringEnable fn k v) s = .next t ∧ (t.ring fn k).st = .draining ∧ bit (t.fnb fn).err 1 = true
        ∧ OnlyRing fn k s t)
  ∧ (∀ (fn : Fin 64) (k : Fin 16) (v : Nat) (s : State), (s.ring fn k).st ≠ .disabled → bit v 8 = false →
      ∃ t, exec (.ringDisable fn k v) s = .next t ∧ (t.ring fn k).st = .draining
        ∧ ((s.ring fn k).st ≠ .draining → (t.ring fn k).held = none)
        ∧ (t.ring fn k).log2 = (s.ring fn k).log2 ∧ OnlyRing fn k s t)
  ∧ (∀ (fn : Fin 64) (k : Fin 16) (v : Nat) (s : State), (s.ring fn k).st = .running → bit v 8 = true → bit v 9 = true →
      ∃ t, exec (.stepModeSet fn k v) s = .next t
        ∧ t.ring fn k = { s.ring fn k with st := .stepHeld, stepMode := true } ∧ OnlyRing fn k s t
        ∧ (bit (t.fnb fn).err 1 = true ∨ bits v 0 5 = (s.ring fn k).log2))
  ∧ (∀ (fn : Fin 64) (k : Fin 16) (v : Nat) (s : State), (s.ring fn k).st = .stepHeld → bit v 8 = true → bit v 9 = false →
      (s.ring fn k).held = none →
      ∃ t, exec (.stepModeClear fn k v) s = .next t
        ∧ t.ring fn k = { s.ring fn k with st := .running, stepMode := false } ∧ OnlyRing fn k s t)
  ∧ (∀ (fn : Fin 64) (k : Fin 16) (v : Nat) (s : State), (s.ring fn k).st = .stepHeld → bit v 8 = true → bit v 9 = false →
      bits v 0 5 = (s.ring fn k).log2 → s.ringsPaused = false →
      (s.ring fn k).held.isSome = true →
      exec (.stepModeClear fn k v) s
        = exec (.hifRingStepDb fn k 1) (s.updRing fn k (fun x => { x with st := .running, stepMode := false })))

/-- COMMAND_FETCH (R88, R89, R95 to R97, R110): a fetched command of a RUNNING ring that passes checks 1 to 4, and whose
descriptor is good where it has one, does exactly what its row does on the state whose FETCH and EXPECT_SEQ have
advanced; in STEP_HELD it is held and nothing else changes; a sequence byte that differs stops the ring in ERROR with
SEQ_GAP; a failed read of the entry stops it with DMA_READ_FAULT.
A STEP write starts the held command (R110): outside a pause it does what the command's row does, FETCH and EXPECT_SEQ
having advanced past it. -/
def Obligations.Fetching : Prop :=
  ((∀ (x : Nat × (Req → Instr)) (fn : Fin 64) (k : Fin 16) (e : Bytes) (block : Option Bytes) (data : Bytes) (dma : Dma)
      (s : State), x ∈ hostRows → le e 0 2 = x.1 → e.length = 64 →
      s.ringsPaused = false → (s.ring fn k).st = .running → s.ringExec fn k = none → (s.ring fn k).held = none →
      (s.ring fn k).fetch ≠ (s.ring fn k).tail → (s.ring fn k).unread < (s.ring fn k).size →
      byteAt e 3 = (s.ring fn k).expectSeq → headerChk fn e = none → bit (byteAt e 2) 1 = false →
      (∀ i, catalogue.find x.1 = some i → descrChk i e = none) →
      exec (.commandFetch fn k (some e) block data dma) s
        = exec (x.2 (Held.req ⟨e, block, data, dma⟩ fn k)) (s.updRing fn k Ring.stepFetch))
  ∧ (∀ (fn : Fin 64) (k : Fin 16) (e : Bytes) (block : Option Bytes) (data : Bytes) (dma : Dma) (s : State),
      e.length = 64 → s.ringsPaused = false → s.ringExec fn k = none → (s.ring fn k).held = none →
      (s.ring fn k).st = .running ∨ (s.ring fn k).st = .stepHeld →
      (s.ring fn k).st = .stepHeld ∨ bit (byteAt e 2) 1 = true →
      (s.ring fn k).fetch ≠ (s.ring fn k).tail → (s.ring fn k).unread < (s.ring fn k).size →
      byteAt e 3 = (s.ring fn k).expectSeq →
      ∃ t, exec (.commandFetch fn k (some e) block data dma) s = .next t
        ∧ t.ring fn k = { s.ring fn k with st := .stepHeld, stepMode := true, held := some ⟨e, block, data, dma⟩ }
        ∧ OnlyRing fn k s t)
  ∧ (∀ (fn : Fin 64) (k : Fin 16) (e : Bytes) (block : Option Bytes) (data : Bytes) (s : State),
      e.length = 64 → s.ringsPaused = false → s.ringExec fn k = none → (s.ring fn k).held = none →
      (s.ring fn k).st = .running → (s.ring fn k).fetch ≠ (s.ring fn k).tail →
      (s.ring fn k).unread < (s.ring fn k).size → byteAt e 3 ≠ (s.ring fn k).expectSeq →
      ∃ t c, exec (.commandFetch fn k (some e) block data .ok) s = .next t
        ∧ t.out = s.out ++ [.completion fn k (s.ring fn k).cplIndex c] ∧ c.status = 0x0105
        ∧ c.word0 = (s.ring fn k).expectSeq % 2 ^ 64 ∧ c.tag = le e 4 4
        ∧ (t.ring fn k).st = .error ∧ (t.ring fn k).fetch = ((s.ring fn k).fetch + 1) % (s.ring fn k).size
        ∧ (t.ring fn k).expectSeq = ((s.ring fn k).expectSeq + 1) % 256 ∧ bit (t.fnb fn).err 3 = true)
  ∧ (∀ (fn : Fin 64) (k : Fin 16) (data : Bytes) (dma : Dma) (s : State),
      s.ringsPaused = false → s.ringExec fn k = none → (s.ring fn k).held = none → (s.ring fn k).st = .running →
      (s.ring fn k).fetch ≠ (s.ring fn k).tail → (s.ring fn k).unread < (s.ring fn k).size →
      ∃ t, exec (.commandFetch fn k none none data dma) s = .next t ∧ (t.ring fn k).st = .error
        ∧ (t.ring fn k).fetch = (s.ring fn k).fetch ∧ bit (t.fnb fn).err 4 = true ∧ OnlyRing fn k s t))
  ∧ (∀ (x : Nat × (Req → Instr)) (fn : Fin 64) (k : Fin 16) (v : Nat) (h : Held) (s : State), x ∈ hostRows →
    le h.entry 0 2 = x.1 → bit v 0 = true → s.ringsPaused = false → s.ringExec fn k = none →
    (s.ring fn k).held = some h → (s.ring fn k).unread < (s.ring fn k).size → headerChk fn h.entry = none →
    (∀ i, catalogue.find x.1 = some i → descrChk i h.entry = none) →
    exec (.hifRingStepDb fn k v) s = exec (x.2 (h.req fn k)) (s.updRing fn k Ring.stepFetch))

/-- An access of BAR0 that is not naturally aligned (R79): it completes with no effect, a read returns 0, and ACCESS_WIDTH of
the accessing function is set. -/
def Obligations.MisalignedAccess : Prop :=
  (∀ (fn : Fin 64) (write : Bool) (s : State), ∃ t, exec (.bar0BadAccess fn write) s = .next t
      ∧ t.fnb fn = { s.fnb fn with err := setBit (s.fnb fn).err 0 } ∧ t.out = (if write then s.out else s.out ++ [.readValue 0])
      ∧ t = { s with hif := { s.hif with fn := t.hif.fn }, out := t.out } ∧ ∀ f, f ≠ fn.val → t.fnb f = s.fnb f)
  ∧ (∀ (off : Nat) (wide : Bool) (v : Nat) (s : State), off % (if wide then 8 else 4) ≠ 0 →
      exec (.registerWrite (.pf off) wide v) s = exec (.bar0BadAccess 0 true) s
      ∧ exec (.registerReadClear (.pf off) wide) s = exec (.bar0BadAccess 0 false) s)
  ∧ (∀ (n : Fin 64) (off : Nat) (wide : Bool) (v : Nat) (s : State), off % (if wide then 8 else 4) ≠ 0 →
      exec (.registerWrite (.vf n off) wide v) s = exec (.bar0BadAccess n true) s
      ∧ exec (.registerReadClear (.vf n off) wide) s = exec (.bar0BadAccess n false) s)

/-- Writes of registers (R15, R81, R82): the RW1C event registers lose exactly the bits written as 1; HIF_SP_ADDR takes
ENABLE and ADDR; the registers of a ring act as their doorbell and configuration rows do; a read-only register keeps its
value.
Reads of registers (R15, R80, R140, R171, R302, R357): the value of the field at its place, and an RC field is cleared by
the read that returns it. AST_NOW_S latches AST_NOW_NS. -/
def Obligations.RegisterAccess : Prop :=
  ((∀ (v : Nat) (s : State),
      (∃ t, exec (.registerWrite (.pf 0x100010) true v) s = .next t ∧ t = { s with plane := { s.plane with events := t.plane.events } }
        ∧ ∀ i, bit t.plane.events i = (bit s.plane.events i && !bit v i))
      ∧ (∃ t, exec (.registerWrite (.pf 0x900010) true v) s = .next t ∧ t = { s with col := { s.col with events := t.col.events } }
        ∧ ∀ i, bit t.col.events i = (bit s.col.events i && !bit v i))
      ∧ (∃ t, exec (.registerWrite (.pf 0xB00010) true v) s = .next t ∧ t = { s with skk := { s.skk with events := t.skk.events } }
        ∧ ∀ i, bit t.skk.events i = (bit s.skk.events i && !bit v i))
      ∧ (∃ t, exec (.registerWrite (.pf 0x1300010) true v) s = .next t ∧ t = { s with fm := { s.fm with events := t.fm.events } }
        ∧ ∀ i, bit t.fm.events i = (bit s.fm.events i && !bit v i))
      ∧ (∃ t, exec (.registerWrite (.pf 0x2300038) true v) s = .next t ∧ t = { s with ast := { s.ast with events := t.ast.events } }
        ∧ ∀ i, bit t.ast.events i = (bit s.ast.events i && !bit v i))
      ∧ (∃ t, exec (.registerWrite (.pf 0x3100028) true v) s = .next t ∧ t = { s with boot := { s.boot with events := t.boot.events } }
        ∧ ∀ i, bit t.boot.events i = (bit s.boot.events i && !bit v i)))
  ∧ (∀ (fn : Fin 64) (v : Nat) (s : State), ∃ t, exec (.statusPageEnable fn v) s = .next t
      ∧ t.fnb fn = { s.fnb fn with spEnable := bit v 0, spAddr := bits v 12 52 }
      ∧ t = { s with hif := { s.hif with fn := t.hif.fn } } ∧ ∀ f, f ≠ fn.val → t.fnb f = s.fnb f)
  ∧ (∀ (k : Fin 16) (v : Nat) (s : State), v < 2 ^ 64 →
      exec (.registerWrite (.pf (0x10118 + 0x40 * k)) true v) s = exec (.hifRingCmdDb 0 k v) s
      ∧ exec (.registerWrite (.pf (0x10120 + 0x40 * k)) true v) s = exec (.hifRingCplDb 0 k v) s
      ∧ exec (.registerWrite (.pf (0x10128 + 0x40 * k)) true v) s = exec (.hifRingStepDb 0 k v) s
      ∧ exec (.registerWrite (.pf (0x10138 + 0x40 * k)) true v) s = exec (.hifRingCtrlResume 0 k v) s
      ∧ exec (.registerWrite (.pf (0x10110 + 0x40 * k)) true v) s = exec (.stepModeClear 0 k v) s)
  ∧ (∀ (v : Nat) (s : State), exec (.registerWrite (.pf 0x10) true v) s = .next s
      ∧ exec (.registerWrite (.pf 0x2300008) true v) s = .next s))
  ∧ ((∀ s : State, exec (.registerReadClear (.pf 0x10) true) s = .next { s with out := s.out ++ [.readValue s.mod.code] })
  ∧ (∀ (m : Nat) (s : State), m < 2048 → ∃ v, exec (.registerReadClear (.pf (0x101000 + 8 * m)) true) s
        = .next { s with out := s.out ++ [.readValue v] }
      ∧ bits v 0 3 = (s.mirror m).st.code ∧ bits v 3 3 = (s.mirror m).fault % 8 ∧ bits v 8 6 = s.mirrorSlice m % 64
      ∧ bits v 32 16 = (s.mirror m).partner % 65536)
  ∧ (∀ (p : Nat) (s : State), p < 64 → ∃ t v, exec (.registerReadClear (.pf (0x902000 + 8 * p)) true) s = .next t
      ∧ t.out = s.out ++ [.readValue v] ∧ bits v 0 16 = (s.gp p).blanks % 65536 ∧ bits v 16 8 = (s.gp p).relockFails % 256
      ∧ bits v 24 8 = (s.gp p).preambleFails % 256 ∧ bits v 32 32 = (s.gp p).uncorrectable % 2 ^ 32
      ∧ t.gp p = { s.gp p with blanks := 0, relockFails := 0, preambleFails := 0, uncorrectable := 0 }
      ∧ (∀ q, q ≠ p → t.gp q = s.gp q) ∧ t = { s with col := { s.col with port := t.col.port }, out := t.out })
  ∧ (∀ (q : Nat) (s : State), q < 262144 → (s.queue q).st ≠ 0 → ∃ t v,
      exec (.registerReadClear (.pf (0x1400008 + 16 * q)) true) s = .next t ∧ t.out = s.out ++ [.readValue v]
      ∧ bits v 0 32 = (s.queue q).opsRc % 2 ^ 32 ∧ bits v 32 16 = min (s.queue q).errRc 65535
      ∧ t.queue q = { s.queue q with opsRc := 0, errRc := 0 } ∧ t = { s with fm := { s.fm with queue := t.fm.queue }, out := t.out })
  ∧ (∀ s : State, exec (.registerReadClear (.pf 0x2300008) true) s = exec .astNowSRead s)
  ∧ (∀ s : State, ∃ t, exec .astNowSRead s = .next t ∧ t.ast.latchNs = s.ns % 1000000000 ∧ t.ast.latchFrac = s.time16 % 65536
      ∧ t.out = s.out ++ [.readValue (s.secs % 2 ^ 48)]
      ∧ t = { s with ast := { s.ast with latchNs := t.ast.latchNs, latchFrac := t.ast.latchFrac }, out := t.out }))

/-- STATUS_PAGE_REFRESH (R90, R94): outside a pause the time is the next multiple of 10 µs (if it was not reached yet), the
heartbeat advances by 1, and every enabled page whose write does not fail gets SEQ_BEGIN and SEQ_END of one more than
its last; in a pause nothing happens.
FLR and the PCIe link (R73, R77): FLR of VF n resets n's block and rings and marks its commands in execution so that
their completions are discarded; FLR of the PF and loss of the link do so for every function. Nothing outside the host
interface changes. The link comes up only at a rate and width of R73. -/
def Obligations.PagesAndHostLink : Prop :=
  ((∀ (faulted : List Nat) (s : State), s.ringsPaused = true → exec (.statusPageRefresh faulted) s = .next s)
  ∧ (∀ (faulted : List Nat) (s : State), s.ringsPaused = false → ∃ t, exec (.statusPageRefresh faulted) s = .next t
      ∧ t.hif.heartbeat = (s.hif.heartbeat + 1) % 2 ^ 64 ∧ t.ns = (s.ns / 10000 + 1) * 10000
      ∧ (∀ fn, fn < 64 → (s.fnb fn).spEnable = true → (t.fnb fn).spSeq = ((s.fnb fn).spSeq + 1) % 2 ^ 64
          ∧ (faulted.contains fn = true → bit (t.fnb fn).err 7 = true)
          ∧ (faulted.contains fn = false →
              .hostWrite (4096 * (s.fnb fn).spAddr) (leBytes 8 (((s.fnb fn).spSeq + 1) % 2 ^ 64)) ∈ t.out
              ∧ .hostWrite (4096 * (s.fnb fn).spAddr + 4088) (leBytes 8 (((s.fnb fn).spSeq + 1) % 2 ^ 64)) ∈ t.out))
      ∧ (∀ fn, (s.fnb fn).spEnable = false → t.fnb fn = s.fnb fn)
      ∧ t = { s with ast := { s.ast with raw := t.ast.raw }
                     hif := { s.hif with heartbeat := t.hif.heartbeat, fn := t.hif.fn }, free := t.free, out := t.out }))
  ∧ ((∀ (fn : Fin 64) (s : State), fn.val ≠ 0 → ∃ t, exec (.functionLevelReset fn) s = .next t
      ∧ t.fnb fn = FnBlock.reset ∧ (∀ k : Fin 16, t.ring fn k = Ring.reset)
      ∧ (∀ (f : Nat) (k : Fin 16), f ≠ fn.val → t.ring f k = s.ring f k ∧ t.fnb f = s.fnb f)
      ∧ t.hif.execs = s.hif.execs.map (fun e => if e.fn = fn.val then { e with discard := true } else e)
      ∧ t = { s with hif := { s.hif with fn := t.hif.fn, ring := t.hif.ring, execs := t.hif.execs } })
  ∧ (∀ s : State, ∃ t, exec (.functionLevelReset 0) s = .next t
      ∧ (∀ (f : Fin 64) (k : Fin 16), t.fnb f = FnBlock.reset ∧ t.ring f k = Ring.reset)
      ∧ (∀ e ∈ t.hif.execs, e.fn < 64 → e.discard = true)
      ∧ t = { s with hif := { s.hif with fn := t.hif.fn, ring := t.hif.ring, execs := t.hif.execs } })
  ∧ (∀ s : State, ∃ t, exec .pcieLinkDown s = .next t ∧ t.hif.linkUp = false
      ∧ (∀ (f : Fin 64) (k : Fin 16), t.fnb f = FnBlock.reset ∧ t.ring f k = Ring.reset)
      ∧ t = { s with hif := { s.hif with linkUp := false, fn := t.hif.fn, ring := t.hif.ring, execs := t.hif.execs } })
  ∧ (∀ (g : Fin 8) (w : Fin 9) (s : State), 5 ≤ g.val → (w.val = 1 ∨ w.val = 4 ∨ w.val = 8) →
      exec (.pcieLinkUp g w) s = .next { s with hif := { s.hif with linkUp := true, gen := g, width := w, flit := decide (6 ≤ g.val) } })
  ∧ (∀ (g : Fin 8) (w : Fin 9) (s : State), (g.val < 5 ∨ (w.val ≠ 1 ∧ w.val ≠ 4 ∧ w.val ≠ 8)) →
      exec (.pcieLinkUp g w) s = .next s))

/-- COMMAND_TIMEOUT (R101): a command in execution beyond its bound completes with 0x0310, an EFFECT code in WORD0, 2 only for
the six commands that continue in the module, and its bound in µs in WORD1; one WARNING is created.
A completion that cannot be written (R89): nothing is put out, DMA_WRITE_FAULT is set, the ring enters ERROR, the write
index advances past the lost completion, whose phase inverts on the wrap, and one ERROR is created. -/
def Obligations.TimeoutsAndLostCompletions : Prop :=
  ((∀ (fn : Fin 64) (k : Fin 16) (e : Exec) (s : State), s.ringExec fn k = some e → e.dma = .ok →
      (s.ring fn k).st ≠ .disabled →
      ∃ t c, exec (.commandTimeout fn k) s = .next t
        ∧ t.out = s.out ++ [.completion fn k (s.ring fn k).cplIndex c] ∧ c.status = 0x0310 ∧ c.tag = e.tag % 2 ^ 32
        ∧ c.word1 = e.bound % 2 ^ 64 ∧ (c.word0 = 1 ∨ c.word0 = 2)
        ∧ (c.word0 = 2 → e.opcode ∈ [0x0203, 0x0204, 0x0503, 0x0504, 0x0602, 0x0B01])
        ∧ t.log.created = s.log.created + 1 ∧ { e with discard := true } ∈ t.hif.execs
        ∧ t = { s with ast := t.ast, bnc := t.bnc, log := t.log, hif := t.hif, out := t.out })
  ∧ (∀ (fn : Fin 64) (k : Fin 16) (e : Exec) (s : State), s.ringExec fn k = some e → (s.ring fn k).st = .disabled →
      ∃ t, exec (.commandTimeout fn k) s = .next t ∧ t.out = s.out ∧ { e with discard := true } ∈ t.hif.execs)
  ∧ (∀ (fn : Fin 64) (k : Fin 16) (s : State), s.ringExec fn k = none → exec (.commandTimeout fn k) s = .next s))
  ∧ (∀ (r : Req) (s : State), accepts 0x0002 { r with dma := .ok } s = true → r.dma = .cplFault →
    ∃ t, exec (.nop r) s = .next t ∧ t.out = s.out ∧ bit (t.fnb r.fn).err 5 = true ∧ (t.ring r.fn r.ring).st = .error
      ∧ (t.ring r.fn r.ring).cplIndex = (if (s.ring r.fn r.ring).cplIndex + 1 ≥ (s.ring r.fn r.ring).size then 0
          else (s.ring r.fn r.ring).cplIndex + 1)
      ∧ ((t.ring r.fn r.ring).phase = (s.ring r.fn r.ring).phase ↔
          (s.ring r.fn r.ring).cplIndex + 1 < (s.ring r.fn r.ring).size)
      ∧ (t.ring r.fn r.ring).unread = (s.ring r.fn r.ring).unread + 1 ∧ t.log.created = s.log.created + 1)

/-- A command of a virtual function acts only on that function's slice (R38): one that names another slice is not executed and
completes with 0x0402, whatever the command; the physical function may name any slice, so that its authority check never
answers 0x0402. -/
def Obligations.VfActsOnItsSlice : Prop :=
  (∀ (op : Nat) (mk : Req → Instr), (op, mk) ∈ hostRows → ∀ (r : Req) (s : State), s.canStart r.fn r.ring = true →
      (s.ring r.fn r.ring).st = .running → r.dma = .ok → r.fn ≠ 0 → r.slice < 64 → r.slice ≠ r.fn →
      ∃ t, exec (mk r) s = .next t ∧ Completed r s t 0x0402 r.slice 0 ∧ Silent s t ∧ Quiet r s t
        ∧ t = { s with hif := t.hif, bnc := t.bnc, out := t.out, log := { s.log with nonce := t.log.nonce } })
  ∧ (∀ (i : CmdInfo) (op slice : Nat) (b : Bytes) (s : State), ∀ w0 w1, authChk s i op 0 slice b ≠ some (0x0402, w0, w1))

/-- Header, authority and state checks (R97, R98, R104): a command whose SLICE is out of range completes with 0x0101, one that
fails its authority or the module's state with the first failing check's code; nothing else happens, but that a token
command has used its nonce. -/
def Obligations.ChecksRefuse : Prop :=
  (∀ (op : Nat) (mk : Req → Instr), (op, mk) ∈ hostRows → ∀ (r : Req) (s : State), s.canStart r.fn r.ring = true →
      (s.ring r.fn r.ring).st = .running → r.dma = .ok → sliceFieldOk r.fn op r.slice = false →
      ∃ t, exec (mk r) s = .next t ∧ Completed r s t 0x0101 8 0 ∧ Silent s t ∧ Quiet r s t
        ∧ t = { s with hif := t.hif, bnc := t.bnc, out := t.out })
  ∧ (∀ (op : Nat) (mk : Req → Instr), (op, mk) ∈ hostRows → ∀ (r : Req) (i : CmdInfo) (st w0 w1 : Nat) (s : State),
      s.canStart r.fn r.ring = true → (s.ring r.fn r.ring).st = .running → r.dma = .ok →
      sliceFieldOk r.fn op r.slice = true → catalogue.find op = some i →
      authChk s i op r.fn r.slice r.params = some (st, w0, w1) →
      ∃ t, exec (mk r) s = .next t ∧ Completed r s t st w0 w1 ∧ Silent s t ∧ Quiet r s t
        ∧ t = { s with
            hif := t.hif, bnc := t.bnc, out := t.out
            log := { s.log with nonce := if i.token = 0 then s.log.nonce else none } })

/-- SLICE_CREATE and SLICE_DELETE (R320, R329): a slice is created with its rack mask, its quotas and S standing ports (8
where the field is 0xFF), DARK and without a window, and the free quotas are returned; a slice that exists is refused
with WORD0 1. Deleting a slice that holds no object removes it and frees every port it owned; one with a plot is
refused with the plot's state and nothing changes.
SLICE_ASSIGN (R321 to R323): OP 0 gives the named ports to the slice, OP 1 frees them, OP 2 replaces the rack mask and
OP 3 the quotas; the new digest is returned, and a change of the global ports or of the rack mask leaves the slice DARK.
A port that another slice owns is refused, and nothing changes. -/
def Obligations.SlicesCreatedAndAssigned : Prop :=
  ((∀ (r : Req) (s : State), accepts 0x0101 r s = true → bit (r.b 0 8) s.topo.rack = true → r.b 8 4 * 2 ^ 30 ≤ s.hbmBytes →
      r.b 12 4 ≤ 6144 → r.b 12 4 % 64 = 0 → (r.b 16 1 ≤ 16 ∨ r.b 16 1 = 255) → zeroAt r.params 17 15 = true →
      s.topo.strapState = 0 → s.hasSlice r.slice = false →
      s.hbmQuotas + r.b 8 4 * 2 ^ 30 + snapArea + s.bnc.trace.ringMib * 2 ^ 20 ≤ s.hbmBytes →
      s.sramQuotas + r.b 12 4 * 2 ^ 20 ≤ 6144 * 2 ^ 20 →
      ∃ t x, exec (.sliceCreate r) s = .next t
        ∧ Completed r s t 0 (s.hbmBytes - snapArea - s.bnc.trace.ringMib * 2 ^ 20 - (s.hbmQuotas + r.b 8 4 * 2 ^ 30))
            (6144 * 2 ^ 20 - (s.sramQuotas + r.b 12 4 * 2 ^ 20))
        ∧ t.topo.slice.find r.slice = some x ∧ x.rackMask = r.b 0 8 ∧ x.hbmGiB = r.b 8 4 ∧ x.sramMiB = r.b 12 4
        ∧ x.standing = (if r.b 16 1 = 255 then 8 else r.b 16 1) ∧ x.colour = 0 ∧ x.windowGiB = 0 ∧ x.window = []
        ∧ (∀ n, n ≠ r.slice → t.topo.slice.find n = s.topo.slice.find n) ∧ Silent s t ∧ Quiet r s t
        ∧ t = { s with hif := t.hif, bnc := t.bnc, out := t.out, topo := { s.topo with slice := t.topo.slice } })
  ∧ (∀ (r : Req) (s : State), accepts 0x0101 r s = true → bit (r.b 0 8) s.topo.rack = true → r.b 8 4 * 2 ^ 30 ≤ s.hbmBytes →
      r.b 12 4 ≤ 6144 → r.b 12 4 % 64 = 0 → (r.b 16 1 ≤ 16 ∨ r.b 16 1 = 255) → zeroAt r.params 17 15 = true →
      s.topo.strapState = 0 → s.hasSlice r.slice = true →
      ∃ t, exec (.sliceCreate r) s = .next t ∧ Completed r s t 0x0301 1 0 ∧ Silent s t ∧ Quiet r s t
        ∧ t = { s with hif := t.hif, bnc := t.bnc, out := t.out })
  ∧ (∀ (r : Req) (s : State), accepts 0x0105 r s = true → r.z 16 = true → s.hasSlice r.slice = true →
      (∀ e ∈ s.topo.plot, e.2.slice ≠ r.slice) → s.passagesOf r.slice = [] →
      (∀ e ∈ s.fm.queue, e.2.slice = r.slice → e.2.st = 0) → (∀ e ∈ s.skk.binding, e.1 / 65536 ≠ r.slice) →
      (∀ e ∈ s.skk.prog, e.1 / 32 ≠ r.slice) →
      ∃ t, exec (.sliceDelete r) s = .next t ∧ Completed r s t 0 0 0 ∧ t.hasSlice r.slice = false
        ∧ (∀ n, n ≠ r.slice → t.topo.slice.find n = s.topo.slice.find n)
        ∧ (∀ p, s.owner p = r.slice → t.owner p = 0)
        ∧ (∀ p, (∀ e ∈ s.topo.owner, e.1 = ownKey p → e.2 ≠ r.slice) → t.owner p = s.owner p)
        ∧ (∀ k c, s.bnc.ctr.find k = some c → ∃ o, t.bnc.ctr.find k = some { c with orphan := o }) ∧ Silent s t
        ∧ t = { s with hif := { s.hif with ring := t.hif.ring }, out := t.out
                       bnc := { s.bnc with trace := t.bnc.trace, events := t.bnc.events, ctr := t.bnc.ctr }
                       topo := { s.topo with slice := t.topo.slice, owner := t.topo.owner, tport := t.topo.tport } })
  ∧ (∀ (r : Req) (e : Nat × Plot) (s : State), accepts 0x0105 r s = true → r.z 16 = true → s.hasSlice r.slice = true →
      s.topo.plot.find? (fun e => e.2.slice == r.slice) = some e →
      ∃ t, exec (.sliceDelete r) s = .next t ∧ Completed r s t 0x0301 e.2.st 0 ∧ Silent s t ∧ Quiet r s t
        ∧ t = { s with hif := t.hif, bnc := t.bnc, out := t.out }))
  ∧ ((∀ (r : Req) (s : State), accepts 0x0102 r s = true → ranges (assignRows r s) = none → s.hasSlice r.slice = true →
      r.b 0 1 = 0 → (∀ k ∈ assignKeys r, s.owner k = 0 ∧ s.isQuar k = false) →
      (s.passagesOf r.slice = [] ∨ ∀ k ∈ assignKeys r, refClass k ≠ 3) →
      ∃ t, exec (.sliceAssign r) s = .next t ∧ Completed r s t 0 (t.portsOwned r.slice) (t.sliceDigest r.slice)
        ∧ (∀ p, t.owner p = if ownKey p ∈ assignKeys r then r.slice else s.owner p)
        ∧ ((∃ k ∈ assignKeys r, refClass k = 3) → ∀ x, t.topo.slice.find r.slice = some x → x.colour = 0) ∧ Silent s t
        ∧ Quiet r s t ∧ t = { s with hif := t.hif, bnc := t.bnc, out := t.out
                                     plane := { s.plane with mirror := t.plane.mirror }
                                     topo := { s.topo with slice := t.topo.slice, owner := t.topo.owner, tport := t.topo.tport } })
  ∧ (∀ (r : Req) (s : State), accepts 0x0102 r s = true → ranges (assignRows r s) = none → s.hasSlice r.slice = true →
      r.b 0 1 = 1 → (∀ k ∈ assignKeys r, s.owner k = r.slice ∧ s.plotNaming r.slice k = 0 ∧ s.queueNaming k = 0) →
      (s.passagesOf r.slice = [] ∨ ∀ k ∈ assignKeys r, refClass k ≠ 3) →
      ∃ t, exec (.sliceAssign r) s = .next t ∧ Completed r s t 0 (t.portsOwned r.slice) (t.sliceDigest r.slice)
        ∧ (∀ p, t.owner p = if ownKey p ∈ assignKeys r then 0 else s.owner p)
        ∧ ((∃ k ∈ assignKeys r, refClass k = 3) → ∀ x, t.topo.slice.find r.slice = some x → x.colour = 0) ∧ Silent s t
        ∧ t = { s with hif := { s.hif with ring := t.hif.ring }, out := t.out
                       bnc := { s.bnc with trace := t.bnc.trace, events := t.bnc.events, ctr := t.bnc.ctr }
                       topo := { s.topo with slice := t.topo.slice, owner := t.topo.owner, tport := t.topo.tport } })
  ∧ (∀ (r : Req) (x : Slice) (s : State), accepts 0x0102 r s = true → ranges (assignRows r s) = none →
      s.topo.slice.find r.slice = some x → r.b 0 1 = 2 → s.passagesOf r.slice = [] →
      (∀ e ∈ s.fm.queue, e.2.slice = r.slice → e.2.st = 0) →
      ∃ t, exec (.sliceAssign r) s = .next t ∧ Completed r s t 0 (s.portsOwned r.slice) (t.sliceDigest r.slice)
        ∧ t.topo.slice.find r.slice = some { x with
            rackMask := r.b 16 8, colour := 0, hailPend := false, heard := 0, heardPorts := 0, mismatch := 0 }
        ∧ (∀ n, n ≠ r.slice → t.topo.slice.find n = s.topo.slice.find n) ∧ Silent s t ∧ Quiet r s t
        ∧ t = { s with hif := t.hif, bnc := t.bnc, out := t.out, topo := { s.topo with slice := t.topo.slice } })
  ∧ (∀ (r : Req) (x : Slice) (s : State), accepts 0x0102 r s = true → ranges (assignRows r s) = none →
      s.topo.slice.find r.slice = some x → r.b 0 1 = 3 → s.hbmPlaced r.slice ≤ r.b 4 4 * 2 ^ 30 →
      s.sramPlaced r.slice ≤ r.b 8 4 * 2 ^ 20 →
      quotaChk s (s.hbmQuotas - x.hbmGiB * 2 ^ 30) (r.b 4 4) (s.sramQuotas - x.sramMiB * 2 ^ 20) (r.b 8 4) = none →
      ∃ t, exec (.sliceAssign r) s = .next t ∧ Completed r s t 0 (s.portsOwned r.slice) (s.sliceDigest r.slice)
        ∧ t.topo.slice.find r.slice = some { x with hbmGiB := r.b 4 4, sramMiB := r.b 8 4 }
        ∧ (∀ n, n ≠ r.slice → t.topo.slice.find n = s.topo.slice.find n) ∧ Silent s t ∧ Quiet r s t
        ∧ t = { s with hif := t.hif, bnc := t.bnc, out := t.out, topo := { s.topo with slice := t.topo.slice } })
  ∧ (∀ (r : Req) (k : Nat) (s : State), accepts 0x0102 r s = true → ranges (assignRows r s) = none →
      s.hasSlice r.slice = true → r.b 0 1 = 0 → k ∈ assignKeys r → s.owner k ≠ 0 →
      ∃ t w0 w1, exec (.sliceAssign r) s = .next t ∧ Completed r s t 0x0301 w0 w1 ∧ Silent s t ∧ Quiet r s t
        ∧ t = { s with hif := t.hif, bnc := t.bnc, out := t.out }))

/-- STANDING_SET and PORT_ADMIT (R325, R326): the S highest-numbered global ports of the slice stand, and the slice begins
to hail where S is not 0 and its rack set has two or more racks; a passage still loaded refuses the change. ACTION 0
admits QUARANTINED ports with the identity and the cause they were quarantined with; ACTION 1 ends their probes and has
them probed again; ACTION 0 on a port that is not QUARANTINED is refused with its state.
SLICE_QUERY (R327): a summary of 96 bytes and a window of 32-byte port entries are written, the counts written and owned
are returned, and the alarm SUBSTITUTION of the slice ends. -/
def Obligations.StandingAdmissionAndQuery : Prop :=
  ((∀ (r : Req) (x : Slice) (s : State), accepts 0x0107 r s = true → r.p 16 1 ≤ 16 → r.p 16 1 ≤ (s.gports r.slice).length →
      r.z 17 = true → s.topo.slice.find r.slice = some x → s.passagesOf r.slice = [] → s.uncheckedPort r.slice = false →
      ∃ t w0, exec (.standingSet r) s = .next t ∧ Completed r s t 0 w0 (t.sliceDigest r.slice)
        ∧ (∀ g, g < 64 → (bit w0 g = true ↔ g ∈ t.standingPorts r.slice))
        ∧ t.standingPorts r.slice = (s.gports r.slice).drop ((s.gports r.slice).length - r.p 16 1)
        ∧ t.topo.slice.find r.slice = some { x with
            standing := r.p 16 1, heard := 0, heardPorts := 0, mismatch := 0, hailPend := false
            colour := if r.p 16 1 = 0 ∨ (racks x.rackMask).length < 2 then 0 else 1 }
        ∧ (∀ n, n ≠ r.slice → t.topo.slice.find n = s.topo.slice.find n) ∧ Silent s t ∧ Quiet r s t
        ∧ t = { s with hif := t.hif, bnc := t.bnc, out := t.out, topo := { s.topo with slice := t.topo.slice } })
  ∧ (∀ (r : Req) (e : Nat × Passage) (s : State), accepts 0x0107 r s = true → r.p 16 1 ≤ 16 →
      r.p 16 1 ≤ (s.gports r.slice).length → r.z 17 = true → s.hasSlice r.slice = true →
      (s.passagesOf r.slice).head? = some e →
      ∃ t, exec (.standingSet r) s = .next t ∧ Completed r s t 0x0301 e.2.st.code 0 ∧ Silent s t ∧ Quiet r s t
        ∧ t = { s with hif := t.hif, bnc := t.bnc, out := t.out })
  ∧ (∀ (r : Req) (s : State), accepts 0x0106 r s = true → 1 ≤ r.p 18 2 → r.p 18 2 ≤ 128 → r.p 20 1 = 0 → r.z 21 = true →
      (∀ t, r.p 16 2 ≤ t → t < r.p 16 2 + r.p 18 2 → isAX t = true ∧ t < 768 ∧ isX t = isX (r.p 16 2)
        ∧ (s.tp t).st = .quarantined) →
      ∃ t, exec (.portAdmit r) s = .next t ∧ Completed r s t 0 (r.p 18 2) 0
        ∧ (∀ q, r.p 16 2 ≤ q → q < r.p 16 2 + r.p 18 2 → t.tp q = { s.tp q with
            st := if s.inCircuit q then .inCircuit else .found
            cause := 0, admitted := (s.tp q).nodeId, admitCause := (s.tp q).cause, silentNoted := false })
        ∧ (∀ q, q < r.p 16 2 ∨ r.p 16 2 + r.p 18 2 ≤ q → t.tp q = s.tp q) ∧ Silent s t ∧ Quiet r s t
        ∧ t = { s with hif := t.hif, bnc := t.bnc, out := t.out, log := t.log
                       topo := { s.topo with tport := t.topo.tport, linkMap := t.topo.linkMap } })
  ∧ (∀ (r : Req) (s : State), accepts 0x0106 r s = true → 1 ≤ r.p 18 2 → r.p 18 2 ≤ 128 → r.p 20 1 = 1 → r.z 21 = true →
      (∀ t, r.p 16 2 ≤ t → t < r.p 16 2 + r.p 18 2 → isAX t = true ∧ t < 768 ∧ isX t = isX (r.p 16 2)
        ∧ (s.tp t).st ≠ .inCircuit ∧ (s.tp t).st ≠ .failed ∧ s.inCircuit t = false) →
      ∃ t, exec (.portAdmit r) s = .next t ∧ Completed r s t 0 (r.p 18 2) 0
        ∧ (∀ q, r.p 16 2 ≤ q → q < r.p 16 2 + r.p 18 2 → t.tp q = { s.tp q with st := .lit, probe := none })
        ∧ (∀ q, q < r.p 16 2 ∨ r.p 16 2 + r.p 18 2 ≤ q → t.tp q = s.tp q) ∧ Silent s t ∧ Quiet r s t
        ∧ t = { s with hif := t.hif, bnc := t.bnc, out := t.out, plane := { s.plane with mirror := t.plane.mirror }
                       topo := { s.topo with tport := t.topo.tport } })
  ∧ (∀ (r : Req) (s : State), accepts 0x0106 r s = true → r.p 18 2 = 1 → r.p 20 1 = 0 → r.z 21 = true →
      isAX (r.p 16 2) = true → r.p 16 2 < 768 → (s.tp (r.p 16 2)).st ≠ .quarantined →
      ∃ t, exec (.portAdmit r) s = .next t ∧ Completed r s t 0x0301 (s.tp (r.p 16 2)).st.code (r.p 16 2) ∧ Silent s t
        ∧ Quiet r s t ∧ t = { s with hif := t.hif, bnc := t.bnc, out := t.out }))
  ∧ ((∀ (r : Req) (x : Slice) (s : State), accepts 0x0103 r s = true → r.p 16 4 ≤ 1343 → 96 ≤ r.p 20 4 → r.p 20 4 ≤ 43104 →
      r.p 24 8 % 32 = 0 → r.z 32 = true → s.topo.slice.find r.slice = some x →
      ∃ t b n, exec (.sliceQuery r) s = .next t ∧ n = min ((s.queryPorts r.slice).length - r.p 16 4) ((r.p 20 4 - 96) / 32)
        ∧ Completed r s t 0 n (s.queryPorts r.slice).length ∧ Writes (r.p 24 8) b s t ∧ b.length = 96 + 32 * n
        ∧ le b 0 1 = r.slice ∧ le b 1 1 = x.colour % 256 ∧ le b 2 1 = x.standing % 256
        ∧ le b 4 4 = s.sliceDigest r.slice % 2 ^ 32 ∧ le b 8 8 = x.rackMask % 2 ^ 64
        ∧ (∀ i, i < n → le b (96 + 32 * i) 2 = (s.queryPorts r.slice).getD (r.p 16 4 + i) 0 % 65536)
        ∧ t.topo.slice.find r.slice = some { x with subAlarm := false } ∧ Quiet r s t
        ∧ t = { s with hif := t.hif, bnc := t.bnc, out := t.out, topo := { s.topo with slice := t.topo.slice } })
  ∧ (∀ (r : Req) (s : State), accepts 0x0103 r s = true → r.p 16 4 ≤ 1343 → 96 ≤ r.p 20 4 → r.p 20 4 ≤ 43104 →
      r.p 24 8 % 32 = 0 → r.z 32 = true → r.slice ≠ 0 → s.hasSlice r.slice = false →
      ∃ t, exec (.sliceQuery r) s = .next t ∧ Completed r s t 0x0302 r.slice 0 ∧ Silent s t ∧ Quiet r s t
        ∧ t = { s with hif := t.hif, bnc := t.bnc, out := t.out }))

/-- The discovery of a port (R305 to R308, R311): light makes a DARK port LIT; its loss makes a LIT, FOUND, SILENT or
QUARANTINED port DARK, keeping its identity; a LIT port is landed on a probe port, both ways, and is PROBING; no HAIL in
time makes it SILENT with one NOTICE until it is found; a SILENT port is tried again. Ports of class H are not
concerned, and no other port changes.
STRAP_SAMPLE (R305): each second the straps are compared with the identity in use; the tenth difference in a row is one
WARNING, and agreement clears the count. The identity in use never changes. -/
def Obligations.DiscoveryAndStraps : Prop :=
  ((∀ (t : Fin 768) (s : State), isAX t = true → ∃ u, exec (.portLit t) s = .next u
      ∧ u.tp t = { s.tp t with lit := true, st := if (s.tp t).st = .dark then .lit else (s.tp t).st }
      ∧ (∀ q, q ≠ t.val → u.tp q = s.tp q)
      ∧ u = { s with log := u.log, topo := { s.topo with tport := u.topo.tport, linkMap := u.topo.linkMap, plot := u.topo.plot } })
  ∧ (∀ (t : Fin 768) (s : State), isAX t = true → ∃ u, exec (.portDark t) s = .next u
      ∧ u.tp t = { s.tp t with
          lit := false
          st := if (s.tp t).st = .lit ∨ (s.tp t).st = .found ∨ (s.tp t).st = .silent ∨ (s.tp t).st = .quarantined
            then .dark else (s.tp t).st }
      ∧ (∀ q, q ≠ t.val → u.tp q = s.tp q)
      ∧ u = { s with log := u.log, topo := { s.topo with tport := u.topo.tport, linkMap := u.topo.linkMap } })
  ∧ (∀ (t : Fin 768) (s : State), isAX t = false → exec (.portLit t) s = .next s ∧ exec (.portDark t) s = .next s)
  ∧ (∀ (t : Fin 768) (i : Nat) (s : State), s.probePort = some i → isAX t = true → (s.tp t).st = .lit →
      s.probes.length < 8 → (s.tfc (tfOf t)).st ≠ 4 → (s.tfc (tfOf (1024 + t))).st ≠ 4 →
      ∃ u, exec (.probeStart t) s = .next u
        ∧ u.tp t = { s.tp t with st := .probing, probe := some i, probeAt := s.ns }
        ∧ (∀ q, q ≠ t.val → u.tp q = s.tp q)
        ∧ (u.mirror (768 + i)).accepted = some (.face t) ∧ (u.mirror (1792 + i)).accepted = some (.face t)
        ∧ ((s.mirror t).st = .parked → (u.mirror t).accepted = some (.face (768 + i)))
        ∧ ((s.mirror (1024 + t)).st = .parked → (u.mirror (1024 + t)).accepted = some (.face (768 + i)))
        ∧ (∀ m, m ≠ t.val → m ≠ 1024 + t.val → m ≠ 768 + i → m ≠ 1792 + i → u.mirror m = s.mirror m)
        ∧ u = { s with plane := { s.plane with mirror := u.plane.mirror }, topo := { s.topo with tport := u.topo.tport } })
  ∧ (∀ (t : Fin 768) (s : State), (s.tp t).st = .probing → ∃ u, exec (.probeTimeout t) s = .next u
      ∧ u.tp t = { s.tp t with st := .silent, probe := none, silentNoted := true }
      ∧ u.log.created = s.log.created + (if (s.tp t).silentNoted then 0 else 1)
      ∧ (s.tp t).probeAt + (if isX t then 1000000000 else 120000000) ≤ u.ns ∧ (∀ q, q ≠ t.val → u.tp q = s.tp q)
      ∧ u = { s with ast := { s.ast with raw := u.ast.raw }, log := u.log, plane := { s.plane with mirror := u.plane.mirror }
                     topo := { s.topo with tport := u.topo.tport } })
  ∧ (∀ (t : Fin 768) (s : State), (s.tp t).st = .silent → ∃ u, exec (.silentRetry t) s = .next u
      ∧ u.tp t = { s.tp t with st := .lit } ∧ (∀ q, q ≠ t.val → u.tp q = s.tp q)
      ∧ u = { s with topo := { s.topo with tport := u.topo.tport } })
  ∧ (∀ (t : Fin 768) (s : State), (s.tp t).st ≠ .probing → exec (.probeTimeout t) s = .next s)
  ∧ (∀ (t : Fin 768) (s : State), (s.tp t).st ≠ .silent → exec (.silentRetry t) s = .next s))
  ∧ ((∀ (levels : Nat) (s : State), levels % 2 ^ 11 = s.topo.straps → exec (.strapSample levels) s
      = .next { s with topo := { s.topo with strapDiff := 0, strapWarned := false } })
  ∧ (∀ (levels : Nat) (s : State), levels % 2 ^ 11 ≠ s.topo.straps → ∃ t, exec (.strapSample levels) s = .next t
      ∧ t.topo.strapDiff = s.topo.strapDiff + 1
      ∧ t.log.created = s.log.created + (if 9 ≤ s.topo.strapDiff ∧ s.topo.strapWarned = false then 1 else 0)
      ∧ (t.topo.strapWarned = true ↔ 9 ≤ s.topo.strapDiff ∨ s.topo.strapWarned = true)
      ∧ t = { s with log := t.log
                     topo := { s.topo with strapDiff := t.topo.strapDiff, strapWarned := t.topo.strapWarned } }))

/-- CHART_LOAD (R45, R46): an accepted chart becomes a PLOTTED plot under the lowest free ID, with one circuit for each
plotted edge, no mirror used twice on either array, and no mirror moves. A chart that is wrong as a whole, or that
plots onto a mirror that cannot serve, is refused with its member or edge and cause, and nothing changes.
CHART_QUERY (R46, R118): a window of the plot's circuits, in ascending source port, is written as 16-byte entries and
the counts are returned; an ID that names no plot of the slice is refused. -/
def Obligations.ChartsLoadedAndQueried : Prop :=
  ((∀ (r : Req) (id : Nat) (s : State), accepts 0x0201 r s = true → ranges (chartRows s.fuse r.params) = none →
      s.hasSlice r.slice = true → (∀ p ∈ impliedPorts s (chartOf r.params), mayName s r.slice p = true) →
      (chartOf r.params).wholeFault = none → leastFault (circuitFaults s ((chartOf r.params).plotted s r.slice) []) = none →
      (assignSpares s (chartOf r.params)).2.2.1 = 0 →
      (s.topo.plot.filter (fun e => e.2.slice == r.slice)).length < 4 →
      0 < id → id < 65536 → s.topo.plot.has id = false → (∀ i, 0 < i → i < id → s.topo.plot.has i = true) →
      ∃ t p w1, exec (.chartLoad r) s = .next t ∧ Completed r s t 0 (id + p.circuits.length * 2 ^ 16) w1
        ∧ t.topo.plot.find id = some p ∧ p.slice = r.slice ∧ p.st = 1 ∧ p.form = r.b 0 1 ∧ p.releasing = false
        ∧ p.circuits.length = (chartOf r.params).logical.length
        ∧ p.circuits.map (fun c => (some c.src, some c.dst))
            = ((chartOf r.params).plotted s r.slice).map (fun x => (x.2.1, x.2.2))
        ∧ (p.circuits.map mir0).Nodup ∧ (p.circuits.map mir1).Nodup
        ∧ (∀ c ∈ p.circuits, (s.mirror (mir0 c)).st ≠ .failed ∧ (s.mirror (mir1 c)).st ≠ .failed)
        ∧ (∀ i, i ≠ id → t.topo.plot.find i = s.topo.plot.find i) ∧ Silent s t ∧ Quiet r s t
        ∧ t = { s with hif := t.hif, bnc := t.bnc, out := t.out, topo := { s.topo with plot := t.topo.plot } })
  ∧ (∀ (r : Req) (k : Nat) (s : State), accepts 0x0201 r s = true → ranges (chartRows s.fuse r.params) = none →
      s.hasSlice r.slice = true → (∀ p ∈ impliedPorts s (chartOf r.params), mayName s r.slice p = true) →
      (chartOf r.params).wholeFault = some k →
      ∃ t, exec (.chartLoad r) s = .next t ∧ Completed r s t 0x0110 0xFFFF k ∧ Silent s t ∧ Quiet r s t
        ∧ t = { s with hif := t.hif, bnc := t.bnc, out := t.out })
  ∧ (∀ (r : Req) (f : Nat × Nat) (s : State), accepts 0x0201 r s = true → ranges (chartRows s.fuse r.params) = none →
      s.hasSlice r.slice = true → (∀ p ∈ impliedPorts s (chartOf r.params), mayName s r.slice p = true) →
      (chartOf r.params).wholeFault = none →
      leastFault (circuitFaults s ((chartOf r.params).plotted s r.slice) []) = some f →
      ∃ t, exec (.chartLoad r) s = .next t ∧ Completed r s t 0x0110 f.1 f.2 ∧ Silent s t ∧ Quiet r s t
        ∧ t = { s with hif := t.hif, bnc := t.bnc, out := t.out }))
  ∧ ((∀ (r : Req) (p : Plot) (s : State), accepts 0x0202 r s = true → 1 ≤ r.p 16 2 → r.p 18 2 ≤ 1023 → 16 ≤ r.p 20 4 →
      r.p 20 4 ≤ 16384 → r.p 24 8 % 16 = 0 → r.z 32 = true → s.hasSlice r.slice = true →
      s.topo.plot.find (r.p 16 2) = some p → p.slice = r.slice →
      ∃ t n, exec (.chartQuery r) s = .next t ∧ n = min (p.circuits.length - r.p 18 2) (r.p 20 4 / 16)
        ∧ Completed r s t 0 n p.circuits.length
        ∧ (n = 0 → Silent s t)
        ∧ (0 < n → ∃ b, Writes (r.p 24 8) b s t ∧ b.length = 16 * n
            ∧ (∀ i, i < n → ∃ c ∈ p.circuits, le b (16 * i) 2 = c.src % 65536 ∧ le b (16 * i + 2) 2 = c.dst % 65536
                ∧ le b (16 * i + 5) 1 = c.origin % 256 ∧ le b (16 * i + 6) 2 = c.edge % 65536))
        ∧ Quiet r s t ∧ t = { s with hif := t.hif, bnc := t.bnc, out := t.out })
  ∧ (∀ (r : Req) (s : State), accepts 0x0202 r s = true → 1 ≤ r.p 16 2 → r.p 18 2 ≤ 1023 → 16 ≤ r.p 20 4 →
      r.p 20 4 ≤ 16384 → r.p 24 8 % 16 = 0 → r.z 32 = true → s.hasSlice r.slice = true →
      s.topo.plot.find (r.p 16 2) = none →
      ∃ t, exec (.chartQuery r) s = .next t ∧ Completed r s t 0x0302 (r.p 16 2) 0 ∧ Silent s t ∧ Quiet r s t
        ∧ t = { s with hif := t.hif, bnc := t.bnc, out := t.out }))

/-- CHART_COMMIT (R47 to R49): a PLOTTED plot becomes COMMITTING with its circuits, the mirrors of a slice that had no
ACTIVE plot are given their targets, and the command waits; while a plot of the slice commits or releases, or while a
passage runs over the ACTIVE plot, it is refused and nothing changes.
CHART_COMMIT_COMPLETE (R47, R50): when every circuit of the COMMITTING plot is settled, failed or superseded, the plot is
ACTIVE, the plot that was ACTIVE is retired, and the command that waits completes with the result of its circuits. -/
def Obligations.CommitsStartAndEnd : Prop :=
  ((∀ (r : Req) (p : Plot) (s : State), accepts 0x0203 r s = true → 1 ≤ r.p 16 2 → r.z 32 = true → s.hasSlice r.slice = true → s.topo.plot.find (r.p 16 2) = some p →
      p.slice = r.slice → p.st = 1 → s.busyPlot r.slice = none →
      (s.activePlot r.slice = none ∨ s.runningPassage r.slice = none) →
      ∃ t q, exec (.chartCommit r) s = .next t ∧ Waits 0x0203 r t (.commit r.slice (r.p 16 2)) ∧ t.out = s.out
        ∧ t.topo.plot.find (r.p 16 2) = some q ∧ q.st = 2
        ∧ q.circuits.map (fun c => (c.src, c.dst)) = p.circuits.map (fun c => (c.src, c.dst))
        ∧ (s.activePlot r.slice = none → ((targets p.circuits).map Prod.fst).Nodup →
            ∀ x ∈ targets p.circuits, (s.mirror x.1).st = .parked → (t.mirror x.1).accepted = some x.2)
        ∧ (∃ e, t.hif = { s.hif with execs := s.hif.execs ++ [e] }) ∧ Traced s t
        ∧ t = { s with hif := t.hif, bnc := t.bnc, plane := { s.plane with mirror := t.plane.mirror }
                       topo := { s.topo with plot := t.topo.plot, tport := t.topo.tport } })
  ∧ (∀ (r : Req) (b : Nat × Plot) (p : Plot) (s : State), accepts 0x0203 r s = true → 1 ≤ r.p 16 2 → r.z 32 = true → s.hasSlice r.slice = true → s.topo.plot.find (r.p 16 2) = some p →
      p.slice = r.slice → s.busyPlot r.slice = some b →
      ∃ t, exec (.chartCommit r) s = .next t ∧ Completed r s t 0x0601 b.1 0 ∧ Silent s t ∧ Quiet r s t
        ∧ t = { s with hif := t.hif, bnc := t.bnc, out := t.out })
  ∧ (∀ (r : Req) (o : Nat × Plot) (e : Nat × Passage) (p : Plot) (s : State), accepts 0x0203 r s = true → 1 ≤ r.p 16 2 →
      r.z 32 = true → s.hasSlice r.slice = true →
      s.topo.plot.find (r.p 16 2) = some p → p.slice = r.slice → p.st = 1 → s.busyPlot r.slice = none →
      s.activePlot r.slice = some o → s.runningPassage r.slice = some e →
      ∃ t, exec (.chartCommit r) s = .next t ∧ Completed r s t 0x0301 e.2.st.code 0 ∧ Silent s t ∧ Quiet r s t
        ∧ t = { s with hif := t.hif, bnc := t.bnc, out := t.out }))
  ∧ ((∀ (slice : Fin 64) (id : Nat) (p : Plot) (e : Exec) (s : State), NothingReleasing s →
      s.topo.plot.find? (fun x => x.2.slice == slice.val && x.2.st == 2) = some (id, p) → s.topo.plot.find id = some p →
      (∀ c ∈ p.circuits, c.superseded = true ∨ s.countsFailed c = true ∨ s.countsSettled c = true) →
      (∀ o, s.activePlot slice = some o → o.1 ≠ id) →
      s.hif.execs.filter (fun x => x.wait == .commit slice id) = [e] → e.discard = false → e.dma = .ok →
      (s.ring e.fn e.ring).st ≠ .disabled → (∀ x, s.topo.slice.find slice = some x → x.lostWait = []) →
      ∃ t c, exec (.chartCommitComplete slice) s = .next t
        ∧ t.out = s.out ++ [.completion e.fn e.ring (s.ring e.fn e.ring).cplIndex c] ∧ c.tag = e.tag % 2 ^ 32
        ∧ c.status = (s.commitResult p.circuits).1 ∧ c.word0 = (s.commitResult p.circuits).2.1 % 2 ^ 64
        ∧ c.word1 = (s.commitResult p.circuits).2.2 % 2 ^ 64
        ∧ t.topo.plot.find id = some { p with st := 3 }
        ∧ (∀ o, s.activePlot slice = some o → t.topo.plot.find o.1 = none)
        ∧ t.hif.execs = s.hif.execs.erase e ∧ (∀ n, t.topo.slice.find n = s.topo.slice.find n) ∧ Traced s t
        ∧ t = { s with hif := { s.hif with ring := t.hif.ring, execs := t.hif.execs }, bnc := t.bnc, out := t.out
                       topo := { s.topo with plot := t.topo.plot, tport := t.topo.tport, slice := t.topo.slice } })
  ∧ (∀ (slice : Fin 64) (s : State), NothingReleasing s →
      (∀ x ∈ s.topo.plot, x.2.slice = slice.val → x.2.st ≠ 2) → exec (.chartCommitComplete slice) s = .next s)
  ∧ (∀ (slice : Fin 64) (id : Nat) (p : Plot) (c : Circuit) (s : State), NothingReleasing s →
      s.topo.plot.find? (fun x => x.2.slice == slice.val && x.2.st == 2) = some (id, p) → c ∈ p.circuits →
      c.superseded = false → s.countsFailed c = false → s.countsSettled c = false →
      exec (.chartCommitComplete slice) s = .next s))

/-- CHART_RELEASE (R48 to R50): a PLOTTED plot is discarded and the command completes; the mirrors of the ACTIVE plot are sent
to park, and the command waits until they are there; a RUNNING or STALLED passage refuses the release.
POSITION_LOST (R331 to R335): the first listed spare that is found takes the lost position over in the ACTIVE plot, the
slice counts one substitution and raises its alarm, and one WARNING is created; with none the position is marked LOST,
with one WARNING; during a commit or a release the loss waits; a slice without an ACTIVE plot loses nothing. -/
def Obligations.ReleasesAndLostPositions : Prop :=
  ((∀ (r : Req) (p : Plot) (s : State), accepts 0x0204 r s = true → 1 ≤ r.p 16 2 → r.z 32 = true → s.hasSlice r.slice = true → s.topo.plot.find (r.p 16 2) = some p →
      p.slice = r.slice → s.busyPlot r.slice = none → p.st = 1 →
      ∃ t, exec (.chartRelease r) s = .next t ∧ Completed r s t 0 0 0 ∧ t.topo.plot.find (r.p 16 2) = none
        ∧ (∀ i, i ≠ r.p 16 2 → t.topo.plot.find i = s.topo.plot.find i) ∧ Silent s t ∧ Quiet r s t
        ∧ t = { s with hif := t.hif, bnc := t.bnc, out := t.out, topo := { s.topo with plot := t.topo.plot } })
  ∧ (∀ (r : Req) (p : Plot) (x : Nat × Aim) (s : State), accepts 0x0204 r s = true → 1 ≤ r.p 16 2 → r.z 32 = true → s.hasSlice r.slice = true → s.topo.plot.find (r.p 16 2) = some p →
      p.slice = r.slice → (∀ e ∈ s.topo.plot, e.2.releasing = false ∧ (e.1 = r.p 16 2 → e.2 = p)) →
      s.busyPlot r.slice = none → p.st = 3 → s.runningPassage r.slice = none → x ∈ targets p.circuits → (s.mirror x.1).st = .settled →
      ∃ t, exec (.chartRelease r) s = .next t ∧ Waits 0x0204 r t (.release r.slice (r.p 16 2)) ∧ t.out = s.out
        ∧ t.topo.plot.find (r.p 16 2) = some { p with releasing := true } ∧ (t.mirror x.1).accepted = some .park
        ∧ (∀ i, i ≠ r.p 16 2 → t.topo.plot.find i = s.topo.plot.find i)
        ∧ (∃ e, t.hif = { s.hif with execs := s.hif.execs ++ [e] }) ∧ Traced s t
        ∧ t = { s with hif := t.hif, bnc := t.bnc, plane := { s.plane with mirror := t.plane.mirror }
                       topo := { s.topo with plot := t.topo.plot } })
  ∧ (∀ (r : Req) (p : Plot) (e : Nat × Passage) (s : State), accepts 0x0204 r s = true → 1 ≤ r.p 16 2 → r.z 32 = true → s.hasSlice r.slice = true → s.topo.plot.find (r.p 16 2) = some p →
      p.slice = r.slice → s.busyPlot r.slice = none → p.st = 3 → s.runningPassage r.slice = some e →
      ∃ t, exec (.chartRelease r) s = .next t ∧ Completed r s t 0x0301 e.2.st.code 0 ∧ Silent s t ∧ Quiet r s t
        ∧ t = { s with hif := t.hif, bnc := t.bnc, out := t.out }))
  ∧ ((∀ (slice : Fin 64) (a : Fin 80) (id spare : Nat) (pl : Plot) (x : Slice) (s : State),
      s.activePlot slice = some (id, pl) → s.topo.plot.find id = some pl → s.busyPlot slice = none →
      s.plotLinks pl a ≠ [] → a.val ∉ pl.lost → pl.spareAuto = true →
      pl.spares.find? (fun p => s.posFound p (s.plotLinks pl a)) = some spare → (∀ k, (s.tfc k).st ≠ 4) →
      s.topo.slice.find slice = some x →
      ∃ t q, exec (.positionLost slice a) s = .next t ∧ t.topo.plot.find id = some q ∧ q.st = 3
        ∧ q.members = pl.members.map (fun m => if m = a.val then spare else m) ∧ q.spares = pl.spares.filter (· != spare)
        ∧ q.replaced = pl.replaced ++ [a.val] ∧ q.circuits.length = pl.circuits.length
        ∧ t.topo.slice.find slice = some { x with
            substitutions := min (x.substitutions + 1) 65535, lastLost := a, lastSpare := spare, lastSubS := s.secs
            subAlarm := true }
        ∧ (∀ n, n ≠ slice.val → t.topo.slice.find n = s.topo.slice.find n) ∧ t.log.created = s.log.created + 1
        ∧ t = { s with log := t.log, plane := { s.plane with mirror := t.plane.mirror }
                       topo := { s.topo with plot := t.topo.plot, tport := t.topo.tport, slice := t.topo.slice } })
  ∧ (∀ (slice : Fin 64) (a : Fin 80) (id : Nat) (pl : Plot) (s : State),
      s.activePlot slice = some (id, pl) → s.topo.plot.find id = some pl → s.busyPlot slice = none →
      s.plotLinks pl a ≠ [] → a.val ∉ pl.lost →
      (pl.spareAuto = false ∨ pl.spares.find? (fun p => s.posFound p (s.plotLinks pl a)) = none) →
      ∃ t, exec (.positionLost slice a) s = .next t ∧ t.topo.plot.find id = some { pl with lost := pl.lost ++ [a.val] }
        ∧ t.log.created = s.log.created + 1 ∧ t = { s with log := t.log, topo := { s.topo with plot := t.topo.plot } })
  ∧ (∀ (slice : Fin 64) (a : Fin 80) (x : Slice) (s : State), (s.activePlot slice).isSome = true →
      (s.busyPlot slice).isSome = true → s.topo.slice.find slice = some x →
      ∃ t, exec (.positionLost slice a) s = .next t
        ∧ t.topo.slice.find slice = some { x with lostWait := x.lostWait ++ [(a.val, s.ns)] }
        ∧ t = { s with topo := { s.topo with slice := t.topo.slice } })
  ∧ (∀ (slice : Fin 64) (a : Fin 80) (s : State), s.activePlot slice = none → exec (.positionLost slice a) s = .next s))

/-- TF_BATCH_SLOT (R119, R121, R123): a running controller starts, no earlier than 5 ms after its last batch, every mirror
of its 128 that has a target and is not barred, and only those; a controller that does not run starts nothing.
The moves of a circuit (R121, R125): the right identity makes the moving mirrors ACQUIRING, a wrong one parks both with
fault 4, sets event 6 and creates one ERROR; convergence makes both SETTLED and the circuit made, with its loss; a
mirror that parks ends with both codes 0. Stated where no release or reset waits for a mirror. -/
def Obligations.BatchesAndMoves : Prop :=
  ((∀ (tf : Fin 16) (s : State), (s.tfc tf).st = 2 → ∃ t, exec (.tfBatchSlot tf) s = .next t
      ∧ (∀ i a, i < 128 → (s.mirror (128 * tf + i)).due = some a → s.barred (128 * tf + i) a = false →
          (t.mirror (128 * tf + i)).st = .moving ∧ (t.mirror (128 * tf + i)).goal = a
          ∧ (t.mirror (128 * tf + i)).accepted = none ∧ (t.mirror (128 * tf + i)).pending = none
          ∧ (a = .park → (t.mirror (128 * tf + i)).x = 0 ∧ (t.mirror (128 * tf + i)).y = 0))
      ∧ (∀ i, i < 128 → ((s.mirror (128 * tf + i)).due = none ∨ ∃ a, (s.mirror (128 * tf + i)).due = some a
          ∧ s.barred (128 * tf + i) a = true) → t.mirror (128 * tf + i) = s.mirror (128 * tf + i))
      ∧ (∀ m : Nat, (m < 128 * tf ∨ 128 * tf + 128 ≤ m) → t.mirror m = s.mirror m)
      ∧ t.tfc tf = { s.tfc tf with lastBatch := some t.ns } ∧ (∀ t0, (s.tfc tf).lastBatch = some t0 → t0 + 5000000 ≤ t.ns)
      ∧ (∀ k, k ≠ tf.val → t.tfc k = s.tfc k)
      ∧ t = { s with ast := { s.ast with raw := t.ast.raw }, plane := { s.plane with mirror := t.plane.mirror, tf := t.plane.tf } })
  ∧ (∀ (tf : Fin 16) (s : State), (s.tfc tf).st ≠ 2 → exec (.tfBatchSlot tf) s = .next s))
  ∧ ((∀ (out ident : Fin 1024) (p : Nat) (s : State), NothingReleasing s → p < 1024 → (s.mirror (1024 + out)).goal = .face p →
      (s.mirror p).goal = .face out → (s.mirror p).st = .moving → (s.mirror (1024 + out)).st = .moving →
      s.holdCauses ⟨portAt p, portAt out, 0, 0, false, false, false, false, false, 0xFFFF⟩ = [] → ident.val = p →
      ∃ t, exec (.mirrorAcquiring out ident) s = .next t ∧ t.mirror p = { s.mirror p with st := .acquiring }
        ∧ t.mirror (1024 + out) = { s.mirror (1024 + out) with st := .acquiring }
        ∧ (∀ m, m ≠ p → m ≠ 1024 + out.val → t.mirror m = s.mirror m)
        ∧ t = { s with plane := { s.plane with mirror := t.plane.mirror, tapOut := t.plane.tapOut } })
  ∧ (∀ (out ident : Fin 1024) (p : Nat) (s : State), NothingReleasing s → p < 1024 → (s.mirror (1024 + out)).goal = .face p →
      (s.mirror p).goal = .face out → (s.mirror p).st = .moving → (s.mirror (1024 + out)).st = .moving →
      s.holdCauses ⟨portAt p, portAt out, 0, 0, false, false, false, false, false, 0xFFFF⟩ = [] → ident.val ≠ p →
      ∃ t, exec (.mirrorAcquiring out ident) s = .next t
        ∧ (∀ m, m = p ∨ m = 1024 + out.val → (t.mirror m).st = .parked ∧ (t.mirror m).x = 0 ∧ (t.mirror m).y = 0
            ∧ (t.mirror m).fault = 4)
        ∧ (∀ m, m ≠ p → m ≠ 1024 + out.val → t.mirror m = s.mirror m)
        ∧ bit t.plane.events 6 = true ∧ t.log.created = s.log.created + 1
        ∧ t = { s with log := t.log, topo := { s.topo with plot := t.topo.plot }
                       plane := { s.plane with mirror := t.plane.mirror, tapOut := t.plane.tapOut, events := t.plane.events } })
  ∧ (∀ (out : Fin 1024) (p loss : Nat) (s : State), p < 1024 → (s.mirror (1024 + out)).goal = .face p →
      (s.mirror p).goal = .face out → ((s.mirror p).st = .acquiring ∨ (s.mirror p).st = .settled) →
      ((s.mirror (1024 + out)).st = .acquiring ∨ (s.mirror (1024 + out)).st = .settled) →
      ∃ t, exec (.mirrorSettled out loss) s = .next t ∧ t.mirror p = { s.mirror p with st := .settled, fault := 0 }
        ∧ t.mirror (1024 + out) = { s.mirror (1024 + out) with st := .settled, fault := 0 }
        ∧ (∀ m, m ≠ p → m ≠ 1024 + out.val → t.mirror m = s.mirror m)
        ∧ (∀ id pl, s.topo.plot.find id = some pl → 2 ≤ pl.st → ∃ q, t.topo.plot.find id = some q
            ∧ q.circuits = pl.circuits.map (fun c => if mir0 c = p ∧ mir1 c = 1024 + out.val
                then { c with made := true, waits := false, loss := min loss 65534 } else c))
        ∧ t = { s with topo := { s.topo with plot := t.topo.plot }, plane := { s.plane with mirror := t.plane.mirror } })
  ∧ (∀ (m : Fin 2048) (s : State), NothingReleasing s → (s.mirror m).st = .moving → (s.mirror m).goal = .park →
      ∃ t, exec (.mirrorParked m) s = .next t ∧ (t.mirror m).st = .parked ∧ (t.mirror m).x = 0 ∧ (t.mirror m).y = 0
        ∧ (t.mirror m).partner = 0xFFFF ∧ (t.mirror m).pending = (s.mirror m).pending
        ∧ (∀ k, k ≠ m.val → t.mirror k = s.mirror k) ∧ OnlyMirrors s t)
  ∧ (∀ (m : Fin 2048) (s : State), NothingReleasing s → ((s.mirror m).st ≠ .moving ∨ (s.mirror m).goal ≠ .park) →
      exec (.mirrorParked m) s = .next s))

/-- Closed loops and identity checks (R129, R130): each loop frame corrects the four codes of a circuit whose loop is closed,
within the permitted range; a right identity clears the count of wrong ones, a first wrong one is counted, and a second
in a row parks both mirrors, sets event 6 and creates one ERROR.
Holding circuits (R131, R132, R140): monitor-band light above −30 dBm on a port in a circuit holds the settled mirrors of
its circuits, sets event 2 and, if none was recorded in the last minute, creates one WARNING; its end reacquires those
that nothing else holds; the loss of a monitor source holds the circuits it feeds and creates one WARNING, and its return
creates none; a circuit held for more than 60 s sets event 3. -/
def Obligations.LoopsIdentityAndHolds : Prop :=
  ((∀ (out : Fin 1024) (dx0 dy0 dx1 dy1 : Int) (c : Circuit) (s : State), s.circuitTo out = some c → mir0 c < 1024 →
      (∀ m, m = mir0 c ∨ m = mir1 c → ((s.mirror m).st = .settled ∨ (s.mirror m).st = .acquiring) ∧ (s.tfc (tfOf m)).st = 2) →
      ∃ t, exec (.loopFrame out dx0 dy0 dx1 dy1) s = .next t
        ∧ t.mirror (mir0 c) = { s.mirror (mir0 c) with
            x := min (((s.mirror (mir0 c)).x : Int) + dx0).toNat (Config.driveMax (mir0 c) false).toNat
            y := min (((s.mirror (mir0 c)).y : Int) + dy0).toNat (Config.driveMax (mir0 c) true).toNat }
        ∧ t.mirror (mir1 c) = { s.mirror (mir1 c) with
            x := min (((s.mirror (mir1 c)).x : Int) + dx1).toNat (Config.driveMax (mir1 c) false).toNat
            y := min (((s.mirror (mir1 c)).y : Int) + dy1).toNat (Config.driveMax (mir1 c) true).toNat }
        ∧ (∀ m, m ≠ mir0 c → m ≠ mir1 c → t.mirror m = s.mirror m)
        ∧ t = { s with plane := { s.plane with mirror := t.plane.mirror, tf := t.plane.tf } })
  ∧ (∀ (out : Fin 1024) (dx0 dy0 dx1 dy1 : Int) (s : State), s.circuitTo out = none →
      exec (.loopFrame out dx0 dy0 dx1 dy1) s = .next s)
  ∧ (∀ (out ident : Fin 1024) (c : Circuit) (s : State), NothingReleasing s → s.circuitTo out = some c →
      s.circuitState c = 2 → ident.val = posOf c.src →
      ∃ t, exec (.identityCheck out ident) s = .next t ∧ t.plane.identBad.find out = none
        ∧ t = { s with plane := { s.plane with tapOut := t.plane.tapOut, identBad := t.plane.identBad } })
  ∧ (∀ (out ident : Fin 1024) (c : Circuit) (s : State), NothingReleasing s → s.circuitTo out = some c →
      s.circuitState c = 2 → ident.val ≠ posOf c.src → s.plane.identBad.has out = false →
      ∃ t, exec (.identityCheck out ident) s = .next t ∧ t.plane.identBad.find out = some 1
        ∧ t = { s with plane := { s.plane with tapOut := t.plane.tapOut, identBad := t.plane.identBad } })
  ∧ (∀ (out ident : Fin 1024) (c : Circuit) (s : State), NothingReleasing s → s.circuitTo out = some c → mir0 c < 1024 →
      s.circuitState c = 2 → ident.val ≠ posOf c.src → s.plane.identBad.has out = true →
      ∃ t, exec (.identityCheck out ident) s = .next t
        ∧ (∀ m, m = mir0 c ∨ m = mir1 c → (t.mirror m).st = .parked ∧ (t.mirror m).x = 0 ∧ (t.mirror m).y = 0
            ∧ (t.mirror m).fault = 4)
        ∧ (∀ m, m ≠ mir0 c → m ≠ mir1 c → t.mirror m = s.mirror m) ∧ t.plane.identBad.find out = none
        ∧ bit t.plane.events 6 = true ∧ t.log.created = s.log.created + 1
        ∧ t = { s with log := t.log, topo := { s.topo with plot := t.topo.plot }
                       plane := { s.plane with mirror := t.plane.mirror, tapOut := t.plane.tapOut, identBad := t.plane.identBad
                                               events := t.plane.events } }))
  ∧ ((∀ (t : Fin 768) (power : Int) (s : State), -3000 < power → s.inCircuit t = true →
      ∃ u, exec (.monitorBandDetect t power) s = .next u ∧ t.val ∈ u.plane.band ∧ bit u.plane.events 2 = true
        ∧ (∀ c ∈ s.circuits, c.src = t.val → ∀ m, m = mir0 c ∨ m = mir1 c → (s.mirror m).st = .settled →
            (u.mirror m).st = .held ∧ bit (u.mirror m).holds 0 = true)
        ∧ (∀ m, (∀ c ∈ s.circuits, c.src = t.val → m ≠ mir0 c ∧ m ≠ mir1 c) → u.mirror m = s.mirror m)
        ∧ u.log.created = s.log.created + (match s.plane.bandAt.find t with
            | none => 1
            | some a => if a + 60000000000 ≤ s.ns then 1 else 0)
        ∧ u = { s with log := u.log
                       plane := { s.plane with mirror := u.plane.mirror, tapIn := u.plane.tapIn, band := u.plane.band
                                               bandAt := u.plane.bandAt, events := u.plane.events } })
  ∧ (∀ (t : Fin 768) (power : Int) (s : State), (power ≤ -3000 ∨ s.inCircuit t = false) →
      ∃ u, exec (.monitorBandDetect t power) s = .next u ∧ u = { s with plane := { s.plane with tapIn := u.plane.tapIn } })
  ∧ (∀ (t : Fin 768) (s : State), t.val ∈ s.plane.band → ∃ u, exec (.monitorBandClear t) s = .next u
        ∧ t.val ∉ u.plane.band
        ∧ (∀ c ∈ s.circuits, c.src = t.val → ∀ m, m = mir0 c ∨ m = mir1 c → (s.mirror m).st = .held →
            (s.mirror m).holds = 1 → (u.mirror m).st = .acquiring ∧ (u.mirror m).holds = 0)
        ∧ u = { s with plane := { s.plane with mirror := u.plane.mirror, tapIn := u.plane.tapIn, band := u.plane.band } })
  ∧ (∀ (t : Fin 768) (s : State), t.val ∉ s.plane.band → exec (.monitorBandClear t) s = .next s)
  ∧ (∀ (k : Fin 32) (lost : Bool) (s : State), ∃ u, exec (.monitorLoss (.source k) lost) s = .next u
        ∧ bit u.plane.srcLost k = lost ∧ (∀ j, j ≠ k.val → bit u.plane.srcLost j = bit s.plane.srcLost j)
        ∧ (lost = true → ∀ c ∈ s.circuits, posOf c.src / 32 = k.val → ∀ m, m = mir0 c ∨ m = mir1 c →
            (s.mirror m).st = .settled → (u.mirror m).st = .held ∧ (u.mirror m).fault = 6)
        ∧ u.log.created = s.log.created + (if lost then 1 else 0)
        ∧ u = { s with log := u.log, plane := { s.plane with mirror := u.plane.mirror, srcLost := u.plane.srcLost } })
  ∧ (∀ (p : Fin 1024) (lost : Bool) (s : State),
      (∃ u, exec (.monitorLoss (.inTap p) lost) s = .next u ∧ (p.val ∈ u.plane.inLost ↔ lost = true)
        ∧ u = { s with log := u.log, plane := { s.plane with mirror := u.plane.mirror, inLost := u.plane.inLost } })
      ∧ ∃ u, exec (.monitorLoss (.outTap p) lost) s = .next u ∧ (p.val ∈ u.plane.outLost ↔ lost = true)
        ∧ u = { s with log := u.log, plane := { s.plane with mirror := u.plane.mirror, outLost := u.plane.outLost } })
  ∧ (∀ (out : Fin 1024) (c : Circuit) (s : State), s.circuitTo out = some c → s.circuitState c = 3 →
      ∃ u, exec (.holdLong out) s = .next u ∧ bit u.plane.events 3 = true
        ∧ (s.mirror (mir1 c)).heldAt + 60000000000 ≤ u.ns
        ∧ u = { s with ast := { s.ast with raw := u.ast.raw }, plane := { s.plane with events := u.plane.events } }))

/-- Mirror faults (R136): a mirror that does not follow, reads back wrong codes twice in a row, or draws too much current is
FAILED with both codes 0 and its fault code, its port is FAILED, event 0 (and event 1 for a driver) is set, and one ERROR
is created; a first wrong read-back is rewritten; a right one clears it. Stated where no release or reset waits.
High-voltage supplies (R136, R495): one supply lost is event 4 and one WARNING; with both lost every mirror not FAILED or
DARK parks with both codes 0 and one CRITICAL entry is created; the return of a supply after that gives the mirrors of
every circuit that has not failed their targets again, with one NOTICE; otherwise it changes only its flag.
Controllers and open paths (R133, R135, R405, R491, R492): a watchdog failure reloads the controller with one WARNING, the
third within 10 minutes stops it with one ERROR, and event 5 is set either way; a reload ends only outside a pause and
with cluster 1 running; an open transparent adapter parks its eight array-1 mirrors, and one entry names it; when it
closes, one entry names it and its circuits are made again. -/
def Obligations.PlaneHardwareFaults : Prop :=
  ((∀ (m : Fin 2048) (s : State), NothingReleasing s → (s.mirror m).st ≠ .failed → (s.mirror m).st ≠ .dark →
      (∃ t, exec (.mirrorNotFollowing m) s = .next t ∧ (t.mirror m).st = .failed ∧ (t.mirror m).fault = 1
        ∧ (t.mirror m).x = 0 ∧ (t.mirror m).y = 0 ∧ bit t.plane.events 0 = true ∧ t.log.created = s.log.created + 1
        ∧ (isAX (m % 1024) = true → (t.tp (m % 1024)).st = .failed)
        ∧ (s.circuitOf m = none → ∀ k, k ≠ m.val → t.mirror k = s.mirror k)
        ∧ (∀ c, s.circuitOf m = some c → ∀ k, k = mir0 c ∨ k = mir1 c → (t.mirror k).x = 0 ∧ (t.mirror k).y = 0)
        ∧ t = { s with log := t.log, plane := { s.plane with mirror := t.plane.mirror, events := t.plane.events }
                       topo := { s.topo with plot := t.topo.plot, tport := t.topo.tport } })
      ∧ ∃ t, exec (.driverOvercurrent m) s = .next t ∧ (t.mirror m).st = .failed ∧ (t.mirror m).fault = 3
        ∧ (t.mirror m).x = 0 ∧ (t.mirror m).y = 0 ∧ bit t.plane.events 0 = true ∧ bit t.plane.events 1 = true
        ∧ t.log.created = s.log.created + 1
        ∧ t = { s with log := t.log, plane := { s.plane with mirror := t.plane.mirror, events := t.plane.events }
                       topo := { s.topo with plot := t.topo.plot, tport := t.topo.tport } })
  ∧ (∀ (m : Fin 2048) (x y : Nat) (s : State), NothingReleasing s → (s.mirror m).st ≠ .failed → (s.mirror m).st ≠ .dark →
      (s.mirror m).x = x → (s.mirror m).y = y →
      ∃ t, exec (.latchReadback m x y) s = .next t ∧ t.mirror m = { s.mirror m with rewritten := false }
        ∧ (∀ k, k ≠ m.val → t.mirror k = s.mirror k) ∧ OnlyMirrors s t)
  ∧ (∀ (m : Fin 2048) (x y : Nat) (s : State), NothingReleasing s → (s.mirror m).st ≠ .failed → (s.mirror m).st ≠ .dark →
      ((s.mirror m).x ≠ x ∨ (s.mirror m).y ≠ y) → (s.mirror m).rewritten = false →
      ∃ t, exec (.latchReadback m x y) s = .next t ∧ t.mirror m = { s.mirror m with rewritten := true }
        ∧ (∀ k, k ≠ m.val → t.mirror k = s.mirror k) ∧ OnlyMirrors s t)
  ∧ (∀ (m : Fin 2048) (x y : Nat) (s : State), NothingReleasing s → (s.mirror m).st ≠ .failed → (s.mirror m).st ≠ .dark →
      ((s.mirror m).x ≠ x ∨ (s.mirror m).y ≠ y) → (s.mirror m).rewritten = true →
      ∃ t, exec (.latchReadback m x y) s = .next t ∧ (t.mirror m).st = .failed ∧ (t.mirror m).fault = 2
        ∧ (t.mirror m).x = 0 ∧ (t.mirror m).y = 0 ∧ bit t.plane.events 1 = true ∧ t.log.created = s.log.created + 1))
  ∧ ((∀ (b : Bool) (s : State), NothingReleasing s → (if b then s.plane.hvA else s.plane.hvB) = true →
      ∃ t, exec (.hvSupplyLost b) s = .next t ∧ t.plane.hvA = (b && s.plane.hvA) ∧ t.plane.hvB = (!b && s.plane.hvB)
        ∧ bit t.plane.events 4 = true ∧ t.log.created = s.log.created + 1
        ∧ t = { s with log := t.log, plane := { s.plane with hvA := t.plane.hvA, hvB := t.plane.hvB, events := t.plane.events } })
  ∧ (∀ (b : Bool) (s : State), NothingReleasing s → s.plane.hvA = !b → s.plane.hvB = b →
      ∃ t, exec (.hvSupplyLost b) s = .next t ∧ t.hvLost = true ∧ bit t.plane.events 4 = true
        ∧ (∀ m, (s.mirror m).st ≠ .failed → (s.mirror m).st ≠ .dark → (t.mirror m).st = .parked)
        ∧ (∀ m, s.plane.mirror.has m = true → (t.mirror m).x = 0 ∧ (t.mirror m).y = 0)
        ∧ t.log.created = s.log.created + 1
        ∧ t = { s with log := t.log, topo := { s.topo with plot := t.topo.plot }
                       plane := { s.plane with mirror := t.plane.mirror, hvA := t.plane.hvA, hvB := t.plane.hvB
                                               events := t.plane.events } })
  ∧ (∀ (b : Bool) (s : State), s.hvLost = true →
      ((s.circuits.filter (fun c => !c.failed)).flatMap (fun c => [mir0 c, mir1 c])).Nodup →
      ∃ t, exec (.hvSupplyRestored b) s = .next t ∧ t.hvLost = false ∧ t.log.created = s.log.created + 1
        ∧ (∀ c ∈ s.circuits, c.failed = false →
            ((s.mirror (mir0 c)).st = .parked → (t.mirror (mir0 c)).accepted = some (aim0 c))
            ∧ ((s.mirror (mir1 c)).st = .parked → (t.mirror (mir1 c)).accepted = some (aim1 c)))
        ∧ t = { s with log := t.log, plane := { s.plane with mirror := t.plane.mirror, hvA := t.plane.hvA, hvB := t.plane.hvB } })
  ∧ (∀ (b : Bool) (s : State), s.hvLost = false → ∃ t, exec (.hvSupplyRestored b) s = .next t
        ∧ (if b then t.plane.hvB else t.plane.hvA) = true
        ∧ t = { s with plane := { s.plane with hvA := t.plane.hvA, hvB := t.plane.hvB } }))
  ∧ ((∀ (tf : Fin 16) (s : State), ∃ t, exec (.tfWatchdog tf) s = .next t
        ∧ (t.tfc tf).st = (if 2 ≤ ((s.tfc tf).restarts.filter (fun x => decide (s.ns < x + 600000000000))).length then 4 else 1)
        ∧ (t.tfc tf).holdAt = s.ns ∧ (∀ k, k ≠ tf.val → t.tfc k = s.tfc k)
        ∧ bit t.plane.events 5 = true ∧ t.log.created = s.log.created + 1
        ∧ (((s.tfc tf).restarts.filter (fun x => decide (s.ns < x + 600000000000))).length < 2 →
            t.plane.mirror = s.plane.mirror)
        ∧ t = { s with log := t.log
                       plane := { s.plane with mirror := t.plane.mirror, tf := t.plane.tf, events := t.plane.events } })
  ∧ (∀ (tf : Fin 16) (s : State), ((s.tfc tf).st = 1 ∨ (s.tfc tf).st = 3) → s.clusterHalted 1 = false → s.paused = false →
      ∃ t, exec (.tfReloaded tf) s = .next t ∧ t.tfc tf = { s.tfc tf with st := 2, holdAt := 0 }
        ∧ (∀ k, k ≠ tf.val → t.tfc k = s.tfc k) ∧ t = { s with plane := { s.plane with tf := t.plane.tf } })
  ∧ (∀ (tf : Fin 16) (s : State), (s.clusterHalted 1 = true ∨ s.paused = true) → exec (.tfReloaded tf) s = .next s)
  ∧ (∀ (k : Fin 104) (s : State), NothingReleasing s → k.val < 96 → s.plane.openPath.has k = false →
      ∃ t, exec (.openPath k) s = .next t ∧ t.plane.openPath.find k = some s.ns
        ∧ (∀ i, i < 8 → (s.mirror (1024 + 8 * k + i)).st ≠ .dark → (s.mirror (1024 + 8 * k + i)).st ≠ .failed →
            (t.mirror (1024 + 8 * k + i)).st = .parked ∧ (t.mirror (1024 + 8 * k + i)).x = 0
            ∧ (t.mirror (1024 + 8 * k + i)).y = 0 ∧ (t.mirror (1024 + 8 * k + i)).goal = (s.mirror (1024 + 8 * k + i)).goal)
        ∧ (∀ m : Nat, (m < 1024 + 8 * k ∨ 1032 + 8 * k ≤ m) → t.mirror m = s.mirror m) ∧ t.log.created = s.log.created + 1
        ∧ t = { s with log := t.log, plane := { s.plane with mirror := t.plane.mirror, openPath := t.plane.openPath }
                       topo := { s.topo with plot := t.topo.plot } })
  ∧ (∀ (k : Fin 104) (s : State), NothingReleasing s → 96 ≤ k.val → s.plane.openPath.has k = false →
      ∃ t, exec (.openPath k) s = .next t ∧ t.plane.openPath.find k = some s.ns
        ∧ (∀ n g x, s.col.port.find n = some g → 8 * (k.val - 96) ≤ n → n < 8 * (k.val - 96) + 8 →
            s.col.laser.find g.laser = some x → ∃ y, t.col.laser.find g.laser = some y ∧ y.gate = false)
        ∧ t.log.created = s.log.created + 1
        ∧ t = { s with log := t.log, plane := { s.plane with openPath := t.plane.openPath }
                       col := { s.col with port := t.col.port, laser := t.col.laser } })
  ∧ (∀ (k : Fin 104) (t0 : Nat) (s : State), s.plane.openPath.find k = some t0 → k.val < 96 →
      ∃ t, exec (.pathClosed k) s = .next t ∧ t.plane.openPath.find k = none ∧ t.log.created = s.log.created + 1
        ∧ (∀ c ∈ s.circuits, c.failed = false → posOf c.dst / 8 = k.val → refClass c.dst = 0 →
            (s.mirror (mir1 c)).st = .parked → (t.mirror (mir1 c)).accepted ≠ none)
        ∧ t = { s with log := t.log, plane := { s.plane with mirror := t.plane.mirror, openPath := t.plane.openPath } })
  ∧ (∀ (k : Fin 104) (s : State), s.plane.openPath.find k = none → exec (.pathClosed k) s = .next s))

/-- MIRROR_SET (R141, R142): DRIVE holds a mirror at the codes given, PARK parks it, LOOP closes its loop, and RETEST, only
for a FAILED mirror, ends PARKED or still FAILED, counted in WORD1 with 0x0501; a mirror of a circuit is refused and
nothing changes. Other mirrors do not change. -/
def Obligations.MirrorSetActs : Prop :=
  (∀ (r : Req) (s : State), accepts 0x0B03 r s = true → ranges (mirSetRows r) = none → s.clusterHalted 1 = false →
      (∀ e ∈ mirEntries r, (s.mirror e.1).st ≠ .dark ∧ s.circuitOf e.1 = none
        ∧ (1024 ≤ e.1 → s.openAt (e.1 % 1024) = false) ∧ ((s.mirror e.1).st = .failed ↔ e.2.1 = 3)) →
      ∃ t f, exec (.mirrorSet r) s = .next t ∧ Completed r s t (if f = 0 then 0 else 0x0501) (r.b 0 2) f
        ∧ (∀ e ∈ mirEntries r, e.2.1 = 0 → (t.mirror e.1).st = .held ∧ (t.mirror e.1).x = e.2.2.1
            ∧ (t.mirror e.1).y = e.2.2.2 ∧ (t.mirror e.1).byMaint = true)
        ∧ (∀ e ∈ mirEntries r, e.2.1 = 1 → (t.mirror e.1).st = .parked ∧ (t.mirror e.1).x = 0 ∧ (t.mirror e.1).y = 0)
        ∧ (∀ e ∈ mirEntries r, e.2.1 = 2 → (t.mirror e.1).st = .acquiring)
        ∧ (∀ e ∈ mirEntries r, e.2.1 = 3 → (t.mirror e.1).st = .parked ∨ t.mirror e.1 = s.mirror e.1)
        ∧ ((∀ e ∈ mirEntries r, e.2.1 ≠ 3) → f = 0)
        ∧ (∀ m, (∀ e ∈ mirEntries r, e.1 ≠ m) → t.mirror m = s.mirror m) ∧ Silent s t ∧ Quiet r s t
        ∧ t = { s with hif := t.hif, bnc := t.bnc, out := t.out, free := t.free
                       plane := { s.plane with mirror := t.plane.mirror }, topo := { s.topo with tport := t.topo.tport } })
  ∧ (∀ (r : Req) (e : Nat × Nat × Nat × Nat) (s : State), accepts 0x0B03 r s = true → ranges (mirSetRows r) = none →
      s.clusterHalted 1 = false → (∀ e ∈ mirEntries r, (s.mirror e.1).st ≠ .dark) → e ∈ mirEntries r →
      (s.circuitOf e.1).isSome = true →
      ∃ t m, exec (.mirrorSet r) s = .next t ∧ Completed r s t 0x0301 m 0 ∧ Silent s t ∧ Quiet r s t
        ∧ t = { s with hif := t.hif, bnc := t.bnc, out := t.out })

/-- PASSAGE_LOAD, PASSAGE_UNLOAD and PASSAGE_QUERY (R55, R64, R65): a block that passes every check becomes a LOADED passage
with its plan's digest, and the bytes placed are returned; a PASSAGE_ID in use is refused with its state; unloading
removes the passage and, once no other names its tensor, the tensor's residual area; a query returns state, leg and
iteration.
PASSAGE_ARM, PASSAGE_DOORBELL and PASSAGE_PARK (R54, R64, R65): arming a passage that is not live starts it over with its
epoch, at once where the field is 0, and the units in service; a doorbell adds its count to a live passage, up to 65,535;
a park is noted for the next safe leg; in another state each is refused with the state, and nothing changes. -/
def Obligations.PassagesLoadedAndArmed : Prop :=
  ((∀ (r : Req) (s : State), accepts 0x0301 r s = true → ranges (passageRows s r.slice r.params) = none →
      s.hasSlice r.slice = true → s.psg.find (psgKey r.slice (r.b 0 1)) = none → ownChk s r.slice r.params = none →
      prereqChk s r.slice r.params = none → countChk s r.slice (planOf s r.slice r.params).legs.length = none →
      fitChk s r.slice r.params = none →
      ∃ t p w1, exec (.passageLoad r) s = .next t ∧ Completed r s t 0 (placement s r.slice r.params).hbm w1
        ∧ t.psg.find (psgKey r.slice (r.b 0 1)) = some p ∧ p.st = .loaded ∧ p.tensor = r.b 6 2 ∧ p.elems = r.b 8 8
        ∧ p.wire = r.b 3 1 ∧ p.operator = r.b 4 1 ∧ p.legs = (planOf s r.slice r.params).legs
        ∧ p.groups = (planOf s r.slice r.params).groups
        ∧ p.digest = planDigest (phdr r.params) (s.standingPorts r.slice) (planOf s r.slice r.params)
        ∧ OtherPassages r.slice (r.b 0 1) s t ∧ Silent s t ∧ Quiet r s t
        ∧ t = { s with hif := t.hif, bnc := t.bnc, out := t.out, psg := t.psg, skk := { s.skk with resid := t.skk.resid } })
  ∧ (∀ (r : Req) (p : Passage) (s : State), accepts 0x0301 r s = true → ranges (passageRows s r.slice r.params) = none →
      s.hasSlice r.slice = true → s.psg.find (psgKey r.slice (r.b 0 1)) = some p →
      ∃ t, exec (.passageLoad r) s = .next t ∧ Completed r s t 0x0301 p.st.code 0 ∧ Silent s t ∧ Quiet r s t
        ∧ t = { s with hif := t.hif, bnc := t.bnc, out := t.out })
  ∧ (∀ (r : Req) (p : Passage) (s : State), accepts 0x0307 r s = true → Names r s p → r.p 18 2 = 0 → r.p 24 6 = 0 →
      r.p 30 4 = 0 → (p.st = .loaded ∨ p.st = .done ∨ p.st = .aborted) → NoHeld s →
      ∃ t, exec (.passageUnload r) s = .next t ∧ Completed r s t 0 0 0
        ∧ t.psg.find (psgKey r.slice (r.p 16 1)) = none ∧ OtherPassages r.slice (r.p 16 1) s t
        ∧ ((∀ e ∈ t.passagesOf r.slice, e.2.tensor ≠ p.tensor) → t.skk.resid.find (tensorKey r.slice p.tensor) = none)
        ∧ Silent s t ∧ Quiet r s t
        ∧ t = { s with hif := t.hif, bnc := t.bnc, out := t.out, psg := t.psg, skk := { s.skk with resid := t.skk.resid } })
  ∧ (∀ (r : Req) (p : Passage) (s : State), accepts 0x0307 r s = true → Names r s p → r.p 18 2 = 0 → r.p 24 6 = 0 →
      r.p 30 4 = 0 → p.st.live = true →
      ∃ t, exec (.passageUnload r) s = .next t ∧ Completed r s t 0x0301 p.st.code 0 ∧ Silent s t ∧ Quiet r s t
        ∧ t = { s with hif := t.hif, bnc := t.bnc, out := t.out })
  ∧ (∀ (r : Req) (p : Passage) (s : State), accepts 0x0308 r s = true → Names r s p → r.p 18 2 = 0 → r.p 24 6 = 0 →
      r.p 30 4 = 0 → p.leg < 4096 → ∃ t w0 w1, exec (.passageQuery r) s = .next t ∧ Completed r s t 0 w0 w1
        ∧ bits w0 0 8 = p.st.code ∧ bits w0 8 12 = p.leg ∧ bits w0 20 44 = p.iter % 2 ^ 44
        ∧ bits w1 0 32 = p.w0 / 65536 % 1000000000 ∧ bits w1 32 32 = p.w0 / 65536 / 1000000000 % 2 ^ 32
        ∧ Silent s t ∧ Quiet r s t ∧ t = { s with hif := t.hif, bnc := t.bnc, out := t.out }))
  ∧ ((∀ (r : Req) (p : Passage) (s : State), accepts 0x0302 r s = true → Names r s p → r.p 18 2 = 0 → r.p 30 4 < 1000000000 →
      (p.st = .loaded ∨ p.st = .done ∨ p.st = .aborted) → s.failedPort p = none →
      (p.lights = false ∨ ∀ e ∈ s.passagesOf r.slice, e.1 ≠ r.p 16 1 → e.2.st.live = true → e.2.lights = false) →
      ∃ t q, exec (.passageArm r) s = .next t ∧ Completed r s t 0 0 0
        ∧ t.psg.find (psgKey r.slice (r.p 16 1)) = some q ∧ q.st = .armed ∧ q.leg = 0 ∧ q.iter = 0 ∧ q.bells = 0
        ∧ q.epoch = (if r.p 24 6 = 0 ∧ r.p 30 4 = 0 then s.ns else r.p 24 6 * 1000000000 + r.p 30 4)
        ∧ (∀ u, u ∈ q.units ↔ u < 48 ∧ u ∉ s.skk.retired) ∧ q.legs = p.legs ∧ q.digest = p.digest ∧ q.buffers = p.buffers
        ∧ OtherPassages r.slice (r.p 16 1) s t ∧ Silent s t ∧ Quiet r s t
        ∧ t = { s with hif := t.hif, bnc := t.bnc, out := t.out, psg := t.psg })
  ∧ (∀ (r : Req) (p : Passage) (s : State), accepts 0x0303 r s = true → Names r s p → 1 ≤ r.p 18 2 → r.p 24 6 = 0 →
      r.p 30 4 = 0 → p.st.live = true → p.bells + r.p 18 2 ≤ 65535 →
      ∃ t, exec (.passageDoorbell r) s = .next t ∧ Completed r s t 0 0 0
        ∧ t.psg.find (psgKey r.slice (r.p 16 1)) = some { p with bells := p.bells + r.p 18 2 }
        ∧ OtherPassages r.slice (r.p 16 1) s t ∧ Silent s t ∧ Quiet r s t
        ∧ t = { s with hif := t.hif, bnc := t.bnc, out := t.out, psg := t.psg })
  ∧ (∀ (r : Req) (p : Passage) (s : State), accepts 0x0303 r s = true → Names r s p → 1 ≤ r.p 18 2 → r.p 24 6 = 0 →
      r.p 30 4 = 0 → p.st.live = true → 65535 < p.bells + r.p 18 2 →
      ∃ t, exec (.passageDoorbell r) s = .next t ∧ Completed r s t 0x0201 6 (p.bells + r.p 18 2 - 65535) ∧ Silent s t
        ∧ Quiet r s t ∧ t = { s with hif := t.hif, bnc := t.bnc, out := t.out })
  ∧ (∀ (r : Req) (p : Passage) (s : State), accepts 0x0304 r s = true → Names r s p → r.p 18 2 = 0 → r.p 24 6 = 0 →
      r.p 30 4 = 0 → p.st.live = true →
      ∃ t, exec (.passagePark r) s = .next t ∧ Completed r s t 0 0 0
        ∧ t.psg.find (psgKey r.slice (r.p 16 1)) = some { p with parkPend := p.st != .parked, parkedByAct := false }
        ∧ OtherPassages r.slice (r.p 16 1) s t ∧ Silent s t ∧ Quiet r s t
        ∧ t = { s with hif := t.hif, bnc := t.bnc, out := t.out, psg := t.psg })
  ∧ (∀ (r : Req) (p : Passage) (s : State), Names r s p → r.p 24 6 = 0 → r.p 30 4 = 0 →
      (accepts 0x0302 r s = true → r.p 18 2 = 0 → p.st.live = true → ∃ t, exec (.passageArm r) s = .next t
        ∧ Completed r s t 0x0301 p.st.code 0 ∧ t = { s with hif := t.hif, bnc := t.bnc, out := t.out })
      ∧ (accepts 0x0303 r s = true → 1 ≤ r.p 18 2 → p.st.live = false → ∃ t, exec (.passageDoorbell r) s = .next t
        ∧ Completed r s t 0x0301 p.st.code 0 ∧ t = { s with hif := t.hif, bnc := t.bnc, out := t.out })
      ∧ (accepts 0x0304 r s = true → r.p 18 2 = 0 → p.st.live = false → ∃ t, exec (.passagePark r) s = .next t
        ∧ Completed r s t 0x0301 p.st.code 0 ∧ t = { s with hif := t.hif, bnc := t.bnc, out := t.out })))

/-- PASSAGE_RESUME and PASSAGE_ABORT (R64, R66, R69): a PARKED passage runs again at the end of its leg, its timeout not
counting the park; a live passage is ABORTED, its progress, accumulators and stripes dropped and its buffers kept.
Stated where no frame is held back and no optimizer pass is under way.
SLICE_RESET (R328) of a slice that holds no passage: with every plot of it only PLOTTED, its plots, queues, bindings,
programs and residual areas go and the command completes with the number of queues freed; with an ACTIVE plot whose mirror
is not at park it waits; a slice that does not exist is refused. Objects of other slices stay. -/
def Obligations.ResumesAbortsAndSliceResets : Prop :=
  ((∀ (r : Req) (p : Passage) (s : State), accepts 0x0305 r s = true → Names r s p → r.p 18 2 = 0 → r.p 24 6 = 0 →
      r.p 30 4 = 0 → p.st = .parked →
      ∃ t q, exec (.passageResume r) s = .next t ∧ Completed r s t 0 0 0
        ∧ t.psg.find (psgKey r.slice (r.p 16 1)) = some q ∧ q.st = .running ∧ q.parkPend = false ∧ q.leg = p.leg
        ∧ q.iter = p.iter ∧ q.enteredAt = p.enteredAt + (s.ns - p.parkedAt) ∧ q.legDone = p.legDone
        ∧ OtherPassages r.slice (r.p 16 1) s t ∧ Silent s t ∧ Quiet r s t
        ∧ t = { s with hif := t.hif, bnc := t.bnc, out := t.out, psg := t.psg
                       col := { s.col with port := t.col.port, laser := t.col.laser } })
  ∧ (∀ (r : Req) (p : Passage) (s : State), accepts 0x0305 r s = true → Names r s p → r.p 18 2 = 0 → r.p 24 6 = 0 →
      r.p 30 4 = 0 → p.st ≠ .parked →
      ∃ t, exec (.passageResume r) s = .next t ∧ Completed r s t 0x0301 p.st.code 0 ∧ Silent s t ∧ Quiet r s t
        ∧ t = { s with hif := t.hif, bnc := t.bnc, out := t.out })
  ∧ (∀ (r : Req) (p : Passage) (s : State), accepts 0x0306 r s = true → Names r s p → r.p 18 2 = 0 → r.p 24 6 = 0 →
      r.p 30 4 = 0 → p.st.live = true → NoHeld s → s.passRuns r.slice p = false →
      ∃ t q, exec (.passageAbort r) s = .next t ∧ Completed r s t 0 0 0
        ∧ t.psg.find (psgKey r.slice (r.p 16 1)) = some q ∧ q.st = .aborted ∧ q.prog = [] ∧ q.acc = [] ∧ q.stripes = []
        ∧ q.buffers = p.buffers ∧ q.legs = p.legs ∧ q.digest = p.digest
        ∧ (p.stripes = [] → q.data = p.data ∧ q.scale = p.scale)
        ∧ OtherPassages r.slice (r.p 16 1) s t ∧ Silent s t ∧ Quiet r s t
        ∧ t = { s with hif := t.hif, bnc := t.bnc, out := t.out, psg := t.psg, lnk := t.lnk
                       col := { s.col with port := t.col.port, laser := t.col.laser, stq := t.col.stq }
                       sxt := { s.sxt with takes := t.sxt.takes } })
  ∧ (∀ (r : Req) (p : Passage) (s : State), accepts 0x0306 r s = true → Names r s p → r.p 18 2 = 0 → r.p 24 6 = 0 →
      r.p 30 4 = 0 → p.st.live = false →
      ∃ t, exec (.passageAbort r) s = .next t ∧ Completed r s t 0x0301 p.st.code 0 ∧ Silent s t ∧ Quiet r s t
        ∧ t = { s with hif := t.hif, bnc := t.bnc, out := t.out }))
  ∧ ((∀ (r : Req) (s : State), accepts 0x0104 r s = true → r.z 16 = true → s.hasSlice r.slice = true →
      s.passagesOf r.slice = [] → (∀ e ∈ s.topo.plot, e.2.slice = r.slice → e.2.st = 1 ∧ e.2.releasing = false) →
      (∀ q ∈ s.fm.reqs, ∀ e ∈ s.fm.queue, e.1 = q.qp → e.2.slice ≠ r.slice) →
      ∃ t, exec (.sliceReset r) s = .next t ∧ Completed r s t 0 0 (s.queueCount r.slice)
        ∧ (∀ e ∈ t.topo.plot, e.2.slice ≠ r.slice) ∧ (∀ e ∈ t.fm.queue, e.2.slice = r.slice → e.2.st = 0)
        ∧ (∀ e ∈ t.skk.binding, e.1 / 65536 ≠ r.slice) ∧ (∀ e ∈ t.skk.prog, e.1 / 32 ≠ r.slice)
        ∧ (∀ e ∈ t.skk.resid, e.1 / 65536 ≠ r.slice)
        ∧ (∀ k, k / 65536 ≠ r.slice → t.skk.binding.find k = s.skk.binding.find k ∧ t.skk.resid.find k = s.skk.resid.find k)
        ∧ (∀ k, k / 32 ≠ r.slice → t.skk.prog.find k = s.skk.prog.find k) ∧ t.topo.slice = s.topo.slice
        ∧ t = { s with hif := { s.hif with ring := t.hif.ring }, bnc := t.bnc, out := t.out
                       topo := { s.topo with plot := t.topo.plot }, fm := t.fm
                       skk := { s.skk with binding := t.skk.binding, prog := t.skk.prog, resid := t.skk.resid } })
  ∧ (∀ (r : Req) (id : Nat) (p : Plot) (x : Nat × Aim) (s : State), accepts 0x0104 r s = true → r.z 16 = true →
      s.hasSlice r.slice = true → s.passagesOf r.slice = [] → s.topo.plot = [(id, p)] → p.slice = r.slice → p.st = 3 →
      p.releasing = false → x ∈ targets p.circuits → (s.mirror x.1).st = .settled →
      ∃ t, exec (.sliceReset r) s = .next t ∧ Waits 0x0104 r t (.park r.slice 0) ∧ t.out = s.out
        ∧ t.topo.plot = [(id, { p with releasing := true })] ∧ (t.mirror x.1).accepted = some .park
        ∧ (∃ e, t.hif = { s.hif with execs := s.hif.execs ++ [e] }) ∧ Traced s t
        ∧ t = { s with hif := t.hif, bnc := t.bnc, plane := { s.plane with mirror := t.plane.mirror }
                       topo := { s.topo with plot := t.topo.plot } })
  ∧ (∀ (r : Req) (s : State), accepts 0x0104 r s = true → r.z 16 = true → s.hasSlice r.slice = false →
      ∃ t, exec (.sliceReset r) s = .next t ∧ Completed r s t 0x0302 r.slice 0 ∧ Silent s t ∧ Quiet r s t
        ∧ t = { s with hif := t.hif, bnc := t.bnc, out := t.out }))

/-- The end of a leg and its gates (R59, R60, R62, R69): LEG_COMPLETE notes a running leg whose groups are complete, and parks
the passage where a park is pending and the leg is safe; the time gate opens at the epoch plus TRIGGER_ARG; LEG_TIMEOUT
makes a passage that waits STALLED with one WARNING. A leg that is not complete, a gate that is not there and a passage
that nothing holds are left as they are.
Waypoints (R59, R64, R67, R434): WAYPOINT_FIRE and ARM_EPOCH enter the next leg, which starts RUNNING with its parity
turned, its progress empty and its doorbell consumed; the last leg's exit ends the passage as DONE with one more
iteration; a gate that is closed, or a pause, keeps it where it is. Stated for a passage that lights no global port, steps
no optimizer and copies no shard, with no frame held and no take announced. -/
def Obligations.LegsAndWaypoints : Prop :=
  ((∀ (slice : Fin 64) (pid : Fin 256) (p : Passage) (s : State), s.psg.find (psgKey slice pid) = some p →
      s.paused = false → p.st = .running → p.legDone = false → p.legComplete = true → s.opProg slice p = none →
      ¬((p.form = 2 ∨ p.form = 3) ∧ p.leg = 0 ∧ (racks p.rackMask).length = 1) →
      ∃ t q, exec (.legComplete slice pid) s = .next t ∧ t.psg.find (psgKey slice pid) = some q ∧ q.legDone = true
        ∧ q.st = (if (p.legAt p.leg).parkSafe = true ∧ p.parkPend = true then .parked else .running)
        ∧ q.leg = p.leg ∧ q.iter = p.iter ∧ q.data = p.data
        ∧ ((p.legAt p.leg).parkSafe = true → p.parkPend = true → q.parkPend = false ∧ q.parkedAt = s.ns)
        ∧ t.col.stq.length = s.col.stq.length
            + (if (p.legAt p.leg).trigger = 3 then (s.others p.rackMask).length else 0)
        ∧ OtherPassages slice pid s t
        ∧ t = { s with psg := t.psg, col := { s.col with port := t.col.port, laser := t.col.laser, stq := t.col.stq }
                       sxt := { s.sxt with takes := t.sxt.takes } })
  ∧ (∀ (slice : Fin 64) (pid : Fin 256) (p : Passage) (s : State), s.psg.find (psgKey slice pid) = some p →
      (s.paused = true ∨ p.legDone = true ∨ p.legComplete = false ∨ (p.st ≠ .running ∧ p.st ≠ .stalled)) →
      exec (.legComplete slice pid) s = .next s)
  ∧ (∀ (slice : Fin 64) (pid : Fin 256) (p : Passage) (s : State), s.psg.find (psgKey slice pid) = some p →
      (p.st = .running ∨ p.st = .stalled ∨ p.st = .parked) → (p.legAt p.leg).trigger = 1 → p.timeOpen = false →
      ∃ t, exec (.timeTriggerOpen slice pid) s = .next t
        ∧ t.psg.find (psgKey slice pid) = some { p with timeOpen := true } ∧ p.epoch + (p.legAt p.leg).trigArg ≤ t.ns
        ∧ OtherPassages slice pid s t ∧ t = { s with ast := { s.ast with raw := t.ast.raw }, psg := t.psg })
  ∧ (∀ (slice : Fin 64) (pid : Fin 256) (p : Passage) (s : State), s.psg.find (psgKey slice pid) = some p →
      (p.legAt p.leg).trigger ≠ 1 → exec (.timeTriggerOpen slice pid) s = .next s)
  ∧ (∀ (slice : Fin 64) (pid : Fin 256) (p : Passage) (s : State), s.psg.find (psgKey slice pid) = some p →
      p.st = .running → s.heldByR62 p = true →
      ∃ t, exec (.legTimeout slice pid) s = .next t ∧ t.psg.find (psgKey slice pid) = some { p with st := .stalled }
        ∧ p.enteredAt + p.timeout * 1000000 ≤ t.ns ∧ t.log.created = s.log.created + 1 ∧ OtherPassages slice pid s t
        ∧ t = { s with ast := { s.ast with raw := t.ast.raw }, log := t.log, psg := t.psg })
  ∧ (∀ (slice : Fin 64) (pid : Fin 256) (p : Passage) (s : State), s.psg.find (psgKey slice pid) = some p →
      (p.st ≠ .running ∨ s.heldByR62 p = false) → exec (.legTimeout slice pid) s = .next s))
  ∧ ((∀ (slice : Fin 64) (pid : Fin 256) (p : Passage) (l i : Nat) (s : State), s.psg.find (psgKey slice pid) = some p →
      s.paused = false → (p.st = .running ∨ p.st = .stalled ∨ (p.st = .armed ∧ s.boot.actWait = none)) →
      s.gateOpen p = true → p.target = some (l, i) → p.lights = false → (p.legAt l).optimizer = false →
      l < p.legs.length → p.form = 0 → NoHeld s → p.heldG = [] → s.sxt.takes = [] → opBase p.operator ≠ 4 →
      ∃ t q, exec (.waypointFire slice pid) s = .next t ∧ t.psg.find (psgKey slice pid) = some q ∧ q.st = .running
        ∧ q.leg = l ∧ q.iter = i ∧ q.parity = p.nextParity ∧ q.prog = [] ∧ q.legDone = false ∧ q.w0 = t.time16
        ∧ q.bells = (if p.st ≠ .armed ∧ (p.legAt p.leg).trigger = 2 then p.bells - 1 else p.bells)
        ∧ q.data = p.data ∧ OtherPassages slice pid s t ∧ Traced s t
        ∧ t = { s with ast := { s.ast with raw := t.ast.raw }, bnc := t.bnc, psg := t.psg
                       skk := { s.skk with resid := t.skk.resid } })
  ∧ (∀ (slice : Fin 64) (pid : Fin 256) (p : Passage) (s : State), s.psg.find (psgKey slice pid) = some p →
      s.paused = false → (p.st = .running ∨ p.st = .stalled) → s.gateOpen p = true → p.target = none → p.form = 0 →
      NoHeld s → s.sxt.takes = [] → opBase p.operator ≠ 4 →
      ∃ t q, exec (.waypointFire slice pid) s = .next t ∧ t.psg.find (psgKey slice pid) = some q ∧ q.st = .done
        ∧ q.iter = p.iter + 1 ∧ q.leg = p.leg ∧ q.data = p.data ∧ OtherPassages slice pid s t)
  ∧ (∀ (slice : Fin 64) (pid : Fin 256) (p : Passage) (s : State), s.psg.find (psgKey slice pid) = some p →
      (s.paused = true ∨ s.gateOpen p = false) → exec (.waypointFire slice pid) s = .next s)
  ∧ (∀ (slice : Fin 64) (pid : Fin 256) (p : Passage) (s : State), s.psg.find (psgKey slice pid) = some p →
      s.paused = false → p.st = .armed → p.legDone = false → p.colourAhead = false → s.boot.actWait = none →
      0 < p.legs.length → p.lights = false → (p.legAt 0).optimizer = false → p.form = 0 → NoHeld s → p.heldG = [] →
      s.sxt.takes = [] →
      ∃ t q, exec (.armEpoch slice pid) s = .next t ∧ t.psg.find (psgKey slice pid) = some q ∧ q.st = .running ∧ q.leg = 0
        ∧ q.iter = p.iter ∧ q.parity = false ∧ p.epoch ≤ t.ns ∧ OtherPassages slice pid s t)
  ∧ (∀ (slice : Fin 64) (pid : Fin 256) (p : Passage) (s : State), s.psg.find (psgKey slice pid) = some p →
      s.paused = false → p.st = .armed → p.legDone = false → p.colourAhead = true →
      ∃ t q, exec (.armEpoch slice pid) s = .next t ∧ t.psg.find (psgKey slice pid) = some q ∧ q.st = .armed
        ∧ q.legDone = true ∧ (p.blanked = none → q.blanked = some t.ns) ∧ p.epoch ≤ t.ns ∧ OtherPassages slice pid s t)
  ∧ (∀ (slice : Fin 64) (pid : Fin 256) (p : Passage) (s : State), s.psg.find (psgKey slice pid) = some p →
      (s.paused = true ∨ p.st ≠ .armed ∨ p.legDone = true) → exec (.armEpoch slice pid) s = .next s))

/-- Signals of other modules (R59, R60, R66): a WAYPOINT_READY of a rack of the passage with its digest is kept, for the gate
or for the remote trigger; one with another digest aborts a live passage with one ERROR; an ABORT signal aborts it with
one NOTICE. The bytes taken count in the stream of the sending rack; a frame that does not belong to the burst on its port
changes nothing.
Passage data (R32, R70, R246, R466, R496): a DATA frame that the port's passage does not expect is refused with a NAK of
its cause and counted, its credit freed; one for the next leg, or that comes in a pause, is held without its credit; one
that is taken counts its bytes and frees its credit; on a global port a frame outside its burst is discarded and counted,
one for the next leg is kept, and one that is taken counts its bytes and stands in the port's stream, where the flits it
passes over are missing; a stripe freed ends the holding of the slice's ports. -/
def Obligations.SignalsAndData : Prop :=
  ((∀ (g : Fin 64) (frame : Bytes) (p : Passage) (s : State), s.standingFrameOk g frame = true → ctlKind frame = 0x21 →
      s.psg.find (psgKey (ctlSlice frame) (ctlPid frame)) = some p → ctlRack frame ∈ s.others p.rackMask →
      be frame 20 4 = p.digest → byteAt frame 16 = 1 →
      ∃ t q, exec (.waypointReady g frame) s = .next t
        ∧ t.psg.find (psgKey (ctlSlice frame) (ctlPid frame)) = some q
        ∧ (⟨ctlRack frame, ctlLeg frame, ctlIter frame, be frame 20 4⟩ : Ready) ∈ q.remote
        ∧ (∀ x ∈ p.remote, x ∈ q.remote) ∧ q.leg = p.leg ∧ q.ready = p.ready
        ∧ (t.path g (s.gp g).expectRack).rxBytes = (s.path g (s.gp g).expectRack).rxBytes + frame.length
        ∧ OtherPassages (ctlSlice frame) (ctlPid frame) s t
        ∧ t = { s with psg := t.psg, col := { s.col with path := t.col.path } })
  ∧ (∀ (g : Fin 64) (frame : Bytes) (p : Passage) (s : State), s.standingFrameOk g frame = true → ctlKind frame = 0x21 →
      s.psg.find (psgKey (ctlSlice frame) (ctlPid frame)) = some p → ctlRack frame ∈ s.others p.rackMask →
      be frame 20 4 = p.digest → byteAt frame 16 = 0 → (p.leg ≠ ctlLeg frame ∨ p.st = .armed) → p.blanked = none →
      ∃ t q, exec (.waypointReady g frame) s = .next t
        ∧ t.psg.find (psgKey (ctlSlice frame) (ctlPid frame)) = some q
        ∧ (⟨ctlRack frame, ctlLeg frame, ctlIter frame, be frame 20 4⟩ : Ready) ∈ q.ready
        ∧ (∀ x ∈ p.ready, x ∈ q.ready) ∧ q.leg = p.leg ∧ OtherPassages (ctlSlice frame) (ctlPid frame) s t
        ∧ t = { s with psg := t.psg, col := { s.col with path := t.col.path } })
  ∧ (∀ (g : Fin 64) (frame : Bytes) (p : Passage) (s : State), s.standingFrameOk g frame = true → ctlKind frame = 0x21 →
      s.psg.find (psgKey (ctlSlice frame) (ctlPid frame)) = some p → ctlRack frame ∈ s.others p.rackMask →
      be frame 20 4 ≠ p.digest → p.st.live = true → NoHeld s → s.passRuns (ctlSlice frame) p = false →
      ∃ t q, exec (.waypointReady g frame) s = .next t
        ∧ t.psg.find (psgKey (ctlSlice frame) (ctlPid frame)) = some q ∧ q.st = .aborted
        ∧ t.log.created = s.log.created + 1 ∧ OtherPassages (ctlSlice frame) (ctlPid frame) s t)
  ∧ (∀ (g : Fin 64) (frame : Bytes) (p : Passage) (s : State), s.standingFrameOk g frame = true → ctlKind frame = 0x22 →
      s.psg.find (psgKey (ctlSlice frame) (ctlPid frame)) = some p → ctlRack frame ∈ s.others p.rackMask →
      p.st.live = true → NoHeld s → s.passRuns (ctlSlice frame) p = false →
      ∃ t q, exec (.abortSignal g frame) s = .next t
        ∧ t.psg.find (psgKey (ctlSlice frame) (ctlPid frame)) = some q ∧ q.st = .aborted ∧ q.acc = []
        ∧ t.log.created = s.log.created + 1 ∧ OtherPassages (ctlSlice frame) (ctlPid frame) s t)
  ∧ (∀ (g : Fin 64) (frame : Bytes) (s : State), s.standingFrameOk g frame = false →
      exec (.waypointReady g frame) s = .next s ∧ exec (.abortSignal g frame) s = .next s))
  ∧ ((∀ (p : Fin 256) (vc : Fin 8) (frame : Bytes) (c : Nat) (s : State), s.lpLive p = true → s.paused = false →
      s.mem.thermStop = false → s.judgeData (refP p) (some vc) frame = .refuse c → (s.lp p).ownLimit.length = 8 →
      ∃ t f, exec (.dataFrame p vc frame) s = .next t ∧ (t.lp p).txq = (s.lp p).txq ++ [⟨6, f, 0, none, 0, 0⟩]
        ∧ byteAt f 0 = 0x20 ∧ byteAt f 16 = c % 256
        ∧ (t.lp p).ownLimit.getD vc 0 = ((s.lp p).ownLimit.getD vc 0 + flitsOf frame.length) % 65536
        ∧ (∀ x, s.psg.find (psgKey (dhdr frame).slice (dhdr frame).pid) = some x →
            t.psg.find (psgKey (dhdr frame).slice (dhdr frame).pid) = some { x with refused := x.refused + 1 })
        ∧ OtherPassages (dhdr frame).slice (dhdr frame).pid s t ∧ (∀ q, q ≠ p.val → t.lp q = s.lp q)
        ∧ t = { s with psg := t.psg, lnk := t.lnk, bnc := { s.bnc with ctr := t.bnc.ctr } })
  ∧ (∀ (p : Fin 256) (vc : Fin 8) (frame : Bytes) (s : State), s.lpLive p = true →
      (s.paused = true ∨ s.mem.thermStop = true ∨ s.judgeData (refP p) (some vc) frame = .hold) →
      ∃ t, exec (.dataFrame p vc frame) s = .next t
        ∧ t.lp p = { s.lp p with heldq := (s.lp p).heldq ++ [(vc.val, frame, flitsOf frame.length)] }
        ∧ (∀ q, q ≠ p.val → t.lp q = s.lp q) ∧ t = { s with lnk := t.lnk })
  ∧ (∀ (p : Fin 256) (vc : Fin 8) (frame : Bytes) (x : Passage) (s s1 : State), s.lpLive p = true → s.paused = false →
      s.mem.thermStop = false → s.judgeData (refP p) (some vc) frame = .accept → s.openFor (refP p) frame = some s1 →
      s.psg.find (psgKey (dhdr frame).slice (dhdr frame).pid) = some x → (s.lp p).ownLimit.length = 8 →
      ∃ t q, exec (.dataFrame p vc frame) s = .next t
        ∧ t.psg.find (psgKey (dhdr frame).slice (dhdr frame).pid) = some q
        ∧ q.bytesIn = x.bytesIn + (dhdr frame).bytes ∧ q.st = x.st ∧ q.leg = x.leg
        ∧ (t.lp p).ownLimit.getD vc 0 = ((s.lp p).ownLimit.getD vc 0 + flitsOf frame.length) % 65536
        ∧ OtherPassages (dhdr frame).slice (dhdr frame).pid s t)
  ∧ (∀ (p : Fin 256) (vc : Fin 8) (frame : Bytes) (s : State), s.lpLive p = false →
      exec (.dataFrame p vc frame) s = .next s)
  ∧ (∀ (g : Fin 64) (vc : Fin 8) (seq : Fin 65536) (frame : Bytes) (x : Passage) (s : State),
      (s.gp g).burst = none → s.psg.find (psgKey (dhdr frame).slice (dhdr frame).pid) = some x →
      ∃ t, exec (.globalLegFrame g vc seq frame) s = .next t
        ∧ t.psg.find (psgKey (dhdr frame).slice (dhdr frame).pid) = some { x with refused := x.refused + 1 }
        ∧ OtherPassages (dhdr frame).slice (dhdr frame).pid s t ∧ t = { s with psg := t.psg })
  ∧ (∀ (g : Fin 64) (vc : Fin 8) (seq : Fin 65536) (frame : Bytes) (a b : Nat) (x : Passage) (s : State),
      (s.gp g).burst = some ((dhdr frame).slice, (dhdr frame).pid, a, b) →
      s.judgeData (refG g) none frame = .hold →
      s.psg.find (psgKey (dhdr frame).slice (dhdr frame).pid) = some x →
      ∃ t, exec (.globalLegFrame g vc seq frame) s = .next t
        ∧ t.psg.find (psgKey (dhdr frame).slice (dhdr frame).pid) = some { x with heldG := x.heldG ++ [(g.val, seq.val, frame)] }
        ∧ OtherPassages (dhdr frame).slice (dhdr frame).pid s t ∧ t = { s with psg := t.psg })
  ∧ (∀ (g : Fin 64) (vc : Fin 8) (seq : Fin 65536) (frame : Bytes) (a b : Nat) (x : Passage) (s s1 : State),
      (s.gp g).burst = some ((dhdr frame).slice, (dhdr frame).pid, a, b) → s.judgeData (refG g) none frame = .accept →
      s.mem.thermStop = false → s.openFor (refG g) frame = some s1 →
      s.psg.find (psgKey (dhdr frame).slice (dhdr frame).pid) = some x →
      ∃ t q, exec (.globalLegFrame g vc seq frame) s = .next t
        ∧ t.psg.find (psgKey (dhdr frame).slice (dhdr frame).pid) = some q
        ∧ q.bytesIn = x.bytesIn + (dhdr frame).bytes ∧ q.st = x.st ∧ q.leg = x.leg
        ∧ q.rx.get g RxStream.start = (x.rx.get g RxStream.start).take
            (extendSeq (x.rx.get g RxStream.start).next seq) (flitsOf frame.length)
        ∧ OtherPassages (dhdr frame).slice (dhdr frame).pid s t)
  ∧ (∀ (slice : Fin 64) (s : State), NoHeld s → ∃ t, exec (.stripeFreed slice) s = .next t
      ∧ (∀ e, e ∈ t.skk.held ↔ e ∈ s.skk.held ∧ e.2 ≠ slice.val) ∧ t = { s with skk := { s.skk with held := t.skk.held } }))

/-- OPT_BIND and OPT_UNBIND (R269 to R274): a new binding takes the fields of its block, READY, and returns the bytes it was
charged by location; an update changes only rounding, hyperparameters and, but for all ones, the counter; a query returns
state and counter and changes nothing; a binding that no passage steps is removed; a second binding of a tensor is
refused.
PROG_LOAD, PROG_UNLOAD and RESIDUAL_CLEAR (R242, R257 to R260): a program is put into a free slot, and its issue cycles
are returned; with SCALARS_ONLY only the words of the loaded program change; a program no passage names is removed, one
in use is refused; a residual area is emptied, keeping its elements and placement, and its bytes are returned. -/
def Obligations.OptimizerObjects : Prop :=
  ((∀ (r : Req) (s : State), accepts 0x0501 r s = true → bit (r.b 3 1) 1 = false → bit (r.b 3 1) 2 = false →
      ranges (bindRows s r.slice r.params) = none → s.hasSlice r.slice = true → s.bindingOf r.slice (r.b 0 2) = none →
      (r.b 2 1 = 0x10 → ∃ q, s.progOf r.slice (r.b 7 1) = some q ∧ q.kind = 2) →
      (s.skk.binding.filter (fun e => e.1 / 65536 == r.slice)).length < 16 → s.skk.binding.length < 256 →
      (bindLoc s r.slice (bindOf r.params) = 1 →
        s.hbmPlaced r.slice + (bindOf r.params).stateBytes ≤ (s.quotas r.slice).1) →
      (bindLoc s r.slice (bindOf r.params) = 0 →
        s.sramPlaced r.slice + (bindOf r.params).stateBytes ≤ (s.quotas r.slice).2) →
      ∃ t b, exec (.optBind r) s = .next t ∧ Completed r s t 0 b.hbm b.sram
        ∧ t.bindingOf r.slice (r.b 0 2) = some b ∧ b.st = 1 ∧ b.partial_ = false ∧ b.recipe = r.b 2 1 ∧ b.first = r.b 8 8
        ∧ b.count = r.b 16 8 ∧ b.counter = r.b 24 8 ∧ b.lr = r.b 32 4 ∧ b.gs = r.b 52 4
        ∧ b.hbm + b.sram = (bindOf r.params).stateBytes ∧ (b.loc = 0 → b.hbm = 0) ∧ (b.loc = 1 → b.sram = 0)
        ∧ (∀ k, k ≠ tensorKey r.slice (r.b 0 2) → t.skk.binding.find k = s.skk.binding.find k) ∧ Silent s t ∧ Quiet r s t
        ∧ t = { s with hif := t.hif, bnc := t.bnc, out := t.out, skk := { s.skk with binding := t.skk.binding } })
  ∧ (∀ (r : Req) (o : Binding) (s : State), accepts 0x0501 r s = true → bit (r.b 3 1) 1 = true → bit (r.b 3 1) 2 = false →
      ranges (bindRows s r.slice r.params) = none → s.hasSlice r.slice = true → s.bindingOf r.slice (r.b 0 2) = some o →
      ranges (updateRows (bindOf r.params) o) = none →
      (r.b 2 1 = 0x10 → ∃ q, s.progOf r.slice (r.b 7 1) = some q ∧ q.kind = 2) →
      ∃ t, exec (.optBind r) s = .next t ∧ Completed r s t 0 0 0
        ∧ t.bindingOf r.slice (r.b 0 2) = some { o with
            mround := r.b 5 1, lr := r.b 32 4, b1 := r.b 36 4, b2 := r.b 40 4, eps := r.b 44 4, wd := r.b 48 4, gs := r.b 52 4
            counter := if r.b 24 8 = 2 ^ 64 - 1 then o.counter else r.b 24 8
            partial_ := false, reloaded := [] }
        ∧ (∀ k, k ≠ tensorKey r.slice (r.b 0 2) → t.skk.binding.find k = s.skk.binding.find k) ∧ Silent s t ∧ Quiet r s t
        ∧ t = { s with hif := t.hif, bnc := t.bnc, out := t.out, skk := { s.skk with binding := t.skk.binding } })
  ∧ (∀ (r : Req) (o : Binding) (s : State), accepts 0x0501 r s = true → ranges (bindQueryRows r.params) = none →
      s.hasSlice r.slice = true → s.bindingOf r.slice (r.b 0 2) = some o → o.st < 16 → o.recipe < 256 →
      ∃ t w0, exec (.optBind r) s = .next t ∧ Completed r s t 0 w0 o.counter ∧ bits w0 0 4 = o.st
        ∧ (bit w0 4 = o.partial_) ∧ bits w0 8 8 = o.recipe ∧ bits w0 32 32 = min o.skipped (2 ^ 32 - 1)
        ∧ Silent s t ∧ Quiet r s t ∧ t = { s with hif := t.hif, bnc := t.bnc, out := t.out })
  ∧ (∀ (r : Req) (o : Binding) (s : State), accepts 0x0501 r s = true → bit (r.b 3 1) 1 = false → bit (r.b 3 1) 2 = false →
      ranges (bindRows s r.slice r.params) = none → s.hasSlice r.slice = true → s.bindingOf r.slice (r.b 0 2) = some o →
      ∃ t, exec (.optBind r) s = .next t ∧ Completed r s t 0x0301 o.st 0 ∧ Silent s t ∧ Quiet r s t
        ∧ t = { s with hif := t.hif, bnc := t.bnc, out := t.out })
  ∧ (∀ (r : Req) (o : Binding) (s : State), accepts 0x0502 r s = true → 1 ≤ r.p 16 2 → r.z 18 = true →
      s.hasSlice r.slice = true → s.bindingOf r.slice (r.p 16 2) = some o → o.st ≠ 2 →
      (∀ e ∈ s.passagesOf r.slice, e.2.stepsTensor (r.p 16 2) = false) →
      ∃ t, exec (.optUnbind r) s = .next t ∧ Completed r s t 0 0 0 ∧ t.bindingOf r.slice (r.p 16 2) = none
        ∧ (∀ k, k ≠ tensorKey r.slice (r.p 16 2) → t.skk.binding.find k = s.skk.binding.find k) ∧ Silent s t ∧ Quiet r s t
        ∧ t = { s with hif := t.hif, bnc := t.bnc, out := t.out, skk := { s.skk with binding := t.skk.binding } })
  ∧ (∀ (r : Req) (s : State), accepts 0x0502 r s = true → 1 ≤ r.p 16 2 → r.z 18 = true →
      s.hasSlice r.slice = true → s.bindingOf r.slice (r.p 16 2) = none →
      ∃ t, exec (.optUnbind r) s = .next t ∧ Completed r s t 0x0302 (r.p 16 2) 0 ∧ Silent s t ∧ Quiet r s t
        ∧ t = { s with hif := t.hif, bnc := t.bnc, out := t.out }))
  ∧ ((∀ (r : Req) (s : State), accepts 0x0505 r s = true → ranges (progRows r.params) = none → s.hasSlice r.slice = true →
      progStreams r.params = none → bit (r.b 2 1) 0 = false → s.progOf r.slice (r.b 0 1 % 32) = none →
      s.skk.prog.length < 1024 →
      ∃ t w0 w1, exec (.progLoad r) s = .next t ∧ Completed r s t 0 w0 w1
        ∧ t.progOf r.slice (r.b 0 1 % 32) = some (progOfBlock r.params)
        ∧ w0 = (((progOfBlock r.params).instrs.map instrCycles).foldl (· + ·) 0)
        ∧ (∀ k, k ≠ 32 * r.slice + r.b 0 1 % 32 → t.skk.prog.find k = s.skk.prog.find k) ∧ Silent s t ∧ Quiet r s t
        ∧ t = { s with hif := t.hif, bnc := t.bnc, out := t.out, skk := { s.skk with prog := t.skk.prog } })
  ∧ (∀ (r : Req) (q : Prog) (s : State), accepts 0x0505 r s = true → ranges (progRows r.params) = none →
      s.hasSlice r.slice = true → progStreams r.params = none → bit (r.b 2 1) 0 = true →
      s.progOf r.slice (r.b 0 1 % 32) = some q → q.kind ≤ 1 →
      ∃ t w0 w1, exec (.progLoad r) s = .next t ∧ Completed r s t 0 w0 w1
        ∧ t.progOf r.slice (r.b 0 1 % 32) = some { q with scalars := (progOfBlock r.params).scalars }
        ∧ (∀ k p, s.psg.find k = some p → ∃ x, t.psg.find k = some x ∧ x = { p with scalars := x.scalars }
            ∧ (p.st = .running ∨ p.st = .stalled → x = p)) ∧ Silent s t ∧ Quiet r s t
        ∧ t = { s with hif := t.hif, bnc := t.bnc, out := t.out, psg := t.psg, skk := { s.skk with prog := t.skk.prog } })
  ∧ (∀ (r : Req) (s : State), accepts 0x0506 r s = true → r.p 16 1 < 32 → r.z 17 = true → s.hasSlice r.slice = true →
      (s.progOf r.slice (r.p 16 1)).isSome = true → s.slotUsed r.slice (r.p 16 1) = false →
      ∃ t, exec (.progUnload r) s = .next t ∧ Completed r s t 0 0 0 ∧ t.progOf r.slice (r.p 16 1) = none
        ∧ (∀ k, k ≠ 32 * r.slice + r.p 16 1 → t.skk.prog.find k = s.skk.prog.find k) ∧ Silent s t ∧ Quiet r s t
        ∧ t = { s with hif := t.hif, bnc := t.bnc, out := t.out, skk := { s.skk with prog := t.skk.prog } })
  ∧ (∀ (r : Req) (s : State), accepts 0x0506 r s = true → r.p 16 1 < 32 → r.z 17 = true → s.hasSlice r.slice = true →
      (s.progOf r.slice (r.p 16 1)).isSome = true → s.slotUsed r.slice (r.p 16 1) = true →
      ∃ t, exec (.progUnload r) s = .next t ∧ Completed r s t 0x0301 2 0 ∧ Silent s t ∧ Quiet r s t
        ∧ t = { s with hif := t.hif, bnc := t.bnc, out := t.out })
  ∧ (∀ (r : Req) (a : Resid) (s : State), accepts 0x0507 r s = true → 1 ≤ r.p 16 2 → r.z 18 = true →
      s.hasSlice r.slice = true → s.skk.resid.find (tensorKey r.slice (r.p 16 2)) = some a →
      (∀ e ∈ s.passagesOf r.slice, e.2.tensor = r.p 16 2 → e.2.st ≠ .running ∧ e.2.st ≠ .stalled) →
      ∃ t, exec (.residualClear r) s = .next t ∧ Completed r s t 0 (residBytes a.ranges a.wide) 0
        ∧ t.skk.resid.find (tensorKey r.slice (r.p 16 2)) = some { a with vals := [] }
        ∧ (∀ k, k ≠ tensorKey r.slice (r.p 16 2) → t.skk.resid.find k = s.skk.resid.find k) ∧ Silent s t ∧ Quiet r s t
        ∧ t = { s with hif := t.hif, bnc := t.bnc, out := t.out, skk := { s.skk with resid := t.skk.resid } })
  ∧ (∀ (r : Req) (s : State), accepts 0x0507 r s = true → 1 ≤ r.p 16 2 → r.z 18 = true →
      s.hasSlice r.slice = true → s.skk.resid.find (tensorKey r.slice (r.p 16 2)) = none →
      ∃ t, exec (.residualClear r) s = .next t ∧ Completed r s t 0x0302 (r.p 16 2) 0 ∧ Silent s t ∧ Quiet r s t
        ∧ t = { s with hif := t.hif, bnc := t.bnc, out := t.out }))

/-- State transfers (R275): OPT_STATE_LOAD and OPT_STATE_DUMP put a binding into TRANSFER and wait; the end of a dump writes
the stored form of the part at the host address, then completes with its size; the end of a load puts the bytes into the
component; a transfer that faults before its end completes with 0x0104. The binding leaves TRANSFER either way.
OPTIMIZER_PASS_COMPLETE (R264, R267): the pass of an optimizer leg whose groups are complete ends: the step counter of
the binding advances by one, its other settings stay, and elements skipped are counted with one WARNING; in a pause or a
thermal stop, or for a leg whose pass cannot run, nothing happens. -/
def Obligations.TransfersAndPasses : Prop :=
  ((∀ (load : Bool) (r : Req) (o : Binding) (s : State), accepts (if load then 0x0503 else 0x0504) r s = true → 1 ≤ r.b 0 2 →
      r.b 2 1 ≤ 5 → o.hasComp (r.b 2 1) = true → zeroAt r.params 3 5 = true → (o.compRange (r.b 2 1)).1 ≤ r.b 8 8 →
      r.b 8 8 < (o.compRange (r.b 2 1)).1 + (o.compRange (r.b 2 1)).2 →
      (o.compFmt (r.b 2 1) = 0x10 → r.b 8 8 % 32 = 0) → 1 ≤ r.b 16 8 →
      (if r.b 2 1 = 5 then r.b 16 8 = 1 else r.b 8 8 + r.b 16 8 ≤ (o.compRange (r.b 2 1)).1 + (o.compRange (r.b 2 1)).2) →
      r.b 24 8 ≠ 0 → r.b 24 8 % 8 = 0 → s.hasSlice r.slice = true → s.bindingOf r.slice (r.b 0 2) = some o → o.st ≠ 2 →
      (∀ e ∈ s.passagesOf r.slice, e.2.tensor = r.b 0 2 → e.2.st ≠ .running ∧ e.2.st ≠ .stalled) →
      ∃ t, exec (if load then .optStateLoad r else .optStateDump r) s = .next t ∧ t.out = s.out
        ∧ Waits (if load then 0x0503 else 0x0504) r t
            (.transfer r.slice (r.b 0 2) load (r.b 2 1) (r.b 8 8) (r.b 16 8) (r.b 24 8) r.data)
        ∧ t.bindingOf r.slice (r.b 0 2) = some { o with st := 2 } ∧ (∃ e, t.hif = { s.hif with execs := s.hif.execs ++ [e] })
        ∧ Traced s t ∧ t = { s with hif := t.hif, bnc := t.bnc, skk := { s.skk with binding := t.skk.binding } })
  ∧ (∀ (slice : Fin 64) (tensor done c first count addr : Nat) (data : Bytes) (e : Exec) (b : Binding) (s : State),
      s.hif.execs.find? (fun x => match x.wait with
        | .transfer n u _ _ _ _ _ _ => n == slice.val && u == tensor
        | _ => false) = some e →
      e.wait = .transfer slice tensor false c first count addr data → s.bindingOf slice tensor = some b →
      b.compBytes c first count ≤ done → s.passagesOf slice = [] → e.discard = false → e.dma = .ok →
      (s.ring e.fn e.ring).st ≠ .disabled →
      ∃ t d k, exec (.stateTransferEnd slice tensor done) s = .next t
        ∧ t.out = s.out ++ [.hostWrite addr d, .completion e.fn e.ring (s.ring e.fn e.ring).cplIndex k]
        ∧ d = (b.dump c first count).take (b.compBytes c first count) ∧ k.status = 0 ∧ k.tag = e.tag % 2 ^ 32
        ∧ k.word0 = b.compBytes c first count % 2 ^ 64
        ∧ t.bindingOf slice tensor = some { b with st := if b.damaged = [] then 1 else 3 }
        ∧ t.hif.execs = s.hif.execs.erase e ∧ Traced s t
        ∧ t = { s with hif := { s.hif with ring := t.hif.ring, execs := t.hif.execs }, bnc := t.bnc, out := t.out
                       skk := { s.skk with binding := t.skk.binding } })
  ∧ (∀ (slice : Fin 64) (tensor done c first count addr : Nat) (data : Bytes) (e : Exec) (b : Binding) (s : State),
      s.hif.execs.find? (fun x => match x.wait with
        | .transfer n u _ _ _ _ _ _ => n == slice.val && u == tensor
        | _ => false) = some e →
      e.wait = .transfer slice tensor true c first count addr data → s.bindingOf slice tensor = some b →
      s.passagesOf slice = [] → e.discard = false → e.dma = .ok → (s.ring e.fn e.ring).st ≠ .disabled →
      ∃ t x k, exec (.stateTransferEnd slice tensor done) s = .next t
        ∧ t.out = s.out ++ [.completion e.fn e.ring (s.ring e.fn e.ring).cplIndex k] ∧ k.tag = e.tag % 2 ^ 32
        ∧ (k.status = 0 ↔ b.compBytes c first count ≤ done ∧ b.compBytes c first count ≤ data.length)
        ∧ (k.status ≠ 0 → k.status = 0x0104 ∧ k.word0 = 3)
        ∧ t.bindingOf slice tensor = some x ∧ (x.st = 1 ∨ x.st = 3) ∧ x.recipe = b.recipe ∧ x.first = b.first
        ∧ x.count = b.count)
  ∧ (∀ (slice : Fin 64) (tensor done : Nat) (s : State), (∀ x ∈ s.hif.execs, ∀ n l c f k a d, x.wait ≠ .transfer n tensor l c f k a d) →
      exec (.stateTransferEnd slice tensor done) s = .next s))
  ∧ ((∀ (slice : Fin 64) (pid : Fin 256) (p : Passage) (b : Binding) (s : State), s.psg.find (psgKey slice pid) = some p →
      s.passRuns slice p = true → s.paused = false → s.mem.thermStop = false → s.bindingOf slice p.tensor = some b →
      ∃ t q x, exec (.optimizerPassComplete slice pid) s = .next t ∧ t.psg.find (psgKey slice pid) = some q
        ∧ q.optDone = true ∧ q.st = p.st ∧ q.leg = p.leg ∧ q.iter = p.iter ∧ t.bindingOf slice p.tensor = some x
        ∧ x.counter = (b.counter + 1) % 2 ^ 64 ∧ x.st = b.st ∧ x.recipe = b.recipe ∧ x.lr = b.lr ∧ x.first = b.first
        ∧ x.count = b.count ∧ t.log.created = s.log.created + (if x.skipped = 0 then 0 else 1)
        ∧ OtherPassages slice pid s t
        ∧ (∀ k, k ≠ tensorKey slice p.tensor → t.skk.binding.find k = s.skk.binding.find k)
        ∧ t = { s with log := t.log, psg := t.psg, skk := { s.skk with
            binding := t.skk.binding, num := t.skk.num, events := t.skk.events } })
  ∧ (∀ (slice : Fin 64) (pid : Fin 256) (p : Passage) (s : State), s.psg.find (psgKey slice pid) = some p →
      (s.passRuns slice p = false ∨ s.paused = true ∨ s.mem.thermStop = true) →
      exec (.optimizerPassComplete slice pid) s = .next s))

/-- FM_WINDOW_SET (R279, R280): the window takes its new size, keeps the bytes below it, and a byte above it reads 0; the new
size and the quota left are returned. A window that shrinks below an outstanding request is refused, and nothing changes.
Queue pairs (R286 to R291): QP_CREATE makes a FREE queue ACTIVE with its endpoint, credits, timeout (10,000 µs for 0) and
counter, and returns its bytes of quota; QP_DESTROY drains it and returns what is outstanding; QP_DRAINED frees it once
nothing is; QP_QUERY returns state, outstanding requests and errors. A queue in use is refused with its state. -/
def Obligations.WindowsAndQueues : Prop :=
  ((∀ (r : Req) (x : Slice) (s : State), accepts 0x0401 r s = true → r.p 16 4 * 2 ^ 30 ≤ s.hbmBytes → r.z 20 = true →
      s.topo.slice.find r.slice = some x →
      (x.windowGiB ≤ r.p 16 4 ∨ s.addressed r.slice (r.p 16 4 * 2 ^ 30) = false) →
      r.p 16 4 * 2 ^ 30 - x.windowGiB * 2 ^ 30 ≤ s.hbmLeft r.slice →
      ∃ t y, exec (.fmWindowSet r) s = .next t ∧ Completed r s t 0 (r.p 16 4 * 2 ^ 30) (t.hbmLeft r.slice)
        ∧ t.topo.slice.find r.slice = some y ∧ y = { x with windowGiB := r.p 16 4, window := y.window, windowBad := y.windowBad }
        ∧ (∀ a, Memory.get y.window a = if a < r.p 16 4 * 2 ^ 30 then Memory.get x.window a else 0)
        ∧ (Memory.wf x.window = true → Memory.wf y.window = true)
        ∧ (∀ n, n ≠ r.slice → t.topo.slice.find n = s.topo.slice.find n) ∧ Silent s t ∧ Quiet r s t
        ∧ t = { s with hif := t.hif, bnc := t.bnc, out := t.out, topo := { s.topo with slice := t.topo.slice } })
  ∧ (∀ (r : Req) (x : Slice) (s : State), accepts 0x0401 r s = true → r.p 16 4 * 2 ^ 30 ≤ s.hbmBytes → r.z 20 = true →
      s.topo.slice.find r.slice = some x → r.p 16 4 < x.windowGiB → s.addressed r.slice (r.p 16 4 * 2 ^ 30) = true →
      ∃ t, exec (.fmWindowSet r) s = .next t ∧ Completed r s t 0x0301 1 0 ∧ Silent s t ∧ Quiet r s t
        ∧ t = { s with hif := t.hif, bnc := t.bnc, out := t.out }))
  ∧ ((∀ (r : Req) (s : State), accepts 0x0402 r s = true → r.p 16 4 < 2 ^ 18 → refOk s.fuse (r.p 20 2) = true →
      refClass (r.p 20 2) = 2 → 1 ≤ r.p 22 2 → r.p 22 2 ≤ 256 → (r.p 24 4 = 0 ∨ 100 ≤ r.p 24 4 ∧ r.p 24 4 ≤ 10000000) →
      r.p 28 1 = 0 → zeroAt r.inl 13 3 = true → r.p 32 8 = 0 → r.z 40 = true → s.hasSlice r.slice = true →
      s.owner (r.p 20 2) = r.slice → (s.queue (r.p 16 4)).st = 0 →
      (s.fm.queue.filter (fun e => e.2.slice == r.slice)).length < 65536 → r.p 22 2 * 4160 ≤ s.hbmLeft r.slice →
      (s.lp (refIndex (r.p 20 2))).st ≠ .failed →
      ∃ t q, exec (.qpCreate r) s = .next t ∧ Completed r s t 0 (r.p 22 2 * 4160) 0 ∧ t.queue (r.p 16 4) = q ∧ q.st = 1
        ∧ q.slice = r.slice ∧ q.endpoint = r.p 20 2 ∧ q.credits = r.p 22 2 ∧ q.cmode = 0
        ∧ q.timeoutUs = (if r.p 24 4 = 0 then 10000 else r.p 24 4) ∧ q.errors = 0 ∧ q.done = 0
        ∧ (∀ k, k ≠ r.p 16 4 → t.queue k = s.queue k) ∧ Silent s t ∧ Quiet r s t
        ∧ t = { s with hif := t.hif, bnc := t.bnc, out := t.out, fm := { s.fm with queue := t.fm.queue } })
  ∧ (∀ (r : Req) (s : State), accepts 0x0402 r s = true → r.p 16 4 < 2 ^ 18 → refOk s.fuse (r.p 20 2) = true →
      refClass (r.p 20 2) = 2 → 1 ≤ r.p 22 2 → r.p 22 2 ≤ 256 → (r.p 24 4 = 0 ∨ 100 ≤ r.p 24 4 ∧ r.p 24 4 ≤ 10000000) →
      (r.p 28 1 = 1 ∨ r.p 28 1 = 2) → zeroAt r.inl 13 3 = true → r.p 32 8 % 8 = 0 → r.z 40 = true →
      s.hasSlice r.slice = true → s.owner (r.p 20 2) = r.slice → gaSlice (r.p 32 8) = r.slice →
      bit (s.rackSet r.slice) (gaRack (r.p 32 8)) = true → (s.queue (r.p 16 4)).st = 0 →
      (s.fm.queue.filter (fun e => e.2.slice == r.slice)).length < 65536 → r.p 22 2 * 4160 ≤ s.hbmLeft r.slice →
      (s.lp (refIndex (r.p 20 2))).st ≠ .failed →
      ∃ t, exec (.qpCreate r) s = .next t ∧ Completed r s t 0 (r.p 22 2 * 4160) 0
        ∧ (t.queue (r.p 16 4)).cmode = r.p 28 1 ∧ (t.queue (r.p 16 4)).cgaddr = r.p 32 8 ∧ (t.queue (r.p 16 4)).st = 1)
  ∧ (∀ (r : Req) (s : State), accepts 0x0403 r s = true → r.p 16 4 < 2 ^ 18 → r.z 20 = true → s.hasSlice r.slice = true →
      (s.queue (r.p 16 4)).st = 1 → (s.queue (r.p 16 4)).slice = r.slice →
      ∃ t, exec (.qpDestroy r) s = .next t ∧ Completed r s t 0 (s.outstanding (r.p 16 4)).length 0
        ∧ t.queue (r.p 16 4) = { s.queue (r.p 16 4) with st := 2 } ∧ (∀ k, k ≠ r.p 16 4 → t.queue k = s.queue k)
        ∧ Silent s t ∧ Quiet r s t
        ∧ t = { s with hif := t.hif, bnc := t.bnc, out := t.out, fm := { s.fm with queue := t.fm.queue } })
  ∧ (∀ (r : Req) (s : State), accepts 0x0403 r s = true → r.p 16 4 < 2 ^ 18 → r.z 20 = true → s.hasSlice r.slice = true →
      (s.queue (r.p 16 4)).st = 2 → (s.queue (r.p 16 4)).slice = r.slice →
      ∃ t, exec (.qpDestroy r) s = .next t ∧ Completed r s t 0x0601 (r.p 16 4) 0 ∧ Silent s t ∧ Quiet r s t
        ∧ t = { s with hif := t.hif, bnc := t.bnc, out := t.out })
  ∧ (∀ (qp : Fin 262144) (s : State), (s.queue qp).st = 2 → s.reqsOf qp = [] →
      ∃ t, exec (.qpDrained qp) s = .next t ∧ t.queue qp = Queue.free ∧ (∀ k, k ≠ qp.val → t.queue k = s.queue k)
        ∧ t = { s with fm := { s.fm with queue := t.fm.queue, lostRsp := t.fm.lostRsp }
                       bnc := { s.bnc with ctr := t.bnc.ctr, events := t.bnc.events } })
  ∧ (∀ (qp : Fin 262144) (s : State), ((s.queue qp).st ≠ 2 ∨ s.reqsOf qp ≠ []) → exec (.qpDrained qp) s = .next s)
  ∧ (∀ (r : Req) (s : State), accepts 0x0404 r s = true → r.p 16 4 < 2 ^ 18 →
      (r.p 20 4 = 0 ∨ 64 ≤ r.p 20 4 ∧ r.p 20 4 ≤ 16384 ∧ r.p 20 4 % 64 = 0) → r.p 24 8 % 64 = 0 → r.z 32 = true →
      s.hasSlice r.slice = true → ((s.queue (r.p 16 4)).st = 0 ∨ (s.queue (r.p 16 4)).slice = r.slice) →
      (s.queue (r.p 16 4)).st < 4 → (s.queue (r.p 16 4)).errors < 2 ^ 32 →
      ∃ t w0, exec (.qpQuery r) s = .next t ∧ Completed r s t 0 w0 (s.queue (r.p 16 4)).done
        ∧ bits w0 0 16 = (s.queue (r.p 16 4)).st ∧ bits w0 16 16 = min (s.outstanding (r.p 16 4)).length 256
        ∧ bits w0 32 32 = (s.queue (r.p 16 4)).errors
        ∧ (r.p 24 8 = 0 → Silent s t)
        ∧ (r.p 24 8 ≠ 0 → 64 ≤ r.p 20 4 → s.reqsOf (r.p 16 4) ≠ [] → ∃ b, Writes (r.p 24 8) b s t
            ∧ b.length = 64 * min (s.reqsOf (r.p 16 4)).length (r.p 20 4 / 64))
        ∧ Quiet r s t ∧ t = { s with hif := t.hif, bnc := t.bnc, out := t.out }))

/-- FM_REQ (R32, R284, R292): a request that fails a check is answered on virtual channel 4 with its status, a frame that is
malformed or on the wrong channel with a NAK; one that is accepted on an idle queue starts at once, here or towards its
rack; in a pause it is held without its credit. Otherwise its credit is freed.
FM_REQ_GLOBAL (R32, R293, R297): a request of another rack for memory here that passes its checks starts to execute; one
for another slice is refused and counted; one for a third rack that can be reached is relayed as STAGE 1; in a pause it is
held; a frame outside the burst of its port changes nothing. -/
def Obligations.FmRequests : Prop :=
  ((∀ (p : Fin 256) (vc : Fin 8) (frame : Bytes) (s : State), s.lpLive p = false → exec (.fmReq p vc frame) s = .next s)
  ∧ (∀ (p : Fin 256) (vc : Fin 8) (frame : Bytes) (s : State), s.lpLive p = true → s.paused = true →
      ∃ t, exec (.fmReq p vc frame) s = .next t
        ∧ t.lp p = { s.lp p with heldq := (s.lp p).heldq ++ [(vc.val, frame, flitsOf frame.length)] }
        ∧ (∀ q, q ≠ p.val → t.lp q = s.lp q) ∧ t = { s with lnk := t.lnk })
  ∧ (∀ (p : Fin 256) (vc : Fin 8) (frame : Bytes) (s : State), s.lpLive p = true → s.paused = false →
      (reqWellFormed frame = false ∨ vc.val ≠ 2 + (fhdr frame).stage) →
      ∃ t f, exec (.fmReq p vc frame) s = .next t ∧ (t.lp p).txq = (s.lp p).txq ++ [⟨6, f, 0, none, 0, 0⟩]
        ∧ byteAt f 0 = 0x20 ∧ byteAt f 16 = (if reqWellFormed frame then 6 else 7) ∧ t.fm = s.fm
        ∧ t = { s with lnk := t.lnk, bnc := { s.bnc with ctr := t.bnc.ctr } })
  ∧ (∀ (p : Fin 256) (vc : Fin 8) (frame : Bytes) (st : Nat) (known : Bool) (s : State), s.lpLive p = true →
      s.paused = false → reqWellFormed frame = true → vc.val = 2 + (fhdr frame).stage → s.mod ≠ .maintenance →
      s.fmRefusal p frame = some (st, known) → (s.lp p).ownLimit.length = 8 →
      ∃ t, exec (.fmReq p vc frame) s = .next t
        ∧ (t.lp p).txq = (s.lp p).txq ++ [⟨4, rspFrame (fhdr frame).slice (fhdr frame).op st (fhdr frame).gaddr (fhdr frame).qp
            (fhdr frame).reqId [], 0, none, 0, 0⟩]
        ∧ (t.lp p).ownLimit.getD vc 0 = ((s.lp p).ownLimit.getD vc 0 + flitsOf frame.length) % 65536
        ∧ t.fm.reqs = s.fm.reqs ∧ t.fm.ops = s.fm.ops
        ∧ (t.queue (fhdr frame).qp).errors = (if known then min ((s.queue (fhdr frame).qp).errors + 1) (2 ^ 32 - 1)
            else (s.queue (fhdr frame).qp).errors)
        ∧ t = { s with lnk := t.lnk, fm := { s.fm with queue := t.fm.queue, events := t.fm.events, sliceErr := t.fm.sliceErr } })
  ∧ (∀ (p : Fin 256) (vc : Fin 8) (frame : Bytes) (s : State), s.lpLive p = true → s.paused = false →
      reqWellFormed frame = true → vc.val = 2 + (fhdr frame).stage → s.mod = .maintenance →
      ∃ t, exec (.fmReq p vc frame) s = .next t
        ∧ (t.lp p).txq = (s.lp p).txq ++ [⟨4, rspFrame (fhdr frame).slice (fhdr frame).op 0x0602 (fhdr frame).gaddr
            (fhdr frame).qp (fhdr frame).reqId [], 0, none, 0, 0⟩]
        ∧ t = { s with lnk := t.lnk })
  ∧ (∀ (p : Fin 256) (vc : Fin 8) (frame : Bytes) (s : State), s.lpLive p = true → s.paused = false →
      reqWellFormed frame = true → vc.val = 2 + (fhdr frame).stage → s.mod ≠ .maintenance → s.fmRefusal p frame = none →
      s.reqsOf (fhdr frame).qp = [] → RefsBelow s → (s.lp p).ownLimit.length = 8 →
      ∃ t x, exec (.fmReq p vc frame) s = .next t ∧ t.fm.reqs = s.fm.reqs ++ [x] ∧ x.ref = s.fm.nextRef
        ∧ x.qp = (fhdr frame).qp ∧ x.reqId = (fhdr frame).reqId ∧ x.op = (fhdr frame).op ∧ x.gaddr = (fhdr frame).gaddr
        ∧ x.st = (if s.isLocal x then 4 else 2) ∧ x.at_ = s.ns ∧ t.fm.nextRef = s.fm.nextRef + 1
        ∧ t.fm.ops = (if s.isLocal x then s.fm.ops ++ [x.toOp s.topo.rack] else s.fm.ops)
        ∧ (t.lp p).ownLimit.getD vc 0 = ((s.lp p).ownLimit.getD vc 0 + flitsOf frame.length) % 65536
        ∧ t = { s with lnk := t.lnk, fm := { s.fm with reqs := t.fm.reqs, ops := t.fm.ops, nextRef := t.fm.nextRef } }))
  ∧ ((∀ (g : Fin 64) (vc : Fin 8) (frame : Bytes) (s : State), s.fmFrameOk g = false → exec (.fmReqGlobal g vc frame) s = .next s)
  ∧ (∀ (g : Fin 64) (vc : Fin 8) (frame : Bytes) (s : State), s.fmFrameOk g = true → s.paused = true →
      ∃ t, exec (.fmReqGlobal g vc frame) s = .next t ∧ t.fm.heldG = s.fm.heldG ++ [(g.val, vc.val, frame)]
        ∧ t = { s with col := { s.col with path := t.col.path }, fm := { s.fm with heldG := t.fm.heldG } })
  ∧ (∀ (g : Fin 64) (vc : Fin 8) (frame : Bytes) (s : State), s.fmFrameOk g = true → s.paused = false →
      reqWellFormed frame = true → vc.val = 2 + (fhdr frame).stage → s.mod ≠ .maintenance → (fhdr frame).slice ≠ 0 →
      s.owner (refG g) = (fhdr frame).slice → bit (s.rackSet (fhdr frame).slice) (fhdr frame).src = true →
      gaSlice (fhdr frame).gaddr = (fhdr frame).slice → gaRack (fhdr frame).gaddr = s.topo.rack →
      gaOff (fhdr frame).gaddr + (fhdr frame).len ≤ s.windowBytes (fhdr frame).slice → opFieldsOk (fhdr frame) frame = true →
      ∃ t o, exec (.fmReqGlobal g vc frame) s = .next t ∧ t.fm.ops = s.fm.ops ++ [o] ∧ o.ref = s.fm.nextRef
        ∧ o.slice = (fhdr frame).slice ∧ o.op = (fhdr frame).op ∧ o.gaddr = (fhdr frame).gaddr ∧ o.data = frame.drop 32
        ∧ o.srcRack = (fhdr frame).src ∧ t.fm.nextRef = s.fm.nextRef + 1
        ∧ (t.path g (s.gp g).expectRack).rxBytes = (s.path g (s.gp g).expectRack).rxBytes + frame.length
        ∧ (t.path g (s.gp g).expectRack).rxFreed
            = ((s.path g (s.gp g).expectRack).rxFreed + flitsOf frame.length) % 65536
        ∧ t = { s with col := { s.col with path := t.col.path }, fm := { s.fm with ops := t.fm.ops, nextRef := t.fm.nextRef } })
  ∧ (∀ (g : Fin 64) (vc : Fin 8) (frame : Bytes) (s : State), s.fmFrameOk g = true → s.paused = false →
      reqWellFormed frame = true → vc.val = 2 + (fhdr frame).stage → s.mod ≠ .maintenance →
      ((fhdr frame).slice = 0 ∨ s.owner (refG g) ≠ (fhdr frame).slice ∨ gaSlice (fhdr frame).gaddr ≠ (fhdr frame).slice) →
      ∃ t, exec (.fmReqGlobal g vc frame) s = .next t ∧ t.fm.ops = s.fm.ops ∧ t.fm.reqs = s.fm.reqs
        ∧ bit t.fm.events 0 = true ∧ t.topo = s.topo)
  ∧ (∀ (g : Fin 64) (vc : Fin 8) (frame : Bytes) (s : State), s.fmFrameOk g = true → s.paused = false →
      reqWellFormed frame = true → vc.val = 2 → (fhdr frame).stage = 0 → s.mod ≠ .maintenance → (fhdr frame).slice ≠ 0 →
      s.owner (refG g) = (fhdr frame).slice → bit (s.rackSet (fhdr frame).slice) (fhdr frame).src = true →
      gaSlice (fhdr frame).gaddr = (fhdr frame).slice → gaRack (fhdr frame).gaddr ≠ s.topo.rack →
      s.reaches (fhdr frame).slice (gaRack (fhdr frame).gaddr) = true →
      ∃ t, exec (.fmReqGlobal g vc frame) s = .next t
        ∧ t.fm.relays = s.fm.relays ++ [⟨(fhdr frame).slice, (fhdr frame).qp, (fhdr frame).reqId, (fhdr frame).src⟩]
        ∧ t.col.stq = s.col.stq ++ [⟨(fhdr frame).slice, gaRack (fhdr frame).gaddr, 5, stageOne frame, false⟩]
        ∧ bit t.fm.events 3 = true ∧ t.fm.ops = s.fm.ops))

/-- FM_OPERATION_COMPLETE (R281 to R283, R301): the operations on a window: a GET returns its bytes and changes none; a PUT
stores its bytes and no other; ATOMIC_ADD_I64 stores the sum modulo 2^64 and COMPARE_AND_SWAP the new word where the old
one was as compared, and both return the old word; outside the window nothing is stored and the status is 0x0101. In a
pause nothing completes. The response goes to the rack of the request. -/
def Obligations.FmOperations : Prop :=
  (∀ (o : FOp) (x : Slice) (s : State), s.fm.ops.find? (·.ref == o.ref) = some o → s.paused = false →
      s.mem.thermStop = false → s.fm.reqs.find? (·.ref == o.ref) = none → s.topo.slice.find o.slice = some x →
      Memory.wf x.window = true → x.windowBad = [] → s.mem.deadStacks = [] →
      gaOff o.gaddr + o.len ≤ x.windowGiB * 2 ^ 30 → o.slice ≠ 0 → o.srcRack ≠ s.topo.rack →
      s.reaches o.slice o.srcRack = true →
      ∃ t y d, exec (.fmOperationComplete o.ref) s = .next t ∧ t.topo.slice.find o.slice = some y
        ∧ y = { x with window := y.window } ∧ Memory.wf y.window = true
        ∧ t.fm.ops = s.fm.ops.filter (·.ref != o.ref) ∧ (∀ n, n ≠ o.slice → t.topo.slice.find n = s.topo.slice.find n)
        ∧ (o.op ∈ [0x01, 0x02, 0x03, 0x10, 0x11, 0x12] →
            t.col.stq = s.col.stq ++ [⟨o.slice, o.srcRack, 5, rspFrame o.slice o.op 0 o.gaddr o.qp o.reqId d, false⟩])
        ∧ (o.op = 0x01 → y.window = x.window ∧ d = Memory.read x.window (gaOff o.gaddr) o.len)
        ∧ (o.op = 0x02 → o.data.length = o.len → ∀ a, Memory.get y.window a
            = if gaOff o.gaddr ≤ a ∧ a < gaOff o.gaddr + o.len then o.data.getD (a - gaOff o.gaddr) 0 else Memory.get x.window a)
        ∧ (o.op = 0x10 → o.len = 8 → le (Memory.read y.window (gaOff o.gaddr) 8) 0 8
              = (le (Memory.read x.window (gaOff o.gaddr) 8) 0 8 + le o.data 0 8) % 2 ^ 64
            ∧ d = Memory.read x.window (gaOff o.gaddr) 8
            ∧ ∀ a, (a < gaOff o.gaddr ∨ gaOff o.gaddr + 8 ≤ a) → Memory.get y.window a = Memory.get x.window a)
        ∧ (o.op = 0x12 → o.len = 8 → o.data.length = 16 → d = Memory.read x.window (gaOff o.gaddr) 8
            ∧ Memory.read y.window (gaOff o.gaddr) 8 = (if Memory.read x.window (gaOff o.gaddr) 8 = o.data.take 8
                then o.data.drop 8 else Memory.read x.window (gaOff o.gaddr) 8)
            ∧ ∀ a, (a < gaOff o.gaddr ∨ gaOff o.gaddr + 8 ≤ a) → Memory.get y.window a = Memory.get x.window a))
  ∧ (∀ (o : FOp) (x : Slice) (s : State), s.fm.ops.find? (·.ref == o.ref) = some o → s.paused = false →
      s.mem.thermStop = false → s.fm.reqs.find? (·.ref == o.ref) = none → s.topo.slice.find o.slice = some x →
      x.windowGiB * 2 ^ 30 < gaOff o.gaddr + o.len → o.op ≠ 0x20 → o.slice ≠ 0 → o.srcRack ≠ s.topo.rack →
      s.reaches o.slice o.srcRack = true →
      ∃ t, exec (.fmOperationComplete o.ref) s = .next t
        ∧ t.col.stq = s.col.stq ++ [⟨o.slice, o.srcRack, 5, rspFrame o.slice o.op 0x0101 o.gaddr o.qp o.reqId [], false⟩]
        ∧ t = { s with fm := { s.fm with ops := t.fm.ops }, col := { s.col with stq := t.col.stq } })
  ∧ (∀ (o : FOp) (q : FReq) (x : Slice) (s : State), s.fm.ops.find? (·.ref == o.ref) = some o → s.paused = false →
      s.mem.thermStop = false → s.fm.reqs.find? (·.ref == o.ref) = some q → RefsBelow s → Answerable q s →
      s.topo.slice.find o.slice = some x → x.windowBad = [] → s.mem.deadStacks = [] → o.op = 0x01 →
      gaOff o.gaddr + o.len ≤ x.windowGiB * 2 ^ 30 →
      ∃ t, exec (.fmOperationComplete o.ref) s = .next t
        ∧ Answered q 0 (Memory.read x.window (gaOff o.gaddr) o.len) s t ∧ t.topo = s.topo)
  ∧ (∀ (ref : Nat) (s : State), (s.paused = true ∨ s.fm.ops.find? (·.ref == ref) = none) →
      exec (.fmOperationComplete ref) s = .next s)

/-- Responses and their timeouts (R294, R297, R298, R301): a response completes the request it answers with its status and
data; 0x0602 from a relay returns it to waiting with that relay noted; one that answers nothing is counted. A request not
sent within its queue's time completes with 0x0310, one whose direct paths have failed for 100 ms with 0x0505.
RELAY and PATH_PROBE (R296, R297): a request never sent, whose rack no unbroken path reaches, is given to a relay with
event 3; while a direct path works, or in a pause, it is left alone. Every 100 ms each broken path, and no other, may send
one frame as a probe. -/
def Obligations.ResponsesAndRelays : Prop :=
  ((∀ (g : Fin 64) (vc : Fin 8) (frame : Bytes) (r : FReq) (s : State), s.fmFrameOk g = true → rspWellFormed frame = true →
      vc.val = 4 + (fhdr frame).stage → s.paused = false →
      s.fm.reqs.find? (fun r => r.qp == (fhdr frame).qp && r.reqId == (fhdr frame).reqId && r.op == (fhdr frame).op
        && r.gaddr == (fhdr frame).gaddr && r.slice == (fhdr frame).slice && decide (0 < r.sends)) = some r →
      (r.route ≠ 2 ∨ rspStatus frame ≠ 0x0602) → RefsBelow s → Answerable r s →
      ∃ t, exec (.fmRsp g vc frame) s = .next t ∧ Answered r (rspStatus frame) (frame.drop 32) s t)
  ∧ (∀ (g : Fin 64) (vc : Fin 8) (frame : Bytes) (r : FReq) (s : State), s.fmFrameOk g = true → rspWellFormed frame = true →
      vc.val = 4 + (fhdr frame).stage → s.paused = false →
      s.fm.reqs.find? (fun r => r.qp == (fhdr frame).qp && r.reqId == (fhdr frame).reqId && r.op == (fhdr frame).op
        && r.gaddr == (fhdr frame).gaddr && r.slice == (fhdr frame).slice && decide (0 < r.sends)) = some r →
      r.route = 2 → rspStatus frame = 0x0602 → r.st = 3 →
      ∃ t, exec (.fmRsp g vc frame) s = .next t
        ∧ { r with st := 2, route := 1, sends := 0, relay := 0, brokenAt := none, tried := r.tried ++ [r.relay] } ∈ t.fm.reqs
        ∧ t.fm.reqs.length = s.fm.reqs.length
        ∧ t = { s with fm := { s.fm with reqs := t.fm.reqs }, col := { s.col with path := t.col.path } })
  ∧ (∀ (g : Fin 64) (vc : Fin 8) (frame : Bytes) (s : State),
      (s.fmFrameOk g = false ∨ rspWellFormed frame = false ∨ vc.val ≠ 4 + (fhdr frame).stage) →
      exec (.fmRsp g vc frame) s = .next s)
  ∧ (∀ (qp : Fin 262144) (reqId : Nat) (r : FReq) (s : State),
      s.fm.reqs.find? (fun r => r.qp == qp.val && r.reqId == reqId && r.sends == 0 && !s.isLocal r) = some r →
      s.paused = false → RefsBelow s → Answerable r s →
      ∃ t, exec (.fmRouteTimeout qp reqId) s = .next t ∧ Answered r 0x0310 [] s t ∧ bit t.fm.events 4 = true
        ∧ r.at_ + 1000 * (s.queue qp).timeoutUs ≤ t.ns)
  ∧ (∀ (qp : Fin 262144) (reqId : Nat) (r : FReq) (a : Nat) (s : State),
      s.fm.reqs.find? (fun r => r.qp == qp.val && r.reqId == reqId && decide (0 < r.sends) && !s.isLocal r) = some r →
      s.paused = false → s.reaches r.slice (gaRack r.gaddr) = false → r.brokenAt = some a → RefsBelow s → Answerable r s →
      ∃ t, exec (.fmPathFault qp reqId) s = .next t ∧ Answered r 0x0505 [] s t ∧ bit t.fm.events 5 = true
        ∧ a + 100000000 ≤ t.ns)
  ∧ (∀ (qp : Fin 262144) (reqId : Nat) (s : State), s.paused = true →
      exec (.fmRouteTimeout qp reqId) s = .next s ∧ exec (.fmPathFault qp reqId) s = .next s))
  ∧ ((∀ (qp : Fin 262144) (reqId x : Nat) (r : FReq) (s : State),
      s.fm.reqs.find? (fun r => r.qp == qp.val && r.reqId == reqId && s.awaitsRoute r) = some r → s.paused = false →
      s.standingPorts r.slice ≠ [] → s.reaches r.slice (gaRack r.gaddr) = false → s.relayFor r = some x →
      ∃ t, exec (.relay qp reqId) s = .next t ∧ { r with route := 2, relay := x } ∈ t.fm.reqs
        ∧ (∀ q ∈ s.fm.reqs, q.ref ≠ r.ref → q ∈ t.fm.reqs) ∧ t.fm.reqs.length = s.fm.reqs.length
        ∧ bit t.fm.events 3 = true ∧ s.reaches r.slice x = true ∧ x ≠ gaRack r.gaddr
        ∧ t = { s with fm := { s.fm with reqs := t.fm.reqs, events := t.fm.events } })
  ∧ (∀ (qp : Fin 262144) (reqId : Nat) (r : FReq) (s : State),
      s.fm.reqs.find? (fun r => r.qp == qp.val && r.reqId == reqId && s.awaitsRoute r) = some r →
      (s.paused = true ∨ s.reaches r.slice (gaRack r.gaddr) = true) → exec (.relay qp reqId) s = .next s)
  ∧ (∀ s : State, ∃ t, exec .pathProbe s = .next t ∧ t.ns = (s.ns / 100000000 + 1) * 100000000
      ∧ (∀ k x, s.col.path.find k = some x → t.col.path.find k = some (if x.broken then { x with probe := true } else x))
      ∧ t = { s with ast := { s.ast with raw := t.ast.raw }, col := { s.col with path := t.col.path } }))

/-- Training (R186 to R191, R194, R212): signal starts an attempt on a landed or acquiring port; equalisation and sync lock
take it to NEGOTIATE; a good TRAIN flit of a version the module has counts towards READY, and the eighth READY both ways
opens a session, new with sequence 0 and the limits advertised, or the kept one with its sequence; another version leaves
it INCOMPATIBLE. A timeout returns it to ACQUIRE, the fourth fault in 60 s fails it, and 60 s later it tries again.
The end of a session (R194, R212): loss of lock on a lane, 10 µs without a good CRC or 64 TRAIN flits retrain an ACTIVE
port, asking to keep the session, with one NOTICE, and the fourth fault in 60 s fails it; loss of signal takes a landed
port to ACQUIRE and another to OFF, and after 1 s the session is kept no longer. -/
def Obligations.LinkTrainingAndRetrains : Prop :=
  ((∀ (p : Fin 256) (s : State), s.lpLive p = true → ((s.lp p).st = .acquire ∨ (s.lp p).st = .off ∧ s.landed p = true) →
      ∃ t, exec (.signalDetect p) s = .next t
        ∧ t.lp p = { (s.lp p).untrained with st := .acquire, signal := true, since := s.ns } ∧ OnlyLink p s t)
  ∧ (∀ (p : Fin 256) (s : State),
      (s.lpLive p = false ∨ (s.lp p).st ≠ .acquire ∧ ((s.lp p).st ≠ .off ∨ s.landed p = false)) →
      exec (.signalDetect p) s = .next s)
  ∧ (∀ (p : Fin 256) (s : State), (s.lp p).st = .acquire → (s.lp p).signal = true →
      ∃ t, exec (.equaliserConverged p) s = .next t ∧ t.lp p = { s.lp p with st := .align } ∧ OnlyLink p s t)
  ∧ (∀ (p : Fin 256) (lane : Fin 4) (decoded : Bool) (s : State), ((s.lp p).st = .align ∨ (s.lp p).st = .retrain) →
      ∃ t, exec (.syncLockAcquired p lane decoded) s = .next t
        ∧ t.lp p = { s.lp p with
            lanes := (s.lp p).lanes.set lane true
            st := if ((s.lp p).lanes.set lane true).all id = true ∧ decoded = true then .negotiate else (s.lp p).st }
        ∧ OnlyLink p s t)
  ∧ (∀ (p : Fin 256) (flit : Bytes) (s : State), s.lpLive p = true → (s.lp p).st = .negotiate → flitGood flit = true →
      ftypeOf flit = 5 → trainNode flit ≠ 0 → trainVerMin flit ≤ 1 → 1 ≤ trainVerMax flit → (s.lp p).readyTx < 8 →
      ∃ t, exec (.trainFlit p flit) s = .next t ∧ (t.lp p).st = .negotiate
        ∧ (t.lp p).lastTrain = bytesAt flit 16 232
        ∧ (t.lp p).trainRun = (if (s.lp p).lastTrain = bytesAt flit 16 232 then (s.lp p).trainRun + 1 else 1)
        ∧ (t.lp p).readyRx = (s.lp p).readyRx + (if trainReady flit then 1 else 0) ∧ OnlyLink p s t)
  ∧ (∀ (p : Fin 256) (flit : Bytes) (s : State), s.lpLive p = true → (s.lp p).st = .negotiate → flitGood flit = true →
      ftypeOf flit = 5 → trainNode flit ≠ 0 → trainVerMin flit ≤ 1 → 1 ≤ trainVerMax flit → 8 ≤ (s.lp p).readyTx →
      7 ≤ (s.lp p).readyRx → trainReady flit = true → (s.lp p).sessId = 0 →
      ∃ t, exec (.trainFlit p flit) s = .next t ∧ (t.lp p).st = .active ∧ (t.lp p).txSeq = 0 ∧ (t.lp p).rxSeq = 0
        ∧ (t.lp p).ackSeq = 0xFFFF ∧ (t.lp p).replay = [] ∧ (t.lp p).ownLimit = ownAdvert
        ∧ (t.lp p).limit = (List.range 8).map (fun v => be flit (28 + 2 * v) 2) ∧ (t.lp p).sessId = (t.lp p).farId
        ∧ (∀ q, q ≠ p.val → t.lp q = s.lp q))
  ∧ (∀ (p : Fin 256) (flit : Bytes) (s : State), s.lpLive p = true → (s.lp p).st = .negotiate → flitGood flit = true →
      ftypeOf flit = 5 → trainNode flit ≠ 0 → trainVerMin flit ≤ 1 → 1 ≤ trainVerMax flit → 8 ≤ (s.lp p).readyTx →
      7 ≤ (s.lp p).readyRx → trainReady flit = true → (s.lp p).keep = true → trainKeep flit = true →
      (s.lp p).sessId = trainNode flit →
      ∃ t, exec (.trainFlit p flit) s = .next t ∧ (t.lp p).st = .active ∧ (t.lp p).txSeq = (s.lp p).txSeq
        ∧ (t.lp p).rxSeq = (s.lp p).rxSeq ∧ (t.lp p).sent = (s.lp p).sent ∧ (t.lp p).ownLimit = (s.lp p).ownLimit
        ∧ (∀ f ∈ (t.lp p).replay, f ∈ (s.lp p).replay) ∧ (∀ q, q ≠ p.val → t.lp q = s.lp q))
  ∧ (∀ (p : Fin 256) (flit : Bytes) (s : State), s.lpLive p = true → (s.lp p).st = .negotiate → flitGood flit = true →
      ftypeOf flit = 5 → trainNode flit ≠ 0 → (1 < trainVerMin flit ∨ trainVerMax flit < 1) →
      ∃ t, exec (.trainFlit p flit) s = .next t ∧ (t.lp p).st = .incompatible ∧ s.log.created < t.log.created)
  ∧ (∀ (p : Fin 256) (flit : Bytes) (s : State), s.lpLive p = true → (s.lp p).st = .negotiate →
      (flitGood flit = false ∨ ftypeOf flit ≠ 5 ∨ trainNode flit = 0) →
      ∃ t, exec (.trainFlit p flit) s = .next t ∧ t.lp p = s.lp p ∧ LinkAndCounters p s t)
  ∧ (∀ (p : Fin 256) (s : State), (s.lp p).signal = true →
      ((s.lp p).st = .acquire ∨ (s.lp p).st = .align ∨ (s.lp p).st = .negotiate ∨ (s.lp p).st = .retrain) →
      ∃ t, exec (.trainingTimeout p) s = .next t ∧ (s.lp p).since + 100000000 ≤ t.ns
        ∧ (((s.lp p).faults.filter (fun a => decide (t.ns < a + 60000000000))).length < 3 → (t.lp p).st = .acquire)
        ∧ (3 ≤ ((s.lp p).faults.filter (fun a => decide (t.ns < a + 60000000000))).length → (t.lp p).st = .failed
            ∧ (t.lp p).sessId = 0 ∧ t.log.created = s.log.created + 1)
        ∧ (∀ q, q ≠ p.val → t.lp q = s.lp q))
  ∧ (∀ (p : Fin 256) (s : State), (s.lp p).st = .failed → s.mem.deadDies.contains (p.val / 64) = false →
      ∃ t, exec (.failedPortRetry p) s = .next t ∧ t.lp p = { s.lp p with st := .acquire, since := t.ns }
        ∧ (s.lp p).since + 60000000000 ≤ t.ns ∧ (∀ q, q ≠ p.val → t.lp q = s.lp q)
        ∧ t = { s with ast := { s.ast with raw := t.ast.raw }, lnk := { s.lnk with port := t.lnk.port } })
  ∧ (∀ (p : Fin 256) (s : State), (s.lp p).st ≠ .failed → exec (.failedPortRetry p) s = .next s))
  ∧ ((∀ (p : Fin 256) (c : Instr) (flit : Bytes) (lane : Fin 4) (s : State), s.lpLive p = true → (s.lp p).st = .active →
      (c = .syncLoss p lane ∨ c = .noGoodCrcTimeout p ∨ (c = .trainFlit p flit ∧ flitGood flit = true ∧ ftypeOf flit = 5
        ∧ trainNode flit ≠ 0 ∧ 64 ≤ (s.lp p).trainActive)) →
      ∃ t, exec c s = .next t
        ∧ (((s.lp p).faults.filter (fun a => decide (s.ns < a + 60000000000))).length < 3 → (t.lp p).st = .retrain
            ∧ (t.lp p).keep = true ∧ (t.lp p).sessId = (s.lp p).sessId ∧ (t.lp p).replay = (s.lp p).replay
            ∧ (c = .syncLoss p lane → (t.lp p).lanes = (s.lp p).lanes.set lane false)
            ∧ t.log.created = s.log.created + 1)
        ∧ (3 ≤ ((s.lp p).faults.filter (fun a => decide (s.ns < a + 60000000000))).length → (t.lp p).st = .failed
            ∧ t.log.created = s.log.created + 2)
        ∧ (∀ q, q ≠ p.val → t.lp q = s.lp q))
  ∧ (∀ (p : Fin 256) (s : State), (s.lp p).st ≠ .active → exec (.noGoodCrcTimeout p) s = .next s)
  ∧ (∀ (p : Fin 256) (flit : Bytes) (s : State), s.lpLive p = true → (s.lp p).st = .active → flitGood flit = true →
      ftypeOf flit = 5 → trainNode flit ≠ 0 → (s.lp p).trainActive < 64 →
      ∃ t, exec (.trainFlit p flit) s = .next t ∧ t.lp p = { s.lp p with trainActive := (s.lp p).trainActive + 1 }
        ∧ OnlyLink p s t)
  ∧ (∀ (p : Fin 256) (s : State), s.lpLive p = true → (s.lp p).st ≠ .off → (s.lp p).st ≠ .failed →
      ∃ t, exec (.signalLoss p) s = .next t
        ∧ t.lp p = { (s.lp p).untrained with
            st := if s.landed p then .acquire else .off, signal := false, since := s.ns, lanes := List.replicate 4 false
            keep := (s.lp p).sessId != 0, retry := none }
        ∧ OnlyLink p s t)
  ∧ (∀ (p : Fin 256) (s : State), (s.lp p).signal = false → (s.lp p).sessId ≠ 0 → (s.lp p).keep = true →
      ∃ t, exec (.sessionHoldExpiry p) s = .next t ∧ t.lp p = { s.lp p with keep := false }
        ∧ (s.lp p).since + 1000000000 ≤ t.ns ∧ (∀ q, q ≠ p.val → t.lp q = s.lp q)
        ∧ t = { s with ast := { s.ast with raw := t.ast.raw }, lnk := { s.lnk with port := t.lnk.port } }))

/-- Receiving (R184, R185, R192, R193, R194): a flit that is not good is discarded and asked for again; a good one updates
the limit it advertises and takes what it acknowledges out of the replay buffer; a FRAME flit in sequence is taken, one out
of sequence is not and is asked for with cause 3; a discarded codeword asks with cause 2. A RETRY_REQ starts a replay at
the SEQ it expects, or a retrain where that is gone or the eighth replay of it brought nothing.
The transmitter (R179, R183, R184, R187, R192, R197, R198): each slot of a port in training puts out a good TRAIN flit,
and each slot of an ACTIVE port a good flit: a RETRY_REQ first, else the next flit of the first frame that credit and room
allow, which takes the next SEQ and enters the replay buffer, else IDLE. The fifth slot ends the codeword pair, which goes
out on the lanes. OFF, ACQUIRE and FAILED ports send nothing. -/
def Obligations.LinkFramesBothWays : Prop :=
  ((∀ (p : Fin 256) (flit : Bytes) (s : State), (s.lpLive p = false ∨ (s.lp p).st ≠ .active) →
      exec (.flitReceived p flit) s = .next s)
  ∧ (∀ (p : Fin 256) (flit : Bytes) (s : State), s.lpLive p = true → (s.lp p).st = .active → flitGood flit = false →
      (s.lp p).retry = none →
      ∃ t b, exec (.flitReceived p flit) s = .next t ∧ byteAt b 0 = 2 ∧ be b 1 2 = (s.lp p).rxSeq % 65536 ∧ byteAt b 3 = 1
        ∧ t.lp p = { s.lp p with retry := some 1, reqCount := (s.lp p).reqCount + 1, local_ := b :: (s.lp p).local_ }
        ∧ LinkAndCounters p s t)
  ∧ (∀ (p : Fin 256) (flit : Bytes) (s : State), s.lpLive p = true → (s.lp p).st = .active → flitGood flit = true →
      ftypeOf flit = 1 → fseqOf flit = (s.lp p).rxSeq → s.probing p = false →
      ∃ t, exec (.flitReceived p flit) s = .next t ∧ (t.lp p).rxSeq = ((s.lp p).rxSeq + 1) % 65536 ∧ (t.lp p).retry = none
        ∧ (t.lp p).st = .active ∧ (∀ q, q ≠ p.val → t.lp q = s.lp q))
  ∧ (∀ (p : Fin 256) (flit : Bytes) (s : State), s.lpLive p = true → (s.lp p).st = .active → flitGood flit = true →
      ftypeOf flit = 1 → fseqOf flit ≠ (s.lp p).rxSeq → s.probing p = false → (s.lp p).retry = none →
      ∃ t, exec (.flitReceived p flit) s = .next t ∧ (t.lp p).rxSeq = (s.lp p).rxSeq ∧ (t.lp p).retry = some 3
        ∧ (t.lp p).open_ = (s.lp p).open_ ∧ (∀ q, q ≠ p.val → t.lp q = s.lp q))
  ∧ (∀ (p : Fin 256) (flit : Bytes) (pre post : List TxFlit) (f : TxFlit) (s : State), s.lpLive p = true →
      (s.lp p).st = .active → flitGood flit = true → ftypeOf flit = 0 → (s.lp p).replay = pre ++ f :: post →
      f.seq = fackOf flit → (∀ x ∈ pre, x.seq ≠ fackOf flit) → bit (byteAt flit 6) 7 = true → bit (byteAt flit 6) 3 = false →
      (s.lp p).limit.length = 8 →
      ∃ t, exec (.flitReceived p flit) s = .next t ∧ (t.lp p).replay = post ∧ (t.lp p).ackSeq = fackOf flit
        ∧ (t.lp p).limit.getD (bits (byteAt flit 6) 4 3) 0
            = newLimit ((s.lp p).limit.getD (bits (byteAt flit 6) 4 3) 0) (be flit 8 2)
        ∧ (t.lp p).rxSeq = (s.lp p).rxSeq ∧ (∀ q, q ≠ p.val → t.lp q = s.lp q))
  ∧ (∀ (p : Fin 256) (flits : Nat) (s : State), s.lpLive p = true → (s.lp p).st = .active → (s.lp p).retry = none →
      ∃ t, exec (.codewordUncorrectable p flits) s = .next t ∧ (t.lp p).retry = some 2
        ∧ (t.lp p).cwCount = (if (s.lp p).cwSecond = s.secs then (s.lp p).cwCount + 1 else 1)
        ∧ (t.lp p).rxSeq = (s.lp p).rxSeq ∧ (∀ q, q ≠ p.val → t.lp q = s.lp q)
        ∧ t = { s with lnk := { s.lnk with port := t.lnk.port }, bnc := { s.bnc with ctr := t.bnc.ctr }, log := t.log })
  ∧ (∀ (p : Fin 256) (flit : Bytes) (s : State), s.lpLive p = true → (s.lp p).st = .active → flitGood flit = true →
      ftypeOf flit = 2 → (∀ x ∈ (s.lp p).replay, x.seq ≠ fackOf flit) → be flit 16 2 ≠ (s.lp p).txSeq →
      (∃ f ∈ (s.lp p).replay, f.seq = be flit 16 2) → (s.lp p).replayAt = none → (s.lp p).replayOf ≠ some (be flit 16 2) →
      ∃ t, exec (.retryReq p flit) s = .next t ∧ (t.lp p).replayAt = some (be flit 16 2)
        ∧ (t.lp p).replayOf = some (be flit 16 2) ∧ (t.lp p).replayRun = 1 ∧ (t.lp p).replay = (s.lp p).replay
        ∧ (t.lp p).st = .active ∧ LinkAndCounters p s t)
  ∧ (∀ (p : Fin 256) (flit : Bytes) (s : State), s.lpLive p = true → (s.lp p).st = .active → flitGood flit = true →
      ftypeOf flit = 2 → (∀ x ∈ (s.lp p).replay, x.seq ≠ fackOf flit) → be flit 16 2 ≠ (s.lp p).txSeq →
      ((∀ f ∈ (s.lp p).replay, f.seq ≠ be flit 16 2)
        ∨ (s.lp p).replayAt = none ∧ (s.lp p).replayOf = some (be flit 16 2) ∧ 7 ≤ (s.lp p).replayRun) →
      ((s.lp p).faults.filter (fun a => decide (s.ns < a + 60000000000))).length < 3 →
      ∃ t, exec (.retryReq p flit) s = .next t ∧ (t.lp p).st = .retrain ∧ (t.lp p).keep = true)
  ∧ (∀ (p : Fin 256) (c : Nat) (s : State), (s.lp p).retry = some c → (s.lp p).st = .active →
      ∃ t b, exec (.retryReqRepeat p) s = .next t ∧ byteAt b 0 = 2 ∧ be b 1 2 = (s.lp p).rxSeq % 65536 ∧ byteAt b 3 = c % 256
        ∧ t.lp p = { s.lp p with retry := some c, reqCount := (s.lp p).reqCount + 1, local_ := b :: (s.lp p).local_ }
        ∧ LinkAndCounters p s t)
  ∧ (∀ (p : Fin 256) (s : State), (s.lp p).retry = none → exec (.retryReqRepeat p) s = .next s))
  ∧ ((∀ (p : Fin 256) (s : State), (s.lpLive p = false ∨ (s.lp p).st = .off ∨ (s.lp p).st = .acquire ∨ (s.lp p).st = .failed) →
      exec (.flitSlot p) s = .next s)
  ∧ (∀ (p : Fin 256) (s : State), s.lpLive p = true →
      ((s.lp p).st = .align ∨ (s.lp p).st = .negotiate ∨ (s.lp p).st = .incompatible) →
      ∃ t f rest, exec (.flitSlot p) s = .next t ∧ t.out = s.out ++ .flit p f :: rest ∧ flitGood f = true ∧ ftypeOf f = 5
        ∧ bytesAt f 16 232 = padTo 232 (s.trainPayload p))
  ∧ (∀ (p : Fin 256) (s : State), s.lpLive p = true → (s.lp p).st = .active → s.senderOf p = none →
      ((s.lp p).ringHold.isSome = true ∨ (s.lp p).local_ = [] ∧ (s.lp p).replayAt = none ∧ (s.lp p).txq = []) →
      ∃ t f rest, exec (.flitSlot p) s = .next t ∧ t.out = s.out ++ .flit p f :: rest ∧ flitGood f = true ∧ ftypeOf f = 0
        ∧ (t.lp p).replay = (s.lp p).replay ∧ (t.lp p).txSeq = (s.lp p).txSeq ∧ (t.lp p).txq = (s.lp p).txq
        ∧ (∀ q, q ≠ p.val → t.lp q = s.lp q))
  ∧ (∀ (p : Fin 256) (b : Bytes) (l : List Bytes) (s : State), s.lpLive p = true → (s.lp p).st = .active →
      s.senderOf p = none → (s.lp p).ringHold = none → (s.lp p).local_ = b :: l → byteAt b 0 = 2 →
      ∃ t f rest, exec (.flitSlot p) s = .next t ∧ t.out = s.out ++ .flit p f :: rest ∧ flitGood f = true ∧ ftypeOf f = 2
        ∧ bytesAt f 16 232 = padTo 232 (b.drop 1) ∧ (t.lp p).local_ = l)
  ∧ (∀ (p : Fin 256) (f : TxFrame) (q : List TxFrame) (s : State), s.lpLive p = true → (s.lp p).st = .active →
      s.senderOf p = none → (s.lp p).ringHold = none → (s.lp p).local_ = [] → (s.lp p).replayAt = none →
      s.probing p = false → (s.lp p).room = true → (s.lp p).txq = f :: q → (s.lp p).hasCredit f.vc = true → f.vc < 8 →
      (s.paused = true → 2 ≤ f.vc ∨ f.done ≠ 0) → (s.lp p).sent.length = 8 → f.done < f.bytes.length → 16 ≤ f.bytes.length →
      ∃ t x rest, exec (.flitSlot p) s = .next t ∧ t.out = s.out ++ .flit p x :: rest ∧ flitGood x = true ∧ ftypeOf x = 1
        ∧ fvcOf x = f.vc ∧ fseqOf x = (s.lp p).txSeq % 65536 ∧ (fsofOf x = true ↔ f.done = 0)
        ∧ (feofOf x = true ↔ f.bytes.length ≤ f.done + 232)
        ∧ (t.lp p).txSeq = ((s.lp p).txSeq + 1) % 65536
        ∧ (t.lp p).sent.getD f.vc 0 = ((s.lp p).sent.getD f.vc 0 + 1) % 65536
        ∧ (∃ e, (t.lp p).replay = (s.lp p).replay ++ [e] ∧ e.seq = (s.lp p).txSeq ∧ e.vc = f.vc)
        ∧ (t.lp p).txq.length = (if f.bytes.length ≤ f.done + 232 then q.length else q.length + 1)
        ∧ (∀ k, k ≠ p.val → t.lp k = s.lp k))
  ∧ (∀ (p : Fin 256) (s : State), s.lpLive p = true →
      (s.lp p).st ≠ .off → (s.lp p).st ≠ .acquire → (s.lp p).st ≠ .failed →
      ∃ t, exec (.flitSlot p) s = .next t
        ∧ (t.lp p).pos = (if (s.lp p).pos = 4 then 0 else (s.lp p).pos + 1)
        ∧ (t.lp p).pair = (if (s.lp p).pos = 4 then ((s.lp p).pair + 1) % 256 else (s.lp p).pair)
        ∧ ((s.lp p).pos = 4 → (t.lp p).pairBuf = [] ∧ ∃ l, t.out.getLast? = some (.pair p l))))

/-- HAIL, time and NAK (R207, R208, R209, R309, R311, R212): a HAIL of a landed port records its identity, and is judged:
ROLE, FOREIGN or found; HAIL_SEND and SYNC queue the module's own; a DELAY_REQ is answered with its arrival; a NAK is
counted and its credit freed; the symbol error ratio sets or clears the bit sent, with one WARNING in 10 minutes. -/
def Obligations.HailTimeAndNak : Prop :=
  (∀ (p : Fin 256) (flit : Bytes) (k : Nat) (s : State), s.lpLive p = true → (s.lp p).st = .active → flitGood flit = true →
      ftypeOf flit = 3 → be flit 20 8 ≠ 0 → s.landedT p = some k → isAX k = true → k < 768 → s.paused = false →
      ∃ t, exec (.hail p flit) s = .next t ∧ (t.tp k).hasId = true ∧ (t.tp k).nodeId = be flit 20 8
        ∧ (t.tp k).kind = byteAt flit 17 ∧ (t.tp k).seenS = s.secs ∧ (t.tp k).probe = none
        ∧ ((s.tp k).st ≠ .quarantined → (s.tp k).st ≠ .failed → (s.tp k).st ≠ .dark →
            (byteAt flit 17 = 1 ∧ isX k = true ∨ byteAt flit 17 = 0 ∧ isX k = false →
              (t.tp k).st = .quarantined ∧ (t.tp k).cause = 5)
            ∧ (isX k = true → byteAt flit 17 = 0 → (bits (byteAt flit 28) 0 4 ≠ s.topo.hall ∨ bits (byteAt flit 30) 0 2 = 1
                ∨ bits (byteAt flit 29) 0 6 = s.topo.rack) → (t.tp k).st = .quarantined ∧ (t.tp k).cause = 4)
            ∧ (640 ≤ k → isX k = true → byteAt flit 17 = 0 → bits (byteAt flit 28) 0 4 = s.topo.hall →
                bits (byteAt flit 30) 0 2 ≠ 1 → bits (byteAt flit 29) 0 6 ≠ s.topo.rack → s.owner k ≠ 0 →
                (t.tp k).st = (if s.inCircuit k then .inCircuit else .found) ∧ (t.tp k).admitted = be flit 20 8)))
  ∧ (∀ (p : Fin 256) (flit : Bytes) (s : State), s.lpLive p = true → (s.lp p).st = .active →
      (flitGood flit = false ∨ ftypeOf flit ≠ 3 ∨ be flit 20 8 = 0) →
      ∃ t, exec (.hail p flit) s = .next t ∧ t.topo = s.topo ∧ LinkAndCounters p s t)
  ∧ (∀ (p : Fin 256) (s : State), s.lpLive p = true → (s.lp p).st = .active →
      ∃ t, exec (.hailSend p) s = .next t
        ∧ t.lp p = { s.lp p with
            hailSeq := ((s.lp p).hailSeq + 1) % 2 ^ 32
            local_ := (s.lp p).local_ ++ [beBytes 1 3 ++ s.hailPayload (refP p) ((s.lp p).hailSeq + 1)] }
        ∧ OnlyLink p s t)
  ∧ (∀ s : State, ∃ t, exec .sync s = .next t
      ∧ (∀ p x, s.lnk.port.find p = some x → x.st = .active →
          (t.lp p).timeSeq = (x.timeSeq + 1) % 65536 ∧ (t.lp p).local_.length = x.local_.length + 1)
      ∧ (∀ p x, s.lnk.port.find p = some x → x.st ≠ .active → t.lp p = x)
      ∧ t = { s with lnk := { s.lnk with port := t.lnk.port } })
  ∧ (∀ (p : Fin 256) (flit : Bytes) (s : State), s.lpLive p = true → (s.lp p).st = .active → flitGood flit = true →
      ftypeOf flit = 4 → byteAt flit 16 = 1 →
      ∃ t, exec (.delayReq p flit) s = .next t
        ∧ (t.lp p).local_ = (s.lp p).local_ ++ [beBytes 1 4 ++ s.timePayload 2 (be flit 18 2) s.time16]
        ∧ (∀ q, q ≠ p.val → t.lp q = s.lp q) ∧ t.ast = s.ast)
  ∧ (∀ (p : Fin 256) (frame : Bytes) (s : State), s.lpLive p = true → ctlKind frame = 0x20 → (s.lp p).ownLimit.length = 8 →
      ∃ t, exec (.nak p frame) s = .next t
        ∧ t.lp p = { s.lp p with
            ownLimit := (s.lp p).ownLimit.set 6 (((s.lp p).ownLimit.getD 6 0 + flitsOf frame.length) % 65536) }
        ∧ LinkAndCounters p s t)
  ∧ (∀ (p : Fin 256) (above : Bool) (s : State), s.lpLive p = true →
      ∃ t, exec (.fecDegraded p above) s = .next t ∧ (t.lp p).fecDegraded = above
        ∧ (above = false → t.log = s.log)
        ∧ (above = true → (s.lp p).fecWarnAt = none → t.log.created = s.log.created + 1 ∧ (t.lp p).fecWarnAt = some s.ns)
        ∧ (∀ a, (s.lp p).fecWarnAt = some a → s.ns < a + 600000000000 → t.log = s.log)
        ∧ (∀ q, q ≠ p.val → t.lp q = s.lp q)
        ∧ t = { s with lnk := { s.lnk with port := t.lnk.port }, log := t.log })

/-- The compass (R157 to R160, R170, R315): a slot begins at the next multiple of 2 µs; where the clock is LOCKED, a standing
port of the one slice that hails takes the slot's target and source and sends a KIND 4 burst with the slice's digest and a
HAIL flit; where it free-runs the standing ports go dark with event 10 and one ERROR, and stay so. A whole second of
holdover widens the margin by 5 ns, and beyond 500 ns, or at a sequencer fault, they go dark too. -/
def Obligations.CompassSlots : Prop :=
  (∀ s : State, ∃ t, exec .compassSlot s = .next t ∧ t.col.slot = s.ns / 2000 + 1 ∧ t.ns = (s.ns / 2000 + 1) * 2000)
  ∧ (∀ (n : Nat) (x : Slice) (g : Fin 64) (u dst src : Nat) (s : State), s.ast.st = .locked → s.col.seqFault = false →
      s.topo.slice.filter (fun e => decide (1 ≤ e.2.colour)) = [(n, x)] → s.topo.slice.find n = some x → x.colour = 1 →
      s.passagesOf n = [] → s.sxt.takes = [] → (s.standingPorts n)[u]? = some g.val →
      s.compassDest n (s.ns / 2000 + 1) u = some dst → s.compassSource n (s.ns / 2000 + 1) u = some src →
      (s.gp g).st ≠ 3 → (s.gp g).st ≠ 4 → (s.gp g).st ≠ 5 → (s.gp g).st ≠ 6 → s.gOpen g = false →
      ∃ t f, exec .compassSlot s = .next t
        ∧ .burst g (burstHeader 4 s.topo.hall s.topo.rack g dst 0 0 0 0 0 (s.sliceDigest n) (s.path g dst).rxFreed) [f] ∈ t.out
        ∧ flitGood f = true ∧ ftypeOf f = 3 ∧ (t.gp g).st = 2 ∧ (t.gp g).role = 2 ∧ (t.gp g).dest = dst
        ∧ (t.gp g).channel = channelTo s.topo.rack dst ∧ (t.gp g).expectRack = src ∧ (t.gp g).expectValid = true
        ∧ t.col.dark = false)
  ∧ (∀ s : State, s.ast.st = .freeRunning → s.col.dark = false →
      ∃ t, exec .compassSlot s = .next t ∧ t.col.dark = true ∧ bit t.col.events 10 = true
        ∧ t.log.created = s.log.created + 1 ∧ t.out = s.out)
  ∧ (∀ s : State, s.col.dark = true → (s.ast.st ≠ .locked ∨ s.col.seqFault = true) →
      ∃ t, exec .compassSlot s = .next t
        ∧ t = { s with ast := { s.ast with raw := t.ast.raw }, col := { s.col with slot := s.ns / 2000 + 1 } })
  ∧ (∀ s : State, (s.ast.st = .holdover ∨ s.ast.st = .unqualified) → s.ast.h0 ≤ s.ns →
      ∃ t n, exec .holdoverMarginStep s = .next t ∧ n = (s.ns - s.ast.h0) / 1000000000 + 1
        ∧ t.ns = s.ast.h0 + n * 1000000000 ∧ t.col.margin = min 500 (5 * n)
        ∧ (n ≤ 100 → t.col.dark = s.col.dark ∧ t.log = s.log)
        ∧ (100 < n → t.col.dark = true ∧ (s.col.dark = false → bit t.col.events 10 = true ∧ t.log.created = s.log.created + 1))
        ∧ t = { s with ast := { s.ast with raw := t.ast.raw }, col := t.col, log := t.log })
  ∧ (∀ s : State, (s.ast.st = .locked ∨ s.ast.st = .freeRunning) → exec .holdoverMarginStep s = .next s)
  ∧ (∀ s : State, s.col.seqFault = false → ∃ t, exec .colourSequencerFault s = .next t ∧ t.col.seqFault = true
      ∧ t.col.dark = true ∧ bit t.col.events 10 = true ∧ t.log.created = s.log.created + 1
      ∧ (∀ g, g < 64 → (s.gp g).role = 2 → (s.gp g).st ≠ 3 → (s.gp g).st ≠ 4 → (s.gp g).st ≠ 5 → (t.gp g).st = 0)
      ∧ t = { s with col := t.col, log := t.log })
  ∧ (∀ s : State, s.col.seqFault = true → exec .colourSequencerFault s = .next s)

/-- Control frames of the standing stream (R153, R156, R164): ACK_RECORD acknowledges the stream, whose path then works;
NAK_RECORD queues the frames it names again, ahead of the others; PREAMBLE_REQUEST makes the lit leg port send its header
again; a FOREIGN_LIGHT report closes the gate and relocks; CREDIT raises the limit. A frame that is not of the burst
accepted on its port changes nothing.
Burst headers at a receiver (R153, R163, R164, R315 to R317): a preamble or header that fails closes the burst and counts;
one for another port, rack, hall or source is foreign light, event 4 and one ERROR; a KIND 0 header of the current leg and a
compass header of the current slot are accepted, the latter with its credit; a HAIL burst with the slice's own digest is
heard, and the last one makes the slice READY in colour, another digest is recorded; a foreign pilot is reported. -/
def Obligations.StandingStreams : Prop :=
  ((∀ (g : Fin 64) (frame : Bytes) (s : State), s.standingFrameOk g frame = false →
      exec (.ackRecord g frame) s = .next s ∧ exec (.nakRecord g frame) s = .next s
      ∧ exec (.preambleRequest g frame) s = .next s ∧ exec (.foreignLight g frame) s = .next s
      ∧ exec (.credit g frame) s = .next s)
  ∧ (∀ (g : Fin 64) (frame : Bytes) (u r n : Nat) (s : State), s.standingFrameOk g frame = true → ctlKind frame = 0x23 →
      ctlPid frame = 0 → u = bits (byteAt frame 16) 0 6 → r = ctlRack frame → n = be frame 24 8 →
      (s.path u r).acked < n → n ≤ (s.path u r).sent →
      ∃ t, exec (.ackRecord g frame) s = .next t
        ∧ t.path u r = { s.path u r with
            acked := n, broken := false, unacked := (s.path u r).unacked.filter (fun x => decide (n < x.1)) }
        ∧ (∀ k, k ≠ 64 * u + r → t.col.path.find k = s.col.path.find k)
        ∧ t = { s with col := { s.col with path := t.col.path }, fm := { s.fm with reqs := t.fm.reqs } })
  ∧ (∀ (g : Fin 64) (frame : Bytes) (p : Passage) (s : State), s.standingFrameOk g frame = true → ctlKind frame = 0x23 →
      ctlPid frame ≠ 0 → s.psg.find (psgKey (ctlSlice frame) (ctlPid frame)) = some p →
      (p.st = .running ∨ p.st = .stalled) → ctlLeg frame = p.leg → ctlIter frame = p.iter % 2 ^ 48 →
      (s.gp (bits (byteAt frame 16) 0 6)).dest = ctlRack frame →
      ∃ t q, exec (.ackRecord g frame) s = .next t ∧ t.psg.find (psgKey (ctlSlice frame) (ctlPid frame)) = some q
        ∧ q = { p with prog := q.prog, bytesOut := q.bytesOut } ∧ p.bytesOut ≤ q.bytesOut
        ∧ OtherPassages (ctlSlice frame) (ctlPid frame) s t ∧ t = { s with psg := t.psg })
  ∧ (∀ (g : Fin 64) (frame : Bytes) (u r : Nat) (hit : Nat × Nat × Nat × Bytes → Bool) (s : State),
      s.standingFrameOk g frame = true → ctlKind frame = 0x24 → ctlPid frame = 0 → 1 ≤ byteAt frame 17 → byteAt frame 17 ≤ 16 →
      u = bits (byteAt frame 16) 0 6 → r = ctlRack frame →
      hit = (fun x => named (nakRanges frame) (x.2.1 - flitsOf x.2.2.2.length) x.2.1) →
      ∃ t, exec (.nakRecord g frame) s = .next t
        ∧ t.col.stq = ((s.path u r).unacked.filter hit).map (fun x => ⟨ctlSlice frame, r, precOf x.2.2.2, x.2.2.2, true⟩)
            ++ s.col.stq
        ∧ (t.path u r).unacked.map (fun x => x.2) = ((s.path u r).unacked.filter (fun x => !hit x)).map (fun x => x.2)
        ∧ t = { s with col := { s.col with path := t.col.path, stq := t.col.stq } })
  ∧ (∀ (g : Fin 64) (frame : Bytes) (u : Nat) (p : Passage) (s : State), s.standingFrameOk g frame = true →
      ctlKind frame = 0x25 → u = bits (byteAt frame 16) 0 6 →
      s.psg.find (psgKey (ctlSlice frame) (ctlPid frame)) = some p → (p.st = .running ∨ p.st = .stalled ∨ p.st = .parked) →
      ctlLeg frame = p.leg → ctlIter frame = p.iter % 2 ^ 48 → (s.gp u).st = 2 → (s.gp u).role = 1 →
      (s.gp u).dest = ctlRack frame →
      ∃ t, exec (.preambleRequest g frame) s = .next t
        ∧ t.out = s.out ++ [.burst u (burstHeader 0 s.topo.hall s.topo.rack u (s.gp u).dest (ctlSlice frame) (ctlPid frame)
            p.leg p.iter 0 p.digest 0) []]
        ∧ t = { s with col := { s.col with path := t.col.path }, out := t.out })
  ∧ (∀ (g : Fin 64) (frame : Bytes) (u : Nat) (s : State), s.standingFrameOk g frame = true → ctlKind frame = 0x26 →
      u = bits (byteAt frame 16) 0 6 → (s.gp u).st ≠ 4 → (s.gp u).st ≠ 5 → (s.gp u).st ≠ 6 → (s.gp u).takeover = false →
      (∀ a, (s.gp u).foreignAt = some a → a + 10000000 < s.ns) →
      ∃ t, exec (.foreignLight g frame) s = .next t
        ∧ t.gp u = { s.gp u with st := 3, attempts := 0, foreignRun := true } ∧ (∀ q, q ≠ u → t.gp q = s.gp q)
        ∧ (t.laser (s.gp u).laser).gate = false
        ∧ t = { s with col := { s.col with path := t.col.path, port := t.col.port, laser := t.col.laser } })
  ∧ (∀ (g : Fin 64) (frame : Bytes) (u a : Nat) (s : State), s.standingFrameOk g frame = true → ctlKind frame = 0x26 →
      u = bits (byteAt frame 16) 0 6 → (s.gp u).st ≠ 4 → (s.gp u).st ≠ 5 → (s.gp u).st ≠ 6 → (s.gp u).takeover = false →
      (s.gp u).foreignAt = some a → s.ns ≤ a + 10000000 →
      ∃ t, exec (.foreignLight g frame) s = .next t ∧ (t.laser (s.gp u).laser).st = 4
        ∧ (t.laser (s.gp u).laser).gate = false)
  ∧ (∀ (g : Fin 64) (frame : Bytes) (u r : Nat) (s : State), s.standingFrameOk g frame = true → ctlKind frame = 0x27 →
      u = bits (byteAt frame 16) 0 6 → r = ctlRack frame →
      ∃ t, exec (.credit g frame) s = .next t ∧ (t.path u r).limit = newLimit (s.path u r).limit (be frame 18 2)
        ∧ t = { s with col := { s.col with path := t.col.path } }))
  ∧ ((∀ (g : Fin 64) (header : Option Bytes) (flit : Bytes) (s : State), (s.gp g).st = 6 →
      exec (.burstHeader g header flit) s = .next s)
  ∧ (∀ (g : Fin 64) (header : Option Bytes) (flit : Bytes) (s : State), (s.gp g).st ≠ 6 → s.col.dark = false →
      (header = none ∨ ∃ b, header = some b ∧ headerGood b = false) →
      ∃ t, exec (.burstHeader g header flit) s = .next t
        ∧ t.gp g = { s.gp g with burst := none, preambleFails := satInc 8 (s.gp g).preambleFails }
        ∧ (∀ q, q ≠ g.val → t.gp q = s.gp q)
        ∧ t = { s with col := { s.col with port := t.col.port, stq := t.col.stq } })
  ∧ (∀ (g : Fin 64) (b flit : Bytes) (s : State), (s.gp g).st ≠ 6 → s.col.dark = false → headerGood b = true →
      ((bhdr b).dst ≠ s.topo.rack ∨ (bhdr b).port ≠ g.val ∨ (bhdr b).hall ≠ s.topo.hall
        ∨ (bhdr b).chan ≠ channelTo (bhdr b).src (bhdr b).dst) →
      ∃ t, exec (.burstHeader g (some b) flit) s = .next t ∧ (t.gp g).burst = none ∧ bit t.col.events 4 = true
        ∧ t.log.created = s.log.created + 1 ∧ (∀ q, q ≠ g.val → t.gp q = s.gp q))
  ∧ (∀ (g : Fin 64) (b flit : Bytes) (x : Nat × Nat × Passage × Nat × Nat × Nat) (s : State), (s.gp g).st ≠ 6 →
      (s.standingPorts (s.owner (refG g))).contains g.val = false → headerGood b = true → (bhdr b).dst = s.topo.rack →
      (bhdr b).port = g.val → (bhdr b).hall = s.topo.hall → (bhdr b).chan = channelTo (bhdr b).src (bhdr b).dst →
      (bhdr b).kind = 0 →
      (s.legsAt g).find? (fun x => (bhdr b).kind == 0 && (bhdr b).slice == x.1 && (bhdr b).pid == x.2.1
        && (bhdr b).digest == x.2.2.1.digest && (bhdr b).leg == x.2.2.2.1 && (bhdr b).iter == x.2.2.2.2.1 % 2 ^ 48
        && (bhdr b).src == x.2.2.2.2.2) = some x →
      ∃ t, exec (.burstHeader g (some b) flit) s = .next t
        ∧ t.gp g = { s.gp g with burst := some (x.1, x.2.1, (bhdr b).leg, (bhdr b).iter) }
        ∧ (∀ q, q ≠ g.val → t.gp q = s.gp q) ∧ t = { s with col := { s.col with port := t.col.port } })
  ∧ (∀ (g : Fin 64) (b flit : Bytes) (n : Nat) (s : State), (s.gp g).st ≠ 6 → s.col.dark = false → n = s.owner (refG g) →
      (s.standingPorts n).contains g.val = true → headerGood b = true → (bhdr b).dst = s.topo.rack →
      (bhdr b).port = g.val → (bhdr b).hall = s.topo.hall → (bhdr b).chan = channelTo (bhdr b).src (bhdr b).dst →
      (s.gp g).expectValid = true → (bhdr b).src = (s.gp g).expectRack → (bhdr b).slice = n → (bhdr b).slot = s.col.slot →
      (bhdr b).pid = 0 → ((bhdr b).kind = 1 ∧ (bhdr b).digest = s.compassDigest n ∨ (bhdr b).kind = 2) →
      ∃ t, exec (.burstHeader g (some b) flit) s = .next t
        ∧ t.gp g = { s.gp g with burst := some (n, 0, 0, 0), errLeg := none } ∧ (∀ q, q ≠ g.val → t.gp q = s.gp q)
        ∧ (t.path g (bhdr b).src).limit = newLimit (s.path g (bhdr b).src).limit
            ((Config.standingCredit.toNat + (bhdr b).cred) % 65536)
        ∧ t = { s with col := { s.col with port := t.col.port, path := t.col.path } })
  ∧ (∀ (g : Fin 64) (b flit : Bytes) (n : Nat) (x : Slice) (s : State), (s.gp g).st ≠ 6 → s.col.dark = false →
      n = s.owner (refG g) → (s.standingPorts n).contains g.val = true → headerGood b = true →
      (bhdr b).dst = s.topo.rack → (bhdr b).port = g.val → (bhdr b).hall = s.topo.hall →
      (bhdr b).chan = channelTo (bhdr b).src (bhdr b).dst → (s.gp g).expectValid = true →
      (bhdr b).src = (s.gp g).expectRack → (bhdr b).kind = 4 → (bhdr b).slice = 0 → flitGood flit = true →
      ftypeOf flit = 3 → be flit 20 8 ≠ 0 → s.topo.slice.find n = some x →
      ((bhdr b).digest = s.sliceDigest n →
        ∃ t y, exec (.burstHeader g (some b) flit) s = .next t ∧ t.topo.slice.find n = some y
          ∧ y = { x with heard := y.heard, heardPorts := y.heardPorts, mismatch := y.mismatch, colour := y.colour }
          ∧ bit y.heard (bhdr b).src = true ∧ bit y.heardPorts g = true ∧ bit y.mismatch (bhdr b).src = false
          ∧ (y.colour = 2 ↔ x.colour = 2 ∨ x.colour = 1 ∧ (∀ r ∈ s.others x.rackMask, bit y.heard r = true)
              ∧ ∀ p ∈ s.standingPorts n, bit y.heardPorts p = true)
          ∧ (∀ m, m ≠ n → t.topo.slice.find m = s.topo.slice.find m)
          ∧ t = { s with topo := { s.topo with slice := t.topo.slice } })
      ∧ ((bhdr b).digest ≠ s.sliceDigest n →
        ∃ t y, exec (.burstHeader g (some b) flit) s = .next t ∧ t.topo.slice.find n = some y
          ∧ bit y.mismatch (bhdr b).src = true ∧ y.colour = x.colour
          ∧ t = { s with topo := { s.topo with slice := t.topo.slice }, log := t.log }))
  ∧ (∀ (g rack : Fin 64) (s : State), (s.gp g).expectValid = true → (s.gp g).expectRack = rack.val →
      exec (.foreignPilot g rack) s = .next s)
  ∧ (∀ (g rack : Fin 64) (s : State), ((s.gp g).expectValid = false ∨ (s.gp g).expectRack ≠ rack.val) →
      ∃ t, exec (.foreignPilot g rack) s = .next t ∧ (t.gp g).pilotRack = rack.val ∧ (t.gp g).pilotValid = true
        ∧ bit t.col.events 4 = true ∧ t.log.created = s.log.created + 1 ∧ (∀ q, q ≠ g.val → t.gp q = s.gp q)
        ∧ t = { s with col := { s.col with port := t.col.port, events := t.col.events, stq := t.col.stq }, log := t.log }))

/-- Lasers (R149, R162, R165 to R167, R170): a wavelength error beyond 500 units or on another channel closes the gate and
makes the port RELOCKING, with event 0; a lock lost at a retune does so too; a relock that succeeds locks the laser on the
port's channel, the third failure fails it, and its port is taken over by the idle spare or fails; a takeover leaves the
spare serving; a gate fault fails the laser with event 7 and one CRITICAL. -/
def Obligations.LasersAndRelocks : Prop :=
  (∀ (l : Fin 72) (m : Fin 64) (e : Int) (s : State),
      ((s.laser l).st ≠ 2 ∧ (s.laser l).st ≠ 5 ∨ m.val = (s.laser l).channel ∧ e.natAbs ≤ 500) →
      exec (.wavelengthError l m e) s = .next s)
  ∧ (∀ (l : Fin 72) (m : Fin 64) (e : Int) (p : Nat) (s : State), (s.laser l).st = 2 →
      (m.val ≠ (s.laser l).channel ∨ 500 < e.natAbs) → s.servedBy l = some p → (s.gp p).st ≠ 4 → (s.gp p).st ≠ 5 →
      (s.gp p).st ≠ 6 → (s.gp p).role ≠ 0 →
      ∃ t, exec (.wavelengthError l m e) s = .next t ∧ (t.laser l).gate = false ∧ (t.laser l).st = 3
        ∧ (t.laser l).measChannel = m.val ∧ bit t.col.events 0 = true ∧ (t.gp p).st = 3 ∧ (t.gp p).attempts = 0
        ∧ (t.gp p).blanks = (if (s.laser l).gate then satInc 16 (s.gp p).blanks else (s.gp p).blanks)
        ∧ (∀ q, q ≠ p → t.gp q = s.gp q) ∧ (∀ k, k ≠ l.val → t.laser k = s.laser k)
        ∧ t = { s with col := { s.col with port := t.col.port, laser := t.col.laser, events := t.col.events } })
  ∧ (∀ (g : Fin 64) (n pid : Nat) (p : Passage) (s : State), s.legOf g = some (n, pid, p) → (s.gp g).role = 1 →
      (s.gp g).st = 2 → (s.gp g).tunedAt = some p.enteredAt → s.ns ≤ p.enteredAt + 1000 →
      ∃ t, exec (.retuneLockTimeout g) s = .next t ∧ (t.gp g).st = 3 ∧ (t.gp g).attempts = 0
        ∧ (t.laser (s.gp g).laser).st = 1 ∧ (t.laser (s.gp g).laser).gate = false ∧ p.enteredAt + 1000 ≤ t.ns
        ∧ (∀ q, q ≠ g.val → t.gp q = s.gp q) ∧ OtherPassages n pid s t)
  ∧ (∀ (g : Fin 64) (s : State), s.legOf g = none → exec (.retuneLockTimeout g) s = .next s)
  ∧ (∀ (l : Fin 72) (p : Nat) (thermal : Bool) (s : State), s.gfRuns 4 = true → s.servedBy l = some p → (s.gp p).st = 3 →
      (s.gp p).takeover = false → ((s.gp p).role ≠ 1 ∨ s.legOf p = none) →
      ∃ t, exec (.relockAttemptEnd l true thermal) s = .next t ∧ (t.laser l).st = 2 ∧ (t.laser l).channel = (s.gp p).channel
        ∧ (t.laser l).freqErr = 0 ∧ (t.laser l).gate = false ∧ (t.gp p).attempts = 0 ∧ (t.gp p).st = 0
        ∧ t.log.created = s.log.created + 1)
  ∧ (∀ (l : Fin 72) (p n pid : Nat) (x : Passage) (s : State), s.gfRuns 4 = true → s.servedBy l = some p →
      (s.gp p).st = 3 → (s.gp p).takeover = false → (s.gp p).role = 1 → s.legOf p = some (n, pid, x) →
      s.psg.find (psgKey n pid) = some x → x.blanked = none → s.takenPort p = false → s.gOpen p = false →
      (∀ gi ∈ x.legGroups, (x.grp gi).role < 3) →
      ∃ t, exec (.relockAttemptEnd l true false) s = .next t ∧ (t.laser l).st = 2 ∧ (t.laser l).gate = true
        ∧ (t.laser l).channel = (s.gp p).channel ∧ (t.gp p).st = 2
        ∧ t.out = s.out ++ [.burst p (burstHeader 0 s.topo.hall s.topo.rack p (s.gp p).dest n pid x.leg x.iter 0 x.digest 0) []])
  ∧ (∀ (l : Fin 72) (p : Nat) (thermal : Bool) (s : State), s.gfRuns 4 = true → s.servedBy l = some p → (s.gp p).st = 3 →
      (s.gp p).takeover = false → (s.gp p).attempts + 1 < 3 →
      ∃ t, exec (.relockAttemptEnd l false thermal) s = .next t
        ∧ t.gp p = { s.gp p with attempts := (s.gp p).attempts + 1, relockFails := satInc 8 (s.gp p).relockFails }
        ∧ (∀ q, q ≠ p → t.gp q = s.gp q) ∧ bit t.col.events 1 = true ∧ t.log.created = s.log.created + 1
        ∧ t = { s with col := { s.col with port := t.col.port, events := t.col.events }, log := t.log })
  ∧ (∀ (l : Fin 72) (p : Nat) (thermal : Bool) (s : State), s.gfRuns 4 = true → s.servedBy l = some p → (s.gp p).st = 3 →
      (s.gp p).takeover = false → 2 ≤ (s.gp p).attempts →
      ∃ t, exec (.relockAttemptEnd l false thermal) s = .next t ∧ (t.laser l).st = 4 ∧ (t.laser l).gate = false
        ∧ ((t.gp p).st = 3 ∧ (t.gp p).takeover = true ∧ l.val < 64 ∧ (s.grp (p / 8)).1 = 0
            ∨ (t.gp p).st = 4 ∧ bit t.col.events 3 = true))
  ∧ (∀ (l : Fin 72) (ok thermal : Bool) (s : State), s.gfRuns 4 = false → exec (.relockAttemptEnd l ok thermal) s = .next s)
  ∧ (∀ (g : Fin 8) (i : Nat) (s : State), (List.range 8).find? (fun i => (s.gp (8 * g + i)).takeover) = some i →
      s.gfRuns 4 = true → s.gfRuns 5 = true → ((s.gp (8 * g + i)).role ≠ 1 ∨ s.legOf (8 * g + i) = none) →
      ∃ t, exec (.spareTakeoverDone g) s = .next t ∧ (t.gp (8 * g + i)).laser = 64 + g ∧ (t.gp (8 * g + i)).takeover = false
        ∧ (t.laser (64 + g)).st = 2 ∧ (t.laser (64 + g)).channel = (s.gp (8 * g + i)).channel
        ∧ t.grp g = (1, i, satInc 16 (s.grp g).2.2) ∧ bit t.col.events 2 = true ∧ t.log.created = s.log.created + 1)
  ∧ (∀ (l : Fin 72) (s : State), (s.laser l).st ≠ 4 → ∃ t, exec (.gateFault l) s = .next t ∧ (t.laser l).st = 4
      ∧ (t.laser l).gate = false ∧ bit t.col.events 7 = true ∧ s.log.created < t.log.created)
  ∧ (∀ (l : Fin 72) (s : State), (s.laser l).st = 4 → exec (.gateFault l) s = .next s)

/-- The cabling check, the rings and their controllers, and LASER_SET (R147, R168, R170, R172 to R174, R417): a port that
hears its own tag three frames in a row within 50 to 300 ns is CABLED, one that fails 16 or answers too early or late is
MISCABLED, and the check ends with the last; every 10 µs the heaters and errors of all 72 rings are new; a controller lost
for the third time in 10 minutes stops, otherwise it is reloaded; LASER_SET tunes, gates, retests or releases a laser that
serves no owned port. -/
def Obligations.CablingRingsAndHand : Prop :=
  (∀ (heard : List (Nat × Nat)) (s : State), s.col.checking = true →
      ∃ t, exec (.cablingCheckFrame heard) s = .next t ∧ t.ns = (s.ns / 1000000 + 1) * 1000000
        ∧ (∀ g, g < 64 → (s.gp g).cabling ≠ 0 → t.gp g = s.gp g)
        ∧ (∀ g, g < 64 → (s.gp g).cabling = 0 → heard.find? (fun e => e.1 == g) = none →
            (t.gp g).cabling = (if 15 ≤ (s.gp g).failRun then 2 else 0)
            ∧ ((s.gp g).failRun < 15 → (t.gp g).failRun = (s.gp g).failRun + 1 ∧ (t.gp g).tagRun = 0))
        ∧ (∀ g e, g < 64 → (s.gp g).cabling = 0 → heard.find? (fun e => e.1 == g) = some e →
            (t.gp g).cabling = (if e.2 < 50 ∨ 300 < e.2 then 2 else if 2 ≤ (s.gp g).tagRun then 1 else 0)
            ∧ ((t.gp g).cabling = 2 → (t.gp g).st = 5) ∧ ((t.gp g).cabling = 1 → (t.gp g).st = 0)
            ∧ ((t.gp g).cabling = 0 → (t.gp g).tagRun = (s.gp g).tagRun + 1))
        ∧ (t.col.checking = true ↔ ∃ g, g < 64 ∧ (t.gp g).cabling = 0)
        ∧ (t.col.checking = false → s.mod = .starting → s.ast.acquiring = false → t.mod = .ready))
  ∧ (∀ (heard : List (Nat × Nat)) (s : State), s.col.checking = false → exec (.cablingCheckFrame heard) s = .next s)
  ∧ (∀ (errs : List Int) (s : State), s.gfRuns 5 = true →
      ∃ t, exec (.ringHeaterUpdate errs) s = .next t ∧ t.ns = (s.ns / 10000 + 1) * 10000
        ∧ (∀ h, h < 72 → t.col.ring.get h (0, 0) = ({ s with ast := t.ast }.heaterPower errs h, satSigned 16 (errs.getD h 0)))
        ∧ t = { s with ast := { s.ast with raw := t.ast.raw }, col := { s.col with ring := t.col.ring }, log := t.log })
  ∧ (∀ (errs : List Int) (s : State), s.gfRuns 5 = false → exec (.ringHeaterUpdate errs) s = .next s)
  ∧ (∀ (g : Fin 8) (s : State), s.gfRuns g = true →
      ∃ t n, exec (.gfControllerLost g) s = .next t
        ∧ n = (((s.col.gf.get g (0, [])).2).filter (fun a => decide (s.ns < a + 600000000000))).length
        ∧ (t.col.gf.get g (0, [])).1 = (if 2 ≤ n then 4 else if s.paused = true ∨ s.clusterHalted 1 = true then 1 else 2)
        ∧ (g.val = 4 ∨ g.val = 5 → bit t.col.events 8 = true) ∧ t.log.created = s.log.created + 1
        ∧ (∀ k, k ≠ g.val → t.col.gf.find k = s.col.gf.find k) ∧ t = { s with col := t.col, log := t.log })
  ∧ (∀ (g : Fin 8) (s : State), s.gfRuns g = false → exec (.gfControllerLost g) s = .next s)
  ∧ (∀ (r : Req) (l m : Nat) (s : State), accepts 0x0B04 r s = true → r.b 0 2 = 1 → zeroAt r.params 2 14 = true →
      ranges (lasRows r.params 0 []) = none → s.clusterHalted 1 = false → l = le r.params 16 1 → m = le r.params 17 1 →
      (∀ p, s.servedBy l = some p → s.owner (refG p) = 0) → (l < 64 ∨ (s.grp (l - 64)).1 ≠ 1) →
      (64 ≤ l ∨ s.gOpen l = false) → (m ≤ 3 → (s.laser l).st ≠ 4) → (m = 4 → (s.laser l).st = 4) →
      (m = 2 → ((s.laser l).st = 2 ∨ (s.laser l).st = 5) ∧ (s.laser l).channel = 0 ∧ (s.laser l).measValid = true
        ∧ (s.laser l).measChannel = 0 ∧ (s.laser l).freqErr.natAbs ≤ 250 ∧ (64 ≤ l ∨ (s.gp l).cabling = 1)) →
      ∃ t, exec (.laserSet r) s = .next t
        ∧ (m ≠ 4 → Completed r s t 0 1 0)
        ∧ (m = 0 → (t.laser l).st = 5 ∧ (t.laser l).channel = le r.params 18 1 ∧ (t.laser l).gate = false
            ∧ (t.laser l).freqErr.natAbs ≤ 150)
        ∧ (m = 1 → (t.laser l).st = 5 ∧ (t.laser l).gate = false ∧ (t.laser l).byMaint = true)
        ∧ (m = 2 → t.laser l = { s.laser l with gate := true, byMaint := true })
        ∧ (m = 3 → t.laser l = { s.laser l with gate := false, byMaint := true })
        ∧ (m = 4 → (Completed r s t 0 1 0 ∧ (t.laser l).st = 0 ∧ (t.laser l).attempts = 0)
            ∨ (Completed r s t 0x0502 1 1 ∧ t.laser l = s.laser l))
        ∧ (m = 5 → (t.laser l).gate = false ∧ (t.laser l).byMaint = false ∧ (t.laser l).st ≠ 5)
        ∧ (∀ k, k ≠ l → t.laser k = s.laser k) ∧ Silent s t ∧ Quiet r s t
        ∧ t = { s with hif := t.hif, bnc := t.bnc, out := t.out, free := t.free
                       col := { s.col with laser := t.col.laser, group := t.col.group } })
  ∧ (∀ (r : Req) (l p : Nat) (s : State), accepts 0x0B04 r s = true → r.b 0 2 = 1 → zeroAt r.params 2 14 = true →
      ranges (lasRows r.params 0 []) = none → s.clusterHalted 1 = false → l = le r.params 16 1 →
      s.servedBy l = some p → s.owner (refG p) ≠ 0 →
      ∃ t, exec (.laserSet r) s = .next t ∧ Completed r s t 0x0301 l 0 ∧ Silent s t ∧ Quiet r s t
        ∧ t = { s with hif := t.hif, bnc := t.bnc, out := t.out })

/-- Discipline (R341, R343, R345, R348, R357): a master is a candidate from its second Announce; an offset measurement in
mode 0 from PTP, in mode 1 from the PPS edge less its delay, sets the offset and a rate within 10 ppm, and the eighth in a
row inside the lock window locks; loss of discipline puts LOCKED in HOLDOVER with H0, 1 s later UNQUALIFIED and 3,600 s
after H0 FREE_RUNNING, each with its event and one entry; a pause stops the servo.
Master changes and steps (R342, R345 to R347): an offset within 1 ms of a new master is slewed out and leaves LOCKED for
HOLDOVER, one beyond is held with JUMP_HELD, event 6 and one ERROR, one inside the window is nothing; a step goes to the
master's time only where a jump is held or nothing was locked yet, and with no passage live; 1PPS goes out at the next
whole second; acquisition ends LOCKED or 30 s after it began, and the cabling check opens. -/
def Obligations.TimeStatesAndSteps : Prop :=
  ((∀ (k : Nat) (s : State), ∃ t m, exec (.ptpMessage (.announce k)) s = .next t ∧ t.ast.foreign.find k = some m
      ∧ m.announces = (s.ast.foreign.get k ⟨0, false⟩).announces + 1
      ∧ (∀ j, j ≠ k → t.ast.foreign.find j = s.ast.foreign.find j)
      ∧ t = { s with ast := { s.ast with foreign := t.ast.foreign } })
  ∧ (∀ (d : Nat) (s : State), exec (.ptpMessage (.delayResp d)) s
        = .next { s with ast := { s.ast with pathDelay := min d (2 ^ 32 - 1) } }
      ∧ exec (.ptpMessage .management) s = .next s)
  ∧ (∀ (θ : Int) (s : State), s.ast.mode ≠ 0 → exec (.ptpMessage (.sync θ)) s = .next s)
  ∧ (∀ (θ : Int) (s : State), s.ast.mode = 0 → exec (.ppsEdge θ) s = .next s)
  ∧ (∀ (c : Instr) (θ e w : Int) (s : State), s.ast.servoStopped = false →
      (c = .ptpMessage (.sync θ) ∧ s.ast.mode = 0 ∧ e = θ ∧ w = 25 ∨ c = .ppsEdge θ ∧ s.ast.mode = 1
        ∧ e = θ - s.ast.ppsDelay ∧ w = 10) →
      ∃ t n, exec c s = .next t ∧ t.ast.offset = satSigned 32 e ∧ t.ast.measured = true
        ∧ t.ast.source = (if s.ast.mode = 1 then 3 else if s.ast.portB then 2 else 1)
        ∧ -1000000 ≤ t.ast.rate ∧ t.ast.rate ≤ 1000000
        ∧ n = (if -w ≤ e ∧ e ≤ w then s.ast.lockCount + 1 else 0) ∧ t.ast.lockCount = n
        ∧ (8 ≤ n ∧ s.ast.st ≠ .locked ∧ s.ast.jumpHeld = false → t.ast.st = .locked ∧ bit t.ast.events 3 = true
            ∧ t.ast.everLocked = true ∧ t.log.created = s.log.created + 1)
        ∧ (¬(8 ≤ n ∧ s.ast.st ≠ .locked ∧ s.ast.jumpHeld = false) → t.ast.st = s.ast.st ∧ t.log = s.log)
        ∧ t.ast.raw = s.ast.raw ∧ t = { s with ast := t.ast, log := t.log, free := t.free })
  ∧ (∀ (θ : Int) (s : State), s.ast.servoStopped = true → s.ast.mode = 0 →
      ∃ t, exec (.ptpMessage (.sync θ)) s = .next t ∧ t.ast.rate = s.ast.rate ∧ t.ast.st = s.ast.st
        ∧ t.ast.offset = satSigned 32 θ)
  ∧ (∀ (θ : Int) (s : State), s.ast.mode = 2 → s.ast.secondsArmed = true →
      ∃ t, exec (.ppsEdge θ) s = .next t ∧ t.ast.secondsArmed = false ∧ t.ast.measured = true
        ∧ t.ast.offset = satSigned 32 ((s.ns : Int) - (s.ast.seconds * 1000000000 + s.ast.ppsDelay)) ∧ t.ns = s.ns)
  ∧ (∀ s : State, s.ast.servoStopped = true →
      exec .disciplineLost s = .next { s with ast := { s.ast with lostInPause := true } })
  ∧ (∀ s : State, s.ast.servoStopped = false → s.ast.st = .locked →
      ∃ t, exec .disciplineLost s = .next t ∧ t.ast.st = .holdover ∧ t.ast.h0 = s.ns ∧ t.ast.source = 0
        ∧ t.ast.losses = satInc 16 s.ast.losses ∧ bit t.ast.events 0 = true
        ∧ (s.ast.mode ≠ 0 → bit t.ast.events 7 = true) ∧ t.log.created = s.log.created + 1
        ∧ t = { s with ast := t.ast, log := t.log })
  ∧ (∀ s : State, s.ast.servoStopped = false → s.ast.st ≠ .locked →
      ∃ t, exec .disciplineLost s = .next t ∧ t.ast.st = s.ast.st ∧ t.ast.source = 0 ∧ t.log = s.log)
  ∧ (∀ s : State, s.ast.st = .holdover → ∃ t, exec .holdoverExpiry s = .next t ∧ t.ast.st = .unqualified
      ∧ s.ast.h0 + 1000000000 ≤ t.ns ∧ bit t.ast.events 1 = true ∧ t.ast.h0 = s.ast.h0 ∧ t.ast.since = t.ns
      ∧ t.log.created = s.log.created + 1 ∧ t = { s with ast := t.ast, log := t.log })
  ∧ (∀ s : State, s.ast.st = .unqualified → ∃ t, exec .unqualifiedExpiry s = .next t ∧ t.ast.st = .freeRunning
      ∧ s.ast.h0 + 3600000000000 ≤ t.ns ∧ bit t.ast.events 2 = true ∧ t.ast.since = t.ns
      ∧ t.log.created = s.log.created + 1 ∧ t = { s with ast := t.ast, log := t.log })
  ∧ (∀ s : State, (s.ast.st ≠ .holdover → exec .holdoverExpiry s = .next s)
      ∧ (s.ast.st ≠ .unqualified → exec .unqualifiedExpiry s = .next s))
  ∧ (∀ s : State, ∃ t, exec .tenMhzLost s = .next t ∧ bit t.ast.events 8 = true
      ∧ t = { s with ast := { s.ast with tenMhz := false, events := t.ast.events } }))
  ∧ ((∀ (m : Nat) (θ : Int) (s : State), ∃ t, exec (.masterChange m θ) s = .next t ∧ t.ast.master = m % 2 ^ 64
      ∧ t.ast.masterChanges = satInc 16 s.ast.masterChanges ∧ bit t.ast.events 4 = true ∧ t.ast.offset = satSigned 32 θ
      ∧ t.ast.raw = s.ast.raw
      ∧ (-s.ast.window ≤ θ ∧ θ ≤ s.ast.window → t.ast.st = s.ast.st ∧ t.ast.jumpHeld = s.ast.jumpHeld ∧ t.log = s.log)
      ∧ (¬(-s.ast.window ≤ θ ∧ θ ≤ s.ast.window) →
          t.ast.st = (if s.ast.st = .locked then .holdover else s.ast.st)
          ∧ (-1000000 ≤ θ ∧ θ ≤ 1000000 → t.ast.slewLeft = θ * unitsPerNs)
          ∧ (θ < -1000000 ∨ 1000000 < θ → t.ast.jumpHeld = true ∧ t.ast.jumpTo = θ ∧ bit t.ast.events 6 = true
              ∧ s.log.created < t.log.created))
      ∧ t = { s with ast := t.ast, log := t.log })
  ∧ (∀ (m : Nat) (s : State), (s.ast.jumpHeld = true ∨ s.ast.everLocked = false) → s.livePassage = none →
      ∃ t, exec (.timeStep m) s = .next t ∧ t.ns = m ∧ t.ast.steps = satInc 16 s.ast.steps ∧ t.ast.jumpHeld = false
        ∧ bit t.ast.events 5 = true ∧ t.ast.slewLeft = 0
        ∧ (∀ l x, s.col.laser.find l = some x → (∃ e ∈ s.col.port, e.2.role = 2 ∧ e.2.laser = l) →
            ∃ y, t.col.laser.find l = some y ∧ y.gate = false)
        ∧ t.psg = s.psg ∧ t.topo = s.topo ∧ t.out = s.out)
  ∧ (∀ (m : Nat) (s : State), (s.ast.jumpHeld = false ∧ s.ast.everLocked = true ∨ s.livePassage ≠ none) →
      exec (.timeStep m) s = .next s)
  ∧ (∀ s : State, ∃ t, exec .ppsOut s = .next t ∧ t.ns = (s.ns / 1000000000 + 1) * 1000000000
      ∧ t.out = s.out ++ [.pps (s.ns / 1000000000 + 1)] ∧ t = { s with ast := { s.ast with raw := t.ast.raw }, out := t.out })
  ∧ (∀ s : State, s.ast.acquiring = true → s.topo.strapState = 0 →
      ∃ t, exec .timeAcquisitionEnd s = .next t ∧ t.ast.acquiring = false ∧ t.col.checking = true
        ∧ (s.ast.st ≠ .locked → (30000000000 : Int) + s.ast.jumped ≤ t.ns)
        ∧ (∀ g, g < 64 → (t.gp g).st = 6 ∧ (t.gp g).role = 3 ∧ (t.gp g).cabling = 0 ∧ (t.laser g).gate = true)
        ∧ (∀ n x, s.topo.slice.find n = some x → ∃ y, t.topo.slice.find n = some y
            ∧ (y.hailPend = true ↔ 1 ≤ x.standing ∧ 2 ≤ (racks x.rackMask).length))
        ∧ t.mod = s.mod)
  ∧ (∀ s : State, s.ast.acquiring = true → s.topo.strapState ≠ 0 →
      ∃ t, exec .timeAcquisitionEnd s = .next t ∧ t.ast.acquiring = false ∧ t.mod = .ready ∧ t.col = s.col
        ∧ t.log.created = s.log.created + 1)
  ∧ (∀ s : State, s.ast.acquiring = false → exec .timeAcquisitionEnd s = .next s))

/-- The time commands (R354 to R356): TIME_GET returns seconds, state, nanoseconds and fraction; TIME_STATUS the state,
source, seconds in it, offset and path delay, and neither changes anything; TIME_CONFIG takes mode, transport, domain and
delay, and a change of one of the first four or of the preferred port is a master change.
Hardware triggers (R350 to R352, R385): TRIGGER_SET programs one of 16 and returns when it fires first; an occurrence of
KIND 1 advances the trigger and latches the counters; one of KIND 2 starts a calibration sweep of its region, and is
skipped and counted with event 9 where the region is swept already or a pause runs; another trigger, or one that is not
active, does nothing. -/
def Obligations.TimeCommandsAndTriggers : Prop :=
  ((∀ (r : Req) (s : State), accepts 0x0701 r s = true → r.z 16 = true →
      ∃ t, exec (.timeGet r) s = .next t
        ∧ Completed r s t 0 (s.ns / 1000000000 % 2 ^ 48 + s.ast.st.code * 2 ^ 48)
            (s.ns % 1000000000 * 2 ^ 32 + s.time16 % 2 ^ 16 * 2 ^ 16)
        ∧ Silent s t ∧ Quiet r s t ∧ t = { s with hif := t.hif, bnc := t.bnc, out := t.out })
  ∧ (∀ (r : Req) (s : State), accepts 0x0702 r s = true → r.z 16 = true → s.ast.source < 4 →
      ∃ t w0 w1, exec (.timeStatus r) s = .next t ∧ Completed r s t 0 w0 w1
        ∧ bits w0 0 2 = s.ast.st.code ∧ bits w0 2 2 = s.ast.source ∧ (bit w0 4 = true ↔ s.ast.tenMhz = true)
        ∧ (bit w0 5 = true ↔ s.ast.slewLeft ≠ 0) ∧ (bit w0 6 = true ↔ s.ast.jumpHeld = true)
        ∧ bits w0 32 32 = min ((s.ns - s.ast.since) / 1000000000) (2 ^ 32 - 1)
        ∧ bits w1 32 32 = s.ast.pathDelay % 2 ^ 32 ∧ ofTwos 32 (bits w1 0 32) = satSigned 32 s.ast.offset
        ∧ Silent s t ∧ Quiet r s t ∧ t = { s with hif := t.hif, bnc := t.bnc, out := t.out })
  ∧ (∀ (r : Req) (s : State), accepts 0x0703 r s = true → r.p 16 1 ≤ 2 → r.p 17 1 ≤ 2 → r.p 18 1 ≤ 127 → r.p 19 1 < 2 →
      -100000 ≤ ofTwos 32 (r.p 20 4) → ofTwos 32 (r.p 20 4) ≤ 100000 → (r.p 16 1 = 2 ∨ r.p 24 6 = 0) → r.z 30 = true →
      ∃ t, exec (.timeConfig r) s = .next t ∧ Completed r s t 0 t.ast.st.code 0
        ∧ t.ast.mode = r.p 16 1 ∧ t.ast.transport = r.p 17 1 ∧ t.ast.domain = r.p 18 1
        ∧ (t.ast.preferB = true ↔ r.p 19 1 = 1) ∧ t.ast.ppsDelay = ofTwos 32 (r.p 20 4) ∧ t.ast.seconds = r.p 24 6
        ∧ t.ast.st = s.ast.st ∧ t.ast.raw = s.ast.raw
        ∧ (r.p 16 1 ≠ s.ast.mode ∨ r.p 17 1 ≠ s.ast.transport ∨ r.p 18 1 ≠ s.ast.domain
            ∨ ¬(r.p 19 1 = 1 ↔ s.ast.preferB = true) →
          t.ast.masterChanges = satInc 16 s.ast.masterChanges ∧ bit t.ast.events 4 = true ∧ t.ast.master = 0
          ∧ t.ast.lockCount = 0)
        ∧ Silent s t ∧ Quiet r s t ∧ t = { s with hif := t.hif, bnc := t.bnc, out := t.out, ast := t.ast })
  ∧ (∀ (r : Req) (s : State), accepts 0x0703 r s = true → r.p 16 1 ≤ 2 → r.p 17 1 ≤ 2 → r.p 18 1 ≤ 127 →
      2 ≤ r.p 19 1 → r.p 19 1 < 4 → -100000 ≤ ofTwos 32 (r.p 20 4) → ofTwos 32 (r.p 20 4) ≤ 100000 →
      (r.p 16 1 = 2 ∨ r.p 24 6 = 0) → r.z 30 = true → (s.ast.master = 0 ∨ s.ast.measured = false) →
      ∃ t, exec (.timeConfig r) s = .next t ∧ Completed r s t 0x0303 6 0 ∧ Silent s t ∧ Quiet r s t
        ∧ t = { s with hif := t.hif, bnc := t.bnc, out := t.out }))
  ∧ ((∀ (r : Req) (k : Nat) (s : State), accepts 0x0704 r s = true → r.p 16 1 ≤ 15 → r.p 17 1 = k → (k = 1 ∨ k = 2) →
      (k = 2 → s.hasRegion (r.p 18 1) = true) → (k = 1 → r.p 18 1 = 0) → zeroAt r.inl 3 1 = true →
      r.p 26 4 ≤ 999999999 → zeroAt r.inl 14 2 = true → r.z 44 = true →
      (r.p 32 8 = 0 ∧ r.p 40 4 = 1 ∨ k = 1 ∧ 10000 ≤ r.p 32 8 ∧ r.p 32 8 ≤ 1000000000000
        ∨ k = 2 ∧ 1000000 ≤ r.p 32 8 ∧ r.p 32 8 ≤ 3600000000000) →
      s.ns ≤ r.p 20 6 * 1000000000 + r.p 26 4 →
      ∃ t, exec (.triggerSet r) s = .next t
        ∧ Completed r s t 0 (time48 (r.p 20 6 * 1000000000 + r.p 26 4)) 0
        ∧ t.trig (r.p 16 1) = ⟨k, r.p 18 1, r.p 20 6 * 1000000000 + r.p 26 4, r.p 32 8, r.p 40 4, 0, 0,
            (s.trig (r.p 16 1)).skipped, true⟩
        ∧ (∀ i, i ≠ r.p 16 1 → t.trig i = s.trig i) ∧ Silent s t ∧ Quiet r s t
        ∧ t = { s with hif := t.hif, bnc := t.bnc, out := t.out, ast := { s.ast with trig := t.ast.trig } })
  ∧ (∀ (i : Fin 16) (s : State), (s.trig i).kind = 1 → (s.trig i).active = true →
      s.bnc.lastLatch ≠ some (s.advanceTo (s.trig i).nextAt).time16 →
      ∃ t v, exec (.counterSnapshotTrigger i) s = .next t ∧ (s.trig i).nextAt ≤ t.ns
        ∧ t.trig i = { (s.trig i).used with fired := ((s.trig i).fired + 1) % 2 ^ 32 }
        ∧ t.bnc.latched = s.bnc.latched ++ [⟨0, t.time16, 1, i, v, false⟩]
        ∧ (∀ k c, s.bnc.ctr.find k = some c → c.selected = true → v.find k = some (c.owner, c.value))
        ∧ t.bnc.ctr = s.bnc.ctr ∧ (∀ j, j ≠ i.val → t.trig j = s.trig j))
  ∧ (∀ (i : Fin 16) (s : State), (s.trig i).kind = 2 → (s.trig i).active = true →
      (s.region (s.trig i).region).running = false → s.paused = false → (s.region (s.trig i).region).hold = false →
      ∃ t, exec (.sextantSweepTrigger i) s = .next t
        ∧ t.trig i = { (s.trig i).used with fired := ((s.trig i).fired + 1) % 2 ^ 32 }
        ∧ (t.region (s.trig i).region).running = true ∧ (t.region (s.trig i).region).started = t.ns
        ∧ (∀ k, k ≠ (s.trig i).region → t.region k = s.region k)
        ∧ t = { s with ast := { s.ast with raw := t.ast.raw, trig := t.ast.trig }, sxt := { s.sxt with region := t.sxt.region } })
  ∧ (∀ (i : Fin 16) (s : State), (s.trig i).kind = 2 → (s.trig i).active = true →
      ((s.region (s.trig i).region).running = true ∨ s.paused = true) →
      ∃ t, exec (.sextantSweepTrigger i) s = .next t
        ∧ t.trig i = { (s.trig i).used with skipped := ((s.trig i).skipped + 1) % 2 ^ 32 } ∧ bit t.ast.events 9 = true
        ∧ t.sxt = s.sxt)
  ∧ (∀ (i : Fin 16) (s : State),
      ((s.trig i).kind ≠ 1 ∨ (s.trig i).active = false → exec (.counterSnapshotTrigger i) s = .next s)
      ∧ ((s.trig i).kind ≠ 2 ∨ (s.trig i).active = false → exec (.sextantSweepTrigger i) s = .next s)))

/-- Counters (R382, R383, R385, R387): CTR_SELECT binds the counters its entries name, from 0, or frees them, and returns how
many are left; a counter of an instance another slice owns is refused; CTR_SNAPSHOT latches every selected counter and
waits; the oldest latched snapshot is written with the next epoch, and the command that waits for it completes with it. -/
def Obligations.CountersAndSnapshots : Prop :=
  (∀ (r : Req) (n : Nat) (s : State), accepts 0x0801 r s = true → n = r.b 0 2 → 1 ≤ n → n ≤ 8192 →
      zeroAt r.params 2 6 = true → r.b 8 8 = 0 →
      (∀ i, i < n → (ctrEntry r.params i).counter < 8192 ∧ (ctrEntry r.params i).action ≤ 1
        ∧ zeroAt r.params (22 + 16 * i) 2 = true ∧ zeroAt r.params (28 + 16 * i) 4 = true
        ∧ (∀ j, j < i → (ctrEntry r.params j).counter ≠ (ctrEntry r.params i).counter)
        ∧ (ctrEntry r.params i).source < 4096
        ∧ ((ctrEntry r.params i).action = 0 → srcDefined (ctrEntry r.params i).source = true
          ∧ (ctrEntry r.params i).owner = 0 ∧ (ctrEntry r.params i).inst ≤ srcMax (ctrEntry r.params i).source)) →
      ∃ t w, exec (.ctrSelect r) s = .next t ∧ Completed r s t 0 n w
        ∧ (∀ i, i < n → (ctrEntry r.params i).action = 0 → t.bnc.ctr.find (ctrEntry r.params i).counter
            = some ⟨(ctrEntry r.params i).source, 0, true, false, (ctrEntry r.params i).inst, 0⟩)
        ∧ (∀ i, i < n → (ctrEntry r.params i).action = 1 → t.bnc.ctr.find (ctrEntry r.params i).counter = none)
        ∧ (∀ k, (∀ i, i < n → (ctrEntry r.params i).counter ≠ k) → t.bnc.ctr.find k = s.bnc.ctr.find k)
        ∧ Silent s t
        ∧ t = { s with hif := t.hif, out := t.out
                       bnc := { s.bnc with ctr := t.bnc.ctr, trace := t.bnc.trace, events := t.bnc.events } })
  ∧ (∀ (r : Req) (s : State), accepts 0x0801 r s = true → r.b 0 2 = 1 → zeroAt r.params 2 6 = true → r.b 8 8 = 0 →
      (ctrEntry r.params 0).counter < 8192 → (ctrEntry r.params 0).action = 0 → zeroAt r.params 22 2 = true →
      zeroAt r.params 28 4 = true → (ctrEntry r.params 0).source < 4096 → srcDefined (ctrEntry r.params 0).source = true →
      (ctrEntry r.params 0).inst ≤ srcMax (ctrEntry r.params 0).source → (ctrEntry r.params 0).owner < 64 →
      (ctrEntry r.params 0).owner ≠ 0 → srcScope (ctrEntry r.params 0).source = 2 →
      s.owner (ctrEntry r.params 0).inst ≠ (ctrEntry r.params 0).owner →
      ∃ t, exec (.ctrSelect r) s = .next t ∧ Completed r s t 0x0401 0 0 ∧ Silent s t ∧ Quiet r s t
        ∧ t = { s with hif := t.hif, bnc := t.bnc, out := t.out })
  ∧ (∀ (r : Req) (s : State), accepts 0x0802 r s = true → r.z 16 = true →
      (∀ a, s.bnc.lastLatch = some a → a + 10000 * 2 ^ 16 ≤ s.time16) →
      ∃ t v e, exec (.ctrSnapshot r) s = .next t ∧ t.bnc.latched = s.bnc.latched ++ [⟨0, s.time16, 0, r.fn, v, false⟩]
        ∧ (∀ k c, s.bnc.ctr.find k = some c → c.selected = true → v.find k = some (c.owner, c.value))
        ∧ Waits 0x0802 r t (.snapshot s.time16) ∧ t.hif = { s.hif with execs := s.hif.execs ++ [e] } ∧ t.out = s.out
        ∧ t.bnc.ctr = s.bnc.ctr ∧ t.topo = s.topo)
  ∧ (∀ (x : Snap) (rest : List Snap) (s : State), s.bnc.latched = x :: rest → s.bnc.snaps.length < 2048 →
      (∀ e ∈ s.hif.execs, e.wait ≠ .snapshot x.time16) →
      exec .snapshotWritten s = .next { s with bnc := { s.bnc with
        latched := rest, epoch := (s.bnc.epoch + 1) % 2 ^ 64
        snaps := s.bnc.snaps ++ [{ x with epoch := (s.bnc.epoch + 1) % 2 ^ 64 }] } })
  ∧ (∀ (x : Snap) (rest : List Snap) (e : Exec) (s : State), s.bnc.latched = x :: rest →
      s.hif.execs.filter (fun e => e.wait == .snapshot x.time16) = [e] → e.discard = false → e.dma = .ok →
      (s.ring e.fn e.ring).st ≠ .disabled →
      ∃ t c, exec .snapshotWritten s = .next t ∧ t.out = s.out ++ [.completion e.fn e.ring (s.ring e.fn e.ring).cplIndex c]
        ∧ c.status = 0 ∧ c.tag = e.tag % 2 ^ 32 ∧ c.word0 = (s.bnc.epoch + 1) % 2 ^ 64
        ∧ c.word1 = time48 (x.time16 / 2 ^ 16) ∧ t.hif.execs = s.hif.execs.erase e ∧ t.bnc.latched = rest)
  ∧ (∀ s : State, s.bnc.latched = [] → exec .snapshotWritten s = .next s)

/-- The trace (R389, R390, R392 to R398): TRACE_CONFIG and TRACE_ARM work on a DISARMED or STOPPED trace only; a record takes
the next SEQ and enters the stage; the trigger fires once, with event 1, and stops the ring or opens the post area;
TRACE_STOP, a full ring and the full post area stop it with event 2; TRACE_QUERY returns state and counts. -/
def Obligations.TraceRing : Prop :=
  (∀ (r : Req) (mode mib post : Nat) (s : State), accepts 0x0803 r s = true → mode = r.b 0 1 → mode ≤ 2 →
      mib = (if r.b 2 2 = 0 then 512 else r.b 2 2) → post = r.b 28 4 → zeroAt r.params 1 1 = true → 64 ≤ mib →
      mib ≤ 8192 → mib % 64 = 0 → r.b 4 2 % 2 = 0 → r.b 4 2 < 256 → zeroAt r.params 6 2 = true → r.b 16 4 ≤ 1000000 →
      (r.b 20 4 = 0 ∨ 1000 ≤ r.b 20 4 ∧ r.b 20 4 ≤ 1000000000) →
      (mode = 2 ∧ 1 ≤ post ∧ post + 1024 ≤ mainCap mib ∨ mode ≠ 2 ∧ post = 0) → zeroAt r.params 32 32 = true →
      (s.bnc.trace.st = 0 ∨ s.bnc.trace.st = 3) → snapArea + mib * 2 ^ 20 + s.hbmQuotas ≤ s.hbmBytes →
      ∃ t, exec (.traceConfig r) s = .next t ∧ Completed r s t 0 0 0
        ∧ t.bnc.trace = { s.bnc.trace with
            mode := mode, ringMib := mib, typeMask := r.b 4 2, sliceMask := r.b 8 8, waitMin := r.b 16 4
            pcPeriod := r.b 20 4, pcCores := r.b 24 4, postRecords := post }
        ∧ Silent s t ∧ t = { s with hif := t.hif, out := t.out, bnc := { s.bnc with trace := t.bnc.trace } })
  ∧ (∀ (r : Req) (s : State), accepts 0x0804 r s = true → r.p 16 1 ≤ 5 → r.p 18 1 < 64 → zeroAt r.inl 3 5 = true →
      r.z 32 = true → (s.bnc.trace.st = 0 ∨ s.bnc.trace.st = 3) →
      ∃ t, exec (.traceArm r) s = .next t ∧ Completed r s t 0 (mainCap s.bnc.trace.ringMib) 0 ∧ t.bnc.trace.st = 1
        ∧ t.bnc.trace.held = [] ∧ t.bnc.trace.dropTotal = 0 ∧ t.bnc.trace.trigKind = r.p 16 1
        ∧ t.bnc.trace.mode = s.bnc.trace.mode ∧ Silent s t
        ∧ t = { s with hif := t.hif, out := t.out, bnc := { s.bnc with trace := t.bnc.trace, events := t.bnc.events } })
  ∧ (∀ (r : Req) (s : State), accepts 0x0804 r s = true → r.p 16 1 ≤ 5 → r.p 18 1 < 64 → zeroAt r.inl 3 5 = true →
      r.z 32 = true → (s.bnc.trace.st = 1 ∨ s.bnc.trace.st = 2) →
      ∃ t, exec (.traceArm r) s = .next t ∧ Completed r s t 0x0301 s.bnc.trace.st 0 ∧ Silent s t ∧ Quiet r s t
        ∧ t = { s with hif := t.hif, bnc := t.bnc, out := t.out })
  ∧ (∀ (typ : Fin 16) (n : Fin 64) (d : Fin 13) (stretch : Bool) (body : Bytes) (s : State),
      (s.bnc.trace.st = 1 ∨ s.bnc.trace.st = 2) → s.bnc.trace.wants typ n = true → stageDrops s.bnc.trace.stage.length typ = false →
      3 ≤ typ.val → typ.val ≤ 13 →
      ∃ t e, exec (.traceRecord typ n d stretch body) s = .next t ∧ t.bnc.trace.stage = s.bnc.trace.stage ++ [e]
        ∧ e.typ = typ.val ∧ e.slice = n.val ∧ e.seq = s.bnc.trace.seq ∧ e.body = padTo 16 body
        ∧ t.bnc.trace.seq = (s.bnc.trace.seq + 1) % 2 ^ 32 ∧ t = { s with bnc := { s.bnc with trace := t.bnc.trace } })
  ∧ (∀ (typ : Fin 16) (n : Fin 64) (d : Fin 13) (stretch : Bool) (body : Bytes) (s : State),
      (s.bnc.trace.st = 1 ∨ s.bnc.trace.st = 2) → s.bnc.trace.wants typ n = true → stageDrops s.bnc.trace.stage.length typ = true →
      3 ≤ typ.val → typ.val ≤ 13 →
      ∃ t, exec (.traceRecord typ n d stretch body) s = .next t ∧ t.bnc.trace.stage = s.bnc.trace.stage
        ∧ t.bnc.trace.seq = (s.bnc.trace.seq + 1) % 2 ^ 32 ∧ t.bnc.trace.drops.get typ 0 = satInc 48 (s.bnc.trace.drops.get typ 0)
        ∧ bit t.bnc.events 0 = true ∧ t = { s with bnc := { s.bnc with trace := t.bnc.trace, events := t.bnc.events } })
  ∧ (∀ (seq : Nat) (s : State), s.bnc.trace.st = 1 → s.bnc.trace.trigKind ≠ 0 →
      ∃ t, exec (.traceTriggered seq) s = .next t ∧ t.bnc.trace.st = (if s.bnc.trace.mode = 2 then 2 else 3)
        ∧ t.bnc.trace.trigSeq = seq % 2 ^ 32 ∧ bit t.bnc.events 1 = true ∧ t.log.created = s.log.created + 1
        ∧ t = { s with bnc := { s.bnc with trace := t.bnc.trace, events := t.bnc.events }, log := t.log })
  ∧ (∀ (seq : Nat) (s : State), (s.bnc.trace.st ≠ 1 ∨ s.bnc.trace.trigKind = 0) → exec (.traceTriggered seq) s = .next s)
  ∧ (∀ s : State, (s.bnc.trace.st = 1 ∧ s.bnc.trace.mode = 1 ∧ s.bnc.trace.stage ≠ []
        ∧ mainCap s.bnc.trace.ringMib ≤ s.bnc.trace.main.length
        ∨ s.bnc.trace.st = 2 ∧ s.bnc.trace.postRecords ≤ s.bnc.trace.post.length) →
      ∃ t, exec .traceRingFull s = .next t ∧ t.bnc.trace.st = 3 ∧ bit t.bnc.events 2 = true
        ∧ 2 ≤ t.bnc.trace.final.length ∧ t.bnc.trace.final.length ≤ 16
        ∧ t = { s with bnc := { s.bnc with trace := t.bnc.trace, events := t.bnc.events } })
  ∧ (∀ s : State, s.bnc.trace.st = 1 → s.bnc.trace.mode ≠ 1 → exec .traceRingFull s = .next s)
  ∧ (∀ (n : Nat) (s : State), s.bnc.trace.dropCount = 0 →
      ∃ t, exec (.traceStageDrain n) s = .next t ∧ t.bnc.trace.stage.length ≤ s.bnc.trace.stage.length
        ∧ (s.bnc.trace.mode = 0 → 1 ≤ mainCap s.bnc.trace.ringMib → t.bnc.trace.stage = s.bnc.trace.stage.drop n)
        ∧ t.bnc.trace.seq = s.bnc.trace.seq ∧ t = { s with bnc := { s.bnc with trace := t.bnc.trace } })
  ∧ (∀ (r : Req) (s : State), accepts 0x0805 r s = true → r.z 16 = true → (s.bnc.trace.st = 1 ∨ s.bnc.trace.st = 2) →
      ∃ t, exec (.traceStop r) s = .next t ∧ Completed r s t 0 t.bnc.trace.held.length 0 ∧ t.bnc.trace.st = 3
        ∧ bit t.bnc.events 2 = true ∧ Silent s t
        ∧ t = { s with hif := t.hif, out := t.out, bnc := { s.bnc with trace := t.bnc.trace, events := t.bnc.events } })
  ∧ (∀ (r : Req) (s : State), accepts 0x0806 r s = true → r.p 20 4 ≤ 32768 → r.p 24 8 % 32 = 0 → r.z 32 = true →
      s.bnc.trace.st = 3 → r.p 16 4 + r.p 20 4 ≤ s.bnc.trace.held.length → (r.p 20 4 = 0 ∨ r.p 24 8 ≠ 0) →
      ∃ t, exec (.traceQuery r) s = .next t
        ∧ Completed r s t 0 (3 + 16 * s.bnc.trace.mode + s.bnc.trace.held.length * 2 ^ 32)
            (r.p 20 4 + s.bnc.trace.dropTotal * 2 ^ 32)
        ∧ (r.p 20 4 = 0 → Silent s t)
        ∧ (r.p 20 4 ≠ 0 → ∃ b, Writes (r.p 24 8) b s t ∧ b.length = 32 * r.p 20 4)
        ∧ Quiet r s t ∧ t = { s with hif := t.hif, bnc := t.bnc, out := t.out })

/-- The Logline (R401, R408 to R413): an entry takes the next SEQ and goes into the recorder, or waits while cluster 3 is
halted, a full recorder losing its oldest entry of lower severity or the new one; the journal takes the oldest queued entry,
with one retry; LOG_READ returns the entries asked for, LOG_NONCE a new nonce; LOG_CLEAR empties the recorder and leaves
one NOTICE; an error in the region in use moves the recorder to its standby region, then to beacon mode. -/
def Obligations.LoglineRecorder : Prop :=
  (∀ (sev : Fin 7) (n : Fin 64) (event agent : Nat) (args : List Nat) (s : State), (sev.val ≠ 0 ∨ s.mod = .maintenance) →
      ∃ t e, exec (.loglineEntry sev n event agent args) s = .next t ∧ e.seq = s.log.seq ∧ e.sev = sev.val
        ∧ e.slice = n.val ∧ e.event = event % 2 ^ 16 ∧ e.agent = agent % 2 ^ 32 ∧ e.args = args.take 4 ∧ e.time = s.ns
        ∧ t.log.seq = (s.log.seq + 1) % 2 ^ 32 ∧ t.log.created = s.log.created + 1
        ∧ (s.clusterHalted 3 = false → s.log.entries.length < logCap s.log.mode → t.log.entries = s.log.entries ++ [e])
        ∧ (s.clusterHalted 3 = false → logCap s.log.mode ≤ s.log.entries.length → (∀ x ∈ s.log.entries, sev.val ≤ x.sev) →
            t.log.entries = s.log.entries ∧ t.log.lost.get sev 0 = satInc 32 (s.log.lost.get sev 0) ∧ bit t.log.events 4 = true)
        ∧ (s.clusterHalted 3 = true → t.log.entries = s.log.entries)
        ∧ (s.clusterHalted 3 = true → s.log.hwq.length < 4096 → t.log.hwq = s.log.hwq ++ [e])
        ∧ t = { s with log := t.log })
  ∧ (∀ (n : Fin 64) (event agent : Nat) (args : List Nat) (s : State), s.mod ≠ .maintenance →
      exec (.loglineEntry 0 n event agent args) s = .next s)
  ∧ (∀ (ok : Bool) (s : State), s.log.jqueue = [] → exec (.journalWrite ok) s = .next s)
  ∧ (∀ (e : LogEntry) (tries : Nat) (rest : List (LogEntry × Nat)) (s : State), s.log.jqueue = (e, tries) :: rest →
      s.log.journal.length < 262144 →
      ∃ t, exec (.journalWrite true) s = .next t ∧ t.log.jqueue = rest
        ∧ t.log.journal = s.log.journal ++ [{ e with journaled := true }]
        ∧ t.log.entries = s.log.entries.map (fun x => if x.seq = e.seq then { x with journaled := true } else x)
        ∧ t = { s with log := t.log })
  ∧ (∀ (e : LogEntry) (rest : List (LogEntry × Nat)) (s : State), s.log.jqueue = (e, 0) :: rest →
      exec (.journalWrite false) s = .next { s with log := { s.log with
        writeFails := satInc 16 s.log.writeFails, jqueue := (e, 1) :: rest } })
  ∧ (∀ (e : LogEntry) (rest : List (LogEntry × Nat)) (s : State), s.log.jqueue = (e, 1) :: rest →
      ∃ t, exec (.journalWrite false) s = .next t ∧ (s.log.mode ≠ 2 → t.log.jqueue = rest) ∧ bit t.log.events 3 = true
        ∧ t.log.writeFails = satInc 16 s.log.writeFails ∧ t.log.journal = s.log.journal
        ∧ (s.log.jFailAt = none → t.log.created = s.log.created + 1 ∧ t.log.jFailAt = some s.ns)
        ∧ (∀ a, s.log.jFailAt = some a → s.ns < a + 3600000000000 → t.log.created = s.log.created))
  ∧ (∀ (addr : Nat) (s : State), s.log.mode < 2 →
      ∃ t, exec (.recorderStandby addr) s = .next t ∧ t.log.mode = s.log.mode + 1 ∧ bit t.log.events s.log.mode = true
        ∧ t.log.created = s.log.created + 1 ∧ t.log.journal = s.log.journal
        ∧ (s.clusterHalted 3 = false → t.log.entries.length = 1) ∧ t = { s with log := t.log })
  ∧ (∀ (addr : Nat) (s : State), s.log.mode = 2 → exec (.recorderStandby addr) s = .next s)
  ∧ (∀ (r : Req) (want : List LogEntry) (s : State), accepts 0x0901 r s = true → r.b 0 1 = 0 → r.b 1 1 ≤ 6 →
      zeroAt r.params 2 2 = true → 64 ≤ r.b 8 4 → r.b 8 4 ≤ 1048576 → r.b 8 4 % 64 = 0 → zeroAt r.params 12 4 = true →
      r.b 16 8 % 64 = 0 → zeroAt r.params 24 8 = true →
      want = (s.log.entries.filter (fun e => decide (r.b 4 4 ≤ e.seq) && decide (r.b 1 1 ≤ e.sev))).take (r.b 8 4 / 64) →
      want ≠ [] →
      ∃ t w0 w1 b, exec (.logRead r) s = .next t ∧ Completed r s t 0 w0 w1 ∧ bits w0 0 32 = want.length
        ∧ Writes (r.b 16 8) b s t ∧ b.length = 64 * want.length ∧ (t.fnb r.fn).logMark = s.log.created
        ∧ t.log = s.log ∧ t.topo = s.topo)
  ∧ (∀ (r : Req) (s : State), accepts 0x0902 r s = true → r.z 16 = true →
      ∃ t a b, exec (.logNonce r) s = .next t ∧ Completed r s t 0 a b ∧ a < 2 ^ 64 ∧ b < 2 ^ 64
        ∧ t.log = { s.log with nonce := some (a + b * 2 ^ 64, s.ns) } ∧ Silent s t ∧ Quiet r s t
        ∧ t = { s with hif := t.hif, bnc := t.bnc, out := t.out, log := t.log, free := t.free })
  ∧ (∀ (r : Req) (s : State), accepts 0x0903 r s = true → r.b 0 1 = 0 → zeroAt r.params 1 7 = true →
      s.clusterHalted 3 = false →
      ∃ t e, exec (.logClear r) s = .next t ∧ Completed r s t 0 s.log.entries.length 0 ∧ t.log.entries = [e]
        ∧ e.event = 0x0A01 ∧ e.seq = s.log.seq ∧ e.sev = 2 ∧ t.log.journal = s.log.journal ∧ t.log.nonce = none
        ∧ t.log.lost = [] ∧ bit t.log.events 2 = true ∧ Silent s t)

/-- Calibration runs (R360 to R363, R374): a region starts when its temperature has left the last run's by more than its
limit, when a rerun is due, or on CAL_RUN, which waits if asked; a dark pass of a laser in a dark window counts, one cut
short does not; past the deadline its port is taken; a run whose passes agree accepts every table, one whose temperature
moved by more than 0.5 °C rejects them, sets event 0 and runs again after 60 s, and DEGRADED follows the third.
Corrections, the store and the settings (R364 to R366, R373, R375, R376): a commit outside a pause puts the accepted
record into the working table; a store write replaces the older run record, one that fails is tried once more and then
dropped with event 4 and one ERROR; CAL_GET writes the record named; CAL_CONFIG changes the settings given; CAL_QUERY
returns the region's. -/
def Obligations.CalibrationRunsAndStore : Prop :=
  ((∀ (g : Fin 32) (temp : Int) (s : State), s.hasRegion g = true →
      ∃ t, exec (.calTemperatureTrigger g temp) s = .next t ∧ (t.region g).tempNow = satSigned 16 temp
        ∧ ((s.region g).hold = false ∧ s.calPaused = false ∧ 10 * (s.region g).deltaT < (temp - (s.region g).tempRun).natAbs →
            (t.region g).running = true ∧ ((s.region g).running = false → (t.region g).started = s.ns
              ∧ (t.region g).passes = [] ∧ (t.region g).rerunAt = none))
        ∧ (((s.region g).hold = true ∨ s.calPaused = true
              ∨ (temp - (s.region g).tempRun).natAbs ≤ 10 * (s.region g).deltaT) →
            t.region g = { s.region g with tempNow := satSigned 16 temp })
        ∧ (∀ k, k ≠ g.val → t.region k = s.region k) ∧ t = { s with sxt := { s.sxt with region := t.sxt.region } })
  ∧ (∀ (g : Fin 32) (temp : Int) (s : State), s.hasRegion g = false → exec (.calTemperatureTrigger g temp) s = .next s)
  ∧ (∀ (g : Fin 32) (a : Nat) (s : State), (s.region g).rerunAt = some a → s.calPaused = false → s.hasRegion g = true →
      (s.region g).running = false →
      ∃ t, exec (.calRerun g) s = .next t ∧ a ≤ t.ns ∧ (t.region g).running = true ∧ (t.region g).started = t.ns
        ∧ (t.region g).rerunAt = none ∧ (∀ k, k ≠ g.val → t.region k = s.region k)
        ∧ t = { s with ast := { s.ast with raw := t.ast.raw }, sxt := { s.sxt with region := t.sxt.region } })
  ∧ (∀ (g : Fin 32) (s : State), ((s.region g).rerunAt = none ∨ s.calPaused = true) → exec (.calRerun g) s = .next s)
  ∧ (∀ (l : Fin 72) (s : State), s.calPaused = false → s.needsPass l = true → s.takeOf l = none → s.darkWindow l = true →
      ∃ t, exec (.darkPass l false) s = .next t ∧ (t.region (regionOf l)).passes.get l 0 = (s.region (regionOf l)).passes.get l 0 + 1
        ∧ (∀ k, k ≠ regionOf l → t.region k = s.region k) ∧ t = { s with sxt := { s.sxt with region := t.sxt.region } })
  ∧ (∀ (l : Fin 72) (k : Take) (s : State), s.calPaused = false → s.needsPass l = true → s.takeOf l = some k →
      (s.standingPorts k.slice).contains k.port = true → (s.region (regionOf l)).passes.get l 0 = 1 →
      ∃ t, exec (.darkPass l false) s = .next t ∧ (t.region (regionOf l)).passes.get l 0 = 2
        ∧ t.sxt.takes = s.sxt.takes.erase k ∧ bit t.sxt.events 1 = true
        ∧ t = { s with sxt := { s.sxt with region := t.sxt.region, takes := t.sxt.takes, events := t.sxt.events } })
  ∧ (∀ (l : Fin 72) (s : State), exec (.darkPass l true) s = .next s)
  ∧ (∀ (l : Fin 72) (cut : Bool) (s : State), (s.calPaused = true ∨ s.needsPass l = false) → exec (.darkPass l cut) s = .next s)
  ∧ (∀ (l : Fin 72) (p n due : Nat) (s : State), s.servedBy l = some p → n = s.owner (refG p) → n ≠ 0 → s.calPaused = false →
      s.needsPass l = true → (∀ k ∈ s.sxt.takes, k.laser ≠ l.val) → s.darkWindow l = false → s.passagesOf n = [] →
      due = (s.region (regionOf l)).started + (s.region (regionOf l)).deadline * 1000000000 →
      ∃ t, exec (.calDeadline l) s = .next t ∧ due ≤ t.ns ∧ t.sxt.takes = s.sxt.takes ++ [⟨regionOf l, l, p, n, due, none, false⟩]
        ∧ t = { s with ast := { s.ast with raw := t.ast.raw }, sxt := { s.sxt with takes := t.sxt.takes } })
  ∧ (∀ (l : Fin 72) (s : State), (s.servedBy l = none ∨ s.calPaused = true ∨ s.needsPass l = false ∨ s.darkWindow l = true) →
      exec (.calDeadline l) s = .next s)
  ∧ (∀ (g : Fin 32) (tables : List (Nat × Bool)) (temp : Int) (moved : Nat) (s : State), s.hasRegion g = true →
      s.calPaused = false → (s.region g).running = true → (s.region g).sweep = false → (lasersOf g).any s.needsPass = false →
      moved ≤ 50 → (∀ τ ∈ tablesOf g, (τ, true) ∈ tables) →
      ∃ t, exec (.calRunJudged g tables temp moved) s = .next t ∧ (t.region g).running = false
        ∧ (t.region g).tempRun = satSigned 16 temp ∧ (t.region g).lastS = s.secs ∧ (t.region g).bad = 0
        ∧ (t.region g).degraded = false ∧ (t.region g).rerunAt = none ∧ t.sxt.working = s.sxt.working
        ∧ (∀ τ ∈ tablesOf g, ∃ c, t.sxt.writes.find (tableKey g τ) = some (c, 0, 0) ∧ (t.region g).pending.find τ = some c
            ∧ c.seq = s.lastSeq g τ + 1 ∧ c.temp = satSigned 16 temp)
        ∧ (∀ k, k ≠ g.val → t.region k = s.region k))
  ∧ (∀ (g : Fin 32) (tables : List (Nat × Bool)) (temp : Int) (moved : Nat) (s : State), s.hasRegion g = true →
      s.calPaused = false → (s.region g).running = true → (lasersOf g).any s.needsPass = false → 50 < moved →
      ∃ t, exec (.calRunJudged g tables temp moved) s = .next t ∧ (t.region g).running = false
        ∧ (t.region g).rerunAt = some (s.ns + 60000000000) ∧ (t.region g).bad = (s.region g).bad + 1
        ∧ (t.region g).rejected = satAdd 16 (s.region g).rejected (tablesOf g).length ∧ bit t.sxt.events 0 = true
        ∧ ((s.region g).bad = 2 → (t.region g).degraded = true)
        ∧ ((s.region g).bad = 2 → (s.region g).degraded = false → bit t.sxt.events 2 = true ∧ s.log.created < t.log.created)
        ∧ t.sxt.working = s.sxt.working ∧ t.sxt.writes = s.sxt.writes)
  ∧ (∀ (g : Fin 32) (tables : List (Nat × Bool)) (temp : Int) (moved a j : Nat) (e : Exec) (s : State),
      s.hasRegion g = true → s.calPaused = false → (s.region g).running = true → (lasersOf g).any s.needsPass = false →
      50 < moved → s.hif.execs = [e] → e.wait = .calRun [g.val] a j → e.discard = false → e.dma = .ok →
      (s.ring e.fn e.ring).st ≠ .disabled →
      ∃ t c, exec (.calRunJudged g tables temp moved) s = .next t
        ∧ t.out = s.out ++ [.completion e.fn e.ring (s.ring e.fn e.ring).cplIndex c] ∧ c.status = 0
        ∧ c.word0 = a % 2 ^ 64 ∧ c.word1 = (j + (tablesOf g).length) % 2 ^ 64 ∧ t.hif.execs = [])
  ∧ (∀ (r : Req) (rs : List Nat) (s : State), accepts 0x0602 r s = true → (r.p 16 1 = 0xFF ∨ s.hasRegion (r.p 16 1) = true) →
      r.p 17 1 ≤ 1 → r.z 18 = true → rs = (if r.p 16 1 = 0xFF then s.regions else [r.p 16 1]) →
      (∀ x ∈ rs, (s.region x).hold = false ∧ (s.region x).running = false) →
      ∃ t, exec (.calRun r) s = .next t
        ∧ (∀ x ∈ rs, (t.region x).running = true ∧ (t.region x).started = s.ns ∧ (t.region x).passes = [])
        ∧ (∀ k, k ∉ rs → t.region k = s.region k)
        ∧ (r.p 17 1 = 0 → Completed r s t 0 rs.length 0 ∧ Silent s t ∧ Quiet r s t)
        ∧ (r.p 17 1 = 1 → Waits 0x0602 r t (.calRun rs 0 0) ∧ t.out = s.out)
        ∧ t = { s with hif := t.hif, bnc := t.bnc, out := t.out, sxt := { s.sxt with region := t.sxt.region } })
  ∧ (∀ (r : Req) (s : State), accepts 0x0602 r s = true → s.hasRegion (r.p 16 1) = true → r.p 16 1 ≠ 0xFF →
      r.p 17 1 ≤ 1 → r.z 18 = true → (s.region (r.p 16 1)).hold = false → (s.region (r.p 16 1)).running = true →
      ∃ t, exec (.calRun r) s = .next t ∧ Completed r s t 0x0601 (r.p 16 1) 0 ∧ Silent s t ∧ Quiet r s t
        ∧ t = { s with hif := t.hif, bnc := t.bnc, out := t.out }))
  ∧ ((∀ (g : Fin 32) (τ : Fin 16) (c : CalRec) (s : State), (s.region g).pending.find τ = some c → s.paused = false →
      ∃ t, exec (.correctionCommit g τ) s = .next t ∧ t.sxt.working.find (tableKey g τ) = some c
        ∧ (t.region g).pending.find τ = none
        ∧ (∀ k, k ≠ tableKey g τ → t.sxt.working.find k = s.sxt.working.find k)
        ∧ t = { s with sxt := { s.sxt with region := t.sxt.region, working := t.sxt.working } })
  ∧ (∀ (g : Fin 32) (τ : Fin 16) (s : State), ((s.region g).pending.find τ = none ∨ s.paused = true) →
      exec (.correctionCommit g τ) s = .next s)
  ∧ (∀ (g : Fin 32) (τ : Fin 16) (c : CalRec) (n a : Nat) (s : State), s.sxt.writes.find (tableKey g τ) = some (c, n, a) →
      ∃ t k, exec (.calStoreWrite g τ true) s = .next t ∧ k < 2 ∧ t.sxt.store.find (storeKey g τ k) = some c
        ∧ (∀ i, i ≠ storeKey g τ k → t.sxt.store.find i = s.sxt.store.find i)
        ∧ (∀ x y, s.sxt.store.find (storeKey g τ k) = some x → s.sxt.store.find (storeKey g τ (1 - k)) = some y → x.seq ≤ y.seq)
        ∧ t.sxt.writes.find (tableKey g τ) = none ∧ (n ≠ 0 → a + 1000000000 ≤ t.ns)
        ∧ t = { s with ast := { s.ast with raw := t.ast.raw }
                       sxt := { s.sxt with store := t.sxt.store, writes := t.sxt.writes } })
  ∧ (∀ (g : Fin 32) (τ : Fin 16) (c : CalRec) (a : Nat) (s : State), s.sxt.writes.find (tableKey g τ) = some (c, 0, a) →
      ∃ t, exec (.calStoreWrite g τ false) s = .next t ∧ t.sxt.writes.find (tableKey g τ) = some (c, 1, s.ns)
        ∧ t = { s with sxt := { s.sxt with writes := t.sxt.writes } })
  ∧ (∀ (g : Fin 32) (τ : Fin 16) (c : CalRec) (n a : Nat) (s : State), s.sxt.writes.find (tableKey g τ) = some (c, n, a) →
      n ≠ 0 → ∃ t, exec (.calStoreWrite g τ false) s = .next t ∧ t.sxt.writes.find (tableKey g τ) = none
        ∧ bit t.sxt.events 4 = true ∧ t.log.created = s.log.created + 1 ∧ t.sxt.store = s.sxt.store)
  ∧ (∀ (g : Fin 32) (τ : Fin 16) (ok : Bool) (s : State), s.sxt.writes.find (tableKey g τ) = none →
      exec (.calStoreWrite g τ ok) s = .next s)
  ∧ (∀ (r : Req) (τ g copy first n : Nat) (c : CalRec) (s : State), accepts 0x0601 r s = true → τ = r.b 0 1 → g = r.b 1 1 →
      copy = r.b 2 1 → first = r.b 4 4 → n = r.b 8 4 → 1 ≤ τ → τ ≤ 8 → s.hasRegion g = true → τ ∈ tablesOf g → copy ≤ 3 →
      zeroAt r.params 3 1 = true → first < entriesOf g τ → 1 ≤ n → n ≤ 131072 → first + n ≤ entriesOf g τ →
      32 + n * entryBytes τ ≤ r.b 12 4 → r.b 16 8 % 32 = 0 → zeroAt r.params 24 8 = true → s.calCopy g τ copy = some c →
      ∃ t b, exec (.calGet r) s = .next t ∧ Completed r s t 0 n (entriesOf g τ) ∧ Writes (r.b 16 8) b s t
        ∧ b.length = 32 + n * entryBytes τ ∧ le b 0 1 = τ ∧ le b 1 1 = g % 256 ∧ le b 4 4 = c.seq % 2 ^ 32
        ∧ Quiet r s t ∧ t = { s with hif := t.hif, bnc := t.bnc, out := t.out })
  ∧ (∀ (r : Req) (rs : List Nat) (s : State), accepts 0x0603 r s = true → (r.p 16 1 = 0xFF ∨ s.hasRegion (r.p 16 1) = true) →
      (r.p 17 1 = 0 ∨ 5 ≤ r.p 17 1 ∧ r.p 17 1 ≤ 100) → (r.p 18 2 = 0 ∨ 1 ≤ r.p 18 2 ∧ r.p 18 2 ≤ 600) → r.p 20 1 ≤ 3 →
      r.z 21 = true → rs = (if r.p 16 1 = 0xFF then s.regions else [r.p 16 1]) →
      ∃ t, exec (.calConfig r) s = .next t
        ∧ Completed r s t 0 (if r.p 17 1 = 0 ∧ r.p 18 2 = 0 ∧ r.p 20 1 < 2 then 0 else rs.length) 0
        ∧ (∀ x ∈ rs, t.region x = { s.region x with
            deltaT := if r.p 17 1 = 0 then (s.region x).deltaT else r.p 17 1
            deadline := if r.p 18 2 = 0 then (s.region x).deadline else r.p 18 2
            hold := if 2 ≤ r.p 20 1 then bit (r.p 20 1) 0 else (s.region x).hold })
        ∧ (∀ k, k ∉ rs → t.region k = s.region k) ∧ Silent s t ∧ Quiet r s t
        ∧ t = { s with hif := t.hif, bnc := t.bnc, out := t.out, sxt := { s.sxt with region := t.sxt.region } })
  ∧ (∀ (r : Req) (x : Region) (s : State), accepts 0x0604 r s = true → s.hasRegion (r.p 16 1) = true → r.z 17 = true →
      x = s.region (r.p 16 1) → x.deltaT < 256 → x.deadline < 65536 →
      ∃ t w0 w1, exec (.calQuery r) s = .next t ∧ Completed r s t 0 w0 w1
        ∧ bits w0 0 8 = s.regionState (r.p 16 1) ∧ bits w0 8 8 = x.deltaT ∧ bits w0 48 16 = x.deadline
        ∧ bits w1 0 48 = x.lastS % 2 ^ 48 ∧ bits w1 48 16 = min x.rejTotal 65535
        ∧ Silent s t ∧ Quiet r s t ∧ t = { s with hif := t.hif, bnc := t.bnc, out := t.out }))

/-- The thermal loops (R31, R368 to R370): a publication sets power, coolant and the filters, and each engine whose
controller runs has new predictions; the heaters of a terminated engine are recomputed every 10 µs, and a port whose lanes
are all within 3 GHz, or that was held 20 µs, is released; a lapse of publication is one WARNING with event 6; a lane out
of its guard band holds its port to IDLE flits, with event 5, and starts its engine's region. -/
def Obligations.ThermalLoops : Prop :=
  (∀ (power : Nat) (coolant : Int) (s : State), ∃ t, exec (.feedforwardUpdate power coolant) s = .next t
      ∧ t.ns = (s.ns / 10000 + 1) * 10000 ∧ t.sxt.power = min power 65535 ∧ t.sxt.coolant = satSigned 16 coolant
      ∧ t.sxt.stale = false ∧ t.sxt.pf = pfStep s.sxt.pf ((min power 65535 : Nat) / 10)
      ∧ (∀ e i, e < s.fuse.ioDies → i < 256 → (t.sxt.tring.get (256 * e + i) (0, 0, 0)).1
            = (s.sxt.tring.get (256 * e + i) (0, 0, 0)).1
          ∧ (s.gfRuns e = true → (t.sxt.tring.get (256 * e + i) (0, 0, 0)).2.2 = t.predict (1 + e) i)
          ∧ (s.gfRuns e = false → t.sxt.tring.get (256 * e + i) (0, 0, 0) = s.sxt.tring.get (256 * e + i) (0, 0, 0)))
      ∧ (s.gfRuns 5 = true → ∀ h, h < 72 → t.sxt.cff.get h 0 = t.predict 0x0D h)
      ∧ (s.gfRuns 5 = false → t.sxt.cff = s.sxt.cff)
      ∧ t = { s with ast := { s.ast with raw := t.ast.raw }
                     sxt := { s.sxt with
                       power := t.sxt.power, coolant := t.sxt.coolant, stale := false, pf := t.sxt.pf
                       tring := t.sxt.tring, cff := t.sxt.cff } })
  ∧ (∀ (e : Fin 4) (errs : List Int) (s : State), s.gfRuns e = true → e.val < s.fuse.ioDies →
      ∃ t, exec (.terminatedHeaterUpdate e errs) s = .next t ∧ t.ns = (s.ns / 10000 + 1) * 10000
        ∧ (∀ i, i < 256 → t.sxt.tring.get (256 * e + i) (0, 0, 0)
            = ({ s with ast := t.ast }.tringPower e errs i, satSigned 16 (errs.getD i 0),
               (s.sxt.tring.get (256 * e + i) (0, 0, 0)).2.2))
        ∧ (∀ k a, k < 64 → (s.lp (64 * e + k)).ringHold = some a →
            ((∀ l, l < 4 → (satSigned 16 (errs.getD (4 * k + l) 0)).natAbs ≤ 300) ∨ a + 20000 ≤ t.ns) →
            (t.lp (64 * e + k)).ringHold = none)
        ∧ (∀ k a l, k < 64 → (s.lp (64 * e + k)).ringHold = some a → l < 4 → 300 < (satSigned 16 (errs.getD (4 * k + l) 0)).natAbs →
            t.ns < a + 20000 → (t.lp (64 * e + k)).ringHold = some a)
        ∧ (∀ p : Nat, (p < 64 * e ∨ 64 * (e + 1) ≤ p) → t.lp p = s.lp p)
        ∧ t = { s with ast := { s.ast with raw := t.ast.raw }, lnk := { s.lnk with port := t.lnk.port }
                       sxt := { s.sxt with tring := t.sxt.tring } })
  ∧ (∀ (e : Fin 4) (errs : List Int) (s : State), (s.gfRuns e = false ∨ s.fuse.ioDies ≤ e.val) →
      exec (.terminatedHeaterUpdate e errs) s = .next s)
  ∧ (∀ s : State, s.sxt.stale = false → ∃ t, exec .powerPublicationLapse s = .next t ∧ t.sxt.stale = true
      ∧ bit t.sxt.events 6 = true ∧ t.log.created = s.log.created + 1
      ∧ t = { s with log := t.log, sxt := { s.sxt with stale := true, events := t.sxt.events } })
  ∧ (∀ s : State, s.sxt.stale = true → exec .powerPublicationLapse s = .next s)
  ∧ (∀ (p : Fin 256) (s : State), s.lpLive p = true → (s.lp p).ringHold = none →
      ∃ t, exec (.ringHold p) s = .next t ∧ t.lp p = { s.lp p with ringHold := some s.ns } ∧ bit t.sxt.events 5 = true
        ∧ (s.calPaused = false → (t.region (1 + p.val / 64)).running = true)
        ∧ (s.sxt.holdAt.find p = none → t.log.created = s.log.created + 1)
        ∧ (∀ a, s.sxt.holdAt.find p = some a → s.ns < a + 60000000000 → t.log = s.log)
        ∧ (∀ q, q ≠ p.val → t.lp q = s.lp q)
        ∧ t = { s with lnk := { s.lnk with port := t.lnk.port }, log := t.log
                       sxt := { s.sxt with region := t.sxt.region, events := t.sxt.events, holdAt := t.sxt.holdAt } })
  ∧ (∀ (p : Fin 256) (s : State), (s.lpLive p = false ∨ (s.lp p).ringHold.isSome = true) → exec (.ringHold p) s = .next s)

/-- Cold starts (R303, R417, R419, R423, R432, R476): the active slot runs, or the other where a trial was not confirmed;
passages, queues and plots are gone, keys stay; odd parity gives the straps; both slots failing is recovery in FAILED, tables
that base-die SRAM cannot hold are FAILED, and a loader that does not verify stops the start. MOD_RESET_N acts from 100 ms. -/
def Obligations.ColdStarts : Prop :=
  (∀ (c : ColdStart) (i : Img) (s : State), c.loaderOk = true → c.slotOk = (true, true) → s.boot.trial = false →
      s.boot.slot.find s.boot.active = some i → s.boot.fusedSv ≤ i.sv → c.sramOk = true → c.badCores = [] →
      ∃ t, exec (.coldStart c) s = .next t ∧ t.mod = .starting ∧ t.boot.active = s.boot.active
        ∧ t.boot.recSeq = s.boot.recSeq + 1 ∧ t.ast.acquiring = true ∧ t.boot.power = true ∧ t.boot.stopped = false
        ∧ t.boot.keys = s.boot.keys ∧ t.psg = [] ∧ t.fm.queue = [] ∧ t.topo.plot = [] ∧ t.boot.sess = []
        ∧ t.log.journal = s.log.journal
        ∧ (∀ x, c.straps = some x → (bitsSet 11 x).length % 2 = 1 →
            t.topo.hall = bits x 7 4 ∧ t.topo.rack = bits x 1 6 ∧ t.topo.strapState = 0)
        ∧ (∀ k, k < s.fuse.stacks → k ∈ c.badStacks → k ∈ t.mem.badStacks)
        ∧ (∀ k, k < 48 → k ∈ c.badUnits → k ∈ t.skk.retired))
  ∧ (∀ (c : ColdStart) (i : Img) (s : State), c.loaderOk = true → c.slotOk = (true, true) → s.boot.trial = true →
      1 ≤ s.boot.trialStarts → s.boot.staging = none → s.boot.active ≤ 1 →
      s.boot.slot.find (1 - s.boot.active) = some i → s.boot.fusedSv ≤ i.sv → c.sramOk = true → c.badCores = [] →
      ∃ t, exec (.coldStart c) s = .next t ∧ t.mod = .starting ∧ t.boot.active = 1 - s.boot.active
        ∧ t.boot.fallback = true ∧ t.boot.trial = false ∧ t.boot.rejected = true ∧ t.ast.acquiring = true)
  ∧ (∀ (c : ColdStart) (s : State), c.loaderOk = true → c.slotOk = (false, false) →
      ∃ t, exec (.coldStart c) s = .next t ∧ t.mod = .failed ∧ t.boot.recovery = true ∧ t.boot.stopped = false ∧ t.psg = []
        ∧ t.col = Col.reset)
  ∧ (∀ (c : ColdStart) (i : Img) (s : State), c.loaderOk = true → c.slotOk = (true, true) → s.boot.trial = false →
      s.boot.slot.find s.boot.active = some i → s.boot.fusedSv ≤ i.sv → c.sramOk = false →
      ∃ t, exec (.coldStart c) s = .next t ∧ t.mod = .failed ∧ t.boot.recovery = false)
  ∧ (∀ (c : ColdStart) (s : State), c.loaderOk = false →
      ∃ t, exec (.coldStart c) s = .next t ∧ t.mod = .starting ∧ t.boot.stopped = true ∧ t.alive = false ∧ t.col = Col.reset)
  ∧ (∀ (ms : Nat) (c : ColdStart) (s : State), ms < 100 → exec (.modResetN ms c) s = .next s)
  ∧ (∀ (ms : Nat) (c : ColdStart) (s : State), 100 ≤ ms → s.boot.power = true →
      ∃ t, exec (.modResetN ms c) s = .next t ∧ exec (.coldStart c) s = .next t)
  ∧ (∀ (how : InputLoss) (s : State), ∃ t, exec (.inputLoss how) s = .next t ∧ t.boot.power = false ∧ t.alive = false
      ∧ t.col = Col.reset ∧ t.lnk = ⟨[]⟩ ∧ t.psg = [] ∧ t.hif = Hif.reset ∧ t.fm = Fm.reset
      ∧ t.boot.keys = s.boot.keys ∧ t.log.journal = s.log.journal ∧ t.topo.owner = s.topo.owner ∧ t.fuse = s.fuse
      ∧ (∀ n x, s.topo.slice.find n = some x → ∃ y, t.topo.slice.find n = some y ∧ y.rackMask = x.rackMask
          ∧ y.hbmGiB = x.hbmGiB ∧ y.sramMiB = x.sramMiB ∧ y.standing = x.standing ∧ y.colour = 0)
      ∧ t.out = s.out ∧ t.pending = s.pending)

/-- Warm restarts (R404, R420, R421, R428): a watchdog or a firmware fault in READY or MAINTENANCE begins an unplanned pause,
counted, with event 9, in which controllers hold, the servo stops and every session ends; the third in 10 minutes is FAILED; a
halted core's watchdog is suspended; a planned one follows the command or message that waits for it.
The end of a pause (R94, R101, R402, R407, R420, R436): the module is READY and its servo runs; a planned restart is
counted and completes the MAINT_EXIT that waits; a command cut by an unplanned one completes with 0x0602; where both copies of
the plane record fail the module is FAILED. -/
def Obligations.PausesBeginAndEnd : Prop :=
  ((∀ (k : Fin 32) (cause : RestartCause) (s : State), s.alive = true → (s.mod = .ready ∨ s.mod = .maintenance) →
      (cause = .fault ∨ cause = .watchdog ∧ s.coreHalted k = false) →
      (s.boot.unplannedAt.filter (fun (a : Nat) => decide (s.ns < a + 600000000000))).length ≤ 1 →
      s.boot.actWait = none → s.boot.trial = false →
      ∃ t, exec (.warmRestart cause k) s = .next t ∧ t.mod = .warmRestart
        ∧ t.boot.pause = some ⟨1, s.ns, if cause = .fault then 3 else 2, 0⟩
        ∧ t.boot.warmUnplanned = satInc 16 s.boot.warmUnplanned ∧ bit t.boot.events 9 = true
        ∧ t.boot.sess = [] ∧ t.boot.lock = none ∧ t.ast.servoStopped = true
        ∧ (∀ j x, s.plane.tf.find j = some x → x.st = 2 → t.plane.tf.find j = some { x with st := 3, holdAt := s.ns })
        ∧ t = { s with
            mod := .warmRestart, ast := { s.ast with servoStopped := true }, plane := { s.plane with tf := t.plane.tf }
            boot := t.boot, sxt := { s.sxt with region := t.sxt.region, takes := [] }, log := t.log
            bnc := { s.bnc with trace := t.bnc.trace, events := t.bnc.events } })
  ∧ (∀ (k : Fin 32) (s : State), s.alive = true → (s.mod = .ready ∨ s.mod = .maintenance) →
      2 ≤ (s.boot.unplannedAt.filter (fun (a : Nat) => decide (s.ns < a + 600000000000))).length → s.boot.actWait = none →
      ∃ t, exec (.warmRestart .fault k) s = .next t ∧ t.mod = .failed ∧ t.boot.pause = s.boot.pause ∧ t.psg = s.psg
        ∧ t.col = s.col ∧ t.plane = s.plane)
  ∧ (∀ (k : Fin 32) (s : State), s.coreHalted k = true → exec (.warmRestart .watchdog k) s = .next s)
  ∧ (∀ (k : Fin 32) (cause : RestartCause) (s : State), s.mod ≠ .ready → s.mod ≠ .maintenance →
      exec (.warmRestart cause k) s = .next s)
  ∧ (∀ (k : Fin 32) (s : State), s.exitWait = none → exec (.warmRestart .maintExit k) s = .next s)
  ∧ (∀ (k : Fin 32) (e : Exec) (s : State), s.alive = true → s.mod = .maintenance → s.exitWait = some e →
      ∃ t, exec (.warmRestart .maintExit k) s = .next t ∧ t.mod = .warmRestart ∧ t.boot.pause = some ⟨0, s.ns, 0, 0⟩
        ∧ t.hif = s.hif ∧ t.psg = s.psg ∧ t.lnk = s.lnk ∧ t.fm = s.fm)
  ∧ (∀ (k : Fin 32) (s : State), s.alive = true → (s.mod = .ready ∨ s.mod = .maintenance) → s.boot.restartReq = true →
      s.hif.execs = [] → s.boot.actWait = none →
      ∃ t, exec (.warmRestart .cleosh k) s = .next t ∧ t.mod = .warmRestart ∧ t.boot.pause = some ⟨0, s.ns, 1, 0⟩
        ∧ t.boot.restartReq = false ∧ t.psg = s.psg ∧ t.lnk = s.lnk ∧ t.fm = s.fm))
  ∧ ((∀ (bad : List Nat) (s : State), s.boot.pause = none → exec (.warmRestartDone bad true) s = .next s)
  ∧ (∀ (bad : List Nat) (p : Pause) (s : State), s.boot.pause = some p →
      ∃ t, exec (.warmRestartDone bad false) s = .next t ∧ t.mod = .failed ∧ t.boot.pause = none ∧ t.plane = s.plane
        ∧ t.col = s.col ∧ t.psg = s.psg)
  ∧ (∀ (bad : List Nat) (p : Pause) (s : State), s.boot.pause = some p → p.kind = 0 → s.hif.execs = [] → NoHeld s →
      s.fm.heldG = [] → NothingReleasing s →
      ∃ t, exec (.warmRestartDone bad true) s = .next t ∧ t.mod = .ready ∧ t.boot.pause = none
        ∧ t.boot.warmPlanned = satInc 16 s.boot.warmPlanned ∧ t.boot.lastStart = 1
        ∧ t.boot.lastMs = (s.ns - p.x0) / 1000000 % 2 ^ 32 ∧ t.ast.servoStopped = false ∧ t.bnc.core = []
        ∧ (∀ j x, s.plane.tf.find j = some x → x.st ≠ 0 → t.plane.tf.find j = some { x with st := 2, holdAt := 0 })
        ∧ t.fm.queue = s.fm.queue ∧ t.topo.plot.keys = s.topo.plot.keys ∧ t.skk.binding = s.skk.binding)
  ∧ (∀ (bad : List Nat) (p : Pause) (e : Exec) (n : Nat) (s : State), s.boot.pause = some p → p.kind = 0 →
      s.hif.execs = [e] → e.wait = .exitRestart n → e.discard = false → e.dma = .ok →
      (s.ring e.fn e.ring).st ≠ .disabled → NoHeld s → s.fm.heldG = [] → NothingReleasing s →
      ∃ t c, exec (.warmRestartDone bad true) s = .next t ∧ t.mod = .ready ∧ t.hif.execs = []
        ∧ t.out.getLast? = some (.completion e.fn e.ring (s.ring e.fn e.ring).cplIndex c) ∧ c.status = 0
        ∧ c.tag = e.tag % 2 ^ 32 ∧ c.word0 = n % 2 ^ 64)
  ∧ (∀ (p : Pause) (e : Exec) (time16 : Nat) (s : State), s.boot.pause = some p → p.kind = 1 → s.hif.execs = [e] →
      e.wait = .snapshot time16 → e.discard = false → e.dma = .ok → (s.ring e.fn e.ring).st ≠ .disabled →
      NoHeld s → s.fm.heldG = [] → NothingReleasing s →
      ∃ t c, exec (.warmRestartDone [] true) s = .next t ∧ t.mod = .ready ∧ t.hif.execs = []
        ∧ t.out.getLast? = some (.completion e.fn e.ring (s.ring e.fn e.ring).cplIndex c) ∧ c.status = 0x0602
        ∧ c.tag = e.tag % 2 ^ 32 ∧ c.word0 = 1))

/-- IDENTIFY (R105): it writes 256 bytes at RESULT_ADDR before its completion, VARIANT, IO_DIES and HBM_STACKS among them,
and returns those three in WORD0; a RESULT_ADDR that is 0 or not 16-byte aligned is refused.
Firmware and trust queries (R105, R443, R445 to R447): FW_QUERY returns the running version and the boot state; ATTEST
writes 33,924 bytes that carry the nonce and end in the signature over the rest; KEY_LIST writes an entry for each of 16 slots;
MEASUREMENTS ten entries, the boot ROM's first. -/
def Obligations.IdentityAndTrustQueries : Prop :=
  ((∀ (r : Req) (s : State), accepts 0x0001 r s = true → r.p 16 8 ≠ 0 → r.p 16 8 % 16 = 0 → r.z 24 = true →
      ∃ t b c, exec (.identify r) s = .next t
        ∧ Completed r s t 0 (s.fuse.variant % 256 + 256 * s.fuse.ioDies + 65536 * s.fuse.stacks) 0
        ∧ t.out = s.out ++ [.hostWrite (r.p 16 8) b, c] ∧ b.length = 256
        ∧ le b 16 1 = s.fuse.variant % 256 ∧ le b 17 1 = s.fuse.ioDies ∧ le b 18 1 = s.fuse.stacks
        ∧ le b 88 1 = r.fn ∧ le b 89 1 = 16 ∧ le b 90 1 = 63 ∧ le b 92 4 = 1
        ∧ Quiet r s t ∧ t = { s with hif := t.hif, bnc := t.bnc, out := t.out })
  ∧ (∀ (r : Req) (s : State), accepts 0x0001 r s = true → (r.p 16 8 = 0 ∨ r.p 16 8 % 16 ≠ 0) →
      ∃ t, exec (.identify r) s = .next t ∧ Completed r s t 0x0101 16 0
        ∧ Quiet r s t ∧ t = { s with hif := t.hif, bnc := t.bnc, out := t.out }))
  ∧ ((∀ (r : Req) (s : State), accepts 0x0A01 r s = true → r.z 16 = true →
      ∃ t, exec (.fwQuery r) s = .next t
        ∧ Completed r s t 0 s.boot.image.version
            (s.boot.stateBits + s.boot.cfgVersion % 2 ^ 16 * 2 ^ 16 + s.healthLeft * 2 ^ 32 + s.boot.fusedSv * 2 ^ 48)
        ∧ Silent s t ∧ Quiet r s t ∧ t = { s with hif := t.hif, bnc := t.bnc, out := t.out })
  ∧ (∀ (r : Req) (s : State), accepts 0x0A02 r s = true → r.b 32 8 % 32 = 0 → 33924 ≤ r.b 40 4 →
      zeroAt r.params 44 4 = true →
      ∃ t b, exec (.attest r) s = .next t ∧ Completed r s t 0 33924 0 ∧ Writes (r.b 32 8) b s t ∧ b.length = 33924
        ∧ (b.drop 8).take 32 = padTo 32 (r.params.take 32)
        ∧ b.drop 16836 = padTo 17088 (Config.attestSign (b.take 16836))
        ∧ Quiet r s t ∧ t = { s with hif := t.hif, bnc := t.bnc, out := t.out })
  ∧ (∀ (r : Req) (s : State), accepts 0x0A03 r s = true → r.b 0 8 % 32 = 0 → 1536 ≤ r.b 8 4 →
      zeroAt r.params 12 4 = true →
      ∃ t b, exec (.keyList r) s = .next t ∧ Completed r s t 0 s.boot.keys.length 0 ∧ Writes (r.b 0 8) b s t
        ∧ b.length = 1536
        ∧ (∀ n, n < 16 → byteAt b (96 * n) = n
            ∧ (s.boot.keys.find n = none → zeroAt b (96 * n + 1) 95 = true)
            ∧ ∀ k, s.boot.keys.find n = some k → byteAt b (96 * n + 1) = 1 ∧ byteAt b (96 * n + 2) = k.role % 256
                ∧ byteAt b (96 * n + 3) = k.usage % 256 ∧ byteAt b (96 * n + 4) = k.param % 256)
        ∧ Quiet r s t ∧ t = { s with hif := t.hif, bnc := t.bnc, out := t.out })
  ∧ (∀ (r : Req) (s : State), accepts 0x0A04 r s = true → r.b 0 8 % 32 = 0 → 480 ≤ r.b 8 4 →
      zeroAt r.params 12 4 = true →
      ∃ t b, exec (.measurements r) s = .next t ∧ Completed r s t 0 10 0 ∧ Writes (r.b 0 8) b s t ∧ b.length = 480
        ∧ (∀ i, i < 10 → byteAt b (48 * i) = i) ∧ (b.drop 16).take 32 = beBytes 32 Config.romMeasure.toNat
        ∧ Quiet r s t ∧ t = { s with hif := t.hif, bnc := t.bnc, out := t.out }))

/-- Cleosh datagrams (R424 to R426): one from no link-local source, with a bad header or of no session is dropped and counted;
a whole message in order waits in its session, out of order it only asks for an acknowledgement; every 32nd segment and the
1 ms timer acknowledge; 20 ms without progress resends, and ten resends end the session. -/
def Obligations.CleoshDatagrams : Prop :=
  (∀ (p : Fin 2) (local_ : Bool) (b : Bytes) (s : State), s.served = false → exec (.cleoshDatagram p local_ b) s = .next s)
  ∧ (∀ (p : Fin 2) (local_ : Bool) (b : Bytes) (s : State), s.served = true →
      (local_ = false ∨ datagramOk b = false ∨ be b 3 1 ≠ 0x01 ∧ s.boot.sess.find (be b 4 8) = none) →
      ∃ t, exec (.cleoshDatagram p local_ b) s = .next t
        ∧ t.boot.dropped.get p 0 = satInc 32 (s.boot.dropped.get p 0)
        ∧ t = { s with boot := { s.boot with svcLink := setBit s.boot.svcLink p, dropped := t.boot.dropped } })
  ∧ (∀ (p : Fin 2) (b : Bytes) (x : Sess) (s : State), s.served = true → datagramOk b = true → be b 3 1 ≠ 0x01 →
      bit (be b 30 1) 1 = false → s.boot.sess.find (be b 4 8) = some x → x.port = p.val → be b 12 4 = x.rxSeq →
      be b 20 4 = x.rxMsg → be b 24 4 = 0 → x.part = [] → bit (be b 30 1) 0 = true → x.unackedRx < 31 →
      ∃ t y, exec (.cleoshDatagram p true b) s = .next t ∧ t.boot.sess.find (be b 4 8) = some y
        ∧ y.whole = x.whole ++ [(x.rxMsg, be b 3 1, b.drop 32)] ∧ y.rxSeq = x.rxSeq + 1 ∧ y.rxMsg = x.rxMsg + 1
        ∧ y.last = s.ns ∧ y.unackedRx = x.unackedRx + 1
        ∧ y.unacked = x.unacked.filter (fun u => decide (be b 16 4 ≤ u.1))
        ∧ (∀ k, k ≠ be b 4 8 → t.boot.sess.find k = s.boot.sess.find k)
        ∧ t = { s with boot := { s.boot with sess := t.boot.sess, lock := t.boot.lock, svcLink := t.boot.svcLink } })
  ∧ (∀ (p : Fin 2) (b : Bytes) (x : Sess) (s : State), s.served = true → datagramOk b = true → be b 3 1 ≠ 0x01 →
      bit (be b 30 1) 1 = false → s.boot.sess.find (be b 4 8) = some x → x.port = p.val → be b 12 4 ≠ x.rxSeq →
      ∃ t y, exec (.cleoshDatagram p true b) s = .next t ∧ t.boot.sess.find (be b 4 8) = some y ∧ y.whole = x.whole
        ∧ y.rxSeq = x.rxSeq ∧ y.part = x.part ∧ y.unackedRx = x.unackedRx + 1
        ∧ t = { s with boot := { s.boot with sess := t.boot.sess, svcLink := t.boot.svcLink } })
  ∧ (∀ (id : Nat) (x : Sess) (s : State), s.served = true → s.boot.sess.find id = some x → x.unackedRx ≠ 0 →
      ∃ t d y, exec (.cleoshAckTimer id) s = .next t ∧ t.out = s.out ++ [.cleosh id d] ∧ d.length = 32
        ∧ be d 30 1 = 2 ∧ be d 16 4 = x.rxSeq % 2 ^ 32 ∧ t.boot.sess.find id = some y ∧ y = { x with unackedRx := 0 }
        ∧ t = { s with boot := { s.boot with sess := t.boot.sess }, out := t.out })
  ∧ (∀ (id : Nat) (s : State), (s.boot.sess.find id = none ∨ ∃ x, s.boot.sess.find id = some x ∧ x.unackedRx = 0) →
      exec (.cleoshAckTimer id) s = .next s)
  ∧ (∀ (id : Nat) (x : Sess) (s : State), s.served = true → s.boot.sess.find id = some x → x.unacked ≠ [] → x.resends < 10 →
      ∃ t, exec (.cleoshResend id) s = .next t ∧ t.out = s.out ++ x.unacked.map (fun u => .cleosh id u.2)
        ∧ t.boot.sess.find id = some { x with resends := x.resends + 1 }
        ∧ t = { s with boot := { s.boot with sess := t.boot.sess }, out := t.out })
  ∧ (∀ (id : Nat) (x : Sess) (s : State), s.served = true → s.boot.sess.find id = some x → x.unacked ≠ [] → 10 ≤ x.resends →
      s.holdsLock id = false →
      ∃ t, exec (.cleoshResend id) s = .next t ∧ t = { s with boot := { s.boot with sess := s.boot.sess.del id } })
  ∧ (∀ (id : Nat) (s : State), s.boot.sess.find id = none → exec (.cleoshResend id) s = .next s)

/-- Cleosh sessions (R428): HELLO opens a session of no role with CHALLENGE, four to a port, and is ignored for a minute after
five failures; AUTH by a SERVICE key in time gives it the key's role, and a failed one ends it and is counted; 10 s without
AUTH and 300 s without a message end it, as CLOSE does, and with it the update lock it held. -/
def Obligations.CleoshSessions : Prop :=
  (∀ (p : Fin 2) (addr : Bytes) (k : Nat) (s : State), s.served = true → s.boot.ignoreUntil.get p 0 ≤ s.ns → k < 16 →
      (s.boot.sess.filter (fun e => e.2.port == p.val)).length < 4 →
      ∃ t y d, exec (.hello p addr k) s = .next t ∧ t.boot.sess.find s.boot.nextSess = some y ∧ y.port = p.val ∧ y.key = k
        ∧ y.role = 0 ∧ y.since = s.ns ∧ y.last = s.ns ∧ t.boot.nextSess = s.boot.nextSess + 1
        ∧ t.out = s.out ++ [.cleosh s.boot.nextSess d] ∧ be d 3 1 = 0x02 ∧ d.length = 65
        ∧ (∀ id, id ≠ s.boot.nextSess → t.boot.sess.find id = s.boot.sess.find id)
        ∧ t = { s with boot := { s.boot with sess := t.boot.sess, nextSess := t.boot.nextSess }, out := t.out, free := t.free })
  ∧ (∀ (p : Fin 2) (addr : Bytes) (k : Nat) (s : State), s.served = true → s.boot.ignoreUntil.get p 0 ≤ s.ns → k < 16 →
      4 ≤ (s.boot.sess.filter (fun e => e.2.port == p.val)).length →
      ∃ t d, exec (.hello p addr k) s = .next t ∧ t = { s with out := s.out ++ [.cleosh 0 d] }
        ∧ d.drop 32 = resultBody 0 0x0601 0 0 0)
  ∧ (∀ (p : Fin 2) (addr : Bytes) (k : Nat) (s : State), (s.served = false ∨ s.ns < s.boot.ignoreUntil.get p 0) →
      exec (.hello p addr k) s = .next s)
  ∧ (∀ (m : CMsg) (x : Sess) (k : Key) (s : State), HeardSigned m 0x03 x s → s.boot.keys.find x.key = some k →
      bit k.usage 1 = true → s.ns < x.since + 10000000000 → m.body = [] → m.sig.length = sigLenOf k.param →
      Config.sigVerify k.param k.pub
        (beBytes 16 x.nonce ++ padTo 16 s.fuse.serial ++ beBytes 8 m.sess ++ beBytes 1 x.port) m.sig = true →
      ∃ t y, exec (.auth m) s = .next t ∧ Resulted m x 0 0 0 0 s t ∧ t.boot.sess.find m.sess = some y ∧ y.role = k.role
        ∧ y.key = x.key ∧ y.whole = x.whole.tail ∧ (∀ id, id ≠ m.sess → t.boot.sess.find id = s.boot.sess.find id)
        ∧ t = { s with boot := { s.boot with sess := t.boot.sess }, out := t.out })
  ∧ (∀ (m : CMsg) (x : Sess) (s : State), HeardSigned m 0x03 x s →
      (s.boot.keys.find x.key = none ∨ x.since + 10000000000 ≤ s.ns) → s.holdsLock m.sess = false →
      ∃ t, exec (.auth m) s = .next t ∧ Resulted m x 0x0403 0 0 0 s t ∧ t.boot.sess.find m.sess = none
        ∧ t.boot.authFails.get x.port 0 = satInc 16 (s.boot.authFails.get x.port 0) ∧ bit t.boot.events 7 = true
        ∧ (4 ≤ ((s.boot.authAt.get x.port []).filter (fun (a : Nat) => decide (s.ns < a + 60000000000))).length →
            t.boot.ignoreUntil.get x.port 0 = s.ns + 60000000000)
        ∧ t = { s with
            boot := { s.boot with
              sess := t.boot.sess, authFails := t.boot.authFails, authAt := t.boot.authAt
              ignoreUntil := t.boot.ignoreUntil, events := t.boot.events }
            log := t.log, out := t.out })
  ∧ (∀ (id : Nat) (x : Sess) (s : State), s.boot.sess.find id = some x → x.role = 0 → s.holdsLock id = false →
      ∃ t, exec (.authTimeout id) s = .next t ∧ x.since + 10000000000 ≤ t.ns ∧ t.boot.sess.find id = none
        ∧ t = { s with ast := { s.ast with raw := t.ast.raw }, boot := { s.boot with sess := s.boot.sess.del id } })
  ∧ (∀ (id : Nat) (s : State), (s.boot.sess.find id = none ∨ ∃ x, s.boot.sess.find id = some x ∧ x.role ≠ 0) →
      exec (.authTimeout id) s = .next s)
  ∧ (∀ (id : Nat) (x : Sess) (s : State), s.boot.sess.find id = some x → s.holdsLock id = false →
      ∃ t, exec (.sessionIdle id) s = .next t ∧ x.last + 300000000000 ≤ t.ns ∧ t.boot.sess.find id = none
        ∧ t = { s with ast := { s.ast with raw := t.ast.raw }, boot := { s.boot with sess := s.boot.sess.del id } })
  ∧ (∀ (id : Nat) (x : Sess) (s : State), s.boot.sess.find id = some x → s.holdsLock id = true →
      ∃ t, exec (.sessionIdle id) s = .next t ∧ t.boot.sess.find id = none ∧ t.boot.lock = none ∧ t.boot.staging = none)
  ∧ (∀ (id : Nat) (x : Sess) (w : Nat × Nat × Bytes) (s : State), s.boot.sess.find id = some x → x.whole.head? = some w →
      w.2.1 = 0x7E → s.holdsLock id = false →
      exec (.close id) s = .next { s with boot := { s.boot with sess := s.boot.sess.del id } })
  ∧ (∀ (id : Nat) (s : State), s.boot.sess.find id = none → exec (.close id) s = .next s)

/-- Status and the update lock (R427 to R429): STATUS answers any role; a free lock is granted, a second requester learns who
holds it, and a request of port A within 10 µs of a grant to port B goes before it; its release and 120 s without a message
end it and discard what was being staged; a message without the role or the lock it needs is refused. -/
def Obligations.UpdateLock : Prop :=
  (∀ (m : CMsg) (x : Sess) (s : State), Heard m 0x10 x s → 1 ≤ x.role → m.body = [] →
      ∃ t b, exec (.statusReq m) s = .next t ∧ Replied m x 0x11 b s t ∧ b.length = 48 ∧ byteAt b 0 = s.mod.code
        ∧ byteAt b 1 = s.boot.stateBits % 256 ∧ be b 4 8 = s.boot.image.version % 2 ^ 64
        ∧ Taken m x s t ∧ t = { s with boot := { s.boot with sess := t.boot.sess }, out := t.out })
  ∧ (∀ (m : CMsg) (x : Sess) (s : State), Heard m 0x20 x s → x.role < 3 →
      ∃ t, exec (.lockReq m) s = .next t ∧ Resulted m x 0x0403 0 3 0 s t ∧ Taken m x s t
        ∧ t = { s with boot := { s.boot with sess := t.boot.sess }, out := t.out })
  ∧ (∀ (m : CMsg) (x : Sess) (s : State), Heard m 0x20 x s → 3 ≤ x.role → m.body = [] → s.boot.lock = none →
      ∃ t, exec (.lockReq m) s = .next t ∧ Replied m x 0x21 [] s t
        ∧ t.boot.lock = some ⟨m.sess, x.port, x.key, x.addr, s.ns, s.ns⟩ ∧ Taken m x s t
        ∧ t = { s with boot := { s.boot with sess := t.boot.sess, lock := t.boot.lock }, log := t.log, out := t.out })
  ∧ (∀ (m : CMsg) (x : Sess) (l : Lock) (s : State), Heard m 0x20 x s → 3 ≤ x.role → m.body = [] → s.boot.lock = some l →
      l.sess ≠ m.sess → (x.port ≠ 0 ∨ l.port ≠ 1 ∨ l.at_ + 10000 < s.ns) →
      ∃ t b, exec (.lockReq m) s = .next t ∧ Replied m x 0x22 b s t ∧ byteAt b 0 = l.port % 256 ∧ byteAt b 1 = l.key % 256
        ∧ b.drop 8 = padTo 16 l.addr ∧ Taken m x s t
        ∧ t = { s with boot := { s.boot with sess := t.boot.sess }, out := t.out })
  ∧ (∀ (m : CMsg) (x y : Sess) (l : Lock) (s : State), Heard m 0x20 x s → 3 ≤ x.role → m.body = [] → s.boot.lock = some l →
      l.sess ≠ m.sess → x.port = 0 → l.port = 1 → s.ns ≤ l.at_ + 10000 → s.boot.staging = none →
      s.boot.sess.find l.sess = some y →
      ∃ t d1 d2, exec (.lockReq m) s = .next t ∧ t.boot.lock = some ⟨m.sess, 0, x.key, x.addr, s.ns, s.ns⟩
        ∧ t.out = s.out ++ [.cleosh m.sess d1, .cleosh l.sess d2] ∧ be d1 3 1 = 0x21 ∧ be d2 3 1 = 0x22)
  ∧ (∀ (m : CMsg) (x : Sess) (s : State), Heard m 0x23 x s → 3 ≤ x.role → m.body = [] → s.holdsLock m.sess = true →
      ∃ t, exec (.lockRelease m) s = .next t ∧ Resulted m x 0 0 0 0 s t ∧ t.boot.lock = none ∧ t.boot.staging = none
        ∧ Taken m x s t ∧ t = { s with
            boot := { s.boot with sess := t.boot.sess, lock := none, staging := none, events := t.boot.events }
            log := t.log, out := t.out })
  ∧ (∀ (m : CMsg) (x : Sess) (s : State), Heard m 0x23 x s → 3 ≤ x.role → s.holdsLock m.sess = false →
      ∃ t, exec (.lockRelease m) s = .next t ∧ Resulted m x 0x0301 1 0 0 s t ∧ Taken m x s t
        ∧ t = { s with boot := { s.boot with sess := t.boot.sess }, out := t.out })
  ∧ (∀ (l : Lock) (s : State), s.boot.lock = some l →
      ∃ t, exec .lockIdleExpiry s = .next t ∧ t.boot.lock = none ∧ t.boot.staging = none ∧ l.last + 120000000000 ≤ t.ns
        ∧ t = { s with
            ast := { s.ast with raw := t.ast.raw }
            boot := { s.boot with lock := none, staging := none, events := t.boot.events }, log := t.log })
  ∧ (∀ s : State, s.boot.lock = none → exec .lockIdleExpiry s = .next s)

/-- Staging (R430, R431): STAGE_BEGIN empties the target area; STAGE_BLOCK keeps a block; STAGE_END discards an incomplete
image with event 1, refuses one that fails a check, and keeps one that passes, a main image in the other slot with event 0. -/
def Obligations.Staging : Prop :=
  (∀ (m : CMsg) (x : Sess) (total : Nat) (s : State), Heard m 0x30 x s → 3 ≤ x.role → s.holdsLock m.sess = true →
      m.body.length = 16 → byteAt m.body 0 = 1 → zeroAt m.body 1 7 = true → total = be m.body 8 8 → 16736 ≤ total →
      total ≤ 16736 + 2 ^ 29 → s.boot.healthPending = false → s.boot.actWait = none →
      ∃ t, exec (.stageBegin m) s = .next t ∧ Resulted m x 0 0 0 0 s t ∧ t.boot.staging = some ⟨m.sess, 1, total, []⟩
        ∧ t.boot.slot.find (1 - s.boot.active) = none ∧ t.boot.slot.find s.boot.active = s.boot.slot.find s.boot.active
        ∧ t.boot.staged = false ∧ t.boot.rejected = false ∧ Taken m x s t
        ∧ t = { s with
            boot := { s.boot with
              sess := t.boot.sess, staging := t.boot.staging, slot := t.boot.slot, staged := false, rejected := false }
            out := t.out })
  ∧ (∀ (m : CMsg) (x : Sess) (cls : Nat) (s : State), Heard m 0x30 x s → 4 ≤ x.role → s.holdsLock m.sess = true →
      m.body.length = 16 → cls = byteAt m.body 0 → (cls = 2 ∨ cls = 3) → zeroAt m.body 1 7 = true → s.mod = .maintenance →
      16544 ≤ be m.body 8 8 → be m.body 8 8 ≤ 16544 + payloadMax cls → s.boot.healthPending = false → s.boot.actWait = none →
      ∃ t, exec (.stageBegin m) s = .next t ∧ Resulted m x 0 0 0 0 s t
        ∧ t.boot.staging = some ⟨m.sess, cls, be m.body 8 8, []⟩ ∧ t.boot.reserve.find cls = none ∧ t.boot.slot = s.boot.slot)
  ∧ (∀ (m : CMsg) (x : Sess) (g : Stage) (s : State), Heard m 0x31 x s → 3 ≤ x.role → s.holdsLock m.sess = true →
      s.boot.staging = some g → 9 ≤ m.body.length → m.body.length ≤ 1048584 → be m.body 0 8 % 1048576 = 0 →
      be m.body 0 8 + (m.body.length - 8) ≤ g.total →
      ∃ t g1, exec (.stageBlock m) s = .next t ∧ Resulted m x 0 0 0 0 s t ∧ t.boot.staging = some g1
        ∧ g1.blocks.find (be m.body 0 8 / 1048576) = some (m.body.drop 8)
        ∧ (∀ k, k ≠ be m.body 0 8 / 1048576 → g1.blocks.find k = g.blocks.find k) ∧ g1.total = g.total ∧ g1.cls = g.cls
        ∧ Taken m x s t
        ∧ t = { s with boot := { s.boot with sess := t.boot.sess, staging := t.boot.staging }, out := t.out })
  ∧ (∀ (m : CMsg) (x : Sess) (g : Stage) (s : State), Heard m 0x32 x s → 3 ≤ x.role → s.holdsLock m.sess = true →
      m.body = [] → s.boot.staging = some g → g.image = none →
      ∃ t, exec (.stageEnd m) s = .next t ∧ Resulted m x 0x0101 1 0 0 s t ∧ t.boot.staging = none
        ∧ bit t.boot.events 1 = true ∧ t.boot.slot = s.boot.slot ∧ t.boot.staged = s.boot.staged)
  ∧ (∀ (m : CMsg) (x : Sess) (g : Stage) (b : Bytes) (s : State), Heard m 0x32 x s → 3 ≤ x.role →
      s.holdsLock m.sess = true → m.body = [] → s.boot.staging = some g → g.cls = 1 → g.image = some b →
      s.imageChk 1 b = none → s.boot.recovery = false →
      ∃ t, exec (.stageEnd m) s = .next t ∧ Resulted m x 0 0 (le b 8 8) 0 s t ∧ t.boot.staging = none
        ∧ t.boot.slot.find (1 - s.boot.active) = some ⟨le b 8 8, le b 16 4, le b 20 2, le b 22 2, b.take 512⟩
        ∧ t.boot.slot.find s.boot.active = s.boot.slot.find s.boot.active ∧ t.boot.staged = true ∧ t.boot.rejected = false
        ∧ bit t.boot.events 0 = true ∧ Taken m x s t
        ∧ t = { s with
            boot := { s.boot with
              sess := t.boot.sess, staging := none, slot := t.boot.slot, staged := true, rejected := false
              events := t.boot.events }
            log := t.log, out := t.out })
  ∧ (∀ (m : CMsg) (x : Sess) (g : Stage) (b : Bytes) (st d w : Nat) (s : State), Heard m 0x32 x s → 3 ≤ x.role →
      s.holdsLock m.sess = true → m.body = [] → s.boot.staging = some g → g.image = some b →
      s.imageChk g.cls b = some (st, d, w) →
      ∃ t, exec (.stageEnd m) s = .next t ∧ Resulted m x st d w 0 s t ∧ t.boot.staging = none
        ∧ bit t.boot.events 1 = true ∧ t.boot.slot = s.boot.slot ∧ t.boot.staged = s.boot.staged)

/-- Activation (R433, R434): ACTIVATE asks every passage to park and answers at P0, where the boot record turns to the other
slot and the pause starts; nothing happens while anything P0 waits for is in progress; without P0 in time it is abandoned.
Health and fallback (R437, R438): health confirmed ends the trial and raises the fused security version to the image's; a
failed check, or 300 s, asks every passage to park, after which the other slot is activated and the image is REJECTED. -/
def Obligations.ActivationAndHealth : Prop :=
  ((∀ (m : CMsg) (x : Sess) (i : Img) (w : Nat) (s : State), HeardSigned m 0x40 x s → 3 ≤ x.role →
      s.holdsLock m.sess = true → s.signedOk x m 0x40 = true → m.body.length = 2 → w = be m.body 0 2 → w ≤ 3600 →
      s.boot.staged = true → s.boot.rejected = false → s.mod = .ready → s.boot.healthPending = false →
      s.boot.actWait = none → s.boot.slot.find (1 - s.boot.active) = some i → s.boot.fusedSv ≤ i.sv →
      s.boot.cfgVersion ≤ i.cfg → i.cfg ≤ s.boot.cfgVersion + 2 → s.boot.handover ≤ i.hand →
      i.hand ≤ s.boot.handover + 2 →
      ∃ t, exec (.activate m) s = .next t ∧ t.boot.actWait = some (s.ns, if w = 0 then 600 else w, m.sess, m.msgId)
        ∧ t.out = s.out ∧ t.mod = .ready
        ∧ (∀ k p, s.psg.find k = some p → (p.st = .running ∨ p.st = .stalled) → p.parkPend = false →
            t.psg.find k = some { p with parkPend := true, parkedByAct := true })
        ∧ (∀ k p, s.psg.find k = some p → p.st ≠ .running → p.st ≠ .stalled → t.psg.find k = some p)
        ∧ Taken m x s t
        ∧ t = { s with
            boot := { s.boot with sess := t.boot.sess, actWait := t.boot.actWait }, psg := t.psg, log := t.log })
  ∧ (∀ (m : CMsg) (x : Sess) (s : State), HeardSigned m 0x40 x s → 3 ≤ x.role → s.holdsLock m.sess = true →
      s.signedOk x m 0x40 = false →
      ∃ t, exec (.activate m) s = .next t ∧ Resulted m x 0x0403 4 0 0 s t ∧ Taken m x s t
        ∧ t = { s with boot := { s.boot with sess := t.boot.sess }, out := t.out })
  ∧ (∀ (a0 w id msg : Nat) (x : Sess) (s : State), s.boot.actWait = some (a0, w, id, msg) → s.mod = .ready →
      s.alive = true → s.busyForP0 = false → s.boot.sess.find id = some x →
      ∃ t, exec .activationP0 s = .next t ∧ t.mod = .activating ∧ t.boot.active = 1 - s.boot.active ∧ t.boot.trial = true
        ∧ t.boot.trialStarts = 0 ∧ t.boot.actWait = none ∧ t.boot.pause = some ⟨2, s.ns, 0, 0⟩
        ∧ t.boot.recSeq = s.boot.recSeq + 1 ∧ t.boot.sess = [] ∧ t.ast.servoStopped = true
        ∧ t.out = s.out ++ [.cleosh id (cleoshHeader 0x7F id x.txSeq x.rxSeq x.txMsg 0 24 1 ++ resultBody msg 0 0 0 0)]
        ∧ t.psg = s.psg ∧ t.hif = s.hif ∧ t.lnk = s.lnk ∧ t.fm = s.fm)
  ∧ (∀ s : State, (s.boot.actWait = none ∨ s.mod ≠ .ready ∨ s.busyForP0 = true) → exec .activationP0 s = .next s)
  ∧ (∀ (a0 w id msg : Nat) (x : Sess) (s : State), s.boot.actWait = some (a0, w, id, msg) →
      s.boot.sess.find id = some x → (∀ e ∈ s.psg, e.2.parkedByAct = false) →
      ∃ t d, exec .activationAbandoned s = .next t ∧ t.boot.actWait = none ∧ a0 + w * 1000000000 ≤ t.ns
        ∧ t.boot.staged = s.boot.staged ∧ t.boot.active = s.boot.active ∧ bit t.boot.events 3 = true ∧ t.psg = s.psg
        ∧ t.out = s.out ++ [.cleosh id d] ∧ be d 36 2 = 0x0310 ∧ be d 38 2 = 12 ∧ t.mod = s.mod)
  ∧ (∀ s : State, s.boot.actWait = none → exec .activationAbandoned s = .next s))
  ∧ ((∀ s : State, s.boot.healthPending = true → s.boot.fbWait = none → s.paused = false →
      ∃ t, exec .healthConfirmed s = .next t ∧ t.boot.trial = false ∧ t.boot.healthPending = false
        ∧ t.boot.checks = 0x3F ∧ t.boot.fusedSv = max s.boot.fusedSv s.boot.image.sv ∧ t.boot.cfgKept = none
        ∧ t.boot.active = s.boot.active ∧ t.boot.recSeq = s.boot.recSeq + 1 ∧ bit t.boot.events 4 = true
        ∧ s.boot.t0 + 30000000000 ≤ t.ns
        ∧ t = { s with ast := { s.ast with raw := t.ast.raw }, boot := t.boot, log := t.log })
  ∧ (∀ s : State, s.boot.healthPending = false → exec .healthConfirmed s = .next s)
  ∧ (∀ (f : Fin 64) (s : State), s.boot.healthPending = true → s.boot.fbWait = none → s.paused = false →
      ∃ t, exec (.healthFallback f) s = .next t ∧ t.boot.fbWait = some (t.ns, f.val)
        ∧ (f.val ≠ 0 → t.ns = s.ns) ∧ (f.val = 0 → s.boot.t0 + 300000000000 ≤ t.ns)
        ∧ (∀ k p, s.psg.find k = some p → (p.st = .running ∨ p.st = .stalled) → p.parkPend = false →
            t.psg.find k = some { p with parkPend := true, parkedByAct := true })
        ∧ t = { s with
            ast := { s.ast with raw := t.ast.raw }, boot := { s.boot with fbWait := t.boot.fbWait }, psg := t.psg })
  ∧ (∀ (f : Fin 64) (s : State), s.boot.healthPending = false → exec (.healthFallback f) s = .next s)
  ∧ (∀ (at_ f : Nat) (s : State), s.boot.fbWait = some (at_, f) → s.paused = false →
      (∀ e ∈ s.psg, e.2.st ≠ .running ∧ e.2.st ≠ .stalled) →
      ∃ t, exec .fallbackParkEnd s = .next t ∧ t.mod = .activating ∧ t.boot.active = 1 - s.boot.active
        ∧ t.boot.trial = false ∧ t.boot.fallback = true ∧ t.boot.rejected = true ∧ t.boot.fbWait = none
        ∧ t.boot.fallbacks = satInc 16 s.boot.fallbacks ∧ t.boot.pause = some ⟨3, s.ns, f, 0⟩ ∧ t.psg = s.psg
        ∧ t.hif = s.hif ∧ t.lnk = s.lnk)
  ∧ (∀ (at_ f : Nat) (s : State), s.boot.fbWait = some (at_, f) → s.paused = false →
      s.psg.filter (fun e => e.2.st == .running || e.2.st == .stalled) ≠ [] →
      ∃ t, exec .fallbackParkEnd s = .next t ∧ t.mod = .activating ∧ at_ + 60000000000 ≤ t.ns
        ∧ t.boot.pause = some ⟨3, t.ns, f, (s.psg.filter (fun e => e.2.st == .running || e.2.st == .stalled)).length⟩)
  ∧ (∀ s : State, s.boot.fbWait = none → exec .fallbackParkEnd s = .next s))

/-- Loader commits and restarts by Cleosh (R94, R427, R440): LOADER_COMMIT in maintenance starts a pause of its own with the
staged image's class; RESTART KIND 0 is granted and awaits its pause, KIND 1 wipes the module for a cold start.
Keys (R443, R444): ENROLL puts a key into slots 4 to 15 with a role no higher than the session's; REVOKE empties one and
ends its sessions; CLAIM with the fused code enrols the first key, a wrong one is counted; UNCLAIM empties slots 4 to 15.
Where a session table holds one entry for a session, as every run's does. -/
def Obligations.RestartsAndKeys : Prop :=
  ((∀ (m : CMsg) (x : Sess) (cls : Nat) (s : State), HeardSigned m 0x41 x s → s.hif.execs = [] → 4 ≤ x.role →
      s.holdsLock m.sess = true → s.signedOk x m 0x41 = true → m.body.length = 1 → cls = byteAt m.body 0 →
      (cls = 2 ∨ cls = 3) → s.mod = .maintenance →
      (∀ e ∈ s.psg, e.2.st ≠ .armed ∧ e.2.st ≠ .running ∧ e.2.st ≠ .stalled) → s.boot.reserve.has cls = true →
      ∃ t, exec (.loaderCommit m) s = .next t ∧ Resulted m x 0 0 0 0 s t ∧ t.mod = .loaderUpdate
        ∧ t.boot.pause = some ⟨4, s.ns, cls, 0⟩ ∧ t.boot.reserve = s.boot.reserve ∧ t.boot.sess = [] ∧ t.psg = s.psg)
  ∧ (∀ (m : CMsg) (x : Sess) (s : State), HeardSigned m 0x42 x s → 3 ≤ x.role → s.holdsLock m.sess = true →
      s.signedOk x m 0x42 = true → m.body = [0] → s.mod ≠ .failed → s.boot.healthPending = false →
      ∃ t, exec (.restart m) s = .next t ∧ Resulted m x 0 0 0 0 s t ∧ t.boot.restartReq = true ∧ Taken m x s t
        ∧ t = { s with boot := { s.boot with sess := t.boot.sess, restartReq := true }, out := t.out })
  ∧ (∀ (m : CMsg) (x : Sess) (s : State), HeardSigned m 0x42 x s → 3 ≤ x.role → s.holdsLock m.sess = true →
      s.signedOk x m 0x42 = true → m.body = [1] →
      ∃ t, exec (.restart m) s = .next t ∧ Resulted m x 0 0 0 0 s t ∧ t.mod = .starting ∧ t.psg = [] ∧ t.boot.sess = []
        ∧ t.boot.keys = s.boot.keys ∧ t.col = Col.reset))
  ∧ ((∀ (m : CMsg) (x : Sess) (n : Nat) (s : State), HeardSigned m 0x50 x s → 3 ≤ x.role → s.holdsLock m.sess = true →
      s.signedOk x m 0x50 = true → m.body.length = 72 → n = byteAt m.body 0 → 4 ≤ n → n ≤ 15 →
      byteAt m.body 1 = 1 → 1 ≤ byteAt m.body 2 → byteAt m.body 2 ≤ 3 → byteAt m.body 2 ≤ x.role →
      byteAt m.body 3 ≤ 3 → 1 ≤ byteAt m.body 4 → byteAt m.body 4 ≤ 2 → zeroAt m.body 5 3 = true →
      (byteAt m.body 4 = 2 ∨ zeroAt m.body 56 16 = true) →
      ∃ t k, exec (.enroll m) s = .next t ∧ Resulted m x 0 0 0 0 s t ∧ t.boot.keys.find n = some k
        ∧ k.role = byteAt m.body 2 ∧ k.usage = byteAt m.body 3 ∧ k.param = byteAt m.body 4
        ∧ k.pub = bytesAt m.body 24 48 ∧ (∀ j, j ≠ n → t.boot.keys.find j = s.boot.keys.find j)
        ∧ bit t.boot.events 8 = true ∧ Taken m x s t
        ∧ t = { s with
            boot := { s.boot with sess := t.boot.sess, keys := t.boot.keys, events := t.boot.events }
            log := t.log, out := t.out })
  ∧ (∀ (m : CMsg) (x : Sess) (k : Key) (n : Nat) (s : State), HeardSigned m 0x51 x s → 3 ≤ x.role →
      s.holdsLock m.sess = true → s.signedOk x m 0x51 = true → m.body.length = 1 → n = byteAt m.body 0 → 4 ≤ n →
      n ≤ 15 → n ≠ x.key → s.boot.keys.find n = some k →
      (∀ e ∈ s.boot.sess, e.1 = m.sess → e.2 = x) →
      ∃ t, exec (.revoke m) s = .next t ∧ Resulted m x 0 0 0 0 s t ∧ t.boot.keys.find n = none
        ∧ (∀ j, j ≠ n → t.boot.keys.find j = s.boot.keys.find j) ∧ bit t.boot.events 8 = true
        ∧ (∀ id y, s.boot.sess.find id = some y → y.key = n → y.role ≠ 0 → t.boot.sess.find id = none))
  ∧ (∀ (m : CMsg) (x : Sess) (s : State), HeardSigned m 0x51 x s → 3 ≤ x.role → s.holdsLock m.sess = true →
      s.signedOk x m 0x51 = true → m.body.length = 1 → byteAt m.body 0 = x.key → 4 ≤ x.key → x.key ≤ 15 →
      ∃ t, exec (.revoke m) s = .next t ∧ Resulted m x 0x0403 0 0 0 s t ∧ t.boot.keys = s.boot.keys)
  ∧ (∀ (m : CMsg) (x : Sess) (s : State), Heard m 0x52 x s → m.body.length = 88 → byteAt m.body 17 = 1 →
      1 ≤ byteAt m.body 20 → byteAt m.body 20 ≤ 2 → zeroAt m.body 21 3 = true →
      (byteAt m.body 20 = 2 ∨ zeroAt m.body 72 16 = true) → s.boot.claimed = false → s.upMs ≤ 600000 →
      s.boot.claimBad < 3 → (Config.sha256 (m.body.take 16)).toNat = s.fuse.claim →
      ∃ t k, exec (.claim m) s = .next t ∧ Resulted m x 0 0 0 0 s t ∧ t.boot.keys.find 4 = some k ∧ k.role = 3
        ∧ k.usage = 3 ∧ k.pub = bytesAt m.body 40 48 ∧ (∀ j, j ≠ 4 → t.boot.keys.find j = s.boot.keys.find j)
        ∧ Taken m x s t
        ∧ t = { s with
            boot := { s.boot with sess := t.boot.sess, keys := t.boot.keys, events := t.boot.events }
            log := t.log, out := t.out })
  ∧ (∀ (m : CMsg) (x : Sess) (s : State), Heard m 0x52 x s → m.body.length = 88 → byteAt m.body 17 = 1 →
      1 ≤ byteAt m.body 20 → byteAt m.body 20 ≤ 2 → zeroAt m.body 21 3 = true →
      (byteAt m.body 20 = 2 ∨ zeroAt m.body 72 16 = true) → s.boot.claimed = false → s.upMs ≤ 600000 →
      s.boot.claimBad < 3 → (Config.sha256 (m.body.take 16)).toNat ≠ s.fuse.claim →
      ∃ t, exec (.claim m) s = .next t ∧ Resulted m x 0x0403 0 0 0 s t ∧ t.boot.claimBad = s.boot.claimBad + 1
        ∧ t.boot.claimFails.get x.port 0 = satInc 16 (s.boot.claimFails.get x.port 0) ∧ t.boot.keys = s.boot.keys)
  ∧ (∀ (m : CMsg) (x : Sess) (s : State), HeardSigned m 0x53 x s → 4 ≤ x.role → s.holdsLock m.sess = true →
      s.signedOk x m 0x53 = true → m.body = [] →
      ∃ t, exec (.unclaim m) s = .next t ∧ Resulted m x 0 0 0 0 s t
        ∧ (∀ n, 4 ≤ n → n < 16 → t.boot.keys.find n = none)
        ∧ (∀ n, (n < 4 ∨ 16 ≤ n) → t.boot.keys.find n = s.boot.keys.find n)))

/-- Maintenance (R401, R402, R407): MAINT_ENTER puts the module into MAINTENANCE at once, and completes when no fabric-memory
request is outstanding; with a passage armed or running it is refused; either way its nonce is used. MAINT_EXIT frees cores,
parks test mirrors, releases lasers and returns to READY, or waits for the warm restart it asks for.
Newt cores in maintenance (R404 to R406): BREAK_SET sets or clears a breakpoint, or halts a core at once; a running core
that reaches a breakpoint in maintenance halts with event 5 and one NOTICE, core 0 never; CORE_RESUME lets a halted core
run, and a core that is not halted is refused. -/
def Obligations.MaintenanceMode : Prop :=
  ((∀ (r : Req) (s : State), accepts 0x0B01 r s = true → r.b 0 1 ≤ 2 → zeroAt r.params 1 7 = true → s.mod = .ready →
      (∀ e ∈ s.psg, e.2.st ≠ .armed ∧ e.2.st ≠ .running ∧ e.2.st ≠ .stalled) → s.fm.reqs = [] →
      ∃ t, exec (.maintEnter r) s = .next t ∧ Completed r s t 0 0 0 ∧ t.mod = .maintenance ∧ t.log.nonce = none
        ∧ t.log.created = s.log.created + 1 ∧ Silent s t ∧ Quiet r s t
        ∧ t = { s with mod := .maintenance, hif := t.hif, bnc := t.bnc, out := t.out, log := t.log })
  ∧ (∀ (r : Req) (s : State), accepts 0x0B01 r s = true → r.b 0 1 ≤ 2 → zeroAt r.params 1 7 = true → s.mod = .ready →
      (∀ e ∈ s.psg, e.2.st ≠ .armed ∧ e.2.st ≠ .running ∧ e.2.st ≠ .stalled) → s.fm.reqs ≠ [] →
      ∃ t w, exec (.maintEnter r) s = .next t ∧ t.mod = .maintenance ∧ t.log.nonce = none ∧ t.out = s.out
        ∧ Waits 0x0B01 r t w ∧ w = .drain s.fm.reqs.length ∧ t.fm = s.fm)
  ∧ (∀ (r : Req) (e : Nat × Passage) (s : State), accepts 0x0B01 r s = true → r.b 0 1 ≤ 2 →
      zeroAt r.params 1 7 = true → s.mod = .ready →
      s.psg.find? (fun e => e.2.st == .armed || e.2.st == .running || e.2.st == .stalled) = some e →
      ∃ t, exec (.maintEnter r) s = .next t ∧ Completed r s t 0x0301 e.2.st.code e.1 ∧ t.log.nonce = none
        ∧ t.mod = .ready ∧ Silent s t ∧ Quiet r s t
        ∧ t = { s with hif := t.hif, bnc := t.bnc, out := t.out, log := { s.log with nonce := none } })
  ∧ (∀ (e : Exec) (n : Nat) (s : State), s.hif.execs = [e] → e.wait = .drain n → s.fm.reqs = [] → e.discard = false →
      e.dma = .ok → (s.ring e.fn e.ring).st ≠ .disabled →
      ∃ t c, exec .maintDrainDone s = .next t ∧ t.out = s.out ++ [.completion e.fn e.ring (s.ring e.fn e.ring).cplIndex c]
        ∧ c.status = 0 ∧ c.tag = e.tag % 2 ^ 32 ∧ c.word0 = n % 2 ^ 64 ∧ t.hif.execs = [] ∧ t.mod = s.mod
        ∧ t = { s with hif := t.hif, bnc := t.bnc, out := t.out })
  ∧ (∀ s : State, (s.fm.reqs ≠ [] ∨ ∀ e ∈ s.hif.execs, ∀ n, e.wait ≠ .drain n) → exec .maintDrainDone s = .next s)
  ∧ (∀ (r : Req) (s : State), accepts 0x0B02 r s = true → r.p 16 1 = 0 → r.z 17 = true → s.mod = .maintenance →
      ∃ t, exec (.maintExit r) s = .next t
        ∧ Completed r s t 0 (s.bnc.core.filter (fun e => e.2.st != 0)).length 0 ∧ t.mod = .ready ∧ t.bnc.core = []
        ∧ (∀ m x, s.plane.mirror.find m = some x → x.byMaint = true → s.circuitOf m = none →
            t.plane.mirror.find m = some { x.relax with byMaint := false })
        ∧ (∀ m x, s.plane.mirror.find m = some x → x.byMaint = false → t.plane.mirror.find m = some x)
        ∧ (∀ l x, s.col.laser.find l = some x → x.byMaint = true → (t.laser l).gate = false ∧ (t.laser l).byMaint = false)
        ∧ Silent s t
        ∧ t = { s with
            mod := .ready, hif := t.hif, bnc := t.bnc, out := t.out, log := t.log
            plane := { s.plane with mirror := t.plane.mirror }, col := { s.col with laser := t.col.laser } })
  ∧ (∀ (r : Req) (s : State), accepts 0x0B02 r s = true → r.p 16 1 = 1 → r.z 17 = true → s.mod = .maintenance →
      ∃ t, exec (.maintExit r) s = .next t
        ∧ Waits 0x0B02 r t (.exitRestart (s.bnc.core.filter (fun e => e.2.st != 0)).length)
        ∧ t.mod = .maintenance ∧ t.bnc.core = [] ∧ t.out = s.out))
  ∧ ((∀ (r : Req) (k : Nat) (s : State), accepts 0x0B05 r s = true → 1 ≤ r.p 16 1 → r.p 16 1 ≤ 31 → r.p 17 1 ≤ 3 →
      k = r.p 18 1 → k ≤ 3 → zeroAt r.inl 3 5 = true → (k = 0 → r.p 24 8 = 0) → (k = 1 → r.p 24 8 % 4 = 0) →
      (2 ≤ k → r.p 24 8 % 8 = 0) → r.z 32 = true →
      ∃ t, exec (.breakSet r) s = .next t ∧ Completed r s t 0 (s.core (r.p 16 1)).st 0
        ∧ (t.core (r.p 16 1)).bps.find (r.p 17 1) = (if k = 0 then none else some (k, r.p 24 8))
        ∧ (∀ i, i ≠ r.p 17 1 → (t.core (r.p 16 1)).bps.find i = (s.core (r.p 16 1)).bps.find i)
        ∧ (∀ c, c ≠ r.p 16 1 → t.core c = s.core c) ∧ Silent s t
        ∧ t = { s with hif := t.hif, out := t.out
                       bnc := { s.bnc with core := t.bnc.core, trace := t.bnc.trace, events := t.bnc.events } })
  ∧ (∀ (r : Req) (s : State), accepts 0x0B05 r s = true → 1 ≤ r.p 16 1 → r.p 16 1 ≤ 31 → r.p 17 1 ≤ 3 → r.p 18 1 = 4 →
      zeroAt r.inl 3 5 = true → r.p 24 8 = 0 → r.z 32 = true → s.coreHalted (r.p 16 1) = false →
      ∃ t, exec (.breakSet r) s = .next t ∧ Completed r s t 0 3 0 ∧ (t.core (r.p 16 1)).st = 3
        ∧ bit t.bnc.events 5 = true ∧ t.log.created = s.log.created + 1 ∧ (∀ c, c ≠ r.p 16 1 → t.core c = s.core c))
  ∧ (∀ (core : Fin 32) (i : Fin 4) (pc kind addr : Nat) (s : State), (s.core core).bps.find i = some (kind, addr) →
      s.mod = .maintenance → core.val ≠ 0 → (s.core core).st = 0 →
      ∃ t, exec (.breakHit core i pc) s = .next t ∧ (t.core core).st = 1 ∧ (t.core core).bpHit = i.val
        ∧ (t.core core).pc = pc % 2 ^ 64 ∧ bit t.bnc.events 5 = true ∧ t.log.created = s.log.created + 1
        ∧ (∀ c, c ≠ core.val → t.core c = s.core c)
        ∧ t = { s with log := t.log
                       bnc := { s.bnc with core := t.bnc.core, trace := t.bnc.trace, events := t.bnc.events } })
  ∧ (∀ (core : Fin 32) (i : Fin 4) (pc : Nat) (s : State),
      ((s.core core).bps.find i = none ∨ s.mod ≠ .maintenance ∨ core.val = 0 ∨ (s.core core).st ≠ 0) →
      exec (.breakHit core i pc) s = .next s)
  ∧ (∀ (r : Req) (s : State), accepts 0x0B06 r s = true → 1 ≤ r.p 16 1 → r.p 16 1 ≤ 31 → r.p 17 1 ≤ 1 → r.z 18 = true →
      s.coreHalted (r.p 16 1) = true →
      ∃ t, exec (.coreResume r) s = .next t ∧ (t.core (r.p 16 1)).st = (if r.p 17 1 = 0 then 0 else 2)
        ∧ (r.p 17 1 = 0 → Completed r s t 0 (s.core (r.p 16 1)).pc 0)
        ∧ (r.p 17 1 = 1 → Completed r s t 0 (t.core (r.p 16 1)).pc 0)
        ∧ (t.core (r.p 16 1)).bps = (s.core (r.p 16 1)).bps ∧ (∀ c, c ≠ r.p 16 1 → t.core c = s.core c) ∧ Silent s t)
  ∧ (∀ (r : Req) (s : State), accepts 0x0B06 r s = true → 1 ≤ r.p 16 1 → r.p 16 1 ≤ 31 → r.p 17 1 ≤ 1 → r.z 18 = true →
      s.coreHalted (r.p 16 1) = false →
      ∃ t, exec (.coreResume r) s = .next t ∧ Completed r s t 0x0301 0 0 ∧ Silent s t ∧ Quiet r s t
        ∧ t = { s with hif := t.hif, bnc := t.bnc, out := t.out }))

/-- Memory protection (R451 to R455): a weak location is repaired at once or at the next cold start; a rate over 60 in 60 s
raises the alarm of its unit and clears below 6 in 600 s; an uncorrectable location is poisoned once, sets the status bit, and
its consumer responds; a scrub pass counts what it covered, or becomes overdue.
Parts that leave service (R456, R465): a skink unit that fails its known-answer test is retired with event 6 and the
passage that uses it aborts; a stack that fails is dead with one CRITICAL; a die-to-die port spares two lanes, and a third
failure or lost training fails the port and every terminated port of its die. -/
def Obligations.MemoryAndRetirement : Prop :=
  ((∀ (mem : Fin 4) (a : Nat) (s : State), mem.val ≠ 0 →
      ∃ t, exec (.memRepair mem a) s = .next t ∧ t.mem.repairs = s.mem.repairs ++ [(mem.val, a)]
        ∧ t.log.created = s.log.created + 1
        ∧ t = { s with mem := { s.mem with repairs := t.mem.repairs }, bnc := { s.bnc with ctr := t.bnc.ctr }, log := t.log })
  ∧ (∀ (a : Nat) (s : State), exec (.memRepair 0 a) s = .next s)
  ∧ (∀ (mem : Fin 4) (i : Nat) (s : State), s.mem.rateHigh.contains (corrKey mem i) = true →
      ∃ t, exec (.memCorrectableClear mem i) s = .next t ∧ t.mem.rateHigh.contains (corrKey mem i) = false
        ∧ t = { s with
            ast := { s.ast with raw := t.ast.raw }
            mem := { s.mem with rateHigh := s.mem.rateHigh.filter (· != corrKey mem i) } })
  ∧ (∀ (mem : Fin 4) (i : Nat) (s : State), s.mem.rateHigh.contains (corrKey mem i) = false →
      exec (.memCorrectableClear mem i) s = .next s)
  ∧ (∀ (mem : Fin 4) (a : Nat) (n : Fin 64) (obj : Nat) (s : State), mem.val ≠ 0 →
      s.mem.poison.contains (mem.val, a) = false → s.mem.poison.length < 65536 →
      ∃ t, exec (.memUncorrectable mem a 0 n obj) s = .next t ∧ t.mem.poison = s.mem.poison ++ [(mem.val, a)]
        ∧ t.hif = { s.hif with memUnc := true }
        ∧ t = { s with
            mem := { s.mem with poison := t.mem.poison }, hif := t.hif, log := t.log, bnc := { s.bnc with ctr := t.bnc.ctr } })
  ∧ (∀ (mem : Fin 4) (a : Nat) (n : Fin 64) (obj : Nat) (x : Slice) (s : State), mem.val ≠ 0 →
      s.topo.slice.find n = some x →
      ∃ t y, exec (.memUncorrectable mem a 5 n obj) s = .next t ∧ t.topo.slice.find n = some y
        ∧ obj / 64 ∈ y.windowBad ∧ y.window = x.window ∧ (s.mem.poison.contains (mem.val, a) = true → t.mem = s.mem))
  ∧ (∀ (mem : Fin 4) (a : Nat) (n : Fin 64) (obj : Nat) (e : Exec) (s : State), mem.val ≠ 0 →
      s.ringExec (obj / 16) (obj % 16) = some e → e.discard = false → e.dma = .ok →
      (s.ring e.fn e.ring).st ≠ .disabled →
      ∃ t c, exec (.memUncorrectable mem a 6 n obj) s = .next t ∧ t.hif.execs = s.hif.execs.erase e
        ∧ t.out = s.out ++ [.completion e.fn e.ring (s.ring e.fn e.ring).cplIndex c] ∧ c.status = 0x0503
        ∧ c.tag = e.tag % 2 ^ 32 ∧ c.word0 = mem.val ∧ c.word1 = a % 2 ^ 64)
  ∧ (∀ (mem : Fin 4) (a : Nat) (n : Fin 64) (obj : Nat) (r : FReq) (s : State), mem.val ≠ 0 →
      s.fm.reqs.find? (·.ref == obj) = some r → RefsBelow s → Answerable r s →
      ∃ t, exec (.memUncorrectable mem a 7 n obj) s = .next t ∧ Answered r 0x0503 [] s t)
  ∧ (∀ (mem : Fin 4) (s : State), mem.val ≠ 0 → s.calPaused = false →
      ∃ t, exec (.scrubPass mem false [] []) s = .next t ∧ t.mem = { s.mem with overdue := s.mem.overdue.filter (· != mem.val) }
        ∧ t = { s with mem := t.mem, bnc := { s.bnc with ctr := t.bnc.ctr } })
  ∧ (∀ (mem : Fin 4) (s : State), mem.val ≠ 0 → s.calPaused = false → s.mem.overdue.contains mem.val = false →
      ∃ t, exec (.scrubPass mem true [] []) s = .next t ∧ t.mem = { s.mem with overdue := s.mem.overdue ++ [mem.val] }
        ∧ t.log.created = s.log.created + 1 ∧ t = { s with mem := t.mem, log := t.log })
  ∧ (∀ (mem : Fin 4) (u k : Nat) (s : State), mem.val ≠ 0 → s.calPaused = false → 60 < k →
      ∃ t, exec (.scrubPass mem false [(u, k)] []) s = .next t ∧ corrKey mem u ∈ t.mem.rateHigh
        ∧ t.mem.poison = s.mem.poison)
  ∧ (∀ (mem : Fin 4) (o : Bool) (c : List (Nat × Nat)) (bad : List Nat) (s : State), s.calPaused = true →
      exec (.scrubPass mem o c bad) s = .next s))
  ∧ ((∀ (u : Fin 48) (s : State), s.skk.retired.contains u.val = false →
      (∀ e ∈ s.psg, s.usesUnit (e.1 / 256) u e.2 = false) →
      ∃ t, exec (.unitKnownAnswerTest u false) s = .next t ∧ t.skk.retired = s.skk.retired ++ [u.val]
        ∧ bit t.skk.events 6 = true ∧ t.log.created = s.log.created + 1
        ∧ t = { s with skk := { s.skk with retired := t.skk.retired, events := t.skk.events }, log := t.log })
  ∧ (∀ (u : Fin 48) (k : Nat) (p : Passage) (s : State), s.skk.retired.contains u.val = false → s.psg = [(k, p)] →
      s.usesUnit (k / 256) u p = true →
      ∃ t q, exec (.unitKnownAnswerTest u false) s = .next t ∧ t.psg.find k = some q ∧ q.st = .aborted
        ∧ u.val ∈ t.skk.retired)
  ∧ (∀ (u : Fin 48) (s : State), exec (.unitKnownAnswerTest u true) s = .next s)
  ∧ (∀ (k : Fin 8) (s : State), k.val < s.fuse.stacks → s.mem.badStacks.contains k.val = false →
      s.mem.deadStacks.contains k.val = false → s.boot.actWait = none →
      ∃ t, exec (.hbmStackFailed k) s = .next t ∧ t.mem.deadStacks = s.mem.deadStacks ++ [k.val]
        ∧ t.log.created = s.log.created + 1
        ∧ t = { s with mem := { s.mem with deadStacks := t.mem.deadStacks }, log := t.log })
  ∧ (∀ (k : Fin 8) (s : State), s.fuse.stacks ≤ k.val → exec (.hbmStackFailed k) s = .next s)
  ∧ (∀ (d : Fin 4) (lane : Nat) (s : State), d.val < s.fuse.ioDies → s.mem.deadDies.contains d.val = false →
      s.mem.lanes.get d 0 < 2 →
      ∃ t, exec (.dieLinkLaneFail d lane false) s = .next t ∧ t.mem.lanes.get d 0 = s.mem.lanes.get d 0 + 1
        ∧ t.log.created = s.log.created + 1
        ∧ t = { s with mem := { s.mem with lanes := t.mem.lanes }, log := t.log })
  ∧ (∀ (d : Fin 4) (lane : Nat) (lost : Bool) (s : State), d.val < s.fuse.ioDies →
      s.mem.deadDies.contains d.val = false → (lost = true ∨ 2 ≤ s.mem.lanes.get d 0) →
      ∃ t, exec (.dieLinkLaneFail d lane lost) s = .next t ∧ t.mem.deadDies = s.mem.deadDies ++ [d.val]
        ∧ (∀ p, 64 * d.val ≤ p → p < 64 * d.val + 64 → (t.lp p).st = .failed)
        ∧ (∀ p, (p < 64 * d.val ∨ 64 * d.val + 64 ≤ p) → t.lp p = s.lp p))
  ∧ (∀ (d : Fin 4) (lane : Nat) (lost : Bool) (s : State), s.fuse.ioDies ≤ d.val →
      exec (.dieLinkLaneFail d lane lost) s = .next s))

/-- Over-subscription and temperatures (R461, R466, R484, R486): a slice whose requests wait half of a saturated ms counts it,
1,000 in a row raise its alarm, and one without breaks the row; the issue rate falls above 100 °C and rises below 95 °C by an
eighth each 10 ms; above 110 °C the module stops its units until below 100 °C; a reading above its limit stands as an alarm. -/
def Obligations.OverloadAndHeat : Prop :=
  (∀ (res : Fin 7) (busy waited : Nat) (n w : Nat) (s : State), res.val ≠ 0 → s.ringsPaused = false → 980 ≤ busy →
      0 < waited → 1 ≤ n → n < 64 → 500 ≤ w → s.mem.overMs.get (overKey res n) 0 < 999 →
      ∃ t, exec (.saturationInterval res busy waited [(n, w)]) s = .next t
        ∧ t.mem.overMs.get (overKey res n) 0 = s.mem.overMs.get (overKey res n) 0 + 1
        ∧ (∀ x, t.mem.overAlarm.contains x = true → s.mem.overAlarm.contains x = true)
        ∧ s.ns < t.ns ∧ t.ns ≤ s.ns + 1000000)
  ∧ (∀ (res : Fin 7) (busy waited : Nat) (n w : Nat) (s : State), res.val ≠ 0 → s.ringsPaused = false → 980 ≤ busy →
      0 < waited → 1 ≤ n → n < 64 → 500 ≤ w → 999 ≤ s.mem.overMs.get (overKey res n) 0 →
      ∃ t, exec (.saturationInterval res busy waited [(n, w)]) s = .next t ∧ (res.val, n) ∈ t.mem.overAlarm)
  ∧ (∀ (res : Fin 7) (busy waited : Nat) (waits : List (Nat × Nat)) (s : State), res.val ≠ 0 → s.ringsPaused = false →
      (busy < 980 ∨ waited = 0) → s.mem.overAlarm = [] →
      ∃ t, exec (.saturationInterval res busy waited waits) s = .next t
        ∧ (∀ n, 1 ≤ n → n < 64 → t.mem.overMs.get (overKey res n) 0 = 0) ∧ t.mem.overAlarm = []
        ∧ t = { s with
            ast := { s.ast with raw := t.ast.raw }, mem := { s.mem with overMs := t.mem.overMs } })
  ∧ (∀ (temp : Int) (s : State), 10000 < temp →
      ∃ t, exec (.throttleStep temp) s = .next t ∧ t.mem.rate = max 2 (s.mem.rate - 1)
        ∧ t = { s with
            ast := { s.ast with raw := t.ast.raw }
            mem := { s.mem with rate := t.mem.rate, throttleAt := t.mem.throttleAt }, log := t.log })
  ∧ (∀ (temp : Int) (s : State), temp < 9500 → s.mem.thermStop = false →
      ∃ t, exec (.throttleStep temp) s = .next t ∧ t.mem.rate = min 8 (s.mem.rate + 1)
        ∧ t = { s with ast := { s.ast with raw := t.ast.raw }, mem := { s.mem with rate := t.mem.rate } })
  ∧ (∀ (temp : Int) (s : State), 9500 ≤ temp → temp ≤ 10000 → s.mem.thermStop = false →
      ∃ t, exec (.throttleStep temp) s = .next t ∧ s.ns < t.ns ∧ t = { s with ast := { s.ast with raw := t.ast.raw } })
  ∧ (∀ (temp : Int) (s : State), 11000 < temp → s.mem.thermStop = false →
      ∃ t, exec (.thermalStop temp) s = .next t ∧ t.mem.thermStop = true ∧ t.log.created = s.log.created + 1
        ∧ t = { s with mem := { s.mem with thermStop := true }, log := t.log })
  ∧ (∀ (temp : Int) (s : State), 10000 ≤ temp → (temp ≤ 11000 ∨ s.mem.thermStop = true) →
      exec (.thermalStop temp) s = .next s)
  ∧ (∀ (temp : Int) (s : State), temp < 10000 → s.mem.thermStop = true → NoHeld s →
      exec (.thermalStop temp) s = .next { s with mem := { s.mem with thermStop := false } })
  ∧ (∀ (k : Fin 16) (v second lim : Int) (s : State), s.calPaused = false → k.val < 8 →
      sensorLimit k = some lim → lim < v →
      ∃ t, exec (.sensorLimit k v second) s = .next t ∧ k.val ∈ t.mem.hot
        ∧ (s.sensorDue k = true → t.mem.warnAt.get k 0 = s.ns) ∧ (s.sensorDue k = false → t.log = s.log)
        ∧ t = { s with mem := { s.mem with hot := t.mem.hot, warnAt := t.mem.warnAt }, log := t.log })
  ∧ (∀ (k : Fin 16) (v second lim : Int) (s : State), s.calPaused = false → k.val < 8 →
      sensorLimit k = some lim → v ≤ lim →
      exec (.sensorLimit k v second) s = .next { s with mem := { s.mem with hot := s.mem.hot.filter (· != k.val) } })
  ∧ (∀ (flow inlet : Int) (s : State), s.calPaused = false →
      ∃ t, exec (.sensorLimit 8 flow inlet) s = .next t
        ∧ (t.mem.coolantOut = true ↔ flow < 180 ∨ inlet < 2000 ∨ 4500 < inlet)
        ∧ t = { s with mem := { s.mem with coolantOut := t.mem.coolantOut, warnAt := t.mem.warnAt }, log := t.log })
  ∧ (∀ (k : Fin 16) (v second : Int) (s : State), s.calPaused = true → exec (.sensorLimit k v second) s = .next s)

/-- The state after reset is legal: STARTING with no command waiting (R417), no passage (R52), every ring at its reset values
(R81) and every fabric-memory queue FREE (R286). -/
def Obligations.ResetIsLegal : Prop :=
  Legal State.reset ∧ State.reset.mod = .starting ∧ State.reset.pending = [] ∧ State.reset.psg = []
    ∧ (∀ (f : Nat) (k : Fin 16), State.reset.ring f k = Ring.reset) ∧ (∀ q, (State.reset.queue q).st = 0)

/-- Every step keeps a legal state legal (R1, R279): the part stays the variant it is, and every fabric-memory window stays in
its canonical form. -/
def Obligations.LegalKept : Prop :=
  ∀ (s t : State), Legal s → step s = .next t → Legal t ∧ t.fuse = s.fuse
end

