-- ==== Sys2Proof/Laws/State.lean ====
section
/-! SUPPORT. What each update of the state leaves alone, one lemma for each field it does not write. -/

namespace Sys2Proof.Machine

section
variable (s : State) (o : Out)
@[simp] theorem State.emit_fuse : (s.emit o).fuse = s.fuse := rfl
@[simp] theorem State.emit_mod : (s.emit o).mod = s.mod := rfl
@[simp] theorem State.emit_ast : (s.emit o).ast = s.ast := rfl
@[simp] theorem State.emit_bnc : (s.emit o).bnc = s.bnc := rfl
@[simp] theorem State.emit_log : (s.emit o).log = s.log := rfl
@[simp] theorem State.emit_hif : (s.emit o).hif = s.hif := rfl
@[simp] theorem State.emit_topo : (s.emit o).topo = s.topo := rfl
@[simp] theorem State.emit_plane : (s.emit o).plane = s.plane := rfl
@[simp] theorem State.emit_col : (s.emit o).col = s.col := rfl
@[simp] theorem State.emit_psg : (s.emit o).psg = s.psg := rfl
@[simp] theorem State.emit_skk : (s.emit o).skk = s.skk := rfl
@[simp] theorem State.emit_fm : (s.emit o).fm = s.fm := rfl
@[simp] theorem State.emit_boot : (s.emit o).boot = s.boot := rfl
@[simp] theorem State.emit_sxt : (s.emit o).sxt = s.sxt := rfl
@[simp] theorem State.emit_mem : (s.emit o).mem = s.mem := rfl
@[simp] theorem State.emit_lnk : (s.emit o).lnk = s.lnk := rfl
@[simp] theorem State.emit_free : (s.emit o).free = s.free := rfl
@[simp] theorem State.emit_pending : (s.emit o).pending = s.pending := rfl
end

section
variable (s : State) (v : Nat)
@[simp] theorem State.answer_fuse : (s.answer v).fuse = s.fuse := rfl
@[simp] theorem State.answer_mod : (s.answer v).mod = s.mod := rfl
@[simp] theorem State.answer_ast : (s.answer v).ast = s.ast := rfl
@[simp] theorem State.answer_bnc : (s.answer v).bnc = s.bnc := rfl
@[simp] theorem State.answer_log : (s.answer v).log = s.log := rfl
@[simp] theorem State.answer_hif : (s.answer v).hif = s.hif := rfl
@[simp] theorem State.answer_topo : (s.answer v).topo = s.topo := rfl
@[simp] theorem State.answer_plane : (s.answer v).plane = s.plane := rfl
@[simp] theorem State.answer_col : (s.answer v).col = s.col := rfl
@[simp] theorem State.answer_psg : (s.answer v).psg = s.psg := rfl
@[simp] theorem State.answer_skk : (s.answer v).skk = s.skk := rfl
@[simp] theorem State.answer_fm : (s.answer v).fm = s.fm := rfl
@[simp] theorem State.answer_boot : (s.answer v).boot = s.boot := rfl
@[simp] theorem State.answer_sxt : (s.answer v).sxt = s.sxt := rfl
@[simp] theorem State.answer_mem : (s.answer v).mem = s.mem := rfl
@[simp] theorem State.answer_lnk : (s.answer v).lnk = s.lnk := rfl
@[simp] theorem State.answer_free : (s.answer v).free = s.free := rfl
@[simp] theorem State.answer_pending : (s.answer v).pending = s.pending := rfl
end

section
variable (s : State) (w : Nat)
@[simp] theorem State.fresh2_fuse : ((s.fresh w).2).fuse = s.fuse := rfl
@[simp] theorem State.fresh2_mod : ((s.fresh w).2).mod = s.mod := rfl
@[simp] theorem State.fresh2_ast : ((s.fresh w).2).ast = s.ast := rfl
@[simp] theorem State.fresh2_bnc : ((s.fresh w).2).bnc = s.bnc := rfl
@[simp] theorem State.fresh2_log : ((s.fresh w).2).log = s.log := rfl
@[simp] theorem State.fresh2_hif : ((s.fresh w).2).hif = s.hif := rfl
@[simp] theorem State.fresh2_topo : ((s.fresh w).2).topo = s.topo := rfl
@[simp] theorem State.fresh2_plane : ((s.fresh w).2).plane = s.plane := rfl
@[simp] theorem State.fresh2_col : ((s.fresh w).2).col = s.col := rfl
@[simp] theorem State.fresh2_psg : ((s.fresh w).2).psg = s.psg := rfl
@[simp] theorem State.fresh2_skk : ((s.fresh w).2).skk = s.skk := rfl
@[simp] theorem State.fresh2_fm : ((s.fresh w).2).fm = s.fm := rfl
@[simp] theorem State.fresh2_boot : ((s.fresh w).2).boot = s.boot := rfl
@[simp] theorem State.fresh2_sxt : ((s.fresh w).2).sxt = s.sxt := rfl
@[simp] theorem State.fresh2_mem : ((s.fresh w).2).mem = s.mem := rfl
@[simp] theorem State.fresh2_lnk : ((s.fresh w).2).lnk = s.lnk := rfl
@[simp] theorem State.fresh2_out : ((s.fresh w).2).out = s.out := rfl
@[simp] theorem State.fresh2_pending : ((s.fresh w).2).pending = s.pending := rfl
end

section
variable (s : State) 
@[simp] theorem State.tick_fuse : (s.tick).fuse = s.fuse := rfl
@[simp] theorem State.tick_mod : (s.tick).mod = s.mod := rfl
@[simp] theorem State.tick_bnc : (s.tick).bnc = s.bnc := rfl
@[simp] theorem State.tick_log : (s.tick).log = s.log := rfl
@[simp] theorem State.tick_hif : (s.tick).hif = s.hif := rfl
@[simp] theorem State.tick_topo : (s.tick).topo = s.topo := rfl
@[simp] theorem State.tick_plane : (s.tick).plane = s.plane := rfl
@[simp] theorem State.tick_col : (s.tick).col = s.col := rfl
@[simp] theorem State.tick_psg : (s.tick).psg = s.psg := rfl
@[simp] theorem State.tick_skk : (s.tick).skk = s.skk := rfl
@[simp] theorem State.tick_fm : (s.tick).fm = s.fm := rfl
@[simp] theorem State.tick_boot : (s.tick).boot = s.boot := rfl
@[simp] theorem State.tick_sxt : (s.tick).sxt = s.sxt := rfl
@[simp] theorem State.tick_mem : (s.tick).mem = s.mem := rfl
@[simp] theorem State.tick_lnk : (s.tick).lnk = s.lnk := rfl
@[simp] theorem State.tick_free : (s.tick).free = s.free := rfl
@[simp] theorem State.tick_out : (s.tick).out = s.out := rfl
@[simp] theorem State.tick_pending : (s.tick).pending = s.pending := rfl
end

section
variable (s : State) (n : Nat)
@[simp] theorem State.advanceTo_fuse : (s.advanceTo n).fuse = s.fuse := rfl
@[simp] theorem State.advanceTo_mod : (s.advanceTo n).mod = s.mod := rfl
@[simp] theorem State.advanceTo_bnc : (s.advanceTo n).bnc = s.bnc := rfl
@[simp] theorem State.advanceTo_log : (s.advanceTo n).log = s.log := rfl
@[simp] theorem State.advanceTo_hif : (s.advanceTo n).hif = s.hif := rfl
@[simp] theorem State.advanceTo_topo : (s.advanceTo n).topo = s.topo := rfl
@[simp] theorem State.advanceTo_plane : (s.advanceTo n).plane = s.plane := rfl
@[simp] theorem State.advanceTo_col : (s.advanceTo n).col = s.col := rfl
@[simp] theorem State.advanceTo_psg : (s.advanceTo n).psg = s.psg := rfl
@[simp] theorem State.advanceTo_skk : (s.advanceTo n).skk = s.skk := rfl
@[simp] theorem State.advanceTo_fm : (s.advanceTo n).fm = s.fm := rfl
@[simp] theorem State.advanceTo_boot : (s.advanceTo n).boot = s.boot := rfl
@[simp] theorem State.advanceTo_sxt : (s.advanceTo n).sxt = s.sxt := rfl
@[simp] theorem State.advanceTo_mem : (s.advanceTo n).mem = s.mem := rfl
@[simp] theorem State.advanceTo_lnk : (s.advanceTo n).lnk = s.lnk := rfl
@[simp] theorem State.advanceTo_free : (s.advanceTo n).free = s.free := rfl
@[simp] theorem State.advanceTo_out : (s.advanceTo n).out = s.out := rfl
@[simp] theorem State.advanceTo_pending : (s.advanceTo n).pending = s.pending := rfl
end

section
variable (s : State) (n : Nat) (f : Slice → Slice)
@[simp] theorem State.updSlice_fuse : (s.updSlice n f).fuse = s.fuse := by
  unfold State.updSlice; (repeat' split) <;> rfl
@[simp] theorem State.updSlice_mod : (s.updSlice n f).mod = s.mod := by
  unfold State.updSlice; (repeat' split) <;> rfl
@[simp] theorem State.updSlice_ast : (s.updSlice n f).ast = s.ast := by
  unfold State.updSlice; (repeat' split) <;> rfl
@[simp] theorem State.updSlice_bnc : (s.updSlice n f).bnc = s.bnc := by
  unfold State.updSlice; (repeat' split) <;> rfl
@[simp] theorem State.updSlice_log : (s.updSlice n f).log = s.log := by
  unfold State.updSlice; (repeat' split) <;> rfl
@[simp] theorem State.updSlice_hif : (s.updSlice n f).hif = s.hif := by
  unfold State.updSlice; (repeat' split) <;> rfl
@[simp] theorem State.updSlice_plane : (s.updSlice n f).plane = s.plane := by
  unfold State.updSlice; (repeat' split) <;> rfl
@[simp] theorem State.updSlice_col : (s.updSlice n f).col = s.col := by
  unfold State.updSlice; (repeat' split) <;> rfl
@[simp] theorem State.updSlice_psg : (s.updSlice n f).psg = s.psg := by
  unfold State.updSlice; (repeat' split) <;> rfl
@[simp] theorem State.updSlice_skk : (s.updSlice n f).skk = s.skk := by
  unfold State.updSlice; (repeat' split) <;> rfl
@[simp] theorem State.updSlice_fm : (s.updSlice n f).fm = s.fm := by
  unfold State.updSlice; (repeat' split) <;> rfl
@[simp] theorem State.updSlice_boot : (s.updSlice n f).boot = s.boot := by
  unfold State.updSlice; (repeat' split) <;> rfl
@[simp] theorem State.updSlice_sxt : (s.updSlice n f).sxt = s.sxt := by
  unfold State.updSlice; (repeat' split) <;> rfl
@[simp] theorem State.updSlice_mem : (s.updSlice n f).mem = s.mem := by
  unfold State.updSlice; (repeat' split) <;> rfl
@[simp] theorem State.updSlice_lnk : (s.updSlice n f).lnk = s.lnk := by
  unfold State.updSlice; (repeat' split) <;> rfl
@[simp] theorem State.updSlice_free : (s.updSlice n f).free = s.free := by
  unfold State.updSlice; (repeat' split) <;> rfl
@[simp] theorem State.updSlice_out : (s.updSlice n f).out = s.out := by
  unfold State.updSlice; (repeat' split) <;> rfl
@[simp] theorem State.updSlice_pending : (s.updSlice n f).pending = s.pending := by
  unfold State.updSlice; (repeat' split) <;> rfl
end

section
variable (s : State) (n k : Nat) (f : Passage → Passage)
@[simp] theorem State.updPsg_fuse : (s.updPsg n k f).fuse = s.fuse := by
  unfold State.updPsg; (repeat' split) <;> rfl
@[simp] theorem State.updPsg_mod : (s.updPsg n k f).mod = s.mod := by
  unfold State.updPsg; (repeat' split) <;> rfl
@[simp] theorem State.updPsg_ast : (s.updPsg n k f).ast = s.ast := by
  unfold State.updPsg; (repeat' split) <;> rfl
@[simp] theorem State.updPsg_bnc : (s.updPsg n k f).bnc = s.bnc := by
  unfold State.updPsg; (repeat' split) <;> rfl
@[simp] theorem State.updPsg_log : (s.updPsg n k f).log = s.log := by
  unfold State.updPsg; (repeat' split) <;> rfl
@[simp] theorem State.updPsg_hif : (s.updPsg n k f).hif = s.hif := by
  unfold State.updPsg; (repeat' split) <;> rfl
@[simp] theorem State.updPsg_topo : (s.updPsg n k f).topo = s.topo := by
  unfold State.updPsg; (repeat' split) <;> rfl
@[simp] theorem State.updPsg_plane : (s.updPsg n k f).plane = s.plane := by
  unfold State.updPsg; (repeat' split) <;> rfl
@[simp] theorem State.updPsg_col : (s.updPsg n k f).col = s.col := by
  unfold State.updPsg; (repeat' split) <;> rfl
@[simp] theorem State.updPsg_skk : (s.updPsg n k f).skk = s.skk := by
  unfold State.updPsg; (repeat' split) <;> rfl
@[simp] theorem State.updPsg_fm : (s.updPsg n k f).fm = s.fm := by
  unfold State.updPsg; (repeat' split) <;> rfl
@[simp] theorem State.updPsg_boot : (s.updPsg n k f).boot = s.boot := by
  unfold State.updPsg; (repeat' split) <;> rfl
@[simp] theorem State.updPsg_sxt : (s.updPsg n k f).sxt = s.sxt := by
  unfold State.updPsg; (repeat' split) <;> rfl
@[simp] theorem State.updPsg_mem : (s.updPsg n k f).mem = s.mem := by
  unfold State.updPsg; (repeat' split) <;> rfl
@[simp] theorem State.updPsg_lnk : (s.updPsg n k f).lnk = s.lnk := by
  unfold State.updPsg; (repeat' split) <;> rfl
@[simp] theorem State.updPsg_free : (s.updPsg n k f).free = s.free := by
  unfold State.updPsg; (repeat' split) <;> rfl
@[simp] theorem State.updPsg_out : (s.updPsg n k f).out = s.out := by
  unfold State.updPsg; (repeat' split) <;> rfl
@[simp] theorem State.updPsg_pending : (s.updPsg n k f).pending = s.pending := by
  unfold State.updPsg; (repeat' split) <;> rfl
end

section
variable (s : State) (a b n : Nat)
@[simp] theorem State.count_fuse : (s.count a b n).fuse = s.fuse := rfl
@[simp] theorem State.count_mod : (s.count a b n).mod = s.mod := rfl
@[simp] theorem State.count_ast : (s.count a b n).ast = s.ast := rfl
@[simp] theorem State.count_log : (s.count a b n).log = s.log := rfl
@[simp] theorem State.count_hif : (s.count a b n).hif = s.hif := rfl
@[simp] theorem State.count_topo : (s.count a b n).topo = s.topo := rfl
@[simp] theorem State.count_plane : (s.count a b n).plane = s.plane := rfl
@[simp] theorem State.count_col : (s.count a b n).col = s.col := rfl
@[simp] theorem State.count_psg : (s.count a b n).psg = s.psg := rfl
@[simp] theorem State.count_skk : (s.count a b n).skk = s.skk := rfl
@[simp] theorem State.count_fm : (s.count a b n).fm = s.fm := rfl
@[simp] theorem State.count_boot : (s.count a b n).boot = s.boot := rfl
@[simp] theorem State.count_sxt : (s.count a b n).sxt = s.sxt := rfl
@[simp] theorem State.count_mem : (s.count a b n).mem = s.mem := rfl
@[simp] theorem State.count_lnk : (s.count a b n).lnk = s.lnk := rfl
@[simp] theorem State.count_free : (s.count a b n).free = s.free := rfl
@[simp] theorem State.count_out : (s.count a b n).out = s.out := rfl
@[simp] theorem State.count_pending : (s.count a b n).pending = s.pending := rfl
end

section
variable (s : State) (a b c : Nat) (d : Bool) (e : Nat) (f : Bytes)
@[simp] theorem State.traceAt_fuse : (s.traceAt a b c d e f).fuse = s.fuse := by
  unfold State.traceAt; (repeat' split) <;> rfl
@[simp] theorem State.traceAt_mod : (s.traceAt a b c d e f).mod = s.mod := by
  unfold State.traceAt; (repeat' split) <;> rfl
@[simp] theorem State.traceAt_ast : (s.traceAt a b c d e f).ast = s.ast := by
  unfold State.traceAt; (repeat' split) <;> rfl
@[simp] theorem State.traceAt_log : (s.traceAt a b c d e f).log = s.log := by
  unfold State.traceAt; (repeat' split) <;> rfl
@[simp] theorem State.traceAt_hif : (s.traceAt a b c d e f).hif = s.hif := by
  unfold State.traceAt; (repeat' split) <;> rfl
@[simp] theorem State.traceAt_topo : (s.traceAt a b c d e f).topo = s.topo := by
  unfold State.traceAt; (repeat' split) <;> rfl
@[simp] theorem State.traceAt_plane : (s.traceAt a b c d e f).plane = s.plane := by
  unfold State.traceAt; (repeat' split) <;> rfl
@[simp] theorem State.traceAt_col : (s.traceAt a b c d e f).col = s.col := by
  unfold State.traceAt; (repeat' split) <;> rfl
@[simp] theorem State.traceAt_psg : (s.traceAt a b c d e f).psg = s.psg := by
  unfold State.traceAt; (repeat' split) <;> rfl
@[simp] theorem State.traceAt_skk : (s.traceAt a b c d e f).skk = s.skk := by
  unfold State.traceAt; (repeat' split) <;> rfl
@[simp] theorem State.traceAt_fm : (s.traceAt a b c d e f).fm = s.fm := by
  unfold State.traceAt; (repeat' split) <;> rfl
@[simp] theorem State.traceAt_boot : (s.traceAt a b c d e f).boot = s.boot := by
  unfold State.traceAt; (repeat' split) <;> rfl
@[simp] theorem State.traceAt_sxt : (s.traceAt a b c d e f).sxt = s.sxt := by
  unfold State.traceAt; (repeat' split) <;> rfl
@[simp] theorem State.traceAt_mem : (s.traceAt a b c d e f).mem = s.mem := by
  unfold State.traceAt; (repeat' split) <;> rfl
@[simp] theorem State.traceAt_lnk : (s.traceAt a b c d e f).lnk = s.lnk := by
  unfold State.traceAt; (repeat' split) <;> rfl
@[simp] theorem State.traceAt_free : (s.traceAt a b c d e f).free = s.free := by
  unfold State.traceAt; (repeat' split) <;> rfl
@[simp] theorem State.traceAt_out : (s.traceAt a b c d e f).out = s.out := by
  unfold State.traceAt; (repeat' split) <;> rfl
@[simp] theorem State.traceAt_pending : (s.traceAt a b c d e f).pending = s.pending := by
  unfold State.traceAt; (repeat' split) <;> rfl
end

section
variable (s : State) (a b : Nat) (f : Bytes)
@[simp] theorem State.trace_fuse : (s.trace a b f).fuse = s.fuse := by
  unfold State.trace State.traceAt; (repeat' split) <;> rfl
@[simp] theorem State.trace_mod : (s.trace a b f).mod = s.mod := by
  unfold State.trace State.traceAt; (repeat' split) <;> rfl
@[simp] theorem State.trace_ast : (s.trace a b f).ast = s.ast := by
  unfold State.trace State.traceAt; (repeat' split) <;> rfl
@[simp] theorem State.trace_log : (s.trace a b f).log = s.log := by
  unfold State.trace State.traceAt; (repeat' split) <;> rfl
@[simp] theorem State.trace_hif : (s.trace a b f).hif = s.hif := by
  unfold State.trace State.traceAt; (repeat' split) <;> rfl
@[simp] theorem State.trace_topo : (s.trace a b f).topo = s.topo := by
  unfold State.trace State.traceAt; (repeat' split) <;> rfl
@[simp] theorem State.trace_plane : (s.trace a b f).plane = s.plane := by
  unfold State.trace State.traceAt; (repeat' split) <;> rfl
@[simp] theorem State.trace_col : (s.trace a b f).col = s.col := by
  unfold State.trace State.traceAt; (repeat' split) <;> rfl
@[simp] theorem State.trace_psg : (s.trace a b f).psg = s.psg := by
  unfold State.trace State.traceAt; (repeat' split) <;> rfl
@[simp] theorem State.trace_skk : (s.trace a b f).skk = s.skk := by
  unfold State.trace State.traceAt; (repeat' split) <;> rfl
@[simp] theorem State.trace_fm : (s.trace a b f).fm = s.fm := by
  unfold State.trace State.traceAt; (repeat' split) <;> rfl
@[simp] theorem State.trace_boot : (s.trace a b f).boot = s.boot := by
  unfold State.trace State.traceAt; (repeat' split) <;> rfl
@[simp] theorem State.trace_sxt : (s.trace a b f).sxt = s.sxt := by
  unfold State.trace State.traceAt; (repeat' split) <;> rfl
@[simp] theorem State.trace_mem : (s.trace a b f).mem = s.mem := by
  unfold State.trace State.traceAt; (repeat' split) <;> rfl
@[simp] theorem State.trace_lnk : (s.trace a b f).lnk = s.lnk := by
  unfold State.trace State.traceAt; (repeat' split) <;> rfl
@[simp] theorem State.trace_free : (s.trace a b f).free = s.free := by
  unfold State.trace State.traceAt; (repeat' split) <;> rfl
@[simp] theorem State.trace_out : (s.trace a b f).out = s.out := by
  unfold State.trace State.traceAt; (repeat' split) <;> rfl
@[simp] theorem State.trace_pending : (s.trace a b f).pending = s.pending := by
  unfold State.trace State.traceAt; (repeat' split) <;> rfl
end

section
variable (s : State) (a b c d : Nat) (l : List Nat)
@[simp] theorem State.logAdd_fuse : (s.logAdd a b c d l).fuse = s.fuse := by
  unfold State.logAdd; (repeat' split) <;> rfl
@[simp] theorem State.logAdd_mod : (s.logAdd a b c d l).mod = s.mod := by
  unfold State.logAdd; (repeat' split) <;> rfl
@[simp] theorem State.logAdd_ast : (s.logAdd a b c d l).ast = s.ast := by
  unfold State.logAdd; (repeat' split) <;> rfl
@[simp] theorem State.logAdd_bnc : (s.logAdd a b c d l).bnc = s.bnc := by
  unfold State.logAdd; (repeat' split) <;> rfl
@[simp] theorem State.logAdd_hif : (s.logAdd a b c d l).hif = s.hif := by
  unfold State.logAdd; (repeat' split) <;> rfl
@[simp] theorem State.logAdd_topo : (s.logAdd a b c d l).topo = s.topo := by
  unfold State.logAdd; (repeat' split) <;> rfl
@[simp] theorem State.logAdd_plane : (s.logAdd a b c d l).plane = s.plane := by
  unfold State.logAdd; (repeat' split) <;> rfl
@[simp] theorem State.logAdd_col : (s.logAdd a b c d l).col = s.col := by
  unfold State.logAdd; (repeat' split) <;> rfl
@[simp] theorem State.logAdd_psg : (s.logAdd a b c d l).psg = s.psg := by
  unfold State.logAdd; (repeat' split) <;> rfl
@[simp] theorem State.logAdd_skk : (s.logAdd a b c d l).skk = s.skk := by
  unfold State.logAdd; (repeat' split) <;> rfl
@[simp] theorem State.logAdd_fm : (s.logAdd a b c d l).fm = s.fm := by
  unfold State.logAdd; (repeat' split) <;> rfl
@[simp] theorem State.logAdd_boot : (s.logAdd a b c d l).boot = s.boot := by
  unfold State.logAdd; (repeat' split) <;> rfl
@[simp] theorem State.logAdd_sxt : (s.logAdd a b c d l).sxt = s.sxt := by
  unfold State.logAdd; (repeat' split) <;> rfl
@[simp] theorem State.logAdd_mem : (s.logAdd a b c d l).mem = s.mem := by
  unfold State.logAdd; (repeat' split) <;> rfl
@[simp] theorem State.logAdd_lnk : (s.logAdd a b c d l).lnk = s.lnk := by
  unfold State.logAdd; (repeat' split) <;> rfl
@[simp] theorem State.logAdd_free : (s.logAdd a b c d l).free = s.free := by
  unfold State.logAdd; (repeat' split) <;> rfl
@[simp] theorem State.logAdd_out : (s.logAdd a b c d l).out = s.out := by
  unfold State.logAdd; (repeat' split) <;> rfl
@[simp] theorem State.logAdd_pending : (s.logAdd a b c d l).pending = s.pending := by
  unfold State.logAdd; (repeat' split) <;> rfl
end

section
variable (s : State) (a b : Nat) (f : Ring → Ring)
@[simp] theorem State.updRing_fuse : (s.updRing a b f).fuse = s.fuse := rfl
@[simp] theorem State.updRing_mod : (s.updRing a b f).mod = s.mod := rfl
@[simp] theorem State.updRing_ast : (s.updRing a b f).ast = s.ast := rfl
@[simp] theorem State.updRing_bnc : (s.updRing a b f).bnc = s.bnc := rfl
@[simp] theorem State.updRing_log : (s.updRing a b f).log = s.log := rfl
@[simp] theorem State.updRing_topo : (s.updRing a b f).topo = s.topo := rfl
@[simp] theorem State.updRing_plane : (s.updRing a b f).plane = s.plane := rfl
@[simp] theorem State.updRing_col : (s.updRing a b f).col = s.col := rfl
@[simp] theorem State.updRing_psg : (s.updRing a b f).psg = s.psg := rfl
@[simp] theorem State.updRing_skk : (s.updRing a b f).skk = s.skk := rfl
@[simp] theorem State.updRing_fm : (s.updRing a b f).fm = s.fm := rfl
@[simp] theorem State.updRing_boot : (s.updRing a b f).boot = s.boot := rfl
@[simp] theorem State.updRing_sxt : (s.updRing a b f).sxt = s.sxt := rfl
@[simp] theorem State.updRing_mem : (s.updRing a b f).mem = s.mem := rfl
@[simp] theorem State.updRing_lnk : (s.updRing a b f).lnk = s.lnk := rfl
@[simp] theorem State.updRing_free : (s.updRing a b f).free = s.free := rfl
@[simp] theorem State.updRing_out : (s.updRing a b f).out = s.out := rfl
@[simp] theorem State.updRing_pending : (s.updRing a b f).pending = s.pending := rfl
end

section
variable (s : State) (a : Nat) (f : FnBlock → FnBlock)
@[simp] theorem State.updFn_fuse : (s.updFn a f).fuse = s.fuse := rfl
@[simp] theorem State.updFn_mod : (s.updFn a f).mod = s.mod := rfl
@[simp] theorem State.updFn_ast : (s.updFn a f).ast = s.ast := rfl
@[simp] theorem State.updFn_bnc : (s.updFn a f).bnc = s.bnc := rfl
@[simp] theorem State.updFn_log : (s.updFn a f).log = s.log := rfl
@[simp] theorem State.updFn_topo : (s.updFn a f).topo = s.topo := rfl
@[simp] theorem State.updFn_plane : (s.updFn a f).plane = s.plane := rfl
@[simp] theorem State.updFn_col : (s.updFn a f).col = s.col := rfl
@[simp] theorem State.updFn_psg : (s.updFn a f).psg = s.psg := rfl
@[simp] theorem State.updFn_skk : (s.updFn a f).skk = s.skk := rfl
@[simp] theorem State.updFn_fm : (s.updFn a f).fm = s.fm := rfl
@[simp] theorem State.updFn_boot : (s.updFn a f).boot = s.boot := rfl
@[simp] theorem State.updFn_sxt : (s.updFn a f).sxt = s.sxt := rfl
@[simp] theorem State.updFn_mem : (s.updFn a f).mem = s.mem := rfl
@[simp] theorem State.updFn_lnk : (s.updFn a f).lnk = s.lnk := rfl
@[simp] theorem State.updFn_free : (s.updFn a f).free = s.free := rfl
@[simp] theorem State.updFn_out : (s.updFn a f).out = s.out := rfl
@[simp] theorem State.updFn_pending : (s.updFn a f).pending = s.pending := rfl
end

section
variable (s : State) (a b : Nat)
@[simp] theorem State.fnErr_fuse : (s.fnErr a b).fuse = s.fuse := rfl
@[simp] theorem State.fnErr_mod : (s.fnErr a b).mod = s.mod := rfl
@[simp] theorem State.fnErr_ast : (s.fnErr a b).ast = s.ast := rfl
@[simp] theorem State.fnErr_bnc : (s.fnErr a b).bnc = s.bnc := rfl
@[simp] theorem State.fnErr_log : (s.fnErr a b).log = s.log := rfl
@[simp] theorem State.fnErr_topo : (s.fnErr a b).topo = s.topo := rfl
@[simp] theorem State.fnErr_plane : (s.fnErr a b).plane = s.plane := rfl
@[simp] theorem State.fnErr_col : (s.fnErr a b).col = s.col := rfl
@[simp] theorem State.fnErr_psg : (s.fnErr a b).psg = s.psg := rfl
@[simp] theorem State.fnErr_skk : (s.fnErr a b).skk = s.skk := rfl
@[simp] theorem State.fnErr_fm : (s.fnErr a b).fm = s.fm := rfl
@[simp] theorem State.fnErr_boot : (s.fnErr a b).boot = s.boot := rfl
@[simp] theorem State.fnErr_sxt : (s.fnErr a b).sxt = s.sxt := rfl
@[simp] theorem State.fnErr_mem : (s.fnErr a b).mem = s.mem := rfl
@[simp] theorem State.fnErr_lnk : (s.fnErr a b).lnk = s.lnk := rfl
@[simp] theorem State.fnErr_free : (s.fnErr a b).free = s.free := rfl
@[simp] theorem State.fnErr_out : (s.fnErr a b).out = s.out := rfl
@[simp] theorem State.fnErr_pending : (s.fnErr a b).pending = s.pending := rfl
end

section
variable (s : State) (i : Nat)
@[simp] theorem State.astEvent_fuse : (s.astEvent i).fuse = s.fuse := rfl
@[simp] theorem State.astEvent_mod : (s.astEvent i).mod = s.mod := rfl
@[simp] theorem State.astEvent_bnc : (s.astEvent i).bnc = s.bnc := rfl
@[simp] theorem State.astEvent_log : (s.astEvent i).log = s.log := rfl
@[simp] theorem State.astEvent_hif : (s.astEvent i).hif = s.hif := rfl
@[simp] theorem State.astEvent_topo : (s.astEvent i).topo = s.topo := rfl
@[simp] theorem State.astEvent_plane : (s.astEvent i).plane = s.plane := rfl
@[simp] theorem State.astEvent_col : (s.astEvent i).col = s.col := rfl
@[simp] theorem State.astEvent_psg : (s.astEvent i).psg = s.psg := rfl
@[simp] theorem State.astEvent_skk : (s.astEvent i).skk = s.skk := rfl
@[simp] theorem State.astEvent_fm : (s.astEvent i).fm = s.fm := rfl
@[simp] theorem State.astEvent_boot : (s.astEvent i).boot = s.boot := rfl
@[simp] theorem State.astEvent_sxt : (s.astEvent i).sxt = s.sxt := rfl
@[simp] theorem State.astEvent_mem : (s.astEvent i).mem = s.mem := rfl
@[simp] theorem State.astEvent_lnk : (s.astEvent i).lnk = s.lnk := rfl
@[simp] theorem State.astEvent_free : (s.astEvent i).free = s.free := rfl
@[simp] theorem State.astEvent_out : (s.astEvent i).out = s.out := rfl
@[simp] theorem State.astEvent_pending : (s.astEvent i).pending = s.pending := rfl
end

section
variable (s : State) (i : Nat) (t : Trig)
@[simp] theorem State.setTrig_fuse : (s.setTrig i t).fuse = s.fuse := rfl
@[simp] theorem State.setTrig_mod : (s.setTrig i t).mod = s.mod := rfl
@[simp] theorem State.setTrig_bnc : (s.setTrig i t).bnc = s.bnc := rfl
@[simp] theorem State.setTrig_log : (s.setTrig i t).log = s.log := rfl
@[simp] theorem State.setTrig_hif : (s.setTrig i t).hif = s.hif := rfl
@[simp] theorem State.setTrig_topo : (s.setTrig i t).topo = s.topo := rfl
@[simp] theorem State.setTrig_plane : (s.setTrig i t).plane = s.plane := rfl
@[simp] theorem State.setTrig_col : (s.setTrig i t).col = s.col := rfl
@[simp] theorem State.setTrig_psg : (s.setTrig i t).psg = s.psg := rfl
@[simp] theorem State.setTrig_skk : (s.setTrig i t).skk = s.skk := rfl
@[simp] theorem State.setTrig_fm : (s.setTrig i t).fm = s.fm := rfl
@[simp] theorem State.setTrig_boot : (s.setTrig i t).boot = s.boot := rfl
@[simp] theorem State.setTrig_sxt : (s.setTrig i t).sxt = s.sxt := rfl
@[simp] theorem State.setTrig_mem : (s.setTrig i t).mem = s.mem := rfl
@[simp] theorem State.setTrig_lnk : (s.setTrig i t).lnk = s.lnk := rfl
@[simp] theorem State.setTrig_free : (s.setTrig i t).free = s.free := rfl
@[simp] theorem State.setTrig_out : (s.setTrig i t).out = s.out := rfl
@[simp] theorem State.setTrig_pending : (s.setTrig i t).pending = s.pending := rfl
end

section
variable (s : State) (r : Nat) (f : Region → Region)
@[simp] theorem State.updRegion_fuse : (s.updRegion r f).fuse = s.fuse := rfl
@[simp] theorem State.updRegion_mod : (s.updRegion r f).mod = s.mod := rfl
@[simp] theorem State.updRegion_ast : (s.updRegion r f).ast = s.ast := rfl
@[simp] theorem State.updRegion_bnc : (s.updRegion r f).bnc = s.bnc := rfl
@[simp] theorem State.updRegion_log : (s.updRegion r f).log = s.log := rfl
@[simp] theorem State.updRegion_hif : (s.updRegion r f).hif = s.hif := rfl
@[simp] theorem State.updRegion_topo : (s.updRegion r f).topo = s.topo := rfl
@[simp] theorem State.updRegion_plane : (s.updRegion r f).plane = s.plane := rfl
@[simp] theorem State.updRegion_col : (s.updRegion r f).col = s.col := rfl
@[simp] theorem State.updRegion_psg : (s.updRegion r f).psg = s.psg := rfl
@[simp] theorem State.updRegion_skk : (s.updRegion r f).skk = s.skk := rfl
@[simp] theorem State.updRegion_fm : (s.updRegion r f).fm = s.fm := rfl
@[simp] theorem State.updRegion_boot : (s.updRegion r f).boot = s.boot := rfl
@[simp] theorem State.updRegion_mem : (s.updRegion r f).mem = s.mem := rfl
@[simp] theorem State.updRegion_lnk : (s.updRegion r f).lnk = s.lnk := rfl
@[simp] theorem State.updRegion_free : (s.updRegion r f).free = s.free := rfl
@[simp] theorem State.updRegion_out : (s.updRegion r f).out = s.out := rfl
@[simp] theorem State.updRegion_pending : (s.updRegion r f).pending = s.pending := rfl
end

section
variable (s : State) (c : Nat) (f : Core → Core)
@[simp] theorem State.updCore_fuse : (s.updCore c f).fuse = s.fuse := rfl
@[simp] theorem State.updCore_mod : (s.updCore c f).mod = s.mod := rfl
@[simp] theorem State.updCore_ast : (s.updCore c f).ast = s.ast := rfl
@[simp] theorem State.updCore_log : (s.updCore c f).log = s.log := rfl
@[simp] theorem State.updCore_hif : (s.updCore c f).hif = s.hif := rfl
@[simp] theorem State.updCore_topo : (s.updCore c f).topo = s.topo := rfl
@[simp] theorem State.updCore_plane : (s.updCore c f).plane = s.plane := rfl
@[simp] theorem State.updCore_col : (s.updCore c f).col = s.col := rfl
@[simp] theorem State.updCore_psg : (s.updCore c f).psg = s.psg := rfl
@[simp] theorem State.updCore_skk : (s.updCore c f).skk = s.skk := rfl
@[simp] theorem State.updCore_fm : (s.updCore c f).fm = s.fm := rfl
@[simp] theorem State.updCore_boot : (s.updCore c f).boot = s.boot := rfl
@[simp] theorem State.updCore_sxt : (s.updCore c f).sxt = s.sxt := rfl
@[simp] theorem State.updCore_mem : (s.updCore c f).mem = s.mem := rfl
@[simp] theorem State.updCore_lnk : (s.updCore c f).lnk = s.lnk := rfl
@[simp] theorem State.updCore_free : (s.updCore c f).free = s.free := rfl
@[simp] theorem State.updCore_out : (s.updCore c f).out = s.out := rfl
@[simp] theorem State.updCore_pending : (s.updCore c f).pending = s.pending := rfl
end

section
variable (s : State) (m : Nat) (f : Mirror → Mirror)
@[simp] theorem State.updMirror_fuse : (s.updMirror m f).fuse = s.fuse := rfl
@[simp] theorem State.updMirror_mod : (s.updMirror m f).mod = s.mod := rfl
@[simp] theorem State.updMirror_ast : (s.updMirror m f).ast = s.ast := rfl
@[simp] theorem State.updMirror_bnc : (s.updMirror m f).bnc = s.bnc := rfl
@[simp] theorem State.updMirror_log : (s.updMirror m f).log = s.log := rfl
@[simp] theorem State.updMirror_hif : (s.updMirror m f).hif = s.hif := rfl
@[simp] theorem State.updMirror_topo : (s.updMirror m f).topo = s.topo := rfl
@[simp] theorem State.updMirror_col : (s.updMirror m f).col = s.col := rfl
@[simp] theorem State.updMirror_psg : (s.updMirror m f).psg = s.psg := rfl
@[simp] theorem State.updMirror_skk : (s.updMirror m f).skk = s.skk := rfl
@[simp] theorem State.updMirror_fm : (s.updMirror m f).fm = s.fm := rfl
@[simp] theorem State.updMirror_boot : (s.updMirror m f).boot = s.boot := rfl
@[simp] theorem State.updMirror_sxt : (s.updMirror m f).sxt = s.sxt := rfl
@[simp] theorem State.updMirror_mem : (s.updMirror m f).mem = s.mem := rfl
@[simp] theorem State.updMirror_lnk : (s.updMirror m f).lnk = s.lnk := rfl
@[simp] theorem State.updMirror_free : (s.updMirror m f).free = s.free := rfl
@[simp] theorem State.updMirror_out : (s.updMirror m f).out = s.out := rfl
@[simp] theorem State.updMirror_pending : (s.updMirror m f).pending = s.pending := rfl
end

section
variable (s : State) (k : Nat) (f : Tf → Tf)
@[simp] theorem State.updTf_fuse : (s.updTf k f).fuse = s.fuse := rfl
@[simp] theorem State.updTf_mod : (s.updTf k f).mod = s.mod := rfl
@[simp] theorem State.updTf_ast : (s.updTf k f).ast = s.ast := rfl
@[simp] theorem State.updTf_bnc : (s.updTf k f).bnc = s.bnc := rfl
@[simp] theorem State.updTf_log : (s.updTf k f).log = s.log := rfl
@[simp] theorem State.updTf_hif : (s.updTf k f).hif = s.hif := rfl
@[simp] theorem State.updTf_topo : (s.updTf k f).topo = s.topo := rfl
@[simp] theorem State.updTf_col : (s.updTf k f).col = s.col := rfl
@[simp] theorem State.updTf_psg : (s.updTf k f).psg = s.psg := rfl
@[simp] theorem State.updTf_skk : (s.updTf k f).skk = s.skk := rfl
@[simp] theorem State.updTf_fm : (s.updTf k f).fm = s.fm := rfl
@[simp] theorem State.updTf_boot : (s.updTf k f).boot = s.boot := rfl
@[simp] theorem State.updTf_sxt : (s.updTf k f).sxt = s.sxt := rfl
@[simp] theorem State.updTf_mem : (s.updTf k f).mem = s.mem := rfl
@[simp] theorem State.updTf_lnk : (s.updTf k f).lnk = s.lnk := rfl
@[simp] theorem State.updTf_free : (s.updTf k f).free = s.free := rfl
@[simp] theorem State.updTf_out : (s.updTf k f).out = s.out := rfl
@[simp] theorem State.updTf_pending : (s.updTf k f).pending = s.pending := rfl
end

section
variable (s : State) (i : Nat)
@[simp] theorem State.trpEvent_fuse : (s.trpEvent i).fuse = s.fuse := rfl
@[simp] theorem State.trpEvent_mod : (s.trpEvent i).mod = s.mod := rfl
@[simp] theorem State.trpEvent_ast : (s.trpEvent i).ast = s.ast := rfl
@[simp] theorem State.trpEvent_bnc : (s.trpEvent i).bnc = s.bnc := rfl
@[simp] theorem State.trpEvent_log : (s.trpEvent i).log = s.log := rfl
@[simp] theorem State.trpEvent_hif : (s.trpEvent i).hif = s.hif := rfl
@[simp] theorem State.trpEvent_topo : (s.trpEvent i).topo = s.topo := rfl
@[simp] theorem State.trpEvent_col : (s.trpEvent i).col = s.col := rfl
@[simp] theorem State.trpEvent_psg : (s.trpEvent i).psg = s.psg := rfl
@[simp] theorem State.trpEvent_skk : (s.trpEvent i).skk = s.skk := rfl
@[simp] theorem State.trpEvent_fm : (s.trpEvent i).fm = s.fm := rfl
@[simp] theorem State.trpEvent_boot : (s.trpEvent i).boot = s.boot := rfl
@[simp] theorem State.trpEvent_sxt : (s.trpEvent i).sxt = s.sxt := rfl
@[simp] theorem State.trpEvent_mem : (s.trpEvent i).mem = s.mem := rfl
@[simp] theorem State.trpEvent_lnk : (s.trpEvent i).lnk = s.lnk := rfl
@[simp] theorem State.trpEvent_free : (s.trpEvent i).free = s.free := rfl
@[simp] theorem State.trpEvent_out : (s.trpEvent i).out = s.out := rfl
@[simp] theorem State.trpEvent_pending : (s.trpEvent i).pending = s.pending := rfl
end

section
variable (s : State) (f : Nat → Plot → Plot)
@[simp] theorem State.updPlots_fuse : (s.updPlots f).fuse = s.fuse := rfl
@[simp] theorem State.updPlots_mod : (s.updPlots f).mod = s.mod := rfl
@[simp] theorem State.updPlots_ast : (s.updPlots f).ast = s.ast := rfl
@[simp] theorem State.updPlots_bnc : (s.updPlots f).bnc = s.bnc := rfl
@[simp] theorem State.updPlots_log : (s.updPlots f).log = s.log := rfl
@[simp] theorem State.updPlots_hif : (s.updPlots f).hif = s.hif := rfl
@[simp] theorem State.updPlots_plane : (s.updPlots f).plane = s.plane := rfl
@[simp] theorem State.updPlots_col : (s.updPlots f).col = s.col := rfl
@[simp] theorem State.updPlots_psg : (s.updPlots f).psg = s.psg := rfl
@[simp] theorem State.updPlots_skk : (s.updPlots f).skk = s.skk := rfl
@[simp] theorem State.updPlots_fm : (s.updPlots f).fm = s.fm := rfl
@[simp] theorem State.updPlots_boot : (s.updPlots f).boot = s.boot := rfl
@[simp] theorem State.updPlots_sxt : (s.updPlots f).sxt = s.sxt := rfl
@[simp] theorem State.updPlots_mem : (s.updPlots f).mem = s.mem := rfl
@[simp] theorem State.updPlots_lnk : (s.updPlots f).lnk = s.lnk := rfl
@[simp] theorem State.updPlots_free : (s.updPlots f).free = s.free := rfl
@[simp] theorem State.updPlots_out : (s.updPlots f).out = s.out := rfl
@[simp] theorem State.updPlots_pending : (s.updPlots f).pending = s.pending := rfl
end

section
variable (s : State) (t : Nat) (f : TPort → TPort)
@[simp] theorem State.updTp_fuse : (s.updTp t f).fuse = s.fuse := rfl
@[simp] theorem State.updTp_mod : (s.updTp t f).mod = s.mod := rfl
@[simp] theorem State.updTp_ast : (s.updTp t f).ast = s.ast := rfl
@[simp] theorem State.updTp_bnc : (s.updTp t f).bnc = s.bnc := rfl
@[simp] theorem State.updTp_log : (s.updTp t f).log = s.log := rfl
@[simp] theorem State.updTp_hif : (s.updTp t f).hif = s.hif := rfl
@[simp] theorem State.updTp_plane : (s.updTp t f).plane = s.plane := rfl
@[simp] theorem State.updTp_col : (s.updTp t f).col = s.col := rfl
@[simp] theorem State.updTp_psg : (s.updTp t f).psg = s.psg := rfl
@[simp] theorem State.updTp_skk : (s.updTp t f).skk = s.skk := rfl
@[simp] theorem State.updTp_fm : (s.updTp t f).fm = s.fm := rfl
@[simp] theorem State.updTp_boot : (s.updTp t f).boot = s.boot := rfl
@[simp] theorem State.updTp_sxt : (s.updTp t f).sxt = s.sxt := rfl
@[simp] theorem State.updTp_mem : (s.updTp t f).mem = s.mem := rfl
@[simp] theorem State.updTp_lnk : (s.updTp t f).lnk = s.lnk := rfl
@[simp] theorem State.updTp_free : (s.updTp t f).free = s.free := rfl
@[simp] theorem State.updTp_out : (s.updTp t f).out = s.out := rfl
@[simp] theorem State.updTp_pending : (s.updTp t f).pending = s.pending := rfl
end

section
variable (s : State) (i : Nat)
@[simp] theorem State.skkEvent_fuse : (s.skkEvent i).fuse = s.fuse := rfl
@[simp] theorem State.skkEvent_mod : (s.skkEvent i).mod = s.mod := rfl
@[simp] theorem State.skkEvent_ast : (s.skkEvent i).ast = s.ast := rfl
@[simp] theorem State.skkEvent_bnc : (s.skkEvent i).bnc = s.bnc := rfl
@[simp] theorem State.skkEvent_log : (s.skkEvent i).log = s.log := rfl
@[simp] theorem State.skkEvent_hif : (s.skkEvent i).hif = s.hif := rfl
@[simp] theorem State.skkEvent_topo : (s.skkEvent i).topo = s.topo := rfl
@[simp] theorem State.skkEvent_plane : (s.skkEvent i).plane = s.plane := rfl
@[simp] theorem State.skkEvent_col : (s.skkEvent i).col = s.col := rfl
@[simp] theorem State.skkEvent_psg : (s.skkEvent i).psg = s.psg := rfl
@[simp] theorem State.skkEvent_fm : (s.skkEvent i).fm = s.fm := rfl
@[simp] theorem State.skkEvent_boot : (s.skkEvent i).boot = s.boot := rfl
@[simp] theorem State.skkEvent_sxt : (s.skkEvent i).sxt = s.sxt := rfl
@[simp] theorem State.skkEvent_mem : (s.skkEvent i).mem = s.mem := rfl
@[simp] theorem State.skkEvent_lnk : (s.skkEvent i).lnk = s.lnk := rfl
@[simp] theorem State.skkEvent_free : (s.skkEvent i).free = s.free := rfl
@[simp] theorem State.skkEvent_out : (s.skkEvent i).out = s.out := rfl
@[simp] theorem State.skkEvent_pending : (s.skkEvent i).pending = s.pending := rfl
end

section
variable (s : State) (n t : Nat) (b : Binding)
@[simp] theorem State.putBinding_fuse : (s.putBinding n t b).fuse = s.fuse := rfl
@[simp] theorem State.putBinding_mod : (s.putBinding n t b).mod = s.mod := rfl
@[simp] theorem State.putBinding_ast : (s.putBinding n t b).ast = s.ast := rfl
@[simp] theorem State.putBinding_bnc : (s.putBinding n t b).bnc = s.bnc := rfl
@[simp] theorem State.putBinding_log : (s.putBinding n t b).log = s.log := rfl
@[simp] theorem State.putBinding_hif : (s.putBinding n t b).hif = s.hif := rfl
@[simp] theorem State.putBinding_topo : (s.putBinding n t b).topo = s.topo := rfl
@[simp] theorem State.putBinding_plane : (s.putBinding n t b).plane = s.plane := rfl
@[simp] theorem State.putBinding_col : (s.putBinding n t b).col = s.col := rfl
@[simp] theorem State.putBinding_psg : (s.putBinding n t b).psg = s.psg := rfl
@[simp] theorem State.putBinding_fm : (s.putBinding n t b).fm = s.fm := rfl
@[simp] theorem State.putBinding_boot : (s.putBinding n t b).boot = s.boot := rfl
@[simp] theorem State.putBinding_sxt : (s.putBinding n t b).sxt = s.sxt := rfl
@[simp] theorem State.putBinding_mem : (s.putBinding n t b).mem = s.mem := rfl
@[simp] theorem State.putBinding_lnk : (s.putBinding n t b).lnk = s.lnk := rfl
@[simp] theorem State.putBinding_free : (s.putBinding n t b).free = s.free := rfl
@[simp] theorem State.putBinding_out : (s.putBinding n t b).out = s.out := rfl
@[simp] theorem State.putBinding_pending : (s.putBinding n t b).pending = s.pending := rfl
end

section
variable (s : State) (q : Nat) (f : Queue → Queue)
@[simp] theorem State.updQueue_fuse : (s.updQueue q f).fuse = s.fuse := by
  unfold State.updQueue; (repeat' split) <;> rfl
@[simp] theorem State.updQueue_mod : (s.updQueue q f).mod = s.mod := by
  unfold State.updQueue; (repeat' split) <;> rfl
@[simp] theorem State.updQueue_ast : (s.updQueue q f).ast = s.ast := by
  unfold State.updQueue; (repeat' split) <;> rfl
@[simp] theorem State.updQueue_bnc : (s.updQueue q f).bnc = s.bnc := by
  unfold State.updQueue; (repeat' split) <;> rfl
@[simp] theorem State.updQueue_log : (s.updQueue q f).log = s.log := by
  unfold State.updQueue; (repeat' split) <;> rfl
@[simp] theorem State.updQueue_hif : (s.updQueue q f).hif = s.hif := by
  unfold State.updQueue; (repeat' split) <;> rfl
@[simp] theorem State.updQueue_topo : (s.updQueue q f).topo = s.topo := by
  unfold State.updQueue; (repeat' split) <;> rfl
@[simp] theorem State.updQueue_plane : (s.updQueue q f).plane = s.plane := by
  unfold State.updQueue; (repeat' split) <;> rfl
@[simp] theorem State.updQueue_col : (s.updQueue q f).col = s.col := by
  unfold State.updQueue; (repeat' split) <;> rfl
@[simp] theorem State.updQueue_psg : (s.updQueue q f).psg = s.psg := by
  unfold State.updQueue; (repeat' split) <;> rfl
@[simp] theorem State.updQueue_skk : (s.updQueue q f).skk = s.skk := by
  unfold State.updQueue; (repeat' split) <;> rfl
@[simp] theorem State.updQueue_boot : (s.updQueue q f).boot = s.boot := by
  unfold State.updQueue; (repeat' split) <;> rfl
@[simp] theorem State.updQueue_sxt : (s.updQueue q f).sxt = s.sxt := by
  unfold State.updQueue; (repeat' split) <;> rfl
@[simp] theorem State.updQueue_mem : (s.updQueue q f).mem = s.mem := by
  unfold State.updQueue; (repeat' split) <;> rfl
@[simp] theorem State.updQueue_lnk : (s.updQueue q f).lnk = s.lnk := by
  unfold State.updQueue; (repeat' split) <;> rfl
@[simp] theorem State.updQueue_free : (s.updQueue q f).free = s.free := by
  unfold State.updQueue; (repeat' split) <;> rfl
@[simp] theorem State.updQueue_out : (s.updQueue q f).out = s.out := by
  unfold State.updQueue; (repeat' split) <;> rfl
@[simp] theorem State.updQueue_pending : (s.updQueue q f).pending = s.pending := by
  unfold State.updQueue; (repeat' split) <;> rfl
end

section
variable (s : State) (i : Nat)
@[simp] theorem State.fmEvent_fuse : (s.fmEvent i).fuse = s.fuse := rfl
@[simp] theorem State.fmEvent_mod : (s.fmEvent i).mod = s.mod := rfl
@[simp] theorem State.fmEvent_ast : (s.fmEvent i).ast = s.ast := rfl
@[simp] theorem State.fmEvent_bnc : (s.fmEvent i).bnc = s.bnc := rfl
@[simp] theorem State.fmEvent_log : (s.fmEvent i).log = s.log := rfl
@[simp] theorem State.fmEvent_hif : (s.fmEvent i).hif = s.hif := rfl
@[simp] theorem State.fmEvent_topo : (s.fmEvent i).topo = s.topo := rfl
@[simp] theorem State.fmEvent_plane : (s.fmEvent i).plane = s.plane := rfl
@[simp] theorem State.fmEvent_col : (s.fmEvent i).col = s.col := rfl
@[simp] theorem State.fmEvent_psg : (s.fmEvent i).psg = s.psg := rfl
@[simp] theorem State.fmEvent_skk : (s.fmEvent i).skk = s.skk := rfl
@[simp] theorem State.fmEvent_boot : (s.fmEvent i).boot = s.boot := rfl
@[simp] theorem State.fmEvent_sxt : (s.fmEvent i).sxt = s.sxt := rfl
@[simp] theorem State.fmEvent_mem : (s.fmEvent i).mem = s.mem := rfl
@[simp] theorem State.fmEvent_lnk : (s.fmEvent i).lnk = s.lnk := rfl
@[simp] theorem State.fmEvent_free : (s.fmEvent i).free = s.free := rfl
@[simp] theorem State.fmEvent_out : (s.fmEvent i).out = s.out := rfl
@[simp] theorem State.fmEvent_pending : (s.fmEvent i).pending = s.pending := rfl
end

section
variable (s : State) (r : Nat) (f : FReq → FReq)
@[simp] theorem State.updReq_fuse : (s.updReq r f).fuse = s.fuse := rfl
@[simp] theorem State.updReq_mod : (s.updReq r f).mod = s.mod := rfl
@[simp] theorem State.updReq_ast : (s.updReq r f).ast = s.ast := rfl
@[simp] theorem State.updReq_bnc : (s.updReq r f).bnc = s.bnc := rfl
@[simp] theorem State.updReq_log : (s.updReq r f).log = s.log := rfl
@[simp] theorem State.updReq_hif : (s.updReq r f).hif = s.hif := rfl
@[simp] theorem State.updReq_topo : (s.updReq r f).topo = s.topo := rfl
@[simp] theorem State.updReq_plane : (s.updReq r f).plane = s.plane := rfl
@[simp] theorem State.updReq_col : (s.updReq r f).col = s.col := rfl
@[simp] theorem State.updReq_psg : (s.updReq r f).psg = s.psg := rfl
@[simp] theorem State.updReq_skk : (s.updReq r f).skk = s.skk := rfl
@[simp] theorem State.updReq_boot : (s.updReq r f).boot = s.boot := rfl
@[simp] theorem State.updReq_sxt : (s.updReq r f).sxt = s.sxt := rfl
@[simp] theorem State.updReq_mem : (s.updReq r f).mem = s.mem := rfl
@[simp] theorem State.updReq_lnk : (s.updReq r f).lnk = s.lnk := rfl
@[simp] theorem State.updReq_free : (s.updReq r f).free = s.free := rfl
@[simp] theorem State.updReq_out : (s.updReq r f).out = s.out := rfl
@[simp] theorem State.updReq_pending : (s.updReq r f).pending = s.pending := rfl
end

section
variable (s : State) (p : Nat) (f : LPort → LPort)
@[simp] theorem State.updLp_fuse : (s.updLp p f).fuse = s.fuse := rfl
@[simp] theorem State.updLp_mod : (s.updLp p f).mod = s.mod := rfl
@[simp] theorem State.updLp_ast : (s.updLp p f).ast = s.ast := rfl
@[simp] theorem State.updLp_bnc : (s.updLp p f).bnc = s.bnc := rfl
@[simp] theorem State.updLp_log : (s.updLp p f).log = s.log := rfl
@[simp] theorem State.updLp_hif : (s.updLp p f).hif = s.hif := rfl
@[simp] theorem State.updLp_topo : (s.updLp p f).topo = s.topo := rfl
@[simp] theorem State.updLp_plane : (s.updLp p f).plane = s.plane := rfl
@[simp] theorem State.updLp_col : (s.updLp p f).col = s.col := rfl
@[simp] theorem State.updLp_psg : (s.updLp p f).psg = s.psg := rfl
@[simp] theorem State.updLp_skk : (s.updLp p f).skk = s.skk := rfl
@[simp] theorem State.updLp_fm : (s.updLp p f).fm = s.fm := rfl
@[simp] theorem State.updLp_boot : (s.updLp p f).boot = s.boot := rfl
@[simp] theorem State.updLp_sxt : (s.updLp p f).sxt = s.sxt := rfl
@[simp] theorem State.updLp_mem : (s.updLp p f).mem = s.mem := rfl
@[simp] theorem State.updLp_free : (s.updLp p f).free = s.free := rfl
@[simp] theorem State.updLp_out : (s.updLp p f).out = s.out := rfl
@[simp] theorem State.updLp_pending : (s.updLp p f).pending = s.pending := rfl
end

section
variable (s : State) (t : Nat) (f : GPort → GPort)
@[simp] theorem State.updGp_fuse : (s.updGp t f).fuse = s.fuse := rfl
@[simp] theorem State.updGp_mod : (s.updGp t f).mod = s.mod := rfl
@[simp] theorem State.updGp_ast : (s.updGp t f).ast = s.ast := rfl
@[simp] theorem State.updGp_bnc : (s.updGp t f).bnc = s.bnc := rfl
@[simp] theorem State.updGp_log : (s.updGp t f).log = s.log := rfl
@[simp] theorem State.updGp_hif : (s.updGp t f).hif = s.hif := rfl
@[simp] theorem State.updGp_topo : (s.updGp t f).topo = s.topo := rfl
@[simp] theorem State.updGp_plane : (s.updGp t f).plane = s.plane := rfl
@[simp] theorem State.updGp_psg : (s.updGp t f).psg = s.psg := rfl
@[simp] theorem State.updGp_skk : (s.updGp t f).skk = s.skk := rfl
@[simp] theorem State.updGp_fm : (s.updGp t f).fm = s.fm := rfl
@[simp] theorem State.updGp_boot : (s.updGp t f).boot = s.boot := rfl
@[simp] theorem State.updGp_sxt : (s.updGp t f).sxt = s.sxt := rfl
@[simp] theorem State.updGp_mem : (s.updGp t f).mem = s.mem := rfl
@[simp] theorem State.updGp_lnk : (s.updGp t f).lnk = s.lnk := rfl
@[simp] theorem State.updGp_free : (s.updGp t f).free = s.free := rfl
@[simp] theorem State.updGp_out : (s.updGp t f).out = s.out := rfl
@[simp] theorem State.updGp_pending : (s.updGp t f).pending = s.pending := rfl
end

section
variable (s : State) (l : Nat) (f : Laser → Laser)
@[simp] theorem State.updLaser_fuse : (s.updLaser l f).fuse = s.fuse := rfl
@[simp] theorem State.updLaser_mod : (s.updLaser l f).mod = s.mod := rfl
@[simp] theorem State.updLaser_ast : (s.updLaser l f).ast = s.ast := rfl
@[simp] theorem State.updLaser_bnc : (s.updLaser l f).bnc = s.bnc := rfl
@[simp] theorem State.updLaser_log : (s.updLaser l f).log = s.log := rfl
@[simp] theorem State.updLaser_hif : (s.updLaser l f).hif = s.hif := rfl
@[simp] theorem State.updLaser_topo : (s.updLaser l f).topo = s.topo := rfl
@[simp] theorem State.updLaser_plane : (s.updLaser l f).plane = s.plane := rfl
@[simp] theorem State.updLaser_psg : (s.updLaser l f).psg = s.psg := rfl
@[simp] theorem State.updLaser_skk : (s.updLaser l f).skk = s.skk := rfl
@[simp] theorem State.updLaser_fm : (s.updLaser l f).fm = s.fm := rfl
@[simp] theorem State.updLaser_boot : (s.updLaser l f).boot = s.boot := rfl
@[simp] theorem State.updLaser_sxt : (s.updLaser l f).sxt = s.sxt := rfl
@[simp] theorem State.updLaser_mem : (s.updLaser l f).mem = s.mem := rfl
@[simp] theorem State.updLaser_lnk : (s.updLaser l f).lnk = s.lnk := rfl
@[simp] theorem State.updLaser_free : (s.updLaser l f).free = s.free := rfl
@[simp] theorem State.updLaser_out : (s.updLaser l f).out = s.out := rfl
@[simp] theorem State.updLaser_pending : (s.updLaser l f).pending = s.pending := rfl
end

section
variable (s : State) (i : Nat)
@[simp] theorem State.colEvent_fuse : (s.colEvent i).fuse = s.fuse := rfl
@[simp] theorem State.colEvent_mod : (s.colEvent i).mod = s.mod := rfl
@[simp] theorem State.colEvent_ast : (s.colEvent i).ast = s.ast := rfl
@[simp] theorem State.colEvent_bnc : (s.colEvent i).bnc = s.bnc := rfl
@[simp] theorem State.colEvent_log : (s.colEvent i).log = s.log := rfl
@[simp] theorem State.colEvent_hif : (s.colEvent i).hif = s.hif := rfl
@[simp] theorem State.colEvent_topo : (s.colEvent i).topo = s.topo := rfl
@[simp] theorem State.colEvent_plane : (s.colEvent i).plane = s.plane := rfl
@[simp] theorem State.colEvent_psg : (s.colEvent i).psg = s.psg := rfl
@[simp] theorem State.colEvent_skk : (s.colEvent i).skk = s.skk := rfl
@[simp] theorem State.colEvent_fm : (s.colEvent i).fm = s.fm := rfl
@[simp] theorem State.colEvent_boot : (s.colEvent i).boot = s.boot := rfl
@[simp] theorem State.colEvent_sxt : (s.colEvent i).sxt = s.sxt := rfl
@[simp] theorem State.colEvent_mem : (s.colEvent i).mem = s.mem := rfl
@[simp] theorem State.colEvent_lnk : (s.colEvent i).lnk = s.lnk := rfl
@[simp] theorem State.colEvent_free : (s.colEvent i).free = s.free := rfl
@[simp] theorem State.colEvent_out : (s.colEvent i).out = s.out := rfl
@[simp] theorem State.colEvent_pending : (s.colEvent i).pending = s.pending := rfl
end

section
variable (s : State) (t r : Nat) (f : Path → Path)
@[simp] theorem State.updPath_fuse : (s.updPath t r f).fuse = s.fuse := rfl
@[simp] theorem State.updPath_mod : (s.updPath t r f).mod = s.mod := rfl
@[simp] theorem State.updPath_ast : (s.updPath t r f).ast = s.ast := rfl
@[simp] theorem State.updPath_bnc : (s.updPath t r f).bnc = s.bnc := rfl
@[simp] theorem State.updPath_log : (s.updPath t r f).log = s.log := rfl
@[simp] theorem State.updPath_hif : (s.updPath t r f).hif = s.hif := rfl
@[simp] theorem State.updPath_topo : (s.updPath t r f).topo = s.topo := rfl
@[simp] theorem State.updPath_plane : (s.updPath t r f).plane = s.plane := rfl
@[simp] theorem State.updPath_psg : (s.updPath t r f).psg = s.psg := rfl
@[simp] theorem State.updPath_skk : (s.updPath t r f).skk = s.skk := rfl
@[simp] theorem State.updPath_fm : (s.updPath t r f).fm = s.fm := rfl
@[simp] theorem State.updPath_boot : (s.updPath t r f).boot = s.boot := rfl
@[simp] theorem State.updPath_sxt : (s.updPath t r f).sxt = s.sxt := rfl
@[simp] theorem State.updPath_mem : (s.updPath t r f).mem = s.mem := rfl
@[simp] theorem State.updPath_lnk : (s.updPath t r f).lnk = s.lnk := rfl
@[simp] theorem State.updPath_free : (s.updPath t r f).free = s.free := rfl
@[simp] theorem State.updPath_out : (s.updPath t r f).out = s.out := rfl
@[simp] theorem State.updPath_pending : (s.updPath t r f).pending = s.pending := rfl
end

section
variable (s : State) (i : Nat)
@[simp] theorem State.sxtEvent_fuse : (s.sxtEvent i).fuse = s.fuse := rfl
@[simp] theorem State.sxtEvent_mod : (s.sxtEvent i).mod = s.mod := rfl
@[simp] theorem State.sxtEvent_ast : (s.sxtEvent i).ast = s.ast := rfl
@[simp] theorem State.sxtEvent_bnc : (s.sxtEvent i).bnc = s.bnc := rfl
@[simp] theorem State.sxtEvent_log : (s.sxtEvent i).log = s.log := rfl
@[simp] theorem State.sxtEvent_hif : (s.sxtEvent i).hif = s.hif := rfl
@[simp] theorem State.sxtEvent_topo : (s.sxtEvent i).topo = s.topo := rfl
@[simp] theorem State.sxtEvent_plane : (s.sxtEvent i).plane = s.plane := rfl
@[simp] theorem State.sxtEvent_col : (s.sxtEvent i).col = s.col := rfl
@[simp] theorem State.sxtEvent_psg : (s.sxtEvent i).psg = s.psg := rfl
@[simp] theorem State.sxtEvent_skk : (s.sxtEvent i).skk = s.skk := rfl
@[simp] theorem State.sxtEvent_fm : (s.sxtEvent i).fm = s.fm := rfl
@[simp] theorem State.sxtEvent_boot : (s.sxtEvent i).boot = s.boot := rfl
@[simp] theorem State.sxtEvent_mem : (s.sxtEvent i).mem = s.mem := rfl
@[simp] theorem State.sxtEvent_lnk : (s.sxtEvent i).lnk = s.lnk := rfl
@[simp] theorem State.sxtEvent_free : (s.sxtEvent i).free = s.free := rfl
@[simp] theorem State.sxtEvent_out : (s.sxtEvent i).out = s.out := rfl
@[simp] theorem State.sxtEvent_pending : (s.sxtEvent i).pending = s.pending := rfl
end

section
variable (s : State) (i : Nat)
@[simp] theorem State.bootEvent_fuse : (s.bootEvent i).fuse = s.fuse := rfl
@[simp] theorem State.bootEvent_mod : (s.bootEvent i).mod = s.mod := rfl
@[simp] theorem State.bootEvent_ast : (s.bootEvent i).ast = s.ast := rfl
@[simp] theorem State.bootEvent_bnc : (s.bootEvent i).bnc = s.bnc := rfl
@[simp] theorem State.bootEvent_log : (s.bootEvent i).log = s.log := rfl
@[simp] theorem State.bootEvent_hif : (s.bootEvent i).hif = s.hif := rfl
@[simp] theorem State.bootEvent_topo : (s.bootEvent i).topo = s.topo := rfl
@[simp] theorem State.bootEvent_plane : (s.bootEvent i).plane = s.plane := rfl
@[simp] theorem State.bootEvent_col : (s.bootEvent i).col = s.col := rfl
@[simp] theorem State.bootEvent_psg : (s.bootEvent i).psg = s.psg := rfl
@[simp] theorem State.bootEvent_skk : (s.bootEvent i).skk = s.skk := rfl
@[simp] theorem State.bootEvent_fm : (s.bootEvent i).fm = s.fm := rfl
@[simp] theorem State.bootEvent_sxt : (s.bootEvent i).sxt = s.sxt := rfl
@[simp] theorem State.bootEvent_mem : (s.bootEvent i).mem = s.mem := rfl
@[simp] theorem State.bootEvent_lnk : (s.bootEvent i).lnk = s.lnk := rfl
@[simp] theorem State.bootEvent_free : (s.bootEvent i).free = s.free := rfl
@[simp] theorem State.bootEvent_out : (s.bootEvent i).out = s.out := rfl
@[simp] theorem State.bootEvent_pending : (s.bootEvent i).pending = s.pending := rfl
end

section
variable (s : State) (i : Nat) (f : Sess → Sess)
@[simp] theorem State.updSess_fuse : (s.updSess i f).fuse = s.fuse := by
  unfold State.updSess; (repeat' split) <;> rfl
@[simp] theorem State.updSess_mod : (s.updSess i f).mod = s.mod := by
  unfold State.updSess; (repeat' split) <;> rfl
@[simp] theorem State.updSess_ast : (s.updSess i f).ast = s.ast := by
  unfold State.updSess; (repeat' split) <;> rfl
@[simp] theorem State.updSess_bnc : (s.updSess i f).bnc = s.bnc := by
  unfold State.updSess; (repeat' split) <;> rfl
@[simp] theorem State.updSess_log : (s.updSess i f).log = s.log := by
  unfold State.updSess; (repeat' split) <;> rfl
@[simp] theorem State.updSess_hif : (s.updSess i f).hif = s.hif := by
  unfold State.updSess; (repeat' split) <;> rfl
@[simp] theorem State.updSess_topo : (s.updSess i f).topo = s.topo := by
  unfold State.updSess; (repeat' split) <;> rfl
@[simp] theorem State.updSess_plane : (s.updSess i f).plane = s.plane := by
  unfold State.updSess; (repeat' split) <;> rfl
@[simp] theorem State.updSess_col : (s.updSess i f).col = s.col := by
  unfold State.updSess; (repeat' split) <;> rfl
@[simp] theorem State.updSess_psg : (s.updSess i f).psg = s.psg := by
  unfold State.updSess; (repeat' split) <;> rfl
@[simp] theorem State.updSess_skk : (s.updSess i f).skk = s.skk := by
  unfold State.updSess; (repeat' split) <;> rfl
@[simp] theorem State.updSess_fm : (s.updSess i f).fm = s.fm := by
  unfold State.updSess; (repeat' split) <;> rfl
@[simp] theorem State.updSess_sxt : (s.updSess i f).sxt = s.sxt := by
  unfold State.updSess; (repeat' split) <;> rfl
@[simp] theorem State.updSess_mem : (s.updSess i f).mem = s.mem := by
  unfold State.updSess; (repeat' split) <;> rfl
@[simp] theorem State.updSess_lnk : (s.updSess i f).lnk = s.lnk := by
  unfold State.updSess; (repeat' split) <;> rfl
@[simp] theorem State.updSess_free : (s.updSess i f).free = s.free := by
  unfold State.updSess; (repeat' split) <;> rfl
@[simp] theorem State.updSess_out : (s.updSess i f).out = s.out := by
  unfold State.updSess; (repeat' split) <;> rfl
@[simp] theorem State.updSess_pending : (s.updSess i f).pending = s.pending := by
  unfold State.updSess; (repeat' split) <;> rfl
end

end Sys2Proof.Machine
end

