-- ==== Sys2Proof/Laws/Tables.lean ====
section
/-! SUPPORT. The laws of sparse tables and of fabric-memory windows: a read after a write, other keys unchanged, and that
every memory operation keeps the canonical form. -/

namespace Sys2Proof

section
variable {α : Type}

@[simp] theorem Tbl.find_put (t : Tbl α) (k : Nat) (v : α) : (t.put k v).find k = some v := by
  induction t with
  | nil => simp [Tbl.put, Tbl.find]
  | cons e t ih =>
    obtain ⟨j, w⟩ := e
    by_cases h1 : j < k
    · simp [Tbl.put, h1, Tbl.find, Nat.ne_of_lt h1, ih]
    · by_cases h2 : j = k <;> simp [Tbl.put, h1, h2, Tbl.find]

theorem Tbl.find_put_ne (t : Tbl α) {k j : Nat} (v : α) (h : j ≠ k) : (t.put k v).find j = t.find j := by
  induction t with
  | nil => simp [Tbl.put, Tbl.find, h.symm]
  | cons e t ih =>
    obtain ⟨i, w⟩ := e
    by_cases h1 : i < k
    · simp [Tbl.put, h1, Tbl.find, ih]
    · by_cases h2 : i = k
      · simp [Tbl.put, h2, Tbl.find, h.symm]
      · simp [Tbl.put, h1, h2, Tbl.find, h.symm]

@[simp] theorem Tbl.get_put (t : Tbl α) (k : Nat) (v d : α) : (t.put k v).get k d = v := by simp [Tbl.get]

theorem Tbl.get_put_ne (t : Tbl α) {k j : Nat} (v d : α) (h : j ≠ k) : (t.put k v).get j d = t.get j d := by
  simp [Tbl.get, Tbl.find_put_ne t v h]

@[simp] theorem Tbl.get_upd (t : Tbl α) (k : Nat) (d : α) (f : α → α) : (t.upd k d f).get k d = f (t.get k d) := by
  simp [Tbl.upd]

theorem Tbl.get_upd_ne (t : Tbl α) {k j : Nat} (d e : α) (f : α → α) (h : j ≠ k) : (t.upd k d f).get j e = t.get j e := by
  simp [Tbl.upd, Tbl.get_put_ne _ _ _ h]

@[simp] theorem Tbl.find_del (t : Tbl α) (k : Nat) : (t.del k).find k = none := by
  induction t with
  | nil => rfl
  | cons e t ih =>
    obtain ⟨j, w⟩ := e
    by_cases h : j = k
    · simpa [Tbl.del, h] using ih
    · simpa [Tbl.del, h, Tbl.find] using ih

theorem Tbl.find_del_ne (t : Tbl α) {k j : Nat} (h : j ≠ k) : (t.del k).find j = t.find j := by
  induction t with
  | nil => rfl
  | cons e t ih =>
    obtain ⟨i, w⟩ := e
    by_cases hi : i = k
    · subst hi
      simpa [Tbl.del, Tbl.find, h.symm] using ih
    · by_cases hj : i = j
      · subst hj
        simp [Tbl.del, hi, Tbl.find]
      · simpa [Tbl.del, hi, Tbl.find, hj] using ih

theorem Tbl.find_mapVal (t : Tbl α) (f : Nat → α → α) (k : Nat) : (t.mapVal f).find k = (t.find k).map (f k) := by
  induction t with
  | nil => rfl
  | cons e t ih =>
    obtain ⟨j, w⟩ := e
    by_cases h : j = k
    · simp [Tbl.mapVal, Tbl.find, h]
    · simpa [Tbl.mapVal, Tbl.find, h] using ih

end

namespace Machine

/-! ### Windows (R279) -/

theorem Memory.wf_tail {c : Host.Cell} {t : List Host.Cell} (h : Memory.wf (c :: t) = true) : Memory.wf t = true := by
  cases t with
  | nil => rfl
  | cons d u => simp only [Memory.wf, Bool.and_eq_true] at h; exact h.2

theorem Memory.wf_head {c : Host.Cell} {t : List Host.Cell} (h : Memory.wf (c :: t) = true) : c.2 ≠ 0#8 := by
  cases t with
  | nil => simpa [Memory.wf] using h
  | cons d u => simp only [Memory.wf, Bool.and_eq_true] at h; simpa using h.1.1

/-- A window in canonical form starts above `a`, or is empty. -/
def Memory.above (a : Nat) (m : List Host.Cell) : Prop := ∀ c ∈ m.head?, a < c.1

theorem Memory.wf_cons {c : Host.Cell} {t : List Host.Cell} :
    Memory.wf (c :: t) = true ↔ c.2 ≠ 0#8 ∧ Memory.above c.1 t ∧ Memory.wf t = true := by
  cases t with
  | nil => simp [Memory.wf, Memory.above]
  | cons d u => simp [Memory.wf, Memory.above, and_assoc]

theorem Memory.get_above {m : List Host.Cell} (h : Memory.wf m = true) {a b : Nat} (ha : Memory.above a m) (hb : b ≤ a) :
    Memory.get m b = 0#8 := by
  induction m generalizing a with
  | nil => rfl
  | cons c t ih =>
    have hc : a < c.1 := ha c rfl
    have ⟨_, ht, hw⟩ := Memory.wf_cons.mp h
    have hne : c.1 ≠ b := by omega
    simp only [Memory.get, hne, if_false]
    exact ih hw ht (by omega)

theorem Memory.put_above {m : List Host.Cell} {a b : Nat} (v : Byte) (h : Memory.wf m = true) (ha : Memory.above b m)
    (hb : b < a) : Memory.above b (Memory.put m a v) := by
  cases m with
  | nil => by_cases hv : v = 0#8 <;> simp [Memory.put, hv, Memory.above, hb]
  | cons c t =>
    have hc : b < c.1 := ha c rfl
    have ⟨_, ht, _⟩ := Memory.wf_cons.mp h
    have htb : Memory.above b t := fun d hd => lt_trans hc (ht d hd)
    by_cases h1 : c.1 < a
    · simp [Memory.put, h1, Memory.above, hc]
    · by_cases h2 : c.1 = a
      · by_cases hv : v = 0#8
        · simpa [Memory.put, h2, hv] using htb
        · simp [Memory.put, h2, hv, Memory.above, hb]
      · by_cases hv : v = 0#8
        · simp [Memory.put, h1, h2, hv, Memory.above, hc]
        · simp [Memory.put, h1, h2, hv, Memory.above, hb]

/-- A write keeps the canonical form. -/
theorem Memory.wf_put (m : List Host.Cell) (a : Nat) (v : Byte) (h : Memory.wf m = true) :
    Memory.wf (Memory.put m a v) = true := by
  induction m with
  | nil => by_cases hv : v = 0#8 <;> simp [Memory.put, hv, Memory.wf]
  | cons c t ih =>
    have ⟨hc, ht, hw⟩ := Memory.wf_cons.mp h
    by_cases h1 : c.1 < a
    · simp only [Memory.put, h1, if_true]
      exact Memory.wf_cons.mpr ⟨hc, Memory.put_above v hw ht h1, ih hw⟩
    · by_cases h2 : c.1 = a
      · by_cases hv : v = 0#8
        · simpa [Memory.put, h2, hv] using hw
        · have e : Memory.put (c :: t) a v = (a, v) :: t := by simp [Memory.put, h2, hv]
          rw [e]
          exact Memory.wf_cons.mpr ⟨hv, h2 ▸ ht, hw⟩
      · by_cases hv : v = 0#8
        · simpa [Memory.put, h1, h2, hv] using h
        · have e : Memory.put (c :: t) a v = (a, v) :: c :: t := by simp [Memory.put, h1, h2, hv]
          rw [e]
          exact Memory.wf_cons.mpr ⟨hv, fun d hd => by cases hd; simp; omega, h⟩

theorem Memory.get_put (m : List Host.Cell) (a : Nat) (v : Byte) (h : Memory.wf m = true) :
    Memory.get (Memory.put m a v) a = v := by
  induction m with
  | nil => by_cases hv : v = 0#8 <;> simp [Memory.put, Memory.get, hv]
  | cons c t ih =>
    have ⟨_, ht, hw⟩ := Memory.wf_cons.mp h
    by_cases h1 : c.1 < a
    · simp [Memory.put, h1, Memory.get, Nat.ne_of_lt h1, ih hw]
    · by_cases h2 : c.1 = a
      · by_cases hv : v = 0#8
        · simpa [Memory.put, h2, hv] using Memory.get_above hw (h2 ▸ ht) le_rfl
        · simp [Memory.put, h2, hv, Memory.get]
      · by_cases hv : v = 0#8
        · simpa [Memory.put, h1, h2, hv, Memory.get] using Memory.get_above hw ht (by omega)
        · simp [Memory.put, h1, h2, hv, Memory.get]

theorem Memory.get_put_ne (m : List Host.Cell) {a b : Nat} (v : Byte) (h : b ≠ a) :
    Memory.get (Memory.put m a v) b = Memory.get m b := by
  induction m with
  | nil => by_cases hv : v = 0#8 <;> simp [Memory.put, Memory.get, hv, h.symm]
  | cons c t ih =>
    by_cases h1 : c.1 < a
    · simp [Memory.put, h1, Memory.get, ih]
    · by_cases h2 : c.1 = a
      · have hc : c.1 ≠ b := by omega
        by_cases hv : v = 0#8 <;> simp [Memory.put, h2, hv, Memory.get, h.symm]
      · by_cases hv : v = 0#8 <;> simp [Memory.put, h1, h2, hv, Memory.get, h.symm]

/-- Writing a byte string keeps the canonical form. -/
theorem Memory.wf_write (m : List Host.Cell) (a : Nat) (b : Bytes) (h : Memory.wf m = true) :
    Memory.wf (Memory.write m a b) = true := by
  induction b generalizing m a with
  | nil => exact h
  | cons x t ih => exact ih _ _ (Memory.wf_put m a x h)

/-- A byte outside the bytes written reads as before. -/
theorem Memory.get_write_out (m : List Host.Cell) (a c : Nat) (b : Bytes) (h : c < a ∨ a + b.length ≤ c) :
    Memory.get (Memory.write m a b) c = Memory.get m c := by
  induction b generalizing m a with
  | nil => rfl
  | cons x t ih =>
    simp only [List.length_cons] at h
    rw [Memory.write, ih _ _ (by omega), Memory.get_put_ne _ _ (by omega)]

/-- A byte written reads as written. -/
theorem Memory.get_write_in (m : List Host.Cell) (a k : Nat) (b : Bytes) (h : Memory.wf m = true) (hk : k < b.length) :
    Memory.get (Memory.write m a b) (a + k) = b.getD k 0 := by
  induction b generalizing m a k with
  | nil => simp at hk
  | cons x t ih =>
    cases k with
    | zero => rw [Memory.write, Memory.get_write_out _ _ _ _ (by omega)]; simpa using Memory.get_put m a x h
    | succ k =>
      have := ih (Memory.put m a x) (a + 1) k (Memory.wf_put m a x h) (by simpa using hk)
      rw [Memory.write, show a + (k + 1) = a + 1 + k by omega, this]; simp

end Machine
end Sys2Proof
end

