-- ==== Sys2Proof/Laws/Host.lean ====
section
/-! SUPPORT. The host interface in lemmas: rings and function blocks after an update, what a completion puts out and what
it leaves alone, and how an accepted command ends. -/

namespace Sys2Proof.Machine

/-! ### Rings and function blocks -/

theorem ringKey_inj {f f' : Nat} {k k' : Fin 16} (h : ringKey f k = ringKey f' k') : f = f' ∧ k = k' := by
  unfold ringKey at h
  have := k.isLt; have := k'.isLt
  exact ⟨by omega, Fin.ext (by omega)⟩

@[simp] theorem State.ring_updRing (s : State) (f k : Nat) (g : Ring → Ring) : (s.updRing f k g).ring f k = g (s.ring f k) := by
  simp [State.ring, State.updRing]

theorem State.ring_updRing_ne (s : State) {f f' : Nat} {k k' : Fin 16} (g : Ring → Ring) (h : ¬(f' = f ∧ k' = k)) :
    (s.updRing f k g).ring f' k' = s.ring f' k' :=
  Tbl.get_upd_ne _ _ _ _ (fun e => h (ringKey_inj e))

@[simp] theorem State.fnb_updRing (s : State) (f k f' : Nat) (g : Ring → Ring) : (s.updRing f k g).fnb f' = s.fnb f' := rfl

@[simp] theorem State.ring_updFn (s : State) (f f' k : Nat) (g : FnBlock → FnBlock) : (s.updFn f g).ring f' k = s.ring f' k := rfl

@[simp] theorem State.ring_fnErr (s : State) (f f' i k : Nat) : (s.fnErr f i).ring f' k = s.ring f' k := rfl

@[simp] theorem State.fnb_updFn (s : State) (f : Nat) (g : FnBlock → FnBlock) : (s.updFn f g).fnb f = g (s.fnb f) := by
  simp [State.fnb, State.updFn]

theorem State.fnb_updFn_ne (s : State) {f f' : Nat} (g : FnBlock → FnBlock) (h : f' ≠ f) : (s.updFn f g).fnb f' = s.fnb f' :=
  Tbl.get_upd_ne _ _ _ _ h

@[simp] theorem State.fnb_fnErr (s : State) (f i : Nat) : (s.fnErr f i).fnb f = { s.fnb f with err := setBit (s.fnb f).err i } := by
  simp [State.fnErr]

@[simp] theorem State.ring_emit (s : State) (o : Out) (f k : Nat) : (s.emit o).ring f k = s.ring f k := rfl

@[simp] theorem State.ring_trace (s : State) (a b f k : Nat) (l : Bytes) : (s.trace a b l).ring f k = s.ring f k := by
  simp [State.ring]

@[simp] theorem State.ring_logAdd (s : State) (a b c d f k : Nat) (l : List Nat) : (s.logAdd a b c d l).ring f k = s.ring f k := by
  simp [State.ring]

/-! ### Completions -/

/-- What the end of a command leaves alone: everything but the host interface, the trace, the log and the outputs. -/
theorem State.complete_frame (s : State) (fn ring seq tag status w0 w1 : Nat) (l : Bool) (d : Dma) (x : Bool) :
    s.complete fn ring seq tag status w0 w1 l d x
      = { s with hif := (s.complete fn ring seq tag status w0 w1 l d x).hif
                 log := (s.complete fn ring seq tag status w0 w1 l d x).log
                 out := (s.complete fn ring seq tag status w0 w1 l d x).out } := by
  unfold State.complete
  simp only
  split
  · rfl
  · split
    · unfold State.logAdd; split <;> rfl
    · rfl

theorem State.trace_frame (s : State) (a b : Nat) (l : Bytes) : s.trace a b l = { s with bnc := (s.trace a b l).bnc } := by
  unfold State.trace State.traceAt; split <;> rfl

theorem State.logAdd_frame (s : State) (a b c d : Nat) (l : List Nat) : s.logAdd a b c d l = { s with log := (s.logAdd a b c d l).log } := by
  unfold State.logAdd; split <;> rfl

theorem State.finish_frame (s : State) (op : Nat) (r : Req) (status w0 w1 : Nat) (l : Bool) :
    s.finish op r status w0 w1 l
      = { s with hif := (s.finish op r status w0 w1 l).hif, log := (s.finish op r status w0 w1 l).log
                 out := (s.finish op r status w0 w1 l).out, bnc := (s.finish op r status w0 w1 l).bnc } := by
  have h1 := State.complete_frame s r.fn r.ring r.seq r.tag status w0 w1 l r.dma false
  unfold State.finish
  rw [State.trace_frame]
  rw [h1]

section
variable (s : State) (op : Nat) (r : Req) (a b c : Nat) (l : Bool)
@[simp] theorem State.finish_fuse : (s.finish op r a b c l).fuse = s.fuse := by rw [State.finish_frame]
@[simp] theorem State.finish_mod : (s.finish op r a b c l).mod = s.mod := by rw [State.finish_frame]
@[simp] theorem State.finish_ast : (s.finish op r a b c l).ast = s.ast := by rw [State.finish_frame]
@[simp] theorem State.finish_topo : (s.finish op r a b c l).topo = s.topo := by rw [State.finish_frame]
@[simp] theorem State.finish_plane : (s.finish op r a b c l).plane = s.plane := by rw [State.finish_frame]
@[simp] theorem State.finish_col : (s.finish op r a b c l).col = s.col := by rw [State.finish_frame]
@[simp] theorem State.finish_psg : (s.finish op r a b c l).psg = s.psg := by rw [State.finish_frame]
@[simp] theorem State.finish_skk : (s.finish op r a b c l).skk = s.skk := by rw [State.finish_frame]
@[simp] theorem State.finish_fm : (s.finish op r a b c l).fm = s.fm := by rw [State.finish_frame]
@[simp] theorem State.finish_boot : (s.finish op r a b c l).boot = s.boot := by rw [State.finish_frame]
@[simp] theorem State.finish_sxt : (s.finish op r a b c l).sxt = s.sxt := by rw [State.finish_frame]
@[simp] theorem State.finish_mem : (s.finish op r a b c l).mem = s.mem := by rw [State.finish_frame]
@[simp] theorem State.finish_lnk : (s.finish op r a b c l).lnk = s.lnk := by rw [State.finish_frame]
@[simp] theorem State.finish_free : (s.finish op r a b c l).free = s.free := by rw [State.finish_frame]
@[simp] theorem State.finish_pending : (s.finish op r a b c l).pending = s.pending := by rw [State.finish_frame]
end

/-- Where the ring is enabled and host memory answers, the end of a command is its completion entry. -/
theorem State.finish_completed (s : State) (op : Nat) (r : Req) (status w0 w1 : Nat) (l : Bool)
    (hr : (s.ring r.fn r.ring).st ≠ .disabled) (hd : r.dma = .ok) :
    Safety.Completed r s (s.finish op r status w0 w1 l) status w0 w1 := by
  unfold State.finish Safety.Completed
  simp only [State.trace_out]
  unfold State.complete
  simp [hr, hd, State.emit, State.ns, State.updRing]

/-- Where the ring is enabled and host memory answers, the end of a command only moves its ring's completion index and may
add to the trace. -/
theorem State.finish_quiet (s : State) (op : Nat) (r : Req) (status w0 w1 : Nat) (l : Bool)
    (hr : (s.ring r.fn r.ring).st ≠ .disabled) (hd : r.dma = .ok) :
    Safety.Quiet r s (s.finish op r status w0 w1 l) ∧ Safety.Silent s (s.finish op r status w0 w1 l)
      ∧ (s.finish op r status w0 w1 l).log = s.log := by
  have hc : s.complete r.fn r.ring r.seq r.tag status w0 w1 l r.dma false
      = (s.updRing r.fn r.ring Ring.stepCpl).emit (.completion r.fn r.ring (s.ring r.fn r.ring).cplIndex
          ⟨r.tag % 2 ^ 32, status, r.seq, (s.ring r.fn r.ring).phase, l, w0 % 2 ^ 64, w1 % 2 ^ 64, time48 s.ns, r.ring⟩) := by
    unfold State.complete; simp [hr, hd]
  unfold State.finish
  rw [hc]
  refine ⟨⟨?_, ?_, ?_, ?_⟩, ?_, ?_⟩
  · simp [State.emit, State.updRing]
  · simp
  · intro f k h
    simp only [State.ring_trace, State.ring_emit]
    exact State.ring_updRing_ne s _ h
  · unfold State.trace State.traceAt; split <;> rfl
  · exact ⟨_, by simp [State.emit]; rfl⟩
  · simp [State.emit, State.updRing]

@[simp] theorem State.finish_hif_execs (s : State) (op : Nat) (r : Req) (a b c : Nat) (l : Bool) :
    (s.finish op r a b c l).hif.execs = s.hif.execs := by
  unfold State.finish
  simp only [State.trace_hif]
  unfold State.complete
  simp only
  split
  · rfl
  · split
    · simp only [State.logAdd_hif]; rfl
    · rfl

/-! ### The start of a command -/

theorem State.begin_frame (s : State) (op : Nat) (r : Req) : s.begin op r = { s with bnc := (s.begin op r).bnc } :=
  State.trace_frame s 7 r.slice _

theorem State.useNonce_frame (s : State) (i : CmdInfo) : s.useNonce i = { s with log := (s.useNonce i).log } := by
  unfold State.useNonce; split <;> rfl

/-- A command starts: only the trace, and for a token command the nonce, have changed. -/
def State.started (s : State) (op : Nat) (r : Req) : State :=
  match catalogue.find op with
  | some i => (s.begin op r).useNonce i
  | none => s

theorem State.started_frame (s : State) (op : Nat) (r : Req) :
    s.started op r = { s with bnc := (s.started op r).bnc, log := { s.log with nonce := (s.started op r).log.nonce } } := by
  unfold State.started
  split
  · rename_i i hi
    unfold State.useNonce
    split <;> (rw [State.begin_frame])
  · rfl

section
variable (s : State) (op : Nat) (r : Req)
@[simp] theorem State.started_fuse : (s.started op r).fuse = s.fuse := by rw [State.started_frame]
@[simp] theorem State.started_mod : (s.started op r).mod = s.mod := by rw [State.started_frame]
@[simp] theorem State.started_ast : (s.started op r).ast = s.ast := by rw [State.started_frame]
@[simp] theorem State.started_hif : (s.started op r).hif = s.hif := by rw [State.started_frame]
@[simp] theorem State.started_topo : (s.started op r).topo = s.topo := by rw [State.started_frame]
@[simp] theorem State.started_plane : (s.started op r).plane = s.plane := by rw [State.started_frame]
@[simp] theorem State.started_col : (s.started op r).col = s.col := by rw [State.started_frame]
@[simp] theorem State.started_psg : (s.started op r).psg = s.psg := by rw [State.started_frame]
@[simp] theorem State.started_skk : (s.started op r).skk = s.skk := by rw [State.started_frame]
@[simp] theorem State.started_fm : (s.started op r).fm = s.fm := by rw [State.started_frame]
@[simp] theorem State.started_boot : (s.started op r).boot = s.boot := by rw [State.started_frame]
@[simp] theorem State.started_sxt : (s.started op r).sxt = s.sxt := by rw [State.started_frame]
@[simp] theorem State.started_mem : (s.started op r).mem = s.mem := by rw [State.started_frame]
@[simp] theorem State.started_lnk : (s.started op r).lnk = s.lnk := by rw [State.started_frame]
@[simp] theorem State.started_free : (s.started op r).free = s.free := by rw [State.started_frame]
@[simp] theorem State.started_out : (s.started op r).out = s.out := by rw [State.started_frame]
@[simp] theorem State.started_pending : (s.started op r).pending = s.pending := by rw [State.started_frame]
end

/-- The authority and state checks read nothing that the start of the command changes. -/
theorem authChk_begin (s : State) (i : CmdInfo) (op op' fn n : Nat) (r : Req) (b : Bytes) :
    authChk (s.begin op r) i op' fn n b = authChk s i op' fn n b := by
  rw [State.begin_frame]; rfl

/-- An accepted command runs its own part on the state in which it has started, and ends with its completion or waits. -/
theorem State.hostRow_accepted (s : State) (op : Nat) (r : Req) (run : Req → State → CmdOut) (h : Safety.accepts op r s = true) :
    s.hostRow op r run = match run r (s.started op r) with
      | .done s' st w0 w1 => s'.finish op r st w0 w1 (s'.log.created != s.log.created)
      | .wait s' w => { s' with hif := { s'.hif with execs := s'.hif.execs ++
          [⟨r.fn, r.ring, r.seq, r.tag, op, r.slice, ((catalogue.find op).map (·.bound)).getD 0, s.ns, w, r.dma, false,
            s'.log.created != s.log.created⟩] } } := by
  unfold Safety.accepts at h
  unfold State.hostRow State.started
  cases hc : catalogue.find op with
  | none => simp [hc] at h
  | some i =>
    simp only [hc, Bool.and_eq_true, beq_iff_eq] at h
    obtain ⟨⟨⟨⟨h1, h2⟩, h3⟩, h4⟩, h5, h6⟩ := h
    simp only [h1, h4, Bool.not_true, Bool.false_eq_true, if_false, State.runReq, authChk_begin, h5, h6, firstFail,
      Option.map_some, Option.getD_some]
    all_goals cases run r ((s.begin op r).useNonce i) <;> rfl

end Sys2Proof.Machine
end

