-- ==== Sys2Proof/WellFormed.lean ====
section
/-! DEFINITION. Which commands are well formed: the lengths and ranges of the operands that their types do
not say (R78, R79, R95, R96, R183, R200, R389, R408, R424). A meaning is total on every command all the same. -/

namespace Sys2Proof

/-- A host command fits its packet: TAG of 32 bits, SLICE of 16, and a parameter block of 1 MiB at most. -/
def Req.wf (r : Req) : Bool :=
  decide (r.tag < 2 ^ 32) && decide (r.slice < 2 ^ 16) && decide (r.params.length ≤ 1048576)

/-- A flit is 256 bytes (R183). -/
def flitWf (b : Bytes) : Bool := b.length == 256

/-- A frame is 16 bytes or more and at most 1 MiB of data behind a 32-byte header (R200). -/
def frameWf (b : Bytes) : Bool := decide (16 ≤ b.length ∧ b.length ≤ 1048608)

/-- A register value of the access width (R79). -/
def valueWf (wide : Bool) (v : Nat) : Bool := decide (v < if wide then 2 ^ 64 else 2 ^ 32)

/-- A register access inside its BAR and naturally aligned (R78, R79). -/
def targetWf (t : RegTarget) (wide : Bool) : Bool :=
  match t with
  | .pf off => decide (off < 2 ^ 26) && off % (if wide then 8 else 4) == 0
  | .vf n off => n != 0 && decide (off < 2 ^ 16) && off % (if wide then 8 else 4) == 0
  | .bar2 n off => decide (off < if n == 0 then 2 ^ 28 else 2 ^ 22) && off % (if wide then 8 else 4) == 0
  | .sriov => true

/-- The strap bits of a cold start are 11, its slot results and parts in range. -/
def ColdStart.wf (c : ColdStart) : Bool :=
  (match c.straps with
    | some v => decide (v < 2 ^ 11)
    | none => true)
    && c.badStacks.all (· < 8) && c.badUnits.all (· < 48) && c.badCores.all (· < 32) && c.badFrogs.all (· < 24)

/-- A Cleosh message: its session and its number fit their fields, its length the bound of R426. -/
def CMsg.wf (m : CMsg) : Bool :=
  decide (m.sess < 2 ^ 64) && decide (m.msgId < 2 ^ 32) && decide (m.body.length ≤ 1048584) && decide (m.sig.length ≤ 17088)

/-- Well-formedness of a command. -/
def Instr.wf : Instr → Bool
  | .identify r => r.wf
  | .nop r => r.wf
  | .functionQuery r => r.wf
  | .sliceCreate r => r.wf
  | .sliceAssign r => r.wf
  | .sliceQuery r => r.wf
  | .sliceReset r => r.wf
  | .sliceDelete r => r.wf
  | .portAdmit r => r.wf
  | .standingSet r => r.wf
  | .chartLoad r => r.wf
  | .chartQuery r => r.wf
  | .chartCommit r => r.wf
  | .chartCommitComplete _ => true
  | .chartRelease r => r.wf
  | .passageLoad r => r.wf
  | .passageArm r => r.wf
  | .passageDoorbell r => r.wf
  | .passagePark r => r.wf
  | .passageResume r => r.wf
  | .passageAbort r => r.wf
  | .passageUnload r => r.wf
  | .passageQuery r => r.wf
  | .fmWindowSet r => r.wf
  | .qpCreate r => r.wf
  | .qpDestroy r => r.wf
  | .qpDrained _ => true
  | .qpQuery r => r.wf
  | .optBind r => r.wf
  | .optUnbind r => r.wf
  | .optStateLoad r => r.wf
  | .optStateDump r => r.wf
  | .stateTransferEnd _ t _ => decide (t < 2 ^ 16)
  | .progLoad r => r.wf
  | .progUnload r => r.wf
  | .residualClear r => r.wf
  | .calGet r => r.wf
  | .calRun r => r.wf
  | .calConfig r => r.wf
  | .calQuery r => r.wf
  | .timeGet r => r.wf
  | .timeStatus r => r.wf
  | .timeConfig r => r.wf
  | .triggerSet r => r.wf
  | .ctrSelect r => r.wf
  | .ctrSnapshot r => r.wf
  | .traceConfig r => r.wf
  | .traceArm r => r.wf
  | .traceStop r => r.wf
  | .traceQuery r => r.wf
  | .logRead r => r.wf
  | .logNonce r => r.wf
  | .logClear r => r.wf
  | .fwQuery r => r.wf
  | .attest r => r.wf
  | .keyList r => r.wf
  | .measurements r => r.wf
  | .maintEnter r => r.wf
  | .maintDrainDone => true
  | .maintExit r => r.wf
  | .mirrorSet r => r.wf
  | .laserSet r => r.wf
  | .breakSet r => r.wf
  | .coreResume r => r.wf
  | .commandFetch _ _ entry block _ _ => (match entry with
      | some e => e.length == 64
      | none => true) && (match block with
      | some b => decide (b.length ≤ 1048576)
      | none => true)
  | .commandTimeout _ _ => true
  | .ringDrainDone _ _ => true
  | .hifRingCmdDb _ _ v => valueWf true v
  | .hifRingCplDb _ _ v => valueWf true v
  | .hifRingStepDb _ _ v => valueWf true v
  | .hifRingCtrlResume _ _ v => valueWf true v
  | .ringEnable _ _ v => valueWf true v && bit v 8
  | .ringDisable _ _ v => valueWf true v && !bit v 8
  | .stepModeSet _ _ v => valueWf true v && bit v 9
  | .stepModeClear _ _ v => valueWf true v && !bit v 9
  | .statusPageEnable _ v => valueWf true v
  | .registerWrite t wide v => valueWf wide v && targetWf t wide
  | .registerReadClear t wide => targetWf t wide
  | .astNowSRead => true
  | .bar0BadAccess _ _ => true
  | .statusPageRefresh fs => fs.all (· < 64)
  | .functionLevelReset _ => true
  | .pcieLinkDown => true
  | .legComplete _ _ => true
  | .waypointFire _ _ => true
  | .timeTriggerOpen _ _ => true
  | .legTimeout _ _ => true
  | .waypointReady _ b => frameWf b
  | .abortSignal _ b => frameWf b
  | .dataFrame _ _ b => frameWf b
  | .globalLegFrame _ _ _ b => frameWf b
  | .stripeFreed _ => true
  | .optimizerPassComplete _ _ => true
  | .signalDetect _ => true
  | .trainFlit _ b => flitWf b
  | .trainingTimeout _ => true
  | .failedPortRetry _ => true
  | .flitReceived _ b => flitWf b
  | .codewordUncorrectable _ n => decide (1 ≤ n ∧ n ≤ 5)
  | .retryReq _ b => flitWf b
  | .retryReqRepeat _ => true
  | .syncLoss _ _ => true
  | .noGoodCrcTimeout _ => true
  | .signalLoss _ => true
  | .sessionHoldExpiry _ => true
  | .fecDegraded _ _ => true
  | .hailSend _ => true
  | .hail _ b => flitWf b
  | .sync => true
  | .delayReq _ b => flitWf b
  | .nak _ b => frameWf b
  | .ackRecord _ b => frameWf b
  | .nakRecord _ b => frameWf b
  | .preambleRequest _ b => frameWf b
  | .foreignLight _ b => frameWf b
  | .credit _ b => frameWf b
  | .burstHeader _ h f => (flitWf f || f.isEmpty) && (match h with
      | some b => decide (b.length = 64)
      | none => true)
  | .compassSlot => true
  | .retuneLockTimeout _ => true
  | .wavelengthError _ _ _ => true
  | .relockAttemptEnd _ _ _ => true
  | .spareTakeoverDone _ => true
  | .foreignPilot _ _ => true
  | .gateFault _ => true
  | .cablingCheckFrame hs => hs.all (fun e => decide (e.1 < 64) && decide (e.2 < 64))
  | .holdoverMarginStep => true
  | .ringHeaterUpdate es => es.length == 72
  | .colourSequencerFault => true
  | .gfControllerLost _ => true
  | .tfBatchSlot _ => true
  | .mirrorAcquiring _ _ => true
  | .mirrorSettled _ _ => true
  | .mirrorParked _ => true
  | .loopFrame _ _ _ _ _ => true
  | .identityCheck _ _ => true
  | .monitorBandDetect _ _ => true
  | .monitorBandClear _ => true
  | .monitorLoss _ _ => true
  | .mirrorNotFollowing _ => true
  | .latchReadback _ x y => decide (x < 2 ^ 16) && decide (y < 2 ^ 16)
  | .driverOvercurrent _ => true
  | .hvSupplyLost _ => true
  | .hvSupplyRestored _ => true
  | .tfWatchdog _ => true
  | .tfReloaded _ => true
  | .openPath _ => true
  | .pathClosed _ => true
  | .portLit _ => true
  | .portDark _ => true
  | .probeStart _ => true
  | .probeTimeout _ => true
  | .silentRetry _ => true
  | .positionLost _ _ => true
  | .strapSample l => decide (l < 2 ^ 11)
  | .ptpMessage _ => true
  | .ppsEdge _ => true
  | .disciplineLost => true
  | .holdoverExpiry => true
  | .unqualifiedExpiry => true
  | .masterChange _ _ => true
  | .timeStep _ => true
  | .timeAcquisitionEnd => true
  | .counterSnapshotTrigger _ => true
  | .sextantSweepTrigger _ => true
  | .snapshotWritten => true
  | .calTemperatureTrigger _ _ => true
  | .darkPass _ _ => true
  | .calDeadline _ => true
  | .calRunJudged _ ts _ _ => ts.all (fun e => decide (e.1 < 16))
  | .calRerun _ => true
  | .correctionCommit _ _ => true
  | .calStoreWrite _ _ _ => true
  | .feedforwardUpdate w _ => decide (w < 2 ^ 16)
  | .terminatedHeaterUpdate _ es => es.length == 256
  | .powerPublicationLapse => true
  | .ringHold _ => true
  | .traceRecord _ _ _ _ b => b.length == 16
  | .traceTriggered q => decide (q < 2 ^ 32)
  | .traceRingFull => true
  | .loglineEntry _ _ e a args => decide (e < 2 ^ 16) && decide (a < 2 ^ 32) && decide (args.length ≤ 4)
  | .journalWrite _ => true
  | .recorderStandby _ => true
  | .breakHit _ _ pc => decide (pc < 2 ^ 64)
  | .coldStart c => c.wf
  | .modResetN _ c => c.wf
  | .warmRestart _ _ => true
  | .warmRestartDone ts _ => ts.all (· < 8)
  | .inputLoss _ => true
  | .cleoshDatagram _ _ b => decide (b.length ≤ 65507)
  | .cleoshResend _ => true
  | .cleoshAckTimer _ => true
  | .hello _ a k => a.length == 16 && decide (k < 16)
  | .auth m => m.wf
  | .authTimeout _ => true
  | .sessionIdle _ => true
  | .statusReq m => m.wf
  | .lockReq m => m.wf
  | .lockRelease m => m.wf
  | .lockIdleExpiry => true
  | .stageBegin m => m.wf
  | .stageBlock m => m.wf
  | .stageEnd m => m.wf
  | .activate m => m.wf
  | .activationP0 => true
  | .activationAbandoned => true
  | .healthConfirmed => true
  | .healthFallback _ => true
  | .loaderCommit m => m.wf
  | .restart m => m.wf
  | .enroll m => m.wf
  | .revoke m => m.wf
  | .claim m => m.wf
  | .unclaim m => m.wf
  | .close _ => true
  | .memRepair _ _ => true
  | .memUncorrectable _ _ _ _ _ => true
  | .scrubPass _ _ _ _ => true
  | .unitKnownAnswerTest _ _ => true
  | .hbmStackFailed _ => true
  | .saturationInterval _ _ _ _ => true
  | .dieLinkLaneFail _ l _ => decide (l < 64)
  | .throttleStep _ => true
  | .thermalStop _ => true
  | .sensorLimit _ _ _ => true
  | .fmReq _ _ b => frameWf b
  | .fmReqGlobal _ _ b => frameWf b
  | .fmOperationComplete _ => true
  | .fmRsp _ _ b => frameWf b
  | .pathProbe => true
  | .relay _ i => decide (i < 2 ^ 32)
  | .fmRouteTimeout _ i => decide (i < 2 ^ 32)
  | .fmPathFault _ i => decide (i < 2 ^ 32)
  | .armEpoch _ _ => true
  | .pcieLinkUp _ _ => true
  | .equaliserConverged _ => true
  | .syncLockAcquired _ _ _ => true
  | .flitSlot _ => true
  | .tenMhzLost => true
  | .holdLong _ => true
  | .ppsOut => true
  | .traceStageDrain _ => true
  | .memCorrectableClear _ _ => true
  | .fallbackParkEnd => true

end Sys2Proof
end

