-- ==== Sys2Proof/Tests/Slice0.lean ====
section
/-! SUPPORT. Tests: ill-formed operands that WellFormed refuses, states and operands that meet the hypotheses of every
statement, and single commands on small states. Expected values come from the rules of spec/ and from hand
calculation. -/

set_option maxRecDepth 100000
set_option linter.unusedVariables false

namespace Sys2Proof.Tests

open Sys2Proof.Machine Sys2Proof.Safety

/-! ### Helpers -/

/-- `n` bytes with little-endian fields (offset, width, value). -/
def fields (n : Nat) (fs : List (Nat × Nat × Nat)) : Bytes :=
  (List.range n).map (fun i => BitVec.ofNat 8 (fs.foldl (fun (a : Nat) f =>
    if Nat.ble f.1 i && Nat.blt i (f.1 + f.2.1) then a + f.2.2 / 256 ^ (i - f.1) else a) 0))

/-- `n` bytes with big-endian fields (offset, width, value). -/
def fieldsBE (n : Nat) (fs : List (Nat × Nat × Nat)) : Bytes :=
  (List.range n).map (fun i => BitVec.ofNat 8 (fs.foldl (fun (a : Nat) f =>
    if Nat.ble f.1 i && Nat.blt i (f.1 + f.2.1) then a + f.2.2 / 256 ^ (f.1 + f.2.1 - 1 - i) else a) 0))

/-- A host command of the PF on ring 0 with these parameters. -/
def rq (slice : Nat) (params : Bytes) : Req := ⟨0, 0, 0, 7, slice, params, [], .ok⟩

/-- The same with inline fields at packet offsets. -/
def rp (slice : Nat) (fs : List (Nat × Nat × Nat)) : Req := rq slice (fields 48 (fs.map (fun f => (f.1 - 16, f.2))))

/-- The same with a block of `n` bytes by pointer. -/
def rb (slice n : Nat) (fs : List (Nat × Nat × Nat)) : Req := rq slice (fields n fs)

/-- A ring of 64 entries that runs, with one command placed. -/
def rg : Ring := { Ring.reset with
  log2 := 6, st := .running, tail := 1 }

/-- A module that is READY, with ring 0 of the PF running. -/
def up : State := { State.reset with
  mod := .ready
  hif := { Hif.reset with
    linkUp := true, numVfs := 63, ring := [(0, rg)] } }

/-- The same with one ring 0 of the PF as given. -/
def upr (r : Ring) : State := { up with
  hif := { up.hif with
    ring := [(0, r)] } }

/-- A module in MAINTENANCE. -/
def mnt : State := { up with
  mod := .maintenance }

/-- A command of ring 0 of the PF in execution. -/
def ex (w : Wait) : Exec := ⟨0, 0, 0, 7, 0x0203, 1, 1000, 0, w, .ok, false, false⟩

/-- `up` with this command in execution. -/
def upx (w : Wait) : State := { up with
  hif := { up.hif with
    execs := [ex w] } }

/-- A slice of racks 0 and 1 with 4 GiB of HBM and 128 MiB of stacked SRAM. -/
def sl : Slice := Slice.new 3 4 128 0

/-- `up` with slice 1. -/
def up1 : State := { up with
  topo := { up.topo with
    slice := [(1, sl)] } }

/-- A command in execution that is not a SLICE_RESET that waits. -/
def notPark (x : Exec) : Bool := match x.wait with
  | .park _ _ => false
  | _ => true

/-- `NothingReleasing` from two checks that evaluate. -/
theorem nr {s : State} (h1 : s.topo.plot.all (fun e => !e.2.releasing) = true) (h2 : s.hif.execs.all notPark = true) :
    NothingReleasing s := by
  refine ⟨fun e he => ?_, fun x hx n a h => ?_⟩
  · simpa using List.all_eq_true.mp h1 e he
  · have := List.all_eq_true.mp h2 x hx
    simp [notPark, h] at this


/-- A circuit from port `a` to port `b`. -/
def ci (a b : Nat) : Circuit := ⟨a, b, 1, 0, false, false, false, false, false, 0⟩

/-- A plot of slice 1 in a state. -/
def pl1 (st : Nat) (cs : List Circuit) : Plot := ⟨1, st, 4, 0, false, [], [], [], [], false, cs⟩

/-- `up1` with this plot as plot 1, its ports owned. -/
def upp (p : Plot) : State := { up1 with
  topo := { up1.topo with
    plot := [(1, p)], owner := [(8, 1), (16, 1), (0x1000, 1), (0x3000, 1), (0x3001, 1)] } }

/-- A mirror that faces a position. -/
def mi (st : MirSt) (pos : Nat) : Mirror := { Mirror.rest false with
  st := st, goal := .face pos, accepted := some (.face pos) }

/-- The two mirrors of circuit 8 to 16. -/
def ms (st : MirSt) : Tbl Mirror := [(8, mi st 16), (1040, mi st 8)]

/-- `s` with these mirrors. -/
def wm (s : State) (m : Tbl Mirror) : State := { s with
  plane := { s.plane with
    mirror := m } }

/-- `up` with T port 8 in a discovery state. -/
def upt (st : Disc) : State := { up with
  topo := { up.topo with
    tport := [(8, { TPort.blank with
      st := st, lit := true, probe := if st = .probing then some 255 else none, nodeId := 77 })] } }

/-- A plain passage of one leg: FORM 0 on racks 0 and 1. -/
def ps (st : PSt) : Passage :=
  { form := 0, rep := false, optFinal := false, wire := 1, operator := 1, rounding := 0, tensor := 1, elems := 64
    rackMask := 3, timeout := 10000, iterations := 1, legs := [⟨0, false, false, 0, 0, 0xFFFF, 0⟩], groups := []
    colours := [], buffers := [], digest := 0x1234, st := st, leg := 0, iter := 0, parity := false, bells := 0
    parkPend := false, parkedByAct := false, epoch := 0, w0 := 0, enteredAt := 0, prog := [], legDone := false
    timeOpen := false, blanked := none, ready := [], remote := [], rdySent := [], parkedAt := 0, bytesIn := 0
    bytesOut := 0, dupWarned := false, data := [], scale := [], acc := [], stripes := [], units := [], scalars := []
    finished := false, spillNoted := none, residNoted := none, heldG := [], rx := [], optDone := false, refused := 0
    duplicates := 0 }

/-- `s` with passage 5 of slice 1. -/
def wp (s : State) (p : Passage) : State := { s with
  psg := [(261, p)] }

/-- An ACTIVE plot with a spare, and `upp` with the spare found. -/
def pl5 : Plot := { pl1 3 [ci 8 0x1000, ci 0x1000 8] with
  spareAuto := true, members := [1], spares := [2] }
def up5 : State := { upp pl5 with
  topo := { (upp pl5).topo with
    tport := [(16, { TPort.blank with
      st := .found, lit := true, kind := 1, nodeId := 5 })] } }


/-- `s` with controller `k` in a state. -/
def wt (s : State) (k : Nat) (x : Tf) : State := { s with
  plane := { s.plane with
    tf := s.plane.tf.put k x } }

/-- A controller that runs. -/
def tfr : Tf := ⟨2, [], 0, 0, none, 0⟩

/-- An ACTIVE plot of circuit 8 to 16 with its mirrors in a state. -/
def upc (st : MirSt) : State := wm (upp (pl1 3 [ci 8 16])) (ms st)


/-- `s` with registers of terminated port `p`. -/
def wl (s : State) (p : Nat) (x : LPort) : State := { s with
  lnk := { s.lnk with
    port := s.lnk.port.put p x } }

/-- `s` with registers of global port `g`. -/
def wg (s : State) (g : Nat) (x : GPort) : State := { s with
  col := { s.col with
    port := s.col.port.put g x } }

/-- The default state for passages: slice 1 with its ports, passage 5 as given. -/
def sp (p : Passage) : State := wp (upp (pl1 1 [])) p

/-- A passage that stores 64 FP32 elements of port 0 into a buffer in HBM, running. -/
def pst : Passage := { ps .running with
  legs := [⟨0, true, false, 0, 1, 0xFFFF, 0⟩], groups := [⟨2, 0xFF, 0, [0x2000], 0, 64⟩]
  buffers := [⟨1, 1, 0, 64⟩], units := List.range 48 }

/-- A passage of two legs with gates: TIME on leg 0. -/
def pst2 (trig : Nat) : Passage := { ps .running with
  legs := [⟨trig, true, false, 0, 0, 0xFFFF, 2⟩, ⟨0, false, false, 0, 0, 0xFFFF, 0⟩], bells := 2, legDone := true }

/-- A passage that lights global port 0 at offset 1 in leg 0. -/
def pcol (st : PSt) : Passage := { ps st with
  legs := [⟨0, false, false, 0, 0, 0, 0⟩], colours := [1 :: List.replicate 63 0xFF] }

/-- `s` with a standing burst of slice 1 from rack 1 on port 1. -/
def stb (s : State) : State := wg s 1 { GPort.reset 1 with
  burst := some (1, 0, 0, 0), expectRack := 1, expectValid := true }

/-- A control frame of slice 1, passage 5, from rack 1. -/
def cf (kind leg iter : Nat) (fs : List (Nat × Nat × Nat)) : Bytes :=
  fieldsBE 32 ([(0, 1, kind), (1, 1, 1), (2, 1, 5), (3, 1, 1), (4, 2, leg), (6, 6, iter)] ++ fs)

/-- A DATA frame of 32 FP32 elements for slice 1, passage 5. -/
def df (leg parity off : Nat) : Bytes :=
  fieldsBE 160 [(0, 1, 1), (1, 1, 1 + 64 * parity), (2, 1, 5), (3, 1, 1), (4, 2, leg), (6, 2, 1), (8, 8, off), (16, 4, 128), (20, 4, 32)]


/-- A binding of 64 elements with momentum in FP32, in HBM. -/
def bd : Binding := { Binding.none_ with
  recipe := 1, locReq := 1, loc := 1, count := 64, gs := 0x3F800000 }

/-- Slice 1 with this binding of tensor 1. -/
def sb (b : Binding) : State := { upp (pl1 1 []) with
  skk := { Skk.reset with
    binding := [(65537, b)] } }

/-- `s` with this command in execution on ring 0. -/
def we (s : State) (e : Exec) : State := { s with
  hif := { s.hif with
    execs := [e] } }

/-- A passage of one optimizer leg over tensor 1, in FORM 0. -/
def po : Passage := { ps .running with
  legs := [⟨0, true, true, 0, 0, 0xFFFF, 0⟩] }

/-- A program of one store. -/
def pg : Prog := ⟨0, List.replicate 10 0xFF, List.replicate 16 0, List.replicate 64 0, [0x08000000]⟩


/-- A global address. -/
def ga (rack slice off : Nat) : Nat := rack * 2 ^ 58 + slice * 2 ^ 52 + off

/-- An FM_REQ of slice 1 with `n` data bytes. -/
def fq (n op len qp id g src : Nat) (fs : List (Nat × Nat × Nat)) : Bytes :=
  fieldsBE (32 + n) ([(0, 1, 0x10), (1, 1, 1), (2, 1, op), (5, 1, src), (8, 8, g), (16, 4, len), (20, 4, qp), (24, 4, id)] ++ fs)

/-- A queue of slice 1 at terminated port 0. -/
def qu : Queue := { Queue.free with
  st := 1, slice := 1, endpoint := 0x2000, credits := 2, timeoutUs := 10000 }

/-- A request of queue 3 to rack 1. -/
def fr (st sends : Nat) : FReq := ⟨4, 3, 9, 1, 0x01, 0, 0, st, ga 1 1 64, 64, [], 1, 0, 0, [], 1000, sends, none⟩

/-- An operation of rack 1 on the window of slice 1. -/
def fo (op len off : Nat) (d : Bytes) : FOp := ⟨7, 1, op, 0, 0, ga 0 1 off, len, d, 1, 3, 9⟩

/-- Slice 1 with racks 0 to 2, a window of 1 GiB with two bytes written, a standing port and queue 3. -/
def sf : State := { stb (upp (pl1 1 [])) with
  topo := { (upp (pl1 1 [])).topo with
    slice := [(1, { Slice.new 7 4 128 1 with
      windowGiB := 1, window := [(64, 255), (71, 2)] })] }
  fm := { Fm.reset with
    queue := [(3, qu)], nextRef := 8 } }

/-- `sf` with a path from port 1 to rack 1 broken. -/
def sfb : State := { sf with
  col := { sf.col with
    path := [(65, { Path.reset with broken := true })] } }

/-- `s` with these requests and operations. -/
def wr (s : State) (rs : List FReq) (os : List FOp) : State := { s with
  fm := { s.fm with
    reqs := rs, ops := os } }

/-- A module that pauses for a warm restart. -/
def pz (s : State) : State := { s with
  mod := .warmRestart }

/-- A flit with these header fields and payload. -/
def fl (h : List (Nat × Nat × Nat)) (pay : Bytes) : Bytes := sealFlit (fieldsBE 16 h) pay

/-- A TRAIN flit of version `v`, flags and NODE_ID. -/
def tn (v flags node : Nat) : Bytes :=
  fl [(0, 1, 0x50)] (fieldsBE 52 [(0, 2, v), (2, 2, v), (7, 1, flags), (8, 2, 5), (10, 2, 2048), (12, 2, 100), (28, 8, node)])

/-- Terminated port 0 in a state, with signal. -/
def la (st : LSt) : LPort := { LPort.reset with
  st := st, signal := true, since := 400, lanes := [true, true, true, true], farDepth := 2048 }

/-- A state in which terminated port 0 lies on a circuit of T port `k` and has these registers. -/
def lkk (k : Nat) (x : LPort) : State := wl { upp (pl1 3 [ci k 0x1000, ci 0x1000 k]) with
  ast := { (upp (pl1 1 [])).ast with
    raw := 12345678900000000 } } 0 x
def lk (x : LPort) : State := lkk 8 x

/-- A flit not acknowledged, by its SEQ. -/
def tf (n : Nat) : TxFlit := ⟨n, 0, true, true, [1, 2, 3], 0⟩

/-- A port with flits 5 to 7 not acknowledged. -/
def lr : LPort := { la .active with
  txSeq := 8, rxSeq := 3, replay := [tf 5, tf 6, tf 7], sessId := 77, limit := List.replicate 8 50 }

/-- A frame of 300 bytes on virtual channel 2. -/
def tq (done : Nat) : TxFrame := ⟨2, List.replicate 300 9, done, none, 0, 0⟩

/-- A HAIL flit: role, NODE_ID, hall, rack and strap state. -/
def hl (role node hall rack strap : Nat) : Bytes :=
  fl [(0, 1, 0x30)] (fieldsBE 40 [(0, 1, 1), (1, 1, role), (4, 8, node), (12, 1, hall), (13, 1, rack), (14, 1, strap), (18, 2, 1)])

/-- `sf` while it hails, with a locked clock and its standing port relocked. -/
def sfh : State := { sf with
  ast := { sf.ast with
    st := .locked }
  topo := { sf.topo with
    slice := [(1, { Slice.new 7 4 128 1 with
      colour := 1 })] } }

/-- A good header from rack 1 to port `g` of rack 0. -/
def bh (kind g slice pid leg iter slot digest cred : Nat) : Bytes := burstHeader kind 0 1 g 0 slice pid leg iter slot digest cred

/-- An unacknowledged frame on a path: stream bytes and flits at its end. -/
def ua (a b : Nat) : Nat × Nat × Nat × Bytes := (a, b, 0, zeros 64)

/-- `sf` with frames sent to rack 1 on port 1. -/
def sfu : State := { sf with
  col := { sf.col with
    path := [(65, { Path.reset with sent := 192, acked := 10, unacked := [ua 64 1, ua 128 2, ua 192 3], broken := true, limit := 5 })] } }

/-- A control frame of slice 1 from rack 1 about port 1, not of a passage. -/
def cg (kind : Nat) (fs : List (Nat × Nat × Nat)) : Bytes :=
  fieldsBE 64 ([(0, 1, kind), (1, 1, 1), (3, 1, 1), (16, 1, 1)] ++ fs)

/-- `s` with laser `l` as given. -/
def wla (s : State) (l : Nat) (x : Laser) : State := { s with
  col := { s.col with
    laser := s.col.laser.put l x } }

/-- `s` with glass-frog controllers 4 and 5 running. -/
def gfr (s : State) : State := { s with
  col := { s.col with
    gf := [(4, (2, [])), (5, (2, []))] } }
/-- A leg of passage 5 on global port 0, lit, on a module whose standing port is 1. -/
def lg0 (st role : Nat) : State := wla (wg (gfr (stb (sp (pcol .running)))) 0 { GPort.reset 0 with
  st := st, role := role, dest := 1, channel := 1, tunedAt := some 0 }) 0 { Laser.reset with
  st := 2, gate := true, channel := 1 }

/-- A module in maintenance with laser 3 locked on channel 0, its port CABLED. -/
def mls : State := wla (wg mnt 3 { GPort.reset 3 with
  cabling := 1 }) 3 { Laser.reset with
  st := 2, measValid := true }

/-- A module that starts, in its cabling check. -/
def chk0 (f : Nat → GPort) : State := { up with
  mod := .starting
  col := { up.col with
    checking := true, port := (List.range 64).map (fun g => (g, f g)) } }

/-- `up` in a time state, at 188 s. -/
def ta (st : TimeState) : State := { up with
  ast := { up.ast with
    st := st, raw := 61702400000000000, everLocked := true, h0 := 188000000000, since := 187000000000 } }

/-- `s` with this trigger 3. -/
def wtr (s : State) (x : Trig) : State := { s with
  ast := { s.ast with
    trig := [(3, x)] } }

/-- A trigger that repeats every millisecond, fired twice. -/
def tr (kind region : Nat) : Trig := ⟨kind, region, 188000000000, 1000000, 0, 2, 2, 0, true⟩

/-- `s` with this trace. -/
def wtc (s : State) (x : Trace) : State := { s with
  bnc := { s.bnc with
    trace := x } }

/-- A record of a type. -/
def rc (typ seq : Nat) : TRec := ⟨5, typ, 0, false, 0, seq, zeros 16⟩

/-- An armed trace. -/
def tar : Trace := { Trace.reset with
  st := 1, typeMask := 0xFFFE, seq := 40, trigKind := 2 }

/-- A Logline entry. -/
def le_ (seq sev : Nat) : LogEntry := ⟨seq, sev, false, false, 0, 0x1234, 5, 0, 0, []⟩

/-- `s` with this recorder. -/
def wlg (s : State) (x : Log) : State := { s with
  log := x }

/-- `s` with core `c` as given. -/
def wco (s : State) (c : Nat) (x : Core) : State := { s with
  bnc := { s.bnc with
    core := [(c, x)] } }

/-- `s` with region `g` as given. -/
def wr_ (s : State) (g : Nat) (x : Region) : State := { s with
  sxt := { s.sxt with
    region := [(g, x)] } }

/-- A region in a run. -/
def rr : Region := { Region.reset with
  running := true, tempRun := 2500, started := 100 }

/-- A record of a run. -/
def cr (n : Nat) : CalRec := ⟨n, 2500, 0, 188⟩

/-- `s` with a write that waits for table 5 of region 2, after `n` attempts. -/
def ww (s : State) (n : Nat) : State := { s with
  sxt := { s.sxt with
    writes := [(tableKey 2 5, (cr 9, n, 187000000000))], store := [(storeKey 2 5 0, cr 8), (storeKey 2 5 1, cr 7)] } }

/-- `s` with the pause of this kind in progress. -/
def wpz (s : State) (k : Nat) : State := { s with
  mod := .warmRestart
  ast := { s.ast with
    servoStopped := true }
  boot := { s.boot with
    pause := some ⟨k, 5, 0, 0⟩ } }

/-- A cold start at which everything verifies. -/
def cst : ColdStart := ⟨some 0x2C5, true, (true, true), true, [3], [7, 60], [], [], true, []⟩

/-- The block of a token command: its first 8 bytes as given, then a token of nonce 77 by key 0 for role 4 (R401). -/
def tkb (op : Nat) (fs : List (Nat × Nat × Nat)) : Bytes :=
  fields 40 ([(8, 16, 77), (24, 2, op), (26, 1, 0), (27, 1, 4), (28, 4, 16224)] ++ fs) ++ List.replicate 16224 0

/-- `s` with nonce 77 valid. -/
def wn (s : State) : State := { s with
  log := { s.log with
    nonce := some (77, 0) } }

theorem tkb_length (op : Nat) (fs : List (Nat × Nat × Nat)) : (tkb op fs).length = 16264 := by
  simp only [tkb, fields, List.length_append, List.length_replicate, List.length_map, List.length_range]

/-- Once signatures verify, a token command of the PF on ring 0 is accepted where every other check passes. -/
theorem accepts_token {op : Nat} {s : State} {i : CmdInfo} (hv : ∀ a b c d, Config.sigVerify a b c d = true)
    (hn : s.log.nonce = some (77, 0)) (h0 : s.ns < 300000000000) (hk : s.boot.keys = Boot.reset.keys)
    (h1 : s.canStart 0 0 = true) (h2 : (s.ring 0 0).st = .running) (h4 : sliceFieldOk 0 op 0 = true)
    (h5 : catalogue.find op = some i) (hp : i.ptr = true) (hi : i.token ≤ 4)
    (h8 : stateChk s.mod op (tkb op []) = none) (h9 : trialChk s.boot op = none)
    (h10 : requiredLen op (tkb op []) = 40 + tokenSigLen (tkb op []))
    (e1 : le ((tkb op []).drop 8) 0 16 = 77) (e2 : le ((tkb op []).drop 8) 16 2 = op)
    (e3 : le ((tkb op []).drop 8) 18 1 = 0) (e4 : le ((tkb op []).drop 8) 19 1 = 4)
    (e5 : le ((tkb op []).drop 8) 20 4 = 16224) (e6 : zeroAt ((tkb op []).drop 8) 24 8 = true)
    (e7 : tokenSigLen (tkb op []) = 16224) : accepts op (rq 0 (tkb op [])) s = true := by
  have hl := tkb_length op []
  have ht : tokenOk s op i.token (tkb op []) = true := by
    have hf : s.boot.keys.find 0 = some ⟨4, 7, 2, [], List.replicate 48 0, 0⟩ := by rw [hk]; decide
    unfold tokenOk
    simp only [hn, e3, hf]
    simp [e1, e2, e4, e5, e6, hl, hv, sigLenOf, h0, hi]
  have hb : blockChk i op (rq 0 (tkb op [])) = none := by
    simp [blockChk, firstFail, chk, rq, h10, hl, e7, hp]
  simp [accepts, authChk, chk, h5, hb]
  simp [rq, h1, h2, h4, ht, h8, h9, firstFail]

/-- A session by key 0 with a role and these messages waiting. -/
def se (role : Nat) (w : List (Nat × Nat × Bytes)) : Sess :=
  ⟨0, List.replicate 16 1, 0, role, 5, 1, 2, 11, 12, 13, 14, [], 0, 3, w, [(9, [1]), (10, [2])], 0⟩

/-- `s` with session 9 as given and session 4 beside it. -/
def wse (s : State) (x : Sess) : State := { s with
  boot := { s.boot with
    sess := [(4, { se 2 [] with port := 1, key := 5 }), (9, x)], nextSess := 20 } }

/-- `s` with the update lock held by session 9. -/
def lkd (s : State) : State := { s with
  boot := { s.boot with
    lock := some ⟨9, 0, 0, [3, 4], 1, 2⟩ } }

/-- A message of session 9, and one with a signature. -/
def msg (body : Bytes) : CMsg := ⟨9, 14, body, []⟩
def smsg (body : Bytes) : CMsg := ⟨9, 14, body, List.replicate 16224 0⟩

/-- The session in which that message waits first. -/
def sq (role typ : Nat) (m : CMsg) : Sess := se role [(14, typ, m.body), (15, 0x10, [])]
def sqs (role typ : Nat) (m : CMsg) : Sess := se role [(14, typ, m.body ++ beBytes 4 m.sig.length ++ m.sig), (15, 0x10, [])]

/-- A Cleosh segment. -/
def dg (fs : List (Nat × Nat × Nat)) (pay : Bytes) : Bytes :=
  fieldsBE 32 ([(0, 2, 0x434C), (2, 1, 1), (28, 2, pay.length)] ++ fs) ++ pay

theorem signed_ok {s : State} {x : Sess} {b : Bytes} {typ : Nat} (hv : ∀ a b c d, Config.sigVerify a b c d = true)
    (hk : s.boot.keys.find x.key = some ⟨4, 7, 2, [], List.replicate 48 0, 0⟩) : s.signedOk x (smsg b) typ = true := by
  unfold State.signedOk
  simp only [hk, hv]
  simp [smsg, sigLenOf]

/-- `s` with this in staging. -/
def wsg (s : State) (g : Stage) : State := { s with
  boot := { s.boot with
    staging := some g } }

/-- `s` with an image staged beside the running one. -/
def wst (s : State) : State := { s with
  boot := { s.boot with
    staged := true, slot := [(0, ⟨7, 0, 1, 1, []⟩), (1, ⟨8, 2, 3, 3, [1]⟩)] } }

/-- `s` on trial, its health pending. -/
def whp (s : State) : State := { wst s with
  boot := { (wst s).boot with
    healthPending := true, trial := true, staged := false, t0 := 5 } }

theorem one_block (n : Nat) (b : Bytes) : (⟨n, 1, b.length, [(0, b)]⟩ : Stage).image = some b := by
  have h1 : Tbl.keys [(0, b)] = List.range 1 := rfl
  have h2 : Tbl.vals [(0, b)] = [b] := rfl
  unfold Stage.image
  simp [h1, h2]

theorem one_sess {s : State} {x y : Sess} (h : s.boot.sess = [(4, y), (9, x)]) : ∀ e ∈ s.boot.sess, e.1 = 9 → e.2 = x := by
  rw [h]; simp

/-- A module in MAINTENANCE with cores halted, a mirror and lasers of its own moves and levels. -/
def mnx : State := { mnt with
  bnc := { mnt.bnc with
    core := [(3, ⟨1, 2, [], 4⟩), (7, ⟨0, 0, [(1, 2, 64)], 0⟩)] }
  plane := { mnt.plane with
    mirror := [(8, { mi .settled 16 with byMaint := true }), (1040, { mi .held 8 with byMaint := true }), (1041, mi .settled 9)] }
  col := { mnt.col with
    laser := [(3, { Laser.reset with st := 5, gate := true, byMaint := true }), (4, { Laser.reset with gate := true })] } }

/-- `s` with this memory protection state. -/
def wmem (s : State) (x : Mem) : State := { s with
  mem := x }

/-- A little-endian value reads back from where it stands. -/
theorem le_append : ∀ (n : Nat) (pre : Bytes) (v : Nat), v < 256 ^ n → le (pre ++ leBytes n v) pre.length n = v
  | 0, _, v, h => by simp [le] at *; omega
  | n + 1, pre, v, h => by
    have hd : v / 256 < 256 ^ n := by
      rw [Nat.div_lt_iff_lt_mul (by decide)]; rwa [Nat.pow_succ] at h
    have ih := le_append n (pre ++ [BitVec.ofNat 8 v]) (v / 256) hd
    simp only [List.append_assoc, List.cons_append, List.nil_append, List.length_append, List.length_cons,
      List.length_nil, Nat.zero_add] at ih
    simp only [leBytes, le, ih]
    simp [byteAt]
    omega

theorem padTo_length (n : Nat) (b : Bytes) : (padTo n b).length = n := by
  simp [padTo, zeros]; omega

/-- A sealed flit whose header is well formed is good: its CRC needs no evaluation. -/
theorem fl_good {h : List (Nat × Nat × Nat)} {pay : Bytes}
    (e : (decide (ftypeOf (fl h pay) ≤ 5) && bits (byteAt (fl h pay) 1) 0 7 == 0 && byteAt (fl h pay) 7 == 0
      && zeroAt (fl h pay) 13 3) = true) : flitGood (fl h pay) = true := by
  have hb : (padTo 16 (fieldsBE 16 h) ++ padTo 232 pay).length = 248 := by simp [padTo_length]
  have hl : (fl h pay).length = 256 := by
    simp only [fl, sealFlit, List.length_append, padTo_length, leBytes, List.length_cons, List.length_nil]
  have hc : le (fl h pay) 248 8 = crc64 (padTo 16 (fieldsBE 16 h) ++ padTo 232 pay) := by
    have := le_append 8 (padTo 16 (fieldsBE 16 h) ++ padTo 232 pay) (crc64 (padTo 16 (fieldsBE 16 h) ++ padTo 232 pay))
      (by unfold crc64; exact Nat.lt_of_lt_of_le (BitVec.isLt _) (by decide))
    rwa [hb] at this
  have ht : (fl h pay).take 248 = padTo 16 (fieldsBE 16 h) ++ padTo 232 pay := by
    simp only [fl, sealFlit]; rw [← hb, List.take_left']
    rfl
  unfold flitGood
  simp only [hl, hc, ht, beq_self_eq_true, Bool.true_and]
  exact e

/-! ### States and operands that meet the hypotheses of the statements -/

theorem wit_StepRunsFrontCommand :
    (∃ (c : Instr) (rest : List Instr) (s : State),
      s.pending = c :: rest)
    ∧ (∃ (s : State),
      s.pending = []) :=
  ⟨⟨.ppsOut, [], { up with pending := [.ppsOut] }, by decide⟩,
   ⟨up, by decide⟩⟩

theorem wit_NopAndFunctionQuery :
    (∃ (r : Req) (s : State),
      accepts 0x0002 r s = true
        ∧ r.z 16 = true)
    ∧ (∃ (r : Req) (s : State),
      accepts 0x0003 r s = true
        ∧ r.z 16 = true)
    ∧ (∃ (r : Req) (s : State),
      accepts 0x0002 r s = true
        ∧ r.z 16 = false)
    ∧ (∃ (r : Req) (s : State),
      accepts 0x0003 r s = true
        ∧ r.z 16 = false) :=
  ⟨⟨rp 0 [], up, by decide, by decide⟩,
   ⟨rp 0 [], up1, by decide, by decide⟩,
   ⟨rp 0 [(63, 1, 1)], up, by decide, by decide⟩,
   ⟨rp 0 [(16, 1, 1)], up, by decide, by decide⟩⟩

theorem wit_IdentifyWritesBlock :
    (∃ (r : Req) (s : State),
      accepts 0x0001 r s = true
        ∧ r.p 16 8 ≠ 0
        ∧ r.p 16 8 % 16 = 0
        ∧ r.z 24 = true)
    ∧ (∃ (r : Req) (s : State),
      accepts 0x0001 r s = true
        ∧ ((r.p 16 8 = 0 ∨ r.p 16 8 % 16 ≠ 0))) :=
  ⟨⟨rp 0 [(16, 8, 4096)], up, by decide, by decide, by decide, by decide⟩,
   ⟨rp 0 [(16, 8, 8)], up, by decide, by decide⟩⟩

theorem wit_RingDoorbells :
    (∃ (fn : Fin 64) (k : Fin 16) (v : Nat) (s : State),
      v % 2 ^ 16 < 2 ^ (s.ring fn k).log2)
    ∧ (∃ (fn : Fin 64) (k : Fin 16) (v : Nat) (s : State),
      2 ^ (s.ring fn k).log2 ≤ v % 2 ^ 16)
    ∧ (∃ (fn : Fin 64) (k : Fin 16) (v : Nat) (n : Nat) (s : State),
      n ≤ (s.ring fn k).unread
        ∧ n < 2 ^ (s.ring fn k).log2
        ∧ (s.ring fn k).unread ≤ 2 ^ (s.ring fn k).log2
        ∧ v % 2 ^ 16 = ((s.ring fn k).cplIndex + 2 ^ (s.ring fn k).log2 - (s.ring fn k).unread + n) % 2 ^ (s.ring fn k).log2)
    ∧ (∃ (fn : Fin 64) (k : Fin 16) (v : Nat) (s : State),
      (s.ring fn k).unread ≤ 2 ^ (s.ring fn k).log2
        ∧ ((∀ n, n ≤ (s.ring fn k).unread → v % 2 ^ 16 ≠ ((s.ring fn k).cplIndex + 2 ^ (s.ring fn k).log2 - (s.ring fn k).unread + n) % 2 ^ (s.ring fn k).log2))) :=
  ⟨⟨0, 0, 63, up, by decide⟩,
   ⟨0, 0, 64, up, by decide⟩,
   ⟨0, 0, 1, 1, upr { rg with unread := 2, cplIndex := 2 }, by decide, by decide, by decide, by decide⟩,
   ⟨0, 0, 3, upr { rg with unread := 2, cplIndex := 2 }, by decide, by decide⟩⟩

theorem wit_RingConfiguration :
    (∃ (fn : Fin 64) (k : Fin 16) (v : Nat) (s : State),
      (s.ring fn k).st = .disabled
        ∧ bit v 8 = true
        ∧ 4 ≤ bits v 0 5
        ∧ bits v 0 5 ≤ 16)
    ∧ (∃ (fn : Fin 64) (k : Fin 16) (v : Nat) (s : State),
      (s.ring fn k).st = .disabled
        ∧ bit v 8 = true
        ∧ ((bits v 0 5 < 4 ∨ 16 < bits v 0 5)))
    ∧ (∃ (fn : Fin 64) (k : Fin 16) (v : Nat) (s : State),
      (s.ring fn k).st = .draining
        ∧ bit v 8 = true)
    ∧ (∃ (fn : Fin 64) (k : Fin 16) (v : Nat) (s : State),
      (s.ring fn k).st ≠ .disabled
        ∧ bit v 8 = false)
    ∧ (∃ (fn : Fin 64) (k : Fin 16) (v : Nat) (s : State),
      (s.ring fn k).st = .running
        ∧ bit v 8 = true
        ∧ bit v 9 = true)
    ∧ (∃ (fn : Fin 64) (k : Fin 16) (v : Nat) (s : State),
      (s.ring fn k).st = .stepHeld
        ∧ bit v 8 = true
        ∧ bit v 9 = false
        ∧ (s.ring fn k).held = none)
    ∧ (∃ (fn : Fin 64) (k : Fin 16) (v : Nat) (s : State),
      (s.ring fn k).st = .stepHeld
        ∧ bit v 8 = true
        ∧ bit v 9 = false
        ∧ bits v 0 5 = (s.ring fn k).log2
        ∧ s.ringsPaused = false
        ∧ (s.ring fn k).held.isSome = true) :=
  ⟨⟨0, 1, 0x104, up, by decide, by decide, by decide, by decide⟩,
   ⟨0, 1, 0x111, up, by decide, by decide, by decide⟩,
   ⟨0, 0, 0x106, upr { rg with st := .draining }, by decide, by decide⟩,
   ⟨0, 0, 6, upr { rg with held := some ⟨[], none, [], .ok⟩, st := .stepHeld }, by decide, by decide⟩,
   ⟨0, 0, 0x306, up, by decide, by decide, by decide⟩,
   ⟨0, 0, 0x106, upr { rg with st := .stepHeld, stepMode := true }, by decide, by decide, by decide, by decide⟩,
   ⟨0, 0, 0x106, upr { rg with st := .stepHeld, stepMode := true, held := some ⟨[], none, [], .ok⟩ }, by decide, by decide, by decide, by decide, by decide, by decide⟩⟩

theorem wit_RingStepResumeDrain :
    (∃ (fn : Fin 64) (k : Fin 16) (v : Nat) (s : State),
      bit v 0 = true
        ∧ (s.ring fn k).held = none)
    ∧ (∃ (fn : Fin 64) (k : Fin 16) (v : Nat) (s : State),
      bit v 0 = false)
    ∧ (∃ (fn : Fin 64) (k : Fin 16) (v : Nat) (s : State),
      bit v 0 = true
        ∧ (s.ring fn k).held.isSome = true
        ∧ s.ringsPaused = true)
    ∧ (∃ (fn : Fin 64) (k : Fin 16) (v : Nat) (s : State),
      bit v 0 = true
        ∧ (s.ring fn k).st = .error)
    ∧ (∃ (fn : Fin 64) (k : Fin 16) (v : Nat) (s : State),
      (s.ring fn k).st ≠ .error)
    ∧ (∃ (fn : Fin 64) (k : Fin 16) (s : State),
      (s.ring fn k).st = .draining
        ∧ s.ringExec fn k = none) :=
  ⟨⟨0, 0, 1, up, by decide, by decide⟩,
   ⟨0, 0, 2, up, by decide⟩,
   ⟨0, 0, 1, { upr { rg with st := .stepHeld, held := some ⟨[], none, [], .ok⟩ } with mod := .warmRestart }, by decide, by decide, by decide⟩,
   ⟨0, 0, 1, upr { rg with st := .error, stepMode := true }, by decide, by decide⟩,
   ⟨0, 0, 1, up, by decide⟩,
   ⟨0, 0, upr { rg with st := .draining }, by decide, by decide⟩⟩

theorem wit_FetchRunsTheRow :
    (∃ (x : Nat × (Req → Instr)) (fn : Fin 64) (k : Fin 16) (e : Bytes) (block : Option Bytes) (data : Bytes) (dma : Dma) (s : State),
      x ∈ hostRows
        ∧ le e 0 2 = x.1
        ∧ e.length = 64
        ∧ s.ringsPaused = false
        ∧ (s.ring fn k).st = .running
        ∧ s.ringExec fn k = none
        ∧ (s.ring fn k).held = none
        ∧ (s.ring fn k).fetch ≠ (s.ring fn k).tail
        ∧ (s.ring fn k).unread < (s.ring fn k).size
        ∧ byteAt e 3 = (s.ring fn k).expectSeq
        ∧ headerChk fn e = none
        ∧ bit (byteAt e 2) 1 = false
        ∧ ((∀ i, catalogue.find x.1 = some i → descrChk i e = none)))
    ∧ (∃ (fn : Fin 64) (k : Fin 16) (e : Bytes) (block : Option Bytes) (data : Bytes) (dma : Dma) (s : State),
      e.length = 64
        ∧ s.ringsPaused = false
        ∧ s.ringExec fn k = none
        ∧ (s.ring fn k).held = none
        ∧ ((s.ring fn k).st = .running ∨ (s.ring fn k).st = .stepHeld)
        ∧ ((s.ring fn k).st = .stepHeld ∨ bit (byteAt e 2) 1 = true)
        ∧ (s.ring fn k).fetch ≠ (s.ring fn k).tail
        ∧ (s.ring fn k).unread < (s.ring fn k).size
        ∧ byteAt e 3 = (s.ring fn k).expectSeq)
    ∧ (∃ (fn : Fin 64) (k : Fin 16) (e : Bytes) (block : Option Bytes) (data : Bytes) (s : State),
      e.length = 64
        ∧ s.ringsPaused = false
        ∧ s.ringExec fn k = none
        ∧ (s.ring fn k).held = none
        ∧ (s.ring fn k).st = .running
        ∧ (s.ring fn k).fetch ≠ (s.ring fn k).tail
        ∧ (s.ring fn k).unread < (s.ring fn k).size
        ∧ byteAt e 3 ≠ (s.ring fn k).expectSeq)
    ∧ (∃ (fn : Fin 64) (k : Fin 16) (data : Bytes) (dma : Dma) (s : State),
      s.ringsPaused = false
        ∧ s.ringExec fn k = none
        ∧ (s.ring fn k).held = none
        ∧ (s.ring fn k).st = .running
        ∧ (s.ring fn k).fetch ≠ (s.ring fn k).tail
        ∧ (s.ring fn k).unread < (s.ring fn k).size) :=
  ⟨⟨(0x0002, Instr.nop), 0, 0, fields 64 [(0, 2, 2), (4, 4, 7), (10, 2, 48)], none, [], .ok, up, (by simp [hostRows]), by decide, by decide, by decide, by decide, by decide, by decide, by decide, by decide, by decide, by decide, by decide, (fun i h => by obtain rfl : (⟨false, 100, false, 0⟩ : CmdInfo) = i := Option.some.inj h; decide)⟩,
   ⟨0, 0, fields 64 [(0, 2, 2), (2, 1, 2)], none, [], .ok, upr { rg with st := .stepHeld }, by decide, by decide, by decide, by decide, by decide, by decide, by decide, by decide, by decide⟩,
   ⟨0, 0, fields 64 [(0, 2, 2), (3, 1, 9)], none, [], up, by decide, by decide, by decide, by decide, by decide, by decide, by decide, by decide⟩,
   ⟨0, 0, [], .ok, up, by decide, by decide, by decide, by decide, by decide, by decide⟩⟩

theorem wit_StepStartsHeldCommand :
    (∃ (x : Nat × (Req → Instr)) (fn : Fin 64) (k : Fin 16) (v : Nat) (h : Held) (s : State),
      x ∈ hostRows
        ∧ le h.entry 0 2 = x.1
        ∧ bit v 0 = true
        ∧ s.ringsPaused = false
        ∧ s.ringExec fn k = none
        ∧ (s.ring fn k).held = some h
        ∧ (s.ring fn k).unread < (s.ring fn k).size
        ∧ headerChk fn h.entry = none
        ∧ ((∀ i, catalogue.find x.1 = some i → descrChk i h.entry = none))) :=
  ⟨(0x0002, Instr.nop), 0, 0, 1, ⟨fields 64 [(0, 2, 2), (10, 2, 48)], none, [], .ok⟩, upr { rg with st := .stepHeld, held := some ⟨fields 64 [(0, 2, 2), (10, 2, 48)], none, [], .ok⟩ }, (by simp [hostRows]), by decide, by decide, by decide, by decide, by decide, by decide, by decide, (fun i h => by obtain rfl : (⟨false, 100, false, 0⟩ : CmdInfo) = i := Option.some.inj h; decide)⟩

theorem wit_MisalignedAccess :
    (∃ (off : Nat) (wide : Bool) (v : Nat) (s : State),
      off % (if wide then 8 else 4) ≠ 0)
    ∧ (∃ (n : Fin 64) (off : Nat) (wide : Bool) (v : Nat) (s : State),
      off % (if wide then 8 else 4) ≠ 0) :=
  ⟨⟨2, false, 5, up, by decide⟩,
   ⟨1, 4, true, 5, up, by decide⟩⟩

theorem wit_RegisterWrites :
    (∃ (k : Fin 16) (v : Nat) (s : State),
      v < 2 ^ 64) :=
  ⟨0, 5, up, by decide⟩

theorem wit_RegisterReads :
    (∃ (m : Nat) (s : State),
      m < 2048)
    ∧ (∃ (p : Nat) (s : State),
      p < 64)
    ∧ (∃ (q : Nat) (s : State),
      q < 262144
        ∧ (s.queue q).st ≠ 0) :=
  ⟨⟨2047, up, by decide⟩,
   ⟨63, up, by decide⟩,
   ⟨3, { up with fm.queue := [(3, { Queue.free with st := 1 })] }, by decide, by decide⟩⟩

theorem wit_StatusPageRefresh :
    (∃ (faulted : List Nat) (s : State),
      s.ringsPaused = true)
    ∧ (∃ (faulted : List Nat) (s : State),
      s.ringsPaused = false) :=
  ⟨⟨[1], { up with mod := .warmRestart }, by decide⟩,
   ⟨[1], up, by decide⟩⟩

theorem wit_FunctionResets :
    (∃ (fn : Fin 64) (s : State),
      fn.val ≠ 0)
    ∧ (∃ (g : Fin 8) (w : Fin 9) (s : State),
      5 ≤ g.val
        ∧ ((w.val = 1 ∨ w.val = 4 ∨ w.val = 8)))
    ∧ (∃ (g : Fin 8) (w : Fin 9) (s : State),
      ((g.val < 5 ∨ (w.val ≠ 1 ∧ w.val ≠ 4 ∧ w.val ≠ 8)))) :=
  ⟨⟨1, up, by decide⟩,
   ⟨5, 4, up, by decide, by decide⟩,
   ⟨4, 4, up, by decide⟩⟩

theorem wit_CommandTimeout :
    (∃ (fn : Fin 64) (k : Fin 16) (e : Exec) (s : State),
      s.ringExec fn k = some e
        ∧ e.dma = .ok
        ∧ (s.ring fn k).st ≠ .disabled)
    ∧ (∃ (fn : Fin 64) (k : Fin 16) (e : Exec) (s : State),
      s.ringExec fn k = some e
        ∧ (s.ring fn k).st = .disabled)
    ∧ (∃ (fn : Fin 64) (k : Fin 16) (s : State),
      s.ringExec fn k = none) :=
  ⟨⟨0, 0, ex (.snapshot 5), upx (.snapshot 5), by decide, by decide, by decide⟩,
   ⟨0, 0, ex (.snapshot 5), { upx (.snapshot 5) with hif.ring := [] }, by decide, by decide⟩,
   ⟨0, 0, up, by decide⟩⟩

theorem wit_LostCompletion :
    (∃ (r : Req) (s : State),
      accepts 0x0002 { r with dma := .ok } s = true
        ∧ r.dma = .cplFault) :=
  ⟨{ rp 0 [] with dma := .cplFault }, up, by decide, by decide⟩

theorem wit_SliceLifecycle :
    (∃ (r : Req) (s : State),
      accepts 0x0101 r s = true
        ∧ bit (r.b 0 8) s.topo.rack = true
        ∧ r.b 8 4 * 2 ^ 30 ≤ s.hbmBytes
        ∧ r.b 12 4 ≤ 6144
        ∧ r.b 12 4 % 64 = 0
        ∧ ((r.b 16 1 ≤ 16 ∨ r.b 16 1 = 255))
        ∧ zeroAt r.params 17 15 = true
        ∧ s.topo.strapState = 0
        ∧ s.hasSlice r.slice = false
        ∧ s.hbmQuotas + r.b 8 4 * 2 ^ 30 + snapArea + s.bnc.trace.ringMib * 2 ^ 20 ≤ s.hbmBytes
        ∧ s.sramQuotas + r.b 12 4 * 2 ^ 20 ≤ 6144 * 2 ^ 20)
    ∧ (∃ (r : Req) (s : State),
      accepts 0x0101 r s = true
        ∧ bit (r.b 0 8) s.topo.rack = true
        ∧ r.b 8 4 * 2 ^ 30 ≤ s.hbmBytes
        ∧ r.b 12 4 ≤ 6144
        ∧ r.b 12 4 % 64 = 0
        ∧ ((r.b 16 1 ≤ 16 ∨ r.b 16 1 = 255))
        ∧ zeroAt r.params 17 15 = true
        ∧ s.topo.strapState = 0
        ∧ s.hasSlice r.slice = true)
    ∧ (∃ (r : Req) (s : State),
      accepts 0x0105 r s = true
        ∧ r.z 16 = true
        ∧ s.hasSlice r.slice = true
        ∧ ((∀ e ∈ s.topo.plot, e.2.slice ≠ r.slice))
        ∧ s.passagesOf r.slice = []
        ∧ ((∀ e ∈ s.fm.queue, e.2.slice = r.slice → e.2.st = 0))
        ∧ ((∀ e ∈ s.skk.binding, e.1 / 65536 ≠ r.slice))
        ∧ ((∀ e ∈ s.skk.prog, e.1 / 32 ≠ r.slice)))
    ∧ (∃ (r : Req) (e : Nat × Plot) (s : State),
      accepts 0x0105 r s = true
        ∧ r.z 16 = true
        ∧ s.hasSlice r.slice = true
        ∧ s.topo.plot.find? (fun e => e.2.slice == r.slice) = some e) :=
  ⟨⟨rb 1 32 [(0, 8, 3), (8, 4, 4), (12, 4, 128), (16, 1, 255)], up, by decide, by decide, by decide, by decide, by decide, by decide, by decide, by decide, by decide, by decide, by decide⟩,
   ⟨rb 1 32 [(0, 8, 3), (8, 4, 4), (12, 4, 128), (16, 1, 255)], up1, by decide, by decide, by decide, by decide, by decide, by decide, by decide, by decide, by decide⟩,
   ⟨rp 1 [], { up1 with topo.owner := [(8, 1), (0x1000, 1), (0x3000, 2)] }, by decide, by decide, by decide, by decide, by decide, by decide, by decide, by decide⟩,
   ⟨rp 1 [], (1, pl1 1 []), upp (pl1 1 []), by decide, by decide, by decide, by decide⟩⟩

theorem wit_SliceAssignment :
    (∃ (r : Req) (s : State),
      accepts 0x0102 r s = true
        ∧ ranges (assignRows r s) = none
        ∧ s.hasSlice r.slice = true
        ∧ r.b 0 1 = 0
        ∧ ((∀ k ∈ assignKeys r, s.owner k = 0 ∧ s.isQuar k = false))
        ∧ ((s.passagesOf r.slice = [] ∨ ∀ k ∈ assignKeys r, refClass k ≠ 3)))
    ∧ (∃ (r : Req) (s : State),
      accepts 0x0102 r s = true
        ∧ ranges (assignRows r s) = none
        ∧ s.hasSlice r.slice = true
        ∧ r.b 0 1 = 1
        ∧ ((∀ k ∈ assignKeys r, s.owner k = r.slice ∧ s.plotNaming r.slice k = 0 ∧ s.queueNaming k = 0))
        ∧ ((s.passagesOf r.slice = [] ∨ ∀ k ∈ assignKeys r, refClass k ≠ 3)))
    ∧ (∃ (r : Req) (x : Slice) (s : State),
      accepts 0x0102 r s = true
        ∧ ranges (assignRows r s) = none
        ∧ s.topo.slice.find r.slice = some x
        ∧ r.b 0 1 = 2
        ∧ s.passagesOf r.slice = []
        ∧ ((∀ e ∈ s.fm.queue, e.2.slice = r.slice → e.2.st = 0)))
    ∧ (∃ (r : Req) (x : Slice) (s : State),
      accepts 0x0102 r s = true
        ∧ ranges (assignRows r s) = none
        ∧ s.topo.slice.find r.slice = some x
        ∧ r.b 0 1 = 3
        ∧ s.hbmPlaced r.slice ≤ r.b 4 4 * 2 ^ 30
        ∧ s.sramPlaced r.slice ≤ r.b 8 4 * 2 ^ 20
        ∧ quotaChk s (s.hbmQuotas - x.hbmGiB * 2 ^ 30) (r.b 4 4) (s.sramQuotas - x.sramMiB * 2 ^ 20) (r.b 8 4) = none)
    ∧ (∃ (r : Req) (k : Nat) (s : State),
      accepts 0x0102 r s = true
        ∧ ranges (assignRows r s) = none
        ∧ s.hasSlice r.slice = true
        ∧ r.b 0 1 = 0
        ∧ k ∈ assignKeys r
        ∧ s.owner k ≠ 0) :=
  ⟨⟨rb 1 40 [(2, 2, 2), (32, 2, 8), (34, 2, 2), (36, 2, 0x3000), (38, 2, 1)], up1, by decide, by decide, by decide, by decide, by decide, by decide⟩,
   ⟨rb 1 40 [(0, 1, 1), (2, 2, 2), (32, 2, 8), (34, 2, 1), (36, 2, 0x2000), (38, 2, 1)], { up1 with topo.owner := [(8, 1), (0x1000, 1), (0x3000, 1)] }, by decide, by decide, by decide, by decide, by decide, by decide⟩,
   ⟨rb 1 32 [(0, 1, 2), (16, 8, 7)], sl, up1, by decide, by decide, by decide, by decide, by decide, by decide⟩,
   ⟨rb 1 32 [(0, 1, 3), (4, 4, 5), (8, 4, 64)], sl, up1, by decide, by decide, by decide, by decide, by decide, by decide, by decide⟩,
   ⟨rb 1 40 [(2, 2, 2), (32, 2, 8), (34, 2, 2), (36, 2, 0x3000), (38, 2, 1)], 8, { up1 with topo.owner := [(8, 2)] }, by decide, by decide, by decide, by decide, by decide, by decide⟩⟩

theorem wit_StandingAndAdmission :
    (∃ (r : Req) (x : Slice) (s : State),
      accepts 0x0107 r s = true
        ∧ r.p 16 1 ≤ 16
        ∧ r.p 16 1 ≤ (s.gports r.slice).length
        ∧ r.z 17 = true
        ∧ s.topo.slice.find r.slice = some x
        ∧ s.passagesOf r.slice = []
        ∧ s.uncheckedPort r.slice = false)
    ∧ (∃ (r : Req) (e : Nat × Passage) (s : State),
      accepts 0x0107 r s = true
        ∧ r.p 16 1 ≤ 16
        ∧ r.p 16 1 ≤ (s.gports r.slice).length
        ∧ r.z 17 = true
        ∧ s.hasSlice r.slice = true
        ∧ (s.passagesOf r.slice).head? = some e)
    ∧ (∃ (r : Req) (s : State),
      accepts 0x0106 r s = true
        ∧ 1 ≤ r.p 18 2
        ∧ r.p 18 2 ≤ 128
        ∧ r.p 20 1 = 0
        ∧ r.z 21 = true
        ∧ ((∀ t, r.p 16 2 ≤ t → t < r.p 16 2 + r.p 18 2 → isAX t = true ∧ t < 768 ∧ isX t = isX (r.p 16 2) ∧ (s.tp t).st = .quarantined)))
    ∧ (∃ (r : Req) (s : State),
      accepts 0x0106 r s = true
        ∧ 1 ≤ r.p 18 2
        ∧ r.p 18 2 ≤ 128
        ∧ r.p 20 1 = 1
        ∧ r.z 21 = true
        ∧ ((∀ t, r.p 16 2 ≤ t → t < r.p 16 2 + r.p 18 2 → isAX t = true ∧ t < 768 ∧ isX t = isX (r.p 16 2) ∧ (s.tp t).st ≠ .inCircuit ∧ (s.tp t).st ≠ .failed ∧ s.inCircuit t = false)))
    ∧ (∃ (r : Req) (s : State),
      accepts 0x0106 r s = true
        ∧ r.p 18 2 = 1
        ∧ r.p 20 1 = 0
        ∧ r.z 21 = true
        ∧ isAX (r.p 16 2) = true
        ∧ r.p 16 2 < 768
        ∧ (s.tp (r.p 16 2)).st ≠ .quarantined) :=
  ⟨⟨rp 1 [(16, 1, 1)], sl, upp (pl1 1 []), by decide, by decide, by decide, by decide, by decide, by decide, by decide⟩,
   ⟨rp 1 [(16, 1, 1)], (5, ps .loaded), wp (upp (pl1 1 [])) (ps .loaded), by decide, by decide, by decide, by decide, by decide, by decide⟩,
   ⟨rp 0 [(16, 2, 8), (18, 2, 1)], upt .quarantined, by decide, by decide, by decide, by decide, by decide, (fun t h1 h2 => by have a : 8 ≤ t := h1; have b : t < 9 := h2; have c : t = 8 := (by omega); subst c; decide)⟩,
   ⟨rp 0 [(16, 2, 8), (18, 2, 1), (20, 1, 1)], upt .probing, by decide, by decide, by decide, by decide, by decide, (fun t h1 h2 => by have a : 8 ≤ t := h1; have b : t < 9 := h2; have c : t = 8 := (by omega); subst c; decide)⟩,
   ⟨rp 0 [(16, 2, 8), (18, 2, 1)], upt .found, by decide, by decide, by decide, by decide, by decide, by decide, by decide⟩⟩

theorem wit_SliceQueryWritesBlock :
    (∃ (r : Req) (x : Slice) (s : State),
      accepts 0x0103 r s = true
        ∧ r.p 16 4 ≤ 1343
        ∧ 96 ≤ r.p 20 4
        ∧ r.p 20 4 ≤ 43104
        ∧ r.p 24 8 % 32 = 0
        ∧ r.z 32 = true
        ∧ s.topo.slice.find r.slice = some x)
    ∧ (∃ (r : Req) (s : State),
      accepts 0x0103 r s = true
        ∧ r.p 16 4 ≤ 1343
        ∧ 96 ≤ r.p 20 4
        ∧ r.p 20 4 ≤ 43104
        ∧ r.p 24 8 % 32 = 0
        ∧ r.z 32 = true
        ∧ r.slice ≠ 0
        ∧ s.hasSlice r.slice = false) :=
  ⟨⟨rp 1 [(20, 4, 160), (24, 8, 4096)], sl, upp (pl1 1 []), by decide, by decide, by decide, by decide, by decide, by decide, by decide⟩,
   ⟨rp 2 [(20, 4, 160), (24, 8, 4096)], up1, by decide, by decide, by decide, by decide, by decide, by decide, by decide, by decide⟩⟩

theorem wit_DiscoveryStates :
    (∃ (t : Fin 768) (s : State),
      isAX t = true)
    ∧ (∃ (t : Fin 768) (s : State),
      isAX t = true)
    ∧ (∃ (t : Fin 768) (s : State),
      isAX t = false)
    ∧ (∃ (t : Fin 768) (i : Nat) (s : State),
      s.probePort = some i
        ∧ isAX t = true
        ∧ (s.tp t).st = .lit
        ∧ s.probes.length < 8
        ∧ (s.tfc (tfOf t)).st ≠ 4
        ∧ (s.tfc (tfOf (1024 + t))).st ≠ 4)
    ∧ (∃ (t : Fin 768) (s : State),
      (s.tp t).st = .probing)
    ∧ (∃ (t : Fin 768) (s : State),
      (s.tp t).st = .silent)
    ∧ (∃ (t : Fin 768) (s : State),
      (s.tp t).st ≠ .probing)
    ∧ (∃ (t : Fin 768) (s : State),
      (s.tp t).st ≠ .silent) :=
  ⟨⟨8, upt .dark, by decide⟩,
   ⟨8, upt .found, by decide⟩,
   ⟨640, up, by decide⟩,
   ⟨8, 255, upt .lit, by decide, by decide, by decide, by decide, by decide, by decide⟩,
   ⟨8, upt .probing, by decide⟩,
   ⟨8, upt .silent, by decide⟩,
   ⟨8, upt .silent, by decide⟩,
   ⟨8, upt .probing, by decide⟩⟩

theorem wit_StrapSamples :
    (∃ (levels : Nat) (s : State),
      levels % 2 ^ 11 = s.topo.straps)
    ∧ (∃ (levels : Nat) (s : State),
      levels % 2 ^ 11 ≠ s.topo.straps) :=
  ⟨⟨2048, up, by decide⟩,
   ⟨5, { up with topo.strapDiff := 9 }, by decide⟩⟩

theorem wit_ChartLoadPlots :
    (∃ (r : Req) (id : Nat) (s : State),
      accepts 0x0201 r s = true
        ∧ ranges (chartRows s.fuse r.params) = none
        ∧ s.hasSlice r.slice = true
        ∧ ((∀ p ∈ impliedPorts s (chartOf r.params), mayName s r.slice p = true))
        ∧ (chartOf r.params).wholeFault = none
        ∧ leastFault (circuitFaults s ((chartOf r.params).plotted s r.slice) []) = none
        ∧ (assignSpares s (chartOf r.params)).2.2.1 = 0
        ∧ (s.topo.plot.filter (fun e => e.2.slice == r.slice)).length < 4
        ∧ 0 < id
        ∧ id < 65536
        ∧ s.topo.plot.has id = false
        ∧ ((∀ i, 0 < i → i < id → s.topo.plot.has i = true)))
    ∧ (∃ (r : Req) (k : Nat) (s : State),
      accepts 0x0201 r s = true
        ∧ ranges (chartRows s.fuse r.params) = none
        ∧ s.hasSlice r.slice = true
        ∧ ((∀ p ∈ impliedPorts s (chartOf r.params), mayName s r.slice p = true))
        ∧ (chartOf r.params).wholeFault = some k)
    ∧ (∃ (r : Req) (f : Nat × Nat) (s : State),
      accepts 0x0201 r s = true
        ∧ ranges (chartRows s.fuse r.params) = none
        ∧ s.hasSlice r.slice = true
        ∧ ((∀ p ∈ impliedPorts s (chartOf r.params), mayName s r.slice p = true))
        ∧ (chartOf r.params).wholeFault = none
        ∧ leastFault (circuitFaults s ((chartOf r.params).plotted s r.slice) []) = some f) :=
  ⟨⟨rb 1 40 [(0, 1, 4), (12, 2, 1), (32, 2, 8), (34, 2, 16), (36, 1, 1)], 1, { upp (pl1 1 []) with topo.plot := [] }, by decide, by decide, by decide, by decide, by decide, by decide, by decide, by decide, by decide, by decide, by decide, (by omega)⟩,
   ⟨rb 1 40 [(0, 1, 3), (1, 1, 1), (4, 2, 1), (10, 1, 1), (32, 1, 1)], 2, { upp (pl1 1 []) with topo.plot := [], topo.owner := [(8, 1), (9, 1)] }, by decide, by decide, by decide, by decide, by decide⟩,
   ⟨rb 1 40 [(0, 1, 4), (12, 2, 1), (32, 2, 8), (34, 2, 16), (36, 1, 1)], (0, 6), wm ({ upp (pl1 1 []) with topo.plot := [] }) [(8, { Mirror.rest false with st := .failed })], by decide, by decide, by decide, by decide, by decide, by decide⟩⟩

theorem wit_ChartQueryWritesEntries :
    (∃ (r : Req) (p : Plot) (s : State),
      accepts 0x0202 r s = true
        ∧ 1 ≤ r.p 16 2
        ∧ r.p 18 2 ≤ 1023
        ∧ 16 ≤ r.p 20 4
        ∧ r.p 20 4 ≤ 16384
        ∧ r.p 24 8 % 16 = 0
        ∧ r.z 32 = true
        ∧ s.hasSlice r.slice = true
        ∧ s.topo.plot.find (r.p 16 2) = some p
        ∧ p.slice = r.slice)
    ∧ (∃ (r : Req) (s : State),
      accepts 0x0202 r s = true
        ∧ 1 ≤ r.p 16 2
        ∧ r.p 18 2 ≤ 1023
        ∧ 16 ≤ r.p 20 4
        ∧ r.p 20 4 ≤ 16384
        ∧ r.p 24 8 % 16 = 0
        ∧ r.z 32 = true
        ∧ s.hasSlice r.slice = true
        ∧ s.topo.plot.find (r.p 16 2) = none) :=
  ⟨⟨rp 1 [(16, 2, 1), (20, 4, 64), (24, 8, 4096)], pl1 3 [ci 8 16, ci 16 8], upp (pl1 3 [ci 8 16, ci 16 8]), by decide, by decide, by decide, by decide, by decide, by decide, by decide, by decide, by decide, by decide⟩,
   ⟨rp 1 [(16, 2, 1), (20, 4, 64), (24, 8, 4096)], up1, by decide, by decide, by decide, by decide, by decide, by decide, by decide, by decide, by decide⟩⟩

theorem wit_ChartCommitStarts :
    (∃ (r : Req) (p : Plot) (s : State),
      accepts 0x0203 r s = true
        ∧ 1 ≤ r.p 16 2
        ∧ r.z 32 = true
        ∧ s.hasSlice r.slice = true
        ∧ s.topo.plot.find (r.p 16 2) = some p
        ∧ p.slice = r.slice
        ∧ p.st = 1
        ∧ s.busyPlot r.slice = none
        ∧ ((s.activePlot r.slice = none ∨ s.runningPassage r.slice = none)))
    ∧ (∃ (r : Req) (b : Nat × Plot) (p : Plot) (s : State),
      accepts 0x0203 r s = true
        ∧ 1 ≤ r.p 16 2
        ∧ r.z 32 = true
        ∧ s.hasSlice r.slice = true
        ∧ s.topo.plot.find (r.p 16 2) = some p
        ∧ p.slice = r.slice
        ∧ s.busyPlot r.slice = some b)
    ∧ (∃ (r : Req) (o : Nat × Plot) (e : Nat × Passage) (p : Plot) (s : State),
      accepts 0x0203 r s = true
        ∧ 1 ≤ r.p 16 2
        ∧ r.z 32 = true
        ∧ s.hasSlice r.slice = true
        ∧ s.topo.plot.find (r.p 16 2) = some p
        ∧ p.slice = r.slice
        ∧ p.st = 1
        ∧ s.busyPlot r.slice = none
        ∧ s.activePlot r.slice = some o
        ∧ s.runningPassage r.slice = some e) :=
  ⟨⟨rp 1 [(16, 2, 1)], pl1 1 [ci 8 16], upp (pl1 1 [ci 8 16]), by decide, by decide, by decide, by decide, by decide, by decide, by decide, by decide, by decide⟩,
   ⟨rp 1 [(16, 2, 1)], (2, pl1 2 []), pl1 1 [ci 8 16], { upp (pl1 1 []) with topo.plot := [(1, pl1 1 [ci 8 16]), (2, pl1 2 [])] }, by decide, by decide, by decide, by decide, by decide, by decide, by decide⟩,
   ⟨rp 1 [(16, 2, 1)], (2, pl1 3 []), (5, ps .running), pl1 1 [ci 8 16], wp { upp (pl1 1 []) with topo.plot := [(1, pl1 1 [ci 8 16]), (2, pl1 3 [])] } (ps .running), by decide, by decide, by decide, by decide, by decide, by decide, by decide, by decide, by decide, by decide⟩⟩

theorem wit_ChartCommitEnds :
    (∃ (slice : Fin 64) (id : Nat) (p : Plot) (e : Exec) (s : State),
      NothingReleasing s
        ∧ s.topo.plot.find? (fun x => x.2.slice == slice.val && x.2.st == 2) = some (id, p)
        ∧ s.topo.plot.find id = some p
        ∧ ((∀ c ∈ p.circuits, c.superseded = true ∨ s.countsFailed c = true ∨ s.countsSettled c = true))
        ∧ ((∀ o, s.activePlot slice = some o → o.1 ≠ id))
        ∧ s.hif.execs.filter (fun x => x.wait == .commit slice id) = [e]
        ∧ e.discard = false
        ∧ e.dma = .ok
        ∧ (s.ring e.fn e.ring).st ≠ .disabled
        ∧ ((∀ x, s.topo.slice.find slice = some x → x.lostWait = [])))
    ∧ (∃ (slice : Fin 64) (s : State),
      NothingReleasing s
        ∧ ((∀ x ∈ s.topo.plot, x.2.slice = slice.val → x.2.st ≠ 2)))
    ∧ (∃ (slice : Fin 64) (id : Nat) (p : Plot) (c : Circuit) (s : State),
      NothingReleasing s
        ∧ s.topo.plot.find? (fun x => x.2.slice == slice.val && x.2.st == 2) = some (id, p)
        ∧ c ∈ p.circuits
        ∧ c.superseded = false
        ∧ s.countsFailed c = false
        ∧ s.countsSettled c = false) :=
  ⟨⟨1, 1, pl1 2 [ci 8 16], ex (.commit 1 1), { wm (upp (pl1 2 [ci 8 16])) (ms .settled) with hif.execs := [ex (.commit 1 1)] }, (nr (by decide) (by decide)), by decide, by decide, by decide, (fun o h => by cases (show (none : Option (Nat × Plot)) = some o from h)), by decide, by decide, by decide, by decide, (fun x h => by obtain rfl : sl = x := Option.some.inj h; decide)⟩,
   ⟨1, upp (pl1 3 [ci 8 16]), (nr (by decide) (by decide)), by decide⟩,
   ⟨1, 1, pl1 2 [ci 8 16], ci 8 16, wm (upp (pl1 2 [ci 8 16])) (ms .moving), (nr (by decide) (by decide)), by decide, by decide, by decide, by decide, by decide⟩⟩

theorem wit_ChartReleaseParks :
    (∃ (r : Req) (p : Plot) (s : State),
      accepts 0x0204 r s = true
        ∧ 1 ≤ r.p 16 2
        ∧ r.z 32 = true
        ∧ s.hasSlice r.slice = true
        ∧ s.topo.plot.find (r.p 16 2) = some p
        ∧ p.slice = r.slice
        ∧ s.busyPlot r.slice = none
        ∧ p.st = 1)
    ∧ (∃ (r : Req) (p : Plot) (x : Nat × Aim) (s : State),
      accepts 0x0204 r s = true
        ∧ 1 ≤ r.p 16 2
        ∧ r.z 32 = true
        ∧ s.hasSlice r.slice = true
        ∧ s.topo.plot.find (r.p 16 2) = some p
        ∧ p.slice = r.slice
        ∧ ((∀ e ∈ s.topo.plot, e.2.releasing = false ∧ (e.1 = r.p 16 2 → e.2 = p)))
        ∧ s.busyPlot r.slice = none
        ∧ p.st = 3
        ∧ s.runningPassage r.slice = none
        ∧ x ∈ targets p.circuits
        ∧ (s.mirror x.1).st = .settled)
    ∧ (∃ (r : Req) (p : Plot) (e : Nat × Passage) (s : State),
      accepts 0x0204 r s = true
        ∧ 1 ≤ r.p 16 2
        ∧ r.z 32 = true
        ∧ s.hasSlice r.slice = true
        ∧ s.topo.plot.find (r.p 16 2) = some p
        ∧ p.slice = r.slice
        ∧ s.busyPlot r.slice = none
        ∧ p.st = 3
        ∧ s.runningPassage r.slice = some e) :=
  ⟨⟨rp 1 [(16, 2, 1)], pl1 1 [ci 8 16], upp (pl1 1 [ci 8 16]), by decide, by decide, by decide, by decide, by decide, by decide, by decide, by decide⟩,
   ⟨rp 1 [(16, 2, 1)], pl1 3 [ci 8 16], (8, .face 16), wm (upp (pl1 3 [ci 8 16])) (ms .settled), by decide, by decide, by decide, by decide, by decide, by decide, by decide, by decide, by decide, by decide, by decide, by decide⟩,
   ⟨rp 1 [(16, 2, 1)], pl1 3 [ci 8 16], (5, ps .stalled), wp (upp (pl1 3 [ci 8 16])) (ps .stalled), by decide, by decide, by decide, by decide, by decide, by decide, by decide, by decide, by decide⟩⟩

theorem wit_PositionLostSubstitutes :
    (∃ (slice : Fin 64) (a : Fin 80) (id : Nat) (spare : Nat) (pl : Plot) (x : Slice) (s : State),
      s.activePlot slice = some (id, pl)
        ∧ s.topo.plot.find id = some pl
        ∧ s.busyPlot slice = none
        ∧ s.plotLinks pl a ≠ []
        ∧ a.val ∉ pl.lost
        ∧ pl.spareAuto = true
        ∧ pl.spares.find? (fun p => s.posFound p (s.plotLinks pl a)) = some spare
        ∧ ((∀ k, (s.tfc k).st ≠ 4))
        ∧ s.topo.slice.find slice = some x)
    ∧ (∃ (slice : Fin 64) (a : Fin 80) (id : Nat) (pl : Plot) (s : State),
      s.activePlot slice = some (id, pl)
        ∧ s.topo.plot.find id = some pl
        ∧ s.busyPlot slice = none
        ∧ s.plotLinks pl a ≠ []
        ∧ a.val ∉ pl.lost
        ∧ ((pl.spareAuto = false ∨ pl.spares.find? (fun p => s.posFound p (s.plotLinks pl a)) = none)))
    ∧ (∃ (slice : Fin 64) (a : Fin 80) (x : Slice) (s : State),
      (s.activePlot slice).isSome = true
        ∧ (s.busyPlot slice).isSome = true
        ∧ s.topo.slice.find slice = some x)
    ∧ (∃ (slice : Fin 64) (a : Fin 80) (s : State),
      s.activePlot slice = none) :=
  ⟨⟨1, 1, 1, 2, pl5, sl, up5, by decide, by decide, by decide, by decide, by decide, by decide, by decide, (fun k => by simp [up5, upp, up1, up, State.tfc, Tbl.get, Tbl.find, State.reset, Plane.reset]), by decide⟩,
   ⟨1, 1, 1, pl1 3 [ci 8 16], upp (pl1 3 [ci 8 16]), by decide, by decide, by decide, by decide, by decide, by decide⟩,
   ⟨1, 1, sl, { upp (pl1 1 []) with topo.plot := [(1, pl1 3 [ci 8 16]), (2, pl1 2 [])] }, by decide, by decide, by decide⟩,
   ⟨1, 1, up1, by decide⟩⟩

theorem wit_BatchSlotStartsMirrors :
    (∃ (tf : Fin 16) (s : State),
      (s.tfc tf).st = 2)
    ∧ (∃ (tf : Fin 16) (s : State),
      (s.tfc tf).st ≠ 2) :=
  ⟨⟨0, wt (wm up [(8, { Mirror.rest false with accepted := some (.face 16) }), (9, { Mirror.rest false with st := .settled, pending := some .park, x := 3 })]) 0 { tfr with lastBatch := some 5 }, by decide⟩,
   ⟨0, up, by decide⟩⟩

theorem wit_CircuitMoves :
    (∃ (out : Fin 1024) (ident : Fin 1024) (p : Nat) (s : State),
      NothingReleasing s
        ∧ p < 1024
        ∧ (s.mirror (1024 + out)).goal = .face p
        ∧ (s.mirror p).goal = .face out
        ∧ (s.mirror p).st = .moving
        ∧ (s.mirror (1024 + out)).st = .moving
        ∧ s.holdCauses ⟨portAt p, portAt out, 0, 0, false, false, false, false, false, 0xFFFF⟩ = []
        ∧ ident.val = p)
    ∧ (∃ (out : Fin 1024) (ident : Fin 1024) (p : Nat) (s : State),
      NothingReleasing s
        ∧ p < 1024
        ∧ (s.mirror (1024 + out)).goal = .face p
        ∧ (s.mirror p).goal = .face out
        ∧ (s.mirror p).st = .moving
        ∧ (s.mirror (1024 + out)).st = .moving
        ∧ s.holdCauses ⟨portAt p, portAt out, 0, 0, false, false, false, false, false, 0xFFFF⟩ = []
        ∧ ident.val ≠ p)
    ∧ (∃ (out : Fin 1024) (p : Nat) (loss : Nat) (s : State),
      p < 1024
        ∧ (s.mirror (1024 + out)).goal = .face p
        ∧ (s.mirror p).goal = .face out
        ∧ (((s.mirror p).st = .acquiring ∨ (s.mirror p).st = .settled))
        ∧ (((s.mirror (1024 + out)).st = .acquiring ∨ (s.mirror (1024 + out)).st = .settled)))
    ∧ (∃ (m : Fin 2048) (s : State),
      NothingReleasing s
        ∧ (s.mirror m).st = .moving
        ∧ (s.mirror m).goal = .park)
    ∧ (∃ (m : Fin 2048) (s : State),
      NothingReleasing s
        ∧ (((s.mirror m).st ≠ .moving ∨ (s.mirror m).goal ≠ .park))) :=
  ⟨⟨16, 8, 8, upc .moving, (nr (by decide) (by decide)), by decide, by decide, by decide, by decide, by decide, by decide, by decide⟩,
   ⟨16, 9, 8, upc .moving, (nr (by decide) (by decide)), by decide, by decide, by decide, by decide, by decide, by decide, by decide⟩,
   ⟨16, 8, 100, upc .acquiring, by decide, by decide, by decide, by decide, by decide⟩,
   ⟨8, wm up [(8, { Mirror.rest false with st := .moving, partner := 3, pending := some (.face 5) })], (nr (by decide) (by decide)), by decide, by decide⟩,
   ⟨8, upc .moving, (nr (by decide) (by decide)), by decide⟩⟩

theorem wit_LoopsAndIdentity :
    (∃ (out : Fin 1024) (dx0 : Int) (dy0 : Int) (dx1 : Int) (dy1 : Int) (c : Circuit) (s : State),
      s.circuitTo out = some c
        ∧ mir0 c < 1024
        ∧ ((∀ m, m = mir0 c ∨ m = mir1 c → ((s.mirror m).st = .settled ∨ (s.mirror m).st = .acquiring) ∧ (s.tfc (tfOf m)).st = 2)))
    ∧ (∃ (out : Fin 1024) (dx0 : Int) (dy0 : Int) (dx1 : Int) (dy1 : Int) (s : State),
      s.circuitTo out = none)
    ∧ (∃ (out : Fin 1024) (ident : Fin 1024) (c : Circuit) (s : State),
      NothingReleasing s
        ∧ s.circuitTo out = some c
        ∧ s.circuitState c = 2
        ∧ ident.val = posOf c.src)
    ∧ (∃ (out : Fin 1024) (ident : Fin 1024) (c : Circuit) (s : State),
      NothingReleasing s
        ∧ s.circuitTo out = some c
        ∧ s.circuitState c = 2
        ∧ ident.val ≠ posOf c.src
        ∧ s.plane.identBad.has out = false)
    ∧ (∃ (out : Fin 1024) (ident : Fin 1024) (c : Circuit) (s : State),
      NothingReleasing s
        ∧ s.circuitTo out = some c
        ∧ mir0 c < 1024
        ∧ s.circuitState c = 2
        ∧ ident.val ≠ posOf c.src
        ∧ s.plane.identBad.has out = true) :=
  ⟨⟨16, 1, 2, -1, 3, ci 8 16, wt (wt (upc .settled) 0 tfr) 8 tfr, by decide, by decide, ((fun m h => by rcases h with rfl | rfl <;> decide))⟩,
   ⟨17, 1, 2, 3, 4, upc .settled, by decide⟩,
   ⟨16, 8, ci 8 16, { upc .settled with plane.identBad := [(16, 1)] }, (nr (by decide) (by decide)), by decide, by decide, by decide⟩,
   ⟨16, 9, ci 8 16, upc .settled, (nr (by decide) (by decide)), by decide, by decide, by decide, by decide⟩,
   ⟨16, 9, ci 8 16, { upc .settled with plane.identBad := [(16, 1)] }, (nr (by decide) (by decide)), by decide, by decide, by decide, by decide, by decide⟩⟩

theorem wit_HoldingCircuits :
    (∃ (t : Fin 768) (power : Int) (s : State),
      -3000 < power
        ∧ s.inCircuit t = true)
    ∧ (∃ (t : Fin 768) (power : Int) (s : State),
      ((power ≤ -3000 ∨ s.inCircuit t = false)))
    ∧ (∃ (t : Fin 768) (s : State),
      t.val ∈ s.plane.band)
    ∧ (∃ (t : Fin 768) (s : State),
      t.val ∉ s.plane.band)
    ∧ (∃ (out : Fin 1024) (c : Circuit) (s : State),
      s.circuitTo out = some c
        ∧ s.circuitState c = 3) :=
  ⟨⟨8, -2000, upc .settled, by decide, by decide⟩,
   ⟨8, -3000, upc .settled, by decide⟩,
   ⟨8, { wm (upp (pl1 3 [ci 8 16])) [(8, { mi .held 16 with holds := 1 }), (1040, { mi .held 8 with holds := 1 })] with plane.band := [8] }, by decide⟩,
   ⟨8, up, by decide⟩,
   ⟨16, ci 8 16, upc .held, by decide, by decide⟩⟩

theorem wit_MirrorFaults :
    (∃ (m : Fin 2048) (s : State),
      NothingReleasing s
        ∧ (s.mirror m).st ≠ .failed
        ∧ (s.mirror m).st ≠ .dark)
    ∧ (∃ (m : Fin 2048) (x : Nat) (y : Nat) (s : State),
      NothingReleasing s
        ∧ (s.mirror m).st ≠ .failed
        ∧ (s.mirror m).st ≠ .dark
        ∧ (s.mirror m).x = x
        ∧ (s.mirror m).y = y)
    ∧ (∃ (m : Fin 2048) (x : Nat) (y : Nat) (s : State),
      NothingReleasing s
        ∧ (s.mirror m).st ≠ .failed
        ∧ (s.mirror m).st ≠ .dark
        ∧ (((s.mirror m).x ≠ x ∨ (s.mirror m).y ≠ y))
        ∧ (s.mirror m).rewritten = false)
    ∧ (∃ (m : Fin 2048) (x : Nat) (y : Nat) (s : State),
      NothingReleasing s
        ∧ (s.mirror m).st ≠ .failed
        ∧ (s.mirror m).st ≠ .dark
        ∧ (((s.mirror m).x ≠ x ∨ (s.mirror m).y ≠ y))
        ∧ (s.mirror m).rewritten = true) :=
  ⟨⟨8, upc .settled, (nr (by decide) (by decide)), by decide, by decide⟩,
   ⟨8, 0, 0, upc .settled, (nr (by decide) (by decide)), by decide, by decide, by decide, by decide⟩,
   ⟨8, 1, 0, upc .settled, (nr (by decide) (by decide)), by decide, by decide, by decide, by decide⟩,
   ⟨8, 1, 0, wm up [(8, { Mirror.rest false with rewritten := true })], (nr (by decide) (by decide)), by decide, by decide, by decide, by decide⟩⟩

theorem wit_HighVoltage :
    (∃ (b : Bool) (s : State),
      NothingReleasing s
        ∧ (if b then s.plane.hvA else s.plane.hvB) = true)
    ∧ (∃ (b : Bool) (s : State),
      NothingReleasing s
        ∧ s.plane.hvA = !b
        ∧ s.plane.hvB = b)
    ∧ (∃ (b : Bool) (s : State),
      s.hvLost = true
        ∧ ((s.circuits.filter (fun c => !c.failed)).flatMap (fun c => [mir0 c, mir1 c])).Nodup)
    ∧ (∃ (b : Bool) (s : State),
      s.hvLost = false) :=
  ⟨⟨false, { upc .settled with plane.hvA := true, plane.hvB := true }, (nr (by decide) (by decide)), by decide⟩,
   ⟨true, { upc .settled with plane.hvB := true }, (nr (by decide) (by decide)), by decide, by decide⟩,
   ⟨false, upc .parked, by decide, by decide⟩,
   ⟨true, { up with plane.hvA := true }, by decide⟩⟩

theorem wit_ControllersAndOpenPaths :
    (∃ (tf : Fin 16) (s : State),
      (((s.tfc tf).st = 1 ∨ (s.tfc tf).st = 3))
        ∧ s.clusterHalted 1 = false
        ∧ s.paused = false)
    ∧ (∃ (tf : Fin 16) (s : State),
      ((s.clusterHalted 1 = true ∨ s.paused = true)))
    ∧ (∃ (k : Fin 104) (s : State),
      NothingReleasing s
        ∧ k.val < 96
        ∧ s.plane.openPath.has k = false)
    ∧ (∃ (k : Fin 104) (s : State),
      NothingReleasing s
        ∧ 96 ≤ k.val
        ∧ s.plane.openPath.has k = false)
    ∧ (∃ (k : Fin 104) (t0 : Nat) (s : State),
      s.plane.openPath.find k = some t0
        ∧ k.val < 96)
    ∧ (∃ (k : Fin 104) (s : State),
      s.plane.openPath.find k = none) :=
  ⟨⟨0, wt up 0 { tfr with st := 1, holdAt := 5 }, by decide, by decide, by decide⟩,
   ⟨0, wt { up with mod := .failed } 0 { tfr with st := 1 }, by decide⟩,
   ⟨2, upc .settled, (nr (by decide) (by decide)), by decide, by decide⟩,
   ⟨97, { up with col.port := [(8, GPort.reset 8)], col.laser := [(8, { Laser.reset with gate := true })] }, (nr (by decide) (by decide)), by decide, by decide⟩,
   ⟨2, 7, { upc .parked with plane.openPath := [(2, 7)] }, by decide, by decide⟩,
   ⟨2, up, by decide⟩⟩

theorem wit_MirrorSetActs :
    (∃ (r : Req) (s : State),
      accepts 0x0B03 r s = true
        ∧ ranges (mirSetRows r) = none
        ∧ s.clusterHalted 1 = false
        ∧ ((∀ e ∈ mirEntries r, (s.mirror e.1).st ≠ .dark ∧ s.circuitOf e.1 = none ∧ (1024 ≤ e.1 → s.openAt (e.1 % 1024) = false) ∧ ((s.mirror e.1).st = .failed ↔ e.2.1 = 3))))
    ∧ (∃ (r : Req) (e : Nat × Nat × Nat × Nat) (s : State),
      accepts 0x0B03 r s = true
        ∧ ranges (mirSetRows r) = none
        ∧ s.clusterHalted 1 = false
        ∧ ((∀ e ∈ mirEntries r, (s.mirror e.1).st ≠ .dark))
        ∧ e ∈ mirEntries r
        ∧ (s.circuitOf e.1).isSome = true) :=
  ⟨⟨rb 0 32 [(0, 2, 2), (16, 2, 8), (18, 1, 1), (24, 2, 9), (26, 1, 2)], { wm mnt [(8, Mirror.rest false)] with plane.hvA := true }, by decide, by decide, by decide, by decide⟩,
   ⟨rb 0 24 [(0, 2, 1), (16, 2, 8), (18, 1, 1)], (8, 1, 0, 0), { upc .settled with mod := .maintenance }, by decide, by decide, by decide, by decide, by decide, by decide⟩⟩

theorem wit_PassageLoading :
    (∃ (r : Req) (s : State),
      accepts 0x0301 r s = true
        ∧ ranges (passageRows s r.slice r.params) = none
        ∧ s.hasSlice r.slice = true
        ∧ s.psg.find (psgKey r.slice (r.b 0 1)) = none
        ∧ ownChk s r.slice r.params = none
        ∧ prereqChk s r.slice r.params = none
        ∧ countChk s r.slice (planOf s r.slice r.params).legs.length = none
        ∧ fitChk s r.slice r.params = none)
    ∧ (∃ (r : Req) (p : Passage) (s : State),
      accepts 0x0301 r s = true
        ∧ ranges (passageRows s r.slice r.params) = none
        ∧ s.hasSlice r.slice = true
        ∧ s.psg.find (psgKey r.slice (r.b 0 1)) = some p)
    ∧ (∃ (r : Req) (p : Passage) (s : State),
      accepts 0x0307 r s = true
        ∧ Names r s p
        ∧ r.p 18 2 = 0
        ∧ r.p 24 6 = 0
        ∧ r.p 30 4 = 0
        ∧ ((p.st = .loaded ∨ p.st = .done ∨ p.st = .aborted))
        ∧ NoHeld s)
    ∧ (∃ (r : Req) (p : Passage) (s : State),
      accepts 0x0307 r s = true
        ∧ Names r s p
        ∧ r.p 18 2 = 0
        ∧ r.p 24 6 = 0
        ∧ r.p 30 4 = 0
        ∧ p.st.live = true)
    ∧ (∃ (r : Req) (p : Passage) (s : State),
      accepts 0x0308 r s = true
        ∧ Names r s p
        ∧ r.p 18 2 = 0
        ∧ r.p 24 6 = 0
        ∧ r.p 30 4 = 0
        ∧ p.leg < 4096) :=
  ⟨⟨rb 1 194 [(0, 1, 5), (3, 1, 1), (6, 2, 1), (8, 8, 64), (16, 8, 3), (24, 2, 1), (26, 2, 1), (30, 2, 1), (32, 4, 1), (40, 8, 1), (70, 2, 1), (72, 2, 0xFFFF), (128, 1, 2), (129, 1, 0xFF), (132, 2, 1), (152, 8, 64), (160, 1, 1), (161, 1, 1), (176, 8, 64), (192, 2, 0x2000)], upp (pl1 1 []), by decide, by decide, by decide, by decide, by decide, by decide, by decide, by decide⟩,
   ⟨rb 1 194 [(0, 1, 5), (3, 1, 1), (6, 2, 1), (8, 8, 64), (16, 8, 3), (24, 2, 1), (26, 2, 1), (30, 2, 1), (32, 4, 1), (40, 8, 1), (70, 2, 1), (72, 2, 0xFFFF), (128, 1, 2), (129, 1, 0xFF), (132, 2, 1), (152, 8, 64), (160, 1, 1), (161, 1, 1), (176, 8, 64), (192, 2, 0x2000)], ps .done, sp (ps .done), by decide, by decide, by decide, by decide⟩,
   ⟨rp 1 [(16, 1, 5)], ps .done, { sp (ps .done) with skk.resid := [(65537, ⟨0, false, [], []⟩)] }, by decide, (by unfold Names; decide), by decide, by decide, by decide, by decide, (by unfold NoHeld; decide)⟩,
   ⟨rp 1 [(16, 1, 5)], ps .armed, sp (ps .armed), by decide, (by unfold Names; decide), by decide, by decide, by decide, by decide⟩,
   ⟨rp 1 [(16, 1, 5)], { ps .running with w0 := 123456789012345678, iter := 77 }, sp { ps .running with w0 := 123456789012345678, iter := 77 }, by decide, (by unfold Names; decide), by decide, by decide, by decide, by decide⟩⟩

theorem wit_PassageArmDoorbellPark :
    (∃ (r : Req) (p : Passage) (s : State),
      accepts 0x0302 r s = true
        ∧ Names r s p
        ∧ r.p 18 2 = 0
        ∧ r.p 30 4 < 1000000000
        ∧ ((p.st = .loaded ∨ p.st = .done ∨ p.st = .aborted))
        ∧ s.failedPort p = none
        ∧ ((p.lights = false ∨ ∀ e ∈ s.passagesOf r.slice, e.1 ≠ r.p 16 1 → e.2.st.live = true → e.2.lights = false)))
    ∧ (∃ (r : Req) (p : Passage) (s : State),
      accepts 0x0303 r s = true
        ∧ Names r s p
        ∧ 1 ≤ r.p 18 2
        ∧ r.p 24 6 = 0
        ∧ r.p 30 4 = 0
        ∧ p.st.live = true
        ∧ p.bells + r.p 18 2 ≤ 65535)
    ∧ (∃ (r : Req) (p : Passage) (s : State),
      accepts 0x0303 r s = true
        ∧ Names r s p
        ∧ 1 ≤ r.p 18 2
        ∧ r.p 24 6 = 0
        ∧ r.p 30 4 = 0
        ∧ p.st.live = true
        ∧ 65535 < p.bells + r.p 18 2)
    ∧ (∃ (r : Req) (p : Passage) (s : State),
      accepts 0x0304 r s = true
        ∧ Names r s p
        ∧ r.p 18 2 = 0
        ∧ r.p 24 6 = 0
        ∧ r.p 30 4 = 0
        ∧ p.st.live = true)
    ∧ (∃ (r : Req) (p : Passage) (s : State),
      Names r s p
        ∧ r.p 24 6 = 0
        ∧ r.p 30 4 = 0) :=
  ⟨⟨rp 1 [(16, 1, 5), (24, 6, 9), (30, 4, 8)], pcol .done, sp (pcol .done), by decide, (by unfold Names; decide), by decide, by decide, by decide, by decide, by decide⟩,
   ⟨rp 1 [(16, 1, 5), (18, 2, 3)], ps .parked, sp (ps .parked), by decide, (by unfold Names; decide), by decide, by decide, by decide, by decide, by decide⟩,
   ⟨rp 1 [(16, 1, 5), (18, 2, 3)], { ps .running with bells := 65533 }, sp { ps .running with bells := 65533 }, by decide, (by unfold Names; decide), by decide, by decide, by decide, by decide, by decide⟩,
   ⟨rp 1 [(16, 1, 5)], ps .running, sp (ps .running), by decide, (by unfold Names; decide), by decide, by decide, by decide, by decide⟩,
   ⟨rp 1 [(16, 1, 5)], ps .running, sp (ps .running), (by unfold Names; decide), by decide, by decide⟩⟩

theorem wit_PassageResumeAbort :
    (∃ (r : Req) (p : Passage) (s : State),
      accepts 0x0305 r s = true
        ∧ Names r s p
        ∧ r.p 18 2 = 0
        ∧ r.p 24 6 = 0
        ∧ r.p 30 4 = 0
        ∧ p.st = .parked)
    ∧ (∃ (r : Req) (p : Passage) (s : State),
      accepts 0x0305 r s = true
        ∧ Names r s p
        ∧ r.p 18 2 = 0
        ∧ r.p 24 6 = 0
        ∧ r.p 30 4 = 0
        ∧ p.st ≠ .parked)
    ∧ (∃ (r : Req) (p : Passage) (s : State),
      accepts 0x0306 r s = true
        ∧ Names r s p
        ∧ r.p 18 2 = 0
        ∧ r.p 24 6 = 0
        ∧ r.p 30 4 = 0
        ∧ p.st.live = true
        ∧ NoHeld s
        ∧ s.passRuns r.slice p = false)
    ∧ (∃ (r : Req) (p : Passage) (s : State),
      accepts 0x0306 r s = true
        ∧ Names r s p
        ∧ r.p 18 2 = 0
        ∧ r.p 24 6 = 0
        ∧ r.p 30 4 = 0
        ∧ p.st.live = false) :=
  ⟨⟨rp 1 [(16, 1, 5)], { ps .parked with parkPend := true }, sp { ps .parked with parkPend := true }, by decide, (by unfold Names; decide), by decide, by decide, by decide, by decide⟩,
   ⟨rp 1 [(16, 1, 5)], ps .running, sp (ps .running), by decide, (by unfold Names; decide), by decide, by decide, by decide, by decide⟩,
   ⟨rp 1 [(16, 1, 5)], pcol .running, sp (pcol .running), by decide, (by unfold Names; decide), by decide, by decide, by decide, by decide, (by unfold NoHeld; decide), by decide⟩,
   ⟨rp 1 [(16, 1, 5)], ps .loaded, sp (ps .loaded), by decide, (by unfold Names; decide), by decide, by decide, by decide, by decide⟩⟩

theorem wit_SliceResetFrees :
    (∃ (r : Req) (s : State),
      accepts 0x0104 r s = true
        ∧ r.z 16 = true
        ∧ s.hasSlice r.slice = true
        ∧ s.passagesOf r.slice = []
        ∧ ((∀ e ∈ s.topo.plot, e.2.slice = r.slice → e.2.st = 1 ∧ e.2.releasing = false))
        ∧ ((∀ q ∈ s.fm.reqs, ∀ e ∈ s.fm.queue, e.1 = q.qp → e.2.slice ≠ r.slice)))
    ∧ (∃ (r : Req) (id : Nat) (p : Plot) (x : Nat × Aim) (s : State),
      accepts 0x0104 r s = true
        ∧ r.z 16 = true
        ∧ s.hasSlice r.slice = true
        ∧ s.passagesOf r.slice = []
        ∧ s.topo.plot = [(id, p)]
        ∧ p.slice = r.slice
        ∧ p.st = 3
        ∧ p.releasing = false
        ∧ x ∈ targets p.circuits
        ∧ (s.mirror x.1).st = .settled)
    ∧ (∃ (r : Req) (s : State),
      accepts 0x0104 r s = true
        ∧ r.z 16 = true
        ∧ s.hasSlice r.slice = false) :=
  ⟨⟨rp 1 [], { upp (pl1 1 [ci 8 16]) with fm.queue := [(3, { Queue.free with st := 1, slice := 1 })], skk.resid := [(65537, ⟨0, false, [], []⟩), (131072, ⟨0, false, [], []⟩)] }, by decide, by decide, by decide, by decide, by decide, by decide⟩,
   ⟨rp 1 [], 1, pl1 3 [ci 8 16], (8, .face 16), upc .settled, by decide, by decide, by decide, by decide, by decide, by decide, by decide, by decide, by decide, by decide⟩,
   ⟨rp 1 [], up, by decide, by decide, by decide⟩⟩

theorem wit_LegsAndGates :
    (∃ (slice : Fin 64) (pid : Fin 256) (p : Passage) (s : State),
      s.psg.find (psgKey slice pid) = some p
        ∧ s.paused = false
        ∧ p.st = .running
        ∧ p.legDone = false
        ∧ p.legComplete = true
        ∧ s.opProg slice p = none
        ∧ (¬((p.form = 2 ∨ p.form = 3) ∧ p.leg = 0 ∧ (racks p.rackMask).length = 1)))
    ∧ (∃ (slice : Fin 64) (pid : Fin 256) (p : Passage) (s : State),
      s.psg.find (psgKey slice pid) = some p
        ∧ ((s.paused = true ∨ p.legDone = true ∨ p.legComplete = false ∨ (p.st ≠ .running ∧ p.st ≠ .stalled))))
    ∧ (∃ (slice : Fin 64) (pid : Fin 256) (p : Passage) (s : State),
      s.psg.find (psgKey slice pid) = some p
        ∧ ((p.st = .running ∨ p.st = .stalled ∨ p.st = .parked))
        ∧ (p.legAt p.leg).trigger = 1
        ∧ p.timeOpen = false)
    ∧ (∃ (slice : Fin 64) (pid : Fin 256) (p : Passage) (s : State),
      s.psg.find (psgKey slice pid) = some p
        ∧ (p.legAt p.leg).trigger ≠ 1)
    ∧ (∃ (slice : Fin 64) (pid : Fin 256) (p : Passage) (s : State),
      s.psg.find (psgKey slice pid) = some p
        ∧ p.st = .running
        ∧ s.heldByR62 p = true)
    ∧ (∃ (slice : Fin 64) (pid : Fin 256) (p : Passage) (s : State),
      s.psg.find (psgKey slice pid) = some p
        ∧ ((p.st ≠ .running ∨ s.heldByR62 p = false))) :=
  ⟨⟨1, 5, { pst2 3 with legDone := false, parkPend := true }, sp ({ pst2 3 with legDone := false, parkPend := true }), by decide, by decide, by decide, by decide, by decide, by decide, by decide⟩,
   ⟨1, 5, pst2 0, sp (pst2 0), by decide, by decide⟩,
   ⟨1, 5, pst2 1, sp (pst2 1), by decide, by decide, by decide, by decide⟩,
   ⟨1, 5, pst2 0, sp (pst2 0), by decide, by decide⟩,
   ⟨1, 5, { pst2 0 with legDone := false }, sp ({ pst2 0 with legDone := false }), by decide, by decide, by decide⟩,
   ⟨1, 5, pst2 0, sp (pst2 0), by decide, by decide⟩⟩

theorem wit_WaypointsEnterLegs :
    (∃ (slice : Fin 64) (pid : Fin 256) (p : Passage) (l : Nat) (i : Nat) (s : State),
      s.psg.find (psgKey slice pid) = some p
        ∧ s.paused = false
        ∧ ((p.st = .running ∨ p.st = .stalled ∨ (p.st = .armed ∧ s.boot.actWait = none)))
        ∧ s.gateOpen p = true
        ∧ p.target = some (l, i)
        ∧ p.lights = false
        ∧ (p.legAt l).optimizer = false
        ∧ l < p.legs.length
        ∧ p.form = 0
        ∧ NoHeld s
        ∧ p.heldG = []
        ∧ s.sxt.takes = []
        ∧ opBase p.operator ≠ 4)
    ∧ (∃ (slice : Fin 64) (pid : Fin 256) (p : Passage) (s : State),
      s.psg.find (psgKey slice pid) = some p
        ∧ s.paused = false
        ∧ ((p.st = .running ∨ p.st = .stalled))
        ∧ s.gateOpen p = true
        ∧ p.target = none
        ∧ p.form = 0
        ∧ NoHeld s
        ∧ s.sxt.takes = []
        ∧ opBase p.operator ≠ 4)
    ∧ (∃ (slice : Fin 64) (pid : Fin 256) (p : Passage) (s : State),
      s.psg.find (psgKey slice pid) = some p
        ∧ ((s.paused = true ∨ s.gateOpen p = false)))
    ∧ (∃ (slice : Fin 64) (pid : Fin 256) (p : Passage) (s : State),
      s.psg.find (psgKey slice pid) = some p
        ∧ s.paused = false
        ∧ p.st = .armed
        ∧ p.legDone = false
        ∧ p.colourAhead = false
        ∧ s.boot.actWait = none
        ∧ 0 < p.legs.length
        ∧ p.lights = false
        ∧ (p.legAt 0).optimizer = false
        ∧ p.form = 0
        ∧ NoHeld s
        ∧ p.heldG = []
        ∧ s.sxt.takes = [])
    ∧ (∃ (slice : Fin 64) (pid : Fin 256) (p : Passage) (s : State),
      s.psg.find (psgKey slice pid) = some p
        ∧ s.paused = false
        ∧ p.st = .armed
        ∧ p.legDone = false
        ∧ p.colourAhead = true)
    ∧ (∃ (slice : Fin 64) (pid : Fin 256) (p : Passage) (s : State),
      s.psg.find (psgKey slice pid) = some p
        ∧ ((s.paused = true ∨ p.st ≠ .armed ∨ p.legDone = true))) :=
  ⟨⟨1, 5, pst2 2, 1, 0, sp (pst2 2), by decide, by decide, by decide, by decide, by decide, by decide, by decide, by decide, by decide, (by unfold NoHeld; decide), by decide, by decide, by decide⟩,
   ⟨1, 5, { ps .running with legDone := true }, sp ({ ps .running with legDone := true }), by decide, by decide, by decide, by decide, by decide, by decide, (by unfold NoHeld; decide), by decide, by decide⟩,
   ⟨1, 5, ps .running, sp (ps .running), by decide, by decide⟩,
   ⟨1, 5, { ps .armed with epoch := 50 }, sp ({ ps .armed with epoch := 50 }), by decide, by decide, by decide, by decide, by decide, by decide, by decide, by decide, by decide, by decide, (by unfold NoHeld; decide), by decide, by decide⟩,
   ⟨1, 5, { pcol .armed with epoch := 50 }, sp ({ pcol .armed with epoch := 50 }), by decide, by decide, by decide, by decide, by decide⟩,
   ⟨1, 5, ps .running, sp (ps .running), by decide, by decide⟩⟩

theorem wit_PassageSignals :
    (∃ (g : Fin 64) (frame : Bytes) (p : Passage) (s : State),
      s.standingFrameOk g frame = true
        ∧ ctlKind frame = 0x21
        ∧ s.psg.find (psgKey (ctlSlice frame) (ctlPid frame)) = some p
        ∧ ctlRack frame ∈ s.others p.rackMask
        ∧ be frame 20 4 = p.digest
        ∧ byteAt frame 16 = 1)
    ∧ (∃ (g : Fin 64) (frame : Bytes) (p : Passage) (s : State),
      s.standingFrameOk g frame = true
        ∧ ctlKind frame = 0x21
        ∧ s.psg.find (psgKey (ctlSlice frame) (ctlPid frame)) = some p
        ∧ ctlRack frame ∈ s.others p.rackMask
        ∧ be frame 20 4 = p.digest
        ∧ byteAt frame 16 = 0
        ∧ ((p.leg ≠ ctlLeg frame ∨ p.st = .armed))
        ∧ p.blanked = none)
    ∧ (∃ (g : Fin 64) (frame : Bytes) (p : Passage) (s : State),
      s.standingFrameOk g frame = true
        ∧ ctlKind frame = 0x21
        ∧ s.psg.find (psgKey (ctlSlice frame) (ctlPid frame)) = some p
        ∧ ctlRack frame ∈ s.others p.rackMask
        ∧ be frame 20 4 ≠ p.digest
        ∧ p.st.live = true
        ∧ NoHeld s
        ∧ s.passRuns (ctlSlice frame) p = false)
    ∧ (∃ (g : Fin 64) (frame : Bytes) (p : Passage) (s : State),
      s.standingFrameOk g frame = true
        ∧ ctlKind frame = 0x22
        ∧ s.psg.find (psgKey (ctlSlice frame) (ctlPid frame)) = some p
        ∧ ctlRack frame ∈ s.others p.rackMask
        ∧ p.st.live = true
        ∧ NoHeld s
        ∧ s.passRuns (ctlSlice frame) p = false)
    ∧ (∃ (g : Fin 64) (frame : Bytes) (s : State),
      s.standingFrameOk g frame = false) :=
  ⟨⟨1, cf 0x21 7 9 [(16, 1, 1), (20, 4, 0x1234)], ps .running, stb (sp (ps .running)), by decide, by decide, by decide, by decide, by decide, by decide⟩,
   ⟨1, cf 0x21 7 9 [(20, 4, 0x1234)], ps .running, stb (sp (ps .running)), by decide, by decide, by decide, by decide, by decide, by decide, by decide, by decide⟩,
   ⟨1, cf 0x21 7 9 [(20, 4, 0x1235)], ps .running, stb (sp (ps .running)), by decide, by decide, by decide, by decide, by decide, by decide, (by unfold NoHeld; decide), by decide⟩,
   ⟨1, cf 0x22 7 9 [(16, 1, 1)], ps .running, stb (sp (ps .running)), by decide, by decide, by decide, by decide, by decide, (by unfold NoHeld; decide), by decide⟩,
   ⟨1, cf 0x22 7 9 [(16, 1, 1)], sp (ps .running), by decide⟩⟩

theorem wit_PassageData :
    (∃ (p : Fin 256) (vc : Fin 8) (frame : Bytes) (c : Nat) (s : State),
      s.lpLive p = true
        ∧ s.paused = false
        ∧ s.mem.thermStop = false
        ∧ s.judgeData (refP p) (some vc) frame = .refuse c
        ∧ (s.lp p).ownLimit.length = 8)
    ∧ (∃ (p : Fin 256) (vc : Fin 8) (frame : Bytes) (s : State),
      s.lpLive p = true
        ∧ ((s.paused = true ∨ s.mem.thermStop = true ∨ s.judgeData (refP p) (some vc) frame = .hold)))
    ∧ (∃ (p : Fin 256) (vc : Fin 8) (frame : Bytes) (x : Passage) (s : State) (s1 : State),
      s.lpLive p = true
        ∧ s.paused = false
        ∧ s.mem.thermStop = false
        ∧ s.judgeData (refP p) (some vc) frame = .accept
        ∧ s.openFor (refP p) frame = some s1
        ∧ s.psg.find (psgKey (dhdr frame).slice (dhdr frame).pid) = some x
        ∧ (s.lp p).ownLimit.length = 8)
    ∧ (∃ (p : Fin 256) (vc : Fin 8) (frame : Bytes) (s : State),
      s.lpLive p = false)
    ∧ (∃ (g : Fin 64) (vc : Fin 8) (seq : Fin 65536) (frame : Bytes) (x : Passage) (s : State),
      (s.gp g).burst = none
        ∧ s.psg.find (psgKey (dhdr frame).slice (dhdr frame).pid) = some x)
    ∧ (∃ (g : Fin 64) (vc : Fin 8) (seq : Fin 65536) (frame : Bytes) (a : Nat) (b : Nat) (x : Passage) (s : State),
      (s.gp g).burst = some ((dhdr frame).slice, (dhdr frame).pid, a, b)
        ∧ s.judgeData (refG g) none frame = .hold
        ∧ s.psg.find (psgKey (dhdr frame).slice (dhdr frame).pid) = some x)
    ∧ (∃ (g : Fin 64) (vc : Fin 8) (seq : Fin 65536) (frame : Bytes) (a : Nat) (b : Nat) (x : Passage) (s : State) (s1 : State),
      (s.gp g).burst = some ((dhdr frame).slice, (dhdr frame).pid, a, b)
        ∧ s.judgeData (refG g) none frame = .accept
        ∧ s.mem.thermStop = false
        ∧ s.openFor (refG g) frame = some s1
        ∧ s.psg.find (psgKey (dhdr frame).slice (dhdr frame).pid) = some x)
    ∧ (∃ (slice : Fin 64) (s : State),
      NoHeld s) :=
  ⟨⟨0, 0, df 0 0 32, 2, sp { pst with leg := 1 }, by decide, by decide, by decide, by decide, by decide⟩,
   ⟨0, 0, df 0 0 32, sp { pst with st := .armed }, by decide, by decide⟩,
   ⟨0, 0, df 0 0 32, pst, sp pst, sp pst, by decide, by decide, by decide, by decide, by decide, by decide, by decide⟩,
   ⟨0, 0, df 0 0 32, { up with boot.power := false }, by decide⟩,
   ⟨1, 0, 7, df 0 0 32, pst, sp pst, by decide, by decide⟩,
   ⟨1, 0, 7, df 0 0 32, 0, 0, { pst with st := .armed }, wg (sp { pst with st := .armed }) 1 { GPort.reset 1 with burst := some (1, 5, 0, 0) }, by decide, by decide, by decide⟩,
   ⟨1, 0, 7, df 0 0 32, 0, 0, { pst with groups := [⟨2, 0xFF, 0, [0x3001], 0, 64⟩] }, wg (sp { pst with groups := [⟨2, 0xFF, 0, [0x3001], 0, 64⟩] }) 1 { GPort.reset 1 with burst := some (1, 5, 0, 0) }, wg (sp { pst with groups := [⟨2, 0xFF, 0, [0x3001], 0, 64⟩] }) 1 { GPort.reset 1 with burst := some (1, 5, 0, 0) }, by decide, by decide, by decide, by decide, by decide⟩,
   ⟨1, { up with skk.held := [(3, 1), (4, 2)] }, (by unfold NoHeld; decide)⟩⟩

theorem wit_OptimizerBindings :
    (∃ (r : Req) (s : State),
      accepts 0x0501 r s = true
        ∧ bit (r.b 3 1) 1 = false
        ∧ bit (r.b 3 1) 2 = false
        ∧ ranges (bindRows s r.slice r.params) = none
        ∧ s.hasSlice r.slice = true
        ∧ s.bindingOf r.slice (r.b 0 2) = none
        ∧ ((r.b 2 1 = 0x10 → ∃ q, s.progOf r.slice (r.b 7 1) = some q ∧ q.kind = 2))
        ∧ (s.skk.binding.filter (fun e => e.1 / 65536 == r.slice)).length < 16
        ∧ s.skk.binding.length < 256
        ∧ ((bindLoc s r.slice (bindOf r.params) = 1 → s.hbmPlaced r.slice + (bindOf r.params).stateBytes ≤ (s.quotas r.slice).1))
        ∧ ((bindLoc s r.slice (bindOf r.params) = 0 → s.sramPlaced r.slice + (bindOf r.params).stateBytes ≤ (s.quotas r.slice).2)))
    ∧ (∃ (r : Req) (o : Binding) (s : State),
      accepts 0x0501 r s = true
        ∧ bit (r.b 3 1) 1 = true
        ∧ bit (r.b 3 1) 2 = false
        ∧ ranges (bindRows s r.slice r.params) = none
        ∧ s.hasSlice r.slice = true
        ∧ s.bindingOf r.slice (r.b 0 2) = some o
        ∧ ranges (updateRows (bindOf r.params) o) = none
        ∧ ((r.b 2 1 = 0x10 → ∃ q, s.progOf r.slice (r.b 7 1) = some q ∧ q.kind = 2)))
    ∧ (∃ (r : Req) (o : Binding) (s : State),
      accepts 0x0501 r s = true
        ∧ ranges (bindQueryRows r.params) = none
        ∧ s.hasSlice r.slice = true
        ∧ s.bindingOf r.slice (r.b 0 2) = some o
        ∧ o.st < 16
        ∧ o.recipe < 256)
    ∧ (∃ (r : Req) (o : Binding) (s : State),
      accepts 0x0501 r s = true
        ∧ bit (r.b 3 1) 1 = false
        ∧ bit (r.b 3 1) 2 = false
        ∧ ranges (bindRows s r.slice r.params) = none
        ∧ s.hasSlice r.slice = true
        ∧ s.bindingOf r.slice (r.b 0 2) = some o)
    ∧ (∃ (r : Req) (o : Binding) (s : State),
      accepts 0x0502 r s = true
        ∧ 1 ≤ r.p 16 2
        ∧ r.z 18 = true
        ∧ s.hasSlice r.slice = true
        ∧ s.bindingOf r.slice (r.p 16 2) = some o
        ∧ o.st ≠ 2
        ∧ ((∀ e ∈ s.passagesOf r.slice, e.2.stepsTensor (r.p 16 2) = false)))
    ∧ (∃ (r : Req) (s : State),
      accepts 0x0502 r s = true
        ∧ 1 ≤ r.p 16 2
        ∧ r.z 18 = true
        ∧ s.hasSlice r.slice = true
        ∧ s.bindingOf r.slice (r.p 16 2) = none) :=
  ⟨⟨rb 1 64 [(0, 2, 1), (2, 1, 1), (4, 1, 1), (6, 1, 1), (16, 8, 64), (52, 4, 0x3F800000)], upp (pl1 1 []), by decide, by decide, by decide, by decide, by decide, by decide, ((fun h => absurd h (by decide))), by decide, by decide, ((fun _ => by decide)), ((fun h => absurd h (by decide)))⟩,
   ⟨rb 1 64 [(0, 2, 1), (2, 1, 1), (3, 1, 2), (4, 1, 1), (5, 1, 1), (6, 1, 1), (16, 8, 64), (24, 8, 0xFFFFFFFFFFFFFFFF), (32, 4, 0x3F000000), (52, 4, 0x3F800000)], { bd with counter := 9 }, sb { bd with counter := 9 }, by decide, by decide, by decide, by decide, by decide, by decide, by decide, ((fun h => absurd h (by decide)))⟩,
   ⟨rb 1 64 [(0, 2, 1), (3, 1, 4)], { bd with counter := 9, partial_ := true, skipped := 3 }, sb { bd with counter := 9, partial_ := true, skipped := 3 }, by decide, by decide, by decide, by decide, by decide, by decide⟩,
   ⟨rb 1 64 [(0, 2, 1), (2, 1, 1), (4, 1, 1), (6, 1, 1), (16, 8, 64), (52, 4, 0x3F800000)], bd, sb bd, by decide, by decide, by decide, by decide, by decide, by decide⟩,
   ⟨rp 1 [(16, 2, 1)], bd, sb bd, by decide, by decide, by decide, by decide, by decide, by decide, by decide⟩,
   ⟨rp 1 [(16, 2, 2)], sb bd, by decide, by decide, by decide, by decide, by decide⟩⟩

theorem wit_StateTransfers :
    (∃ (load : Bool) (r : Req) (o : Binding) (s : State),
      accepts (if load then 0x0503 else 0x0504) r s = true
        ∧ 1 ≤ r.b 0 2
        ∧ r.b 2 1 ≤ 5
        ∧ o.hasComp (r.b 2 1) = true
        ∧ zeroAt r.params 3 5 = true
        ∧ (o.compRange (r.b 2 1)).1 ≤ r.b 8 8
        ∧ r.b 8 8 < (o.compRange (r.b 2 1)).1 + (o.compRange (r.b 2 1)).2
        ∧ ((o.compFmt (r.b 2 1) = 0x10 → r.b 8 8 % 32 = 0))
        ∧ 1 ≤ r.b 16 8
        ∧ (if r.b 2 1 = 5 then r.b 16 8 = 1 else r.b 8 8 + r.b 16 8 ≤ (o.compRange (r.b 2 1)).1 + (o.compRange (r.b 2 1)).2)
        ∧ r.b 24 8 ≠ 0
        ∧ r.b 24 8 % 8 = 0
        ∧ s.hasSlice r.slice = true
        ∧ s.bindingOf r.slice (r.b 0 2) = some o
        ∧ o.st ≠ 2
        ∧ ((∀ e ∈ s.passagesOf r.slice, e.2.tensor = r.b 0 2 → e.2.st ≠ .running ∧ e.2.st ≠ .stalled)))
    ∧ (∃ (slice : Fin 64) (tensor : Nat) (done : Nat) (c : Nat) (first : Nat) (count : Nat) (addr : Nat) (data : Bytes) (e : Exec) (b : Binding) (s : State),
      s.hif.execs.find? (fun x => match x.wait with | .transfer n u _ _ _ _ _ _ => n == slice.val && u == tensor | _ => false) = some e
        ∧ e.wait = .transfer slice tensor false c first count addr data
        ∧ s.bindingOf slice tensor = some b
        ∧ b.compBytes c first count ≤ done
        ∧ s.passagesOf slice = []
        ∧ e.discard = false
        ∧ e.dma = .ok
        ∧ (s.ring e.fn e.ring).st ≠ .disabled)
    ∧ (∃ (slice : Fin 64) (tensor : Nat) (done : Nat) (c : Nat) (first : Nat) (count : Nat) (addr : Nat) (data : Bytes) (e : Exec) (b : Binding) (s : State),
      s.hif.execs.find? (fun x => match x.wait with | .transfer n u _ _ _ _ _ _ => n == slice.val && u == tensor | _ => false) = some e
        ∧ e.wait = .transfer slice tensor true c first count addr data
        ∧ s.bindingOf slice tensor = some b
        ∧ s.passagesOf slice = []
        ∧ e.discard = false
        ∧ e.dma = .ok
        ∧ (s.ring e.fn e.ring).st ≠ .disabled)
    ∧ (∃ (slice : Fin 64) (tensor : Nat) (done : Nat) (s : State),
      ((∀ x ∈ s.hif.execs, ∀ n l c f k a d, x.wait ≠ .transfer n tensor l c f k a d))) :=
  ⟨⟨true, rb 1 32 [(0, 2, 1), (2, 1, 1), (8, 8, 3), (16, 8, 5), (24, 8, 4096)], bd, sb bd, by decide, by decide, by decide, by decide, by decide, by decide, by decide, by decide, by decide, by decide, by decide, by decide, by decide, by decide, by decide, by decide⟩,
   ⟨1, 1, 32, 1, 3, 5, 4096, [], ex (.transfer 1 1 false 1 3 5 4096 []), { bd with st := 2, m := [(3, 77)] }, we (sb { bd with st := 2, m := [(3, 77)] }) (ex (.transfer 1 1 false 1 3 5 4096 [])), by decide, by decide, by decide, by decide, by decide, by decide, by decide, by decide⟩,
   ⟨1, 1, 32, 1, 3, 5, 4096, List.replicate 32 1, ex (.transfer 1 1 true 1 3 5 4096 (List.replicate 32 1)), { bd with st := 2 }, we (sb { bd with st := 2 }) (ex (.transfer 1 1 true 1 3 5 4096 (List.replicate 32 1))), by decide, by decide, by decide, by decide, by decide, by decide, by decide⟩,
   ⟨1, 1, 0, up, (fun x hx => by cases (show x ∈ ([] : List Exec) from hx))⟩⟩

theorem wit_OptimizerPassEnds :
    (∃ (slice : Fin 64) (pid : Fin 256) (p : Passage) (b : Binding) (s : State),
      s.psg.find (psgKey slice pid) = some p
        ∧ s.passRuns slice p = true
        ∧ s.paused = false
        ∧ s.mem.thermStop = false
        ∧ s.bindingOf slice p.tensor = some b)
    ∧ (∃ (slice : Fin 64) (pid : Fin 256) (p : Passage) (s : State),
      s.psg.find (psgKey slice pid) = some p
        ∧ ((s.passRuns slice p = false ∨ s.paused = true ∨ s.mem.thermStop = true))) :=
  ⟨⟨1, 5, po, bd, wp (sb bd) po, by decide, by decide, by decide, by decide, by decide⟩,
   ⟨1, 5, ps .running, wp (sb bd) (ps .running), by decide, by decide⟩⟩

theorem wit_ProgramsAndResiduals :
    (∃ (r : Req) (s : State),
      accepts 0x0505 r s = true
        ∧ ranges (progRows r.params) = none
        ∧ s.hasSlice r.slice = true
        ∧ progStreams r.params = none
        ∧ bit (r.b 2 1) 0 = false
        ∧ s.progOf r.slice (r.b 0 1 % 32) = none
        ∧ s.skk.prog.length < 1024)
    ∧ (∃ (r : Req) (q : Prog) (s : State),
      accepts 0x0505 r s = true
        ∧ ranges (progRows r.params) = none
        ∧ s.hasSlice r.slice = true
        ∧ progStreams r.params = none
        ∧ bit (r.b 2 1) 0 = true
        ∧ s.progOf r.slice (r.b 0 1 % 32) = some q
        ∧ q.kind ≤ 1)
    ∧ (∃ (r : Req) (s : State),
      accepts 0x0506 r s = true
        ∧ r.p 16 1 < 32
        ∧ r.z 17 = true
        ∧ s.hasSlice r.slice = true
        ∧ (s.progOf r.slice (r.p 16 1)).isSome = true
        ∧ s.slotUsed r.slice (r.p 16 1) = false)
    ∧ (∃ (r : Req) (s : State),
      accepts 0x0506 r s = true
        ∧ r.p 16 1 < 32
        ∧ r.z 17 = true
        ∧ s.hasSlice r.slice = true
        ∧ (s.progOf r.slice (r.p 16 1)).isSome = true
        ∧ s.slotUsed r.slice (r.p 16 1) = true)
    ∧ (∃ (r : Req) (a : Resid) (s : State),
      accepts 0x0507 r s = true
        ∧ 1 ≤ r.p 16 2
        ∧ r.z 18 = true
        ∧ s.hasSlice r.slice = true
        ∧ s.skk.resid.find (tensorKey r.slice (r.p 16 2)) = some a
        ∧ ((∀ e ∈ s.passagesOf r.slice, e.2.tensor = r.p 16 2 → e.2.st ≠ .running ∧ e.2.st ≠ .stalled)))
    ∧ (∃ (r : Req) (s : State),
      accepts 0x0507 r s = true
        ∧ 1 ≤ r.p 16 2
        ∧ r.z 18 = true
        ∧ s.hasSlice r.slice = true
        ∧ s.skk.resid.find (tensorKey r.slice (r.p 16 2)) = none) :=
  ⟨⟨rb 1 356 [(0, 1, 3), (4, 2, 1), (8, 8, 0xFFFFFFFFFFFFFFFF), (16, 2, 0xFFFF), (352, 4, 0x08000000)], upp (pl1 1 []), by decide, by decide, by decide, by decide, by decide, by decide, by decide⟩,
   ⟨rb 1 352 [(0, 1, 3), (2, 1, 1), (8, 8, 0xFFFFFFFFFFFFFFFF), (16, 2, 0xFFFF), (32, 4, 0x3F800000)], pg, { upp (pl1 1 []) with skk.prog := [(35, pg)] }, by decide, by decide, by decide, by decide, by decide, by decide, by decide⟩,
   ⟨rp 1 [(16, 1, 3)], { upp (pl1 1 []) with skk.prog := [(35, pg)] }, by decide, by decide, by decide, by decide, by decide, by decide⟩,
   ⟨rp 1 [(16, 1, 3)], { sp { ps .done with operator := 0x23 } with skk.prog := [(35, pg)] }, by decide, by decide, by decide, by decide, by decide, by decide⟩,
   ⟨rp 1 [(16, 2, 1)], ⟨0, true, [(0, 64)], [(3, ⟨5, 1, none⟩)]⟩, { sp (ps .parked) with skk.resid := [(65537, ⟨0, true, [(0, 64)], [(3, ⟨5, 1, none⟩)]⟩)] }, by decide, by decide, by decide, by decide, by decide, by decide⟩,
   ⟨rp 1 [(16, 2, 1)], upp (pl1 1 []), by decide, by decide, by decide, by decide, by decide⟩⟩

theorem wit_WindowSet :
    (∃ (r : Req) (x : Slice) (s : State),
      accepts 0x0401 r s = true
        ∧ r.p 16 4 * 2 ^ 30 ≤ s.hbmBytes
        ∧ r.z 20 = true
        ∧ s.topo.slice.find r.slice = some x
        ∧ ((x.windowGiB ≤ r.p 16 4 ∨ s.addressed r.slice (r.p 16 4 * 2 ^ 30) = false))
        ∧ r.p 16 4 * 2 ^ 30 - x.windowGiB * 2 ^ 30 ≤ s.hbmLeft r.slice)
    ∧ (∃ (r : Req) (x : Slice) (s : State),
      accepts 0x0401 r s = true
        ∧ r.p 16 4 * 2 ^ 30 ≤ s.hbmBytes
        ∧ r.z 20 = true
        ∧ s.topo.slice.find r.slice = some x
        ∧ r.p 16 4 < x.windowGiB
        ∧ s.addressed r.slice (r.p 16 4 * 2 ^ 30) = true) :=
  ⟨⟨rp 1 [(16, 4, 2)], { Slice.new 7 4 128 1 with windowGiB := 1, window := [(64, 255), (71, 2)] }, sf, by decide, by decide, by decide, by decide, by decide, by decide⟩,
   ⟨rp 1 [(16, 4, 0)], { Slice.new 7 4 128 1 with windowGiB := 1, window := [(64, 255), (71, 2)] }, wr sf [] [fo 1 64 64 []], by decide, by decide, by decide, by decide, by decide, by decide⟩⟩

theorem wit_QueuePairs :
    (∃ (r : Req) (s : State),
      accepts 0x0402 r s = true
        ∧ r.p 16 4 < 2 ^ 18
        ∧ refOk s.fuse (r.p 20 2) = true
        ∧ refClass (r.p 20 2) = 2
        ∧ 1 ≤ r.p 22 2
        ∧ r.p 22 2 ≤ 256
        ∧ ((r.p 24 4 = 0 ∨ 100 ≤ r.p 24 4 ∧ r.p 24 4 ≤ 10000000))
        ∧ r.p 28 1 = 0
        ∧ zeroAt r.inl 13 3 = true
        ∧ r.p 32 8 = 0
        ∧ r.z 40 = true
        ∧ s.hasSlice r.slice = true
        ∧ s.owner (r.p 20 2) = r.slice
        ∧ (s.queue (r.p 16 4)).st = 0
        ∧ (s.fm.queue.filter (fun e => e.2.slice == r.slice)).length < 65536
        ∧ r.p 22 2 * 4160 ≤ s.hbmLeft r.slice
        ∧ (s.lp (refIndex (r.p 20 2))).st ≠ .failed)
    ∧ (∃ (r : Req) (s : State),
      accepts 0x0402 r s = true
        ∧ r.p 16 4 < 2 ^ 18
        ∧ refOk s.fuse (r.p 20 2) = true
        ∧ refClass (r.p 20 2) = 2
        ∧ 1 ≤ r.p 22 2
        ∧ r.p 22 2 ≤ 256
        ∧ ((r.p 24 4 = 0 ∨ 100 ≤ r.p 24 4 ∧ r.p 24 4 ≤ 10000000))
        ∧ ((r.p 28 1 = 1 ∨ r.p 28 1 = 2))
        ∧ zeroAt r.inl 13 3 = true
        ∧ r.p 32 8 % 8 = 0
        ∧ r.z 40 = true
        ∧ s.hasSlice r.slice = true
        ∧ s.owner (r.p 20 2) = r.slice
        ∧ gaSlice (r.p 32 8) = r.slice
        ∧ bit (s.rackSet r.slice) (gaRack (r.p 32 8)) = true
        ∧ (s.queue (r.p 16 4)).st = 0
        ∧ (s.fm.queue.filter (fun e => e.2.slice == r.slice)).length < 65536
        ∧ r.p 22 2 * 4160 ≤ s.hbmLeft r.slice
        ∧ (s.lp (refIndex (r.p 20 2))).st ≠ .failed)
    ∧ (∃ (r : Req) (s : State),
      accepts 0x0403 r s = true
        ∧ r.p 16 4 < 2 ^ 18
        ∧ r.z 20 = true
        ∧ s.hasSlice r.slice = true
        ∧ (s.queue (r.p 16 4)).st = 1
        ∧ (s.queue (r.p 16 4)).slice = r.slice)
    ∧ (∃ (r : Req) (s : State),
      accepts 0x0403 r s = true
        ∧ r.p 16 4 < 2 ^ 18
        ∧ r.z 20 = true
        ∧ s.hasSlice r.slice = true
        ∧ (s.queue (r.p 16 4)).st = 2
        ∧ (s.queue (r.p 16 4)).slice = r.slice)
    ∧ (∃ (qp : Fin 262144) (s : State),
      (s.queue qp).st = 2
        ∧ s.reqsOf qp = [])
    ∧ (∃ (qp : Fin 262144) (s : State),
      (((s.queue qp).st ≠ 2 ∨ s.reqsOf qp ≠ [])))
    ∧ (∃ (r : Req) (s : State),
      accepts 0x0404 r s = true
        ∧ r.p 16 4 < 2 ^ 18
        ∧ ((r.p 20 4 = 0 ∨ 64 ≤ r.p 20 4 ∧ r.p 20 4 ≤ 16384 ∧ r.p 20 4 % 64 = 0))
        ∧ r.p 24 8 % 64 = 0
        ∧ r.z 32 = true
        ∧ s.hasSlice r.slice = true
        ∧ (((s.queue (r.p 16 4)).st = 0 ∨ (s.queue (r.p 16 4)).slice = r.slice))
        ∧ (s.queue (r.p 16 4)).st < 4
        ∧ (s.queue (r.p 16 4)).errors < 2 ^ 32) :=
  ⟨⟨rp 1 [(16, 4, 5), (20, 2, 0x2000), (22, 2, 256)], sf, by decide, by decide, by decide, by decide, by decide, by decide, by decide, by decide, by decide, by decide, by decide, by decide, by decide, by decide, by decide, by decide, by decide⟩,
   ⟨rp 1 [(16, 4, 5), (20, 2, 0x2000), (22, 2, 1), (24, 4, 100), (28, 1, 2), (32, 8, ga 2 1 8)], sf, by decide, by decide, by decide, by decide, by decide, by decide, by decide, by decide, by decide, by decide, by decide, by decide, by decide, by decide, by decide, by decide, by decide, by decide, by decide⟩,
   ⟨rp 1 [(16, 4, 3)], wr sf [fr 3 1] [], by decide, by decide, by decide, by decide, by decide, by decide⟩,
   ⟨rp 1 [(16, 4, 3)], { sf with fm.queue := [(3, { qu with st := 2 })] }, by decide, by decide, by decide, by decide, by decide, by decide⟩,
   ⟨3, { sf with fm.queue := [(3, { qu with st := 2 })], fm.lostRsp := [(3, 1), (4, 1)] }, by decide, by decide⟩,
   ⟨3, sf, by decide⟩,
   ⟨rp 1 [(16, 4, 3), (20, 4, 64), (24, 8, 4096)], wr sf [fr 3 1, { fr 2 0 with ref := 5, reqId := 10 }] [], by decide, by decide, by decide, by decide, by decide, by decide, by decide, by decide, by decide⟩⟩

theorem wit_FmRequestAccepted :
    (∃ (p : Fin 256) (vc : Fin 8) (frame : Bytes) (s : State),
      s.lpLive p = false)
    ∧ (∃ (p : Fin 256) (vc : Fin 8) (frame : Bytes) (s : State),
      s.lpLive p = true
        ∧ s.paused = true)
    ∧ (∃ (p : Fin 256) (vc : Fin 8) (frame : Bytes) (s : State),
      s.lpLive p = true
        ∧ s.paused = false
        ∧ ((reqWellFormed frame = false ∨ vc.val ≠ 2 + (fhdr frame).stage)))
    ∧ (∃ (p : Fin 256) (vc : Fin 8) (frame : Bytes) (st : Nat) (known : Bool) (s : State),
      s.lpLive p = true
        ∧ s.paused = false
        ∧ reqWellFormed frame = true
        ∧ vc.val = 2 + (fhdr frame).stage
        ∧ s.mod ≠ .maintenance
        ∧ s.fmRefusal p frame = some (st, known)
        ∧ (s.lp p).ownLimit.length = 8)
    ∧ (∃ (p : Fin 256) (vc : Fin 8) (frame : Bytes) (s : State),
      s.lpLive p = true
        ∧ s.paused = false
        ∧ reqWellFormed frame = true
        ∧ vc.val = 2 + (fhdr frame).stage
        ∧ s.mod = .maintenance)
    ∧ (∃ (p : Fin 256) (vc : Fin 8) (frame : Bytes) (s : State),
      s.lpLive p = true
        ∧ s.paused = false
        ∧ reqWellFormed frame = true
        ∧ vc.val = 2 + (fhdr frame).stage
        ∧ s.mod ≠ .maintenance
        ∧ s.fmRefusal p frame = none
        ∧ s.reqsOf (fhdr frame).qp = []
        ∧ RefsBelow s
        ∧ (s.lp p).ownLimit.length = 8) :=
  ⟨⟨0, 2, [], { up with boot.power := false }, by decide⟩,
   ⟨0, 2, (fq 0 1 64 3 9 (ga 0 1 64) 0 []), pz sf, by decide, by decide⟩,
   ⟨0, 3, (fq 0 1 64 3 9 (ga 0 1 64) 0 []), sf, by decide, by decide, by decide⟩,
   ⟨0, 2, (fq 0 1 64 4 9 (ga 0 1 64) 0 []), 0x0302, false, sf, by decide, by decide, by decide, by decide, by decide, by decide, by decide⟩,
   ⟨0, 2, (fq 0 1 64 3 9 (ga 0 1 64) 0 []), { sf with mod := .maintenance }, by decide, by decide, by decide, by decide, by decide⟩,
   ⟨0, 2, (fq 0 1 64 3 9 (ga 0 1 64) 0 []), sf, by decide, by decide, by decide, by decide, by decide, by decide, by decide, (by unfold RefsBelow; decide), by decide⟩⟩

theorem wit_FmRequestFromRack :
    (∃ (g : Fin 64) (vc : Fin 8) (frame : Bytes) (s : State),
      s.fmFrameOk g = false)
    ∧ (∃ (g : Fin 64) (vc : Fin 8) (frame : Bytes) (s : State),
      s.fmFrameOk g = true
        ∧ s.paused = true)
    ∧ (∃ (g : Fin 64) (vc : Fin 8) (frame : Bytes) (s : State),
      s.fmFrameOk g = true
        ∧ s.paused = false
        ∧ reqWellFormed frame = true
        ∧ vc.val = 2 + (fhdr frame).stage
        ∧ s.mod ≠ .maintenance
        ∧ (fhdr frame).slice ≠ 0
        ∧ s.owner (refG g) = (fhdr frame).slice
        ∧ bit (s.rackSet (fhdr frame).slice) (fhdr frame).src = true
        ∧ gaSlice (fhdr frame).gaddr = (fhdr frame).slice
        ∧ gaRack (fhdr frame).gaddr = s.topo.rack
        ∧ gaOff (fhdr frame).gaddr + (fhdr frame).len ≤ s.windowBytes (fhdr frame).slice
        ∧ opFieldsOk (fhdr frame) frame = true)
    ∧ (∃ (g : Fin 64) (vc : Fin 8) (frame : Bytes) (s : State),
      s.fmFrameOk g = true
        ∧ s.paused = false
        ∧ reqWellFormed frame = true
        ∧ vc.val = 2 + (fhdr frame).stage
        ∧ s.mod ≠ .maintenance
        ∧ (((fhdr frame).slice = 0 ∨ s.owner (refG g) ≠ (fhdr frame).slice ∨ gaSlice (fhdr frame).gaddr ≠ (fhdr frame).slice)))
    ∧ (∃ (g : Fin 64) (vc : Fin 8) (frame : Bytes) (s : State),
      s.fmFrameOk g = true
        ∧ s.paused = false
        ∧ reqWellFormed frame = true
        ∧ vc.val = 2
        ∧ (fhdr frame).stage = 0
        ∧ s.mod ≠ .maintenance
        ∧ (fhdr frame).slice ≠ 0
        ∧ s.owner (refG g) = (fhdr frame).slice
        ∧ bit (s.rackSet (fhdr frame).slice) (fhdr frame).src = true
        ∧ gaSlice (fhdr frame).gaddr = (fhdr frame).slice
        ∧ gaRack (fhdr frame).gaddr ≠ s.topo.rack
        ∧ s.reaches (fhdr frame).slice (gaRack (fhdr frame).gaddr) = true) :=
  ⟨⟨2, 2, [], sf, by decide⟩,
   ⟨1, 2, (fq 0 1 64 3 9 (ga 0 1 64) 1 []), pz sf, by decide, by decide⟩,
   ⟨1, 2, (fq 0 1 64 3 9 (ga 0 1 64) 1 []), sf, by decide, by decide, by decide, by decide, by decide, by decide, by decide, by decide, by decide, by decide, by decide, by decide⟩,
   ⟨1, 2, (fq 0 1 64 3 9 (ga 0 2 64) 1 []), sf, by decide, by decide, by decide, by decide, by decide, by decide⟩,
   ⟨1, 2, (fq 0 1 64 3 9 (ga 2 1 64) 1 []), sf, by decide, by decide, by decide, by decide, by decide, by decide, by decide, by decide, by decide, by decide, by decide, by decide⟩⟩

theorem wit_FmOperations :
    (∃ (o : FOp) (x : Slice) (s : State),
      s.fm.ops.find? (·.ref == o.ref) = some o
        ∧ s.paused = false
        ∧ s.mem.thermStop = false
        ∧ s.fm.reqs.find? (·.ref == o.ref) = none
        ∧ s.topo.slice.find o.slice = some x
        ∧ Memory.wf x.window = true
        ∧ x.windowBad = []
        ∧ s.mem.deadStacks = []
        ∧ gaOff o.gaddr + o.len ≤ x.windowGiB * 2 ^ 30
        ∧ o.slice ≠ 0
        ∧ o.srcRack ≠ s.topo.rack
        ∧ s.reaches o.slice o.srcRack = true)
    ∧ (∃ (o : FOp) (x : Slice) (s : State),
      s.fm.ops.find? (·.ref == o.ref) = some o
        ∧ s.paused = false
        ∧ s.mem.thermStop = false
        ∧ s.fm.reqs.find? (·.ref == o.ref) = none
        ∧ s.topo.slice.find o.slice = some x
        ∧ x.windowGiB * 2 ^ 30 < gaOff o.gaddr + o.len
        ∧ o.op ≠ 0x20
        ∧ o.slice ≠ 0
        ∧ o.srcRack ≠ s.topo.rack
        ∧ s.reaches o.slice o.srcRack = true)
    ∧ (∃ (o : FOp) (q : FReq) (x : Slice) (s : State),
      s.fm.ops.find? (·.ref == o.ref) = some o
        ∧ s.paused = false
        ∧ s.mem.thermStop = false
        ∧ s.fm.reqs.find? (·.ref == o.ref) = some q
        ∧ RefsBelow s
        ∧ Answerable q s
        ∧ s.topo.slice.find o.slice = some x
        ∧ x.windowBad = []
        ∧ s.mem.deadStacks = []
        ∧ o.op = 0x01
        ∧ gaOff o.gaddr + o.len ≤ x.windowGiB * 2 ^ 30)
    ∧ (∃ (ref : Nat) (s : State),
      ((s.paused = true ∨ s.fm.ops.find? (·.ref == ref) = none))) :=
  ⟨⟨fo 0x10 8 64 [1, 0, 0, 0, 0, 0, 0, 254], { Slice.new 7 4 128 1 with windowGiB := 1, window := [(64, 255), (71, 2)] }, wr sf [] [fo 0x10 8 64 [1, 0, 0, 0, 0, 0, 0, 254]], by decide, by decide, by decide, by decide, by decide, by decide, by decide, by decide, by decide, by decide, by decide, by decide⟩,
   ⟨fo 1 64 (2 ^ 30 - 8) [], { Slice.new 7 4 128 1 with windowGiB := 1, window := [(64, 255), (71, 2)] }, wr sf [] [fo 1 64 (2 ^ 30 - 8) []], by decide, by decide, by decide, by decide, by decide, by decide, by decide, by decide, by decide, by decide⟩,
   ⟨fo 1 64 64 [], { fr 4 0 with ref := 7, gaddr := ga 0 1 64, route := 0 }, { Slice.new 7 4 128 1 with windowGiB := 1, window := [(64, 255), (71, 2)] }, wr sf [{ fr 4 0 with ref := 7, gaddr := ga 0 1 64, route := 0 }] [fo 1 64 64 []], by decide, by decide, by decide, by decide, (by unfold RefsBelow; decide), (by unfold Answerable; decide), by decide, by decide, by decide, by decide, by decide⟩,
   ⟨99, sf, by decide⟩⟩

theorem wit_FmResponses :
    (∃ (g : Fin 64) (vc : Fin 8) (frame : Bytes) (r : FReq) (s : State),
      s.fmFrameOk g = true
        ∧ rspWellFormed frame = true
        ∧ vc.val = 4 + (fhdr frame).stage
        ∧ s.paused = false
        ∧ s.fm.reqs.find? (fun r => r.qp == (fhdr frame).qp && r.reqId == (fhdr frame).reqId && r.op == (fhdr frame).op && r.gaddr == (fhdr frame).gaddr && r.slice == (fhdr frame).slice && decide (0 < r.sends)) = some r
        ∧ ((r.route ≠ 2 ∨ rspStatus frame ≠ 0x0602))
        ∧ RefsBelow s
        ∧ Answerable r s)
    ∧ (∃ (g : Fin 64) (vc : Fin 8) (frame : Bytes) (r : FReq) (s : State),
      s.fmFrameOk g = true
        ∧ rspWellFormed frame = true
        ∧ vc.val = 4 + (fhdr frame).stage
        ∧ s.paused = false
        ∧ s.fm.reqs.find? (fun r => r.qp == (fhdr frame).qp && r.reqId == (fhdr frame).reqId && r.op == (fhdr frame).op && r.gaddr == (fhdr frame).gaddr && r.slice == (fhdr frame).slice && decide (0 < r.sends)) = some r
        ∧ r.route = 2
        ∧ rspStatus frame = 0x0602
        ∧ r.st = 3)
    ∧ (∃ (g : Fin 64) (vc : Fin 8) (frame : Bytes) (s : State),
      ((s.fmFrameOk g = false ∨ rspWellFormed frame = false ∨ vc.val ≠ 4 + (fhdr frame).stage)))
    ∧ (∃ (qp : Fin 262144) (reqId : Nat) (r : FReq) (s : State),
      s.fm.reqs.find? (fun r => r.qp == qp.val && r.reqId == reqId && r.sends == 0 && !s.isLocal r) = some r
        ∧ s.paused = false
        ∧ RefsBelow s
        ∧ Answerable r s)
    ∧ (∃ (qp : Fin 262144) (reqId : Nat) (r : FReq) (a : Nat) (s : State),
      s.fm.reqs.find? (fun r => r.qp == qp.val && r.reqId == reqId && decide (0 < r.sends) && !s.isLocal r) = some r
        ∧ s.paused = false
        ∧ s.reaches r.slice (gaRack r.gaddr) = false
        ∧ r.brokenAt = some a
        ∧ RefsBelow s
        ∧ Answerable r s)
    ∧ (∃ (qp : Fin 262144) (reqId : Nat) (s : State),
      s.paused = true) :=
  ⟨⟨1, 4, (rspFrame 1 0x01 0 (ga 1 1 64) 3 9 (zeros 64)), fr 3 1, wr sf [fr 3 1, { fr 1 0 with ref := 5, reqId := 10 }] [], by decide, by decide, by decide, by decide, by decide, by decide, (by unfold RefsBelow; decide), (by unfold Answerable; decide)⟩,
   ⟨1, 4, (rspFrame 1 0x01 0x0602 (ga 1 1 64) 3 9 []), { fr 3 1 with route := 2, relay := 2 }, wr sf [{ fr 3 1 with route := 2, relay := 2 }] [], by decide, by decide, by decide, by decide, by decide, by decide, by decide, by decide⟩,
   ⟨1, 4, [], sf, by decide⟩,
   ⟨3, 9, fr 2 0, wr sf [fr 2 0] [], by decide, by decide, (by unfold RefsBelow; decide), (by unfold Answerable; decide)⟩,
   ⟨3, 9, { fr 3 1 with brokenAt := some 500 }, 500, wr sfb [{ fr 3 1 with brokenAt := some 500 }] [], by decide, by decide, by decide, by decide, (by unfold RefsBelow; decide), (by unfold Answerable; decide)⟩,
   ⟨3, 9, pz sf, by decide⟩⟩

theorem wit_RelaysAndProbes :
    (∃ (qp : Fin 262144) (reqId : Nat) (x : Nat) (r : FReq) (s : State),
      s.fm.reqs.find? (fun r => r.qp == qp.val && r.reqId == reqId && s.awaitsRoute r) = some r
        ∧ s.paused = false
        ∧ s.standingPorts r.slice ≠ []
        ∧ s.reaches r.slice (gaRack r.gaddr) = false
        ∧ s.relayFor r = some x)
    ∧ (∃ (qp : Fin 262144) (reqId : Nat) (r : FReq) (s : State),
      s.fm.reqs.find? (fun r => r.qp == qp.val && r.reqId == reqId && s.awaitsRoute r) = some r
        ∧ ((s.paused = true ∨ s.reaches r.slice (gaRack r.gaddr) = true))) :=
  ⟨⟨3, 9, 2, fr 2 0, wr sfb [fr 2 0, { fr 2 0 with ref := 5, reqId := 10 }] [], by decide, by decide, by decide, by decide, by decide⟩,
   ⟨3, 9, fr 2 0, wr sf [fr 2 0] [], by decide, by decide⟩⟩

theorem wit_LinkTraining :
    (∃ (p : Fin 256) (s : State),
      s.lpLive p = true
        ∧ (((s.lp p).st = .acquire ∨ (s.lp p).st = .off ∧ s.landed p = true)))
    ∧ (∃ (p : Fin 256) (s : State),
      ((s.lpLive p = false ∨ (s.lp p).st ≠ .acquire ∧ ((s.lp p).st ≠ .off ∨ s.landed p = false))))
    ∧ (∃ (p : Fin 256) (s : State),
      (s.lp p).st = .acquire
        ∧ (s.lp p).signal = true)
    ∧ (∃ (p : Fin 256) (lane : Fin 4) (decoded : Bool) (s : State),
      (((s.lp p).st = .align ∨ (s.lp p).st = .retrain)))
    ∧ (∃ (p : Fin 256) (flit : Bytes) (s : State),
      s.lpLive p = true
        ∧ (s.lp p).st = .negotiate
        ∧ flitGood flit = true
        ∧ ftypeOf flit = 5
        ∧ trainNode flit ≠ 0
        ∧ trainVerMin flit ≤ 1
        ∧ 1 ≤ trainVerMax flit
        ∧ (s.lp p).readyTx < 8)
    ∧ (∃ (p : Fin 256) (flit : Bytes) (s : State),
      s.lpLive p = true
        ∧ (s.lp p).st = .negotiate
        ∧ flitGood flit = true
        ∧ ftypeOf flit = 5
        ∧ trainNode flit ≠ 0
        ∧ trainVerMin flit ≤ 1
        ∧ 1 ≤ trainVerMax flit
        ∧ 8 ≤ (s.lp p).readyTx
        ∧ 7 ≤ (s.lp p).readyRx
        ∧ trainReady flit = true
        ∧ (s.lp p).sessId = 0)
    ∧ (∃ (p : Fin 256) (flit : Bytes) (s : State),
      s.lpLive p = true
        ∧ (s.lp p).st = .negotiate
        ∧ flitGood flit = true
        ∧ ftypeOf flit = 5
        ∧ trainNode flit ≠ 0
        ∧ trainVerMin flit ≤ 1
        ∧ 1 ≤ trainVerMax flit
        ∧ 8 ≤ (s.lp p).readyTx
        ∧ 7 ≤ (s.lp p).readyRx
        ∧ trainReady flit = true
        ∧ (s.lp p).keep = true
        ∧ trainKeep flit = true
        ∧ (s.lp p).sessId = trainNode flit)
    ∧ (∃ (p : Fin 256) (flit : Bytes) (s : State),
      s.lpLive p = true
        ∧ (s.lp p).st = .negotiate
        ∧ flitGood flit = true
        ∧ ftypeOf flit = 5
        ∧ trainNode flit ≠ 0
        ∧ ((1 < trainVerMin flit ∨ trainVerMax flit < 1)))
    ∧ (∃ (p : Fin 256) (flit : Bytes) (s : State),
      s.lpLive p = true
        ∧ (s.lp p).st = .negotiate
        ∧ ((flitGood flit = false ∨ ftypeOf flit ≠ 5 ∨ trainNode flit = 0)))
    ∧ (∃ (p : Fin 256) (s : State),
      (s.lp p).signal = true
        ∧ (((s.lp p).st = .acquire ∨ (s.lp p).st = .align ∨ (s.lp p).st = .negotiate ∨ (s.lp p).st = .retrain)))
    ∧ (∃ (p : Fin 256) (s : State),
      (s.lp p).st = .failed
        ∧ s.mem.deadDies.contains (p.val / 64) = false)
    ∧ (∃ (p : Fin 256) (s : State),
      (s.lp p).st ≠ .failed) :=
  ⟨⟨0, lk (la .acquire), by decide, by decide⟩,
   ⟨0, lk (la .active), by decide⟩,
   ⟨0, lk (la .acquire), by decide, by decide⟩,
   ⟨0, 1, true, lk (la .align), by decide⟩,
   ⟨0, tn 1 2 77, lk (la .negotiate), by decide, by decide, fl_good (by decide), by decide, by decide, by decide, by decide, by decide⟩,
   ⟨0, tn 1 2 77, lk { la .negotiate with readyTx := 8, readyRx := 7, trainRun := 9, lastTrain := bytesAt (tn 1 2 77) 16 232 }, by decide, by decide, fl_good (by decide), by decide, by decide, by decide, by decide, by decide, by decide, by decide, by decide⟩,
   ⟨0, tn 1 6 77, lk { lr with st := .negotiate, readyTx := 8, readyRx := 7, keep := true }, by decide, by decide, fl_good (by decide), by decide, by decide, by decide, by decide, by decide, by decide, by decide, by decide, by decide, by decide⟩,
   ⟨0, tn 2 0 77, lk (la .negotiate), by decide, by decide, fl_good (by decide), by decide, by decide, by decide⟩,
   ⟨0, [], lk (la .negotiate), by decide, by decide, by decide⟩,
   ⟨0, lk (la .align), by decide, by decide⟩,
   ⟨0, lk (la .failed), by decide, by decide⟩,
   ⟨0, lk (la .active), by decide⟩⟩

theorem wit_LinkRetrains :
    (∃ (p : Fin 256) (c : Instr) (flit : Bytes) (lane : Fin 4) (s : State),
      s.lpLive p = true
        ∧ (s.lp p).st = .active
        ∧ ((c = .syncLoss p lane ∨ c = .noGoodCrcTimeout p ∨ (c = .trainFlit p flit ∧ flitGood flit = true ∧ ftypeOf flit = 5 ∧ trainNode flit ≠ 0 ∧ 64 ≤ (s.lp p).trainActive))))
    ∧ (∃ (p : Fin 256) (s : State),
      (s.lp p).st ≠ .active)
    ∧ (∃ (p : Fin 256) (flit : Bytes) (s : State),
      s.lpLive p = true
        ∧ (s.lp p).st = .active
        ∧ flitGood flit = true
        ∧ ftypeOf flit = 5
        ∧ trainNode flit ≠ 0
        ∧ (s.lp p).trainActive < 64)
    ∧ (∃ (p : Fin 256) (s : State),
      s.lpLive p = true
        ∧ (s.lp p).st ≠ .off
        ∧ (s.lp p).st ≠ .failed)
    ∧ (∃ (p : Fin 256) (s : State),
      (s.lp p).signal = false
        ∧ (s.lp p).sessId ≠ 0
        ∧ (s.lp p).keep = true) :=
  ⟨⟨0, .syncLoss 0 1, [], 1, lk (la .active), by decide, by decide, by decide⟩,
   ⟨0, lk (la .off), by decide⟩,
   ⟨0, tn 1 2 77, lk { lr with trainActive := 63 }, by decide, by decide, fl_good (by decide), by decide, by decide, by decide⟩,
   ⟨0, lk lr, by decide, by decide, by decide⟩,
   ⟨0, lk { lr with signal := false, keep := true, st := .acquire }, by decide, by decide, by decide⟩⟩

theorem wit_LinkReceiver :
    (∃ (p : Fin 256) (flit : Bytes) (s : State),
      ((s.lpLive p = false ∨ (s.lp p).st ≠ .active)))
    ∧ (∃ (p : Fin 256) (flit : Bytes) (s : State),
      s.lpLive p = true
        ∧ (s.lp p).st = .active
        ∧ flitGood flit = false
        ∧ (s.lp p).retry = none)
    ∧ (∃ (p : Fin 256) (flit : Bytes) (s : State),
      s.lpLive p = true
        ∧ (s.lp p).st = .active
        ∧ flitGood flit = true
        ∧ ftypeOf flit = 1
        ∧ fseqOf flit = (s.lp p).rxSeq
        ∧ s.probing p = false)
    ∧ (∃ (p : Fin 256) (flit : Bytes) (s : State),
      s.lpLive p = true
        ∧ (s.lp p).st = .active
        ∧ flitGood flit = true
        ∧ ftypeOf flit = 1
        ∧ fseqOf flit ≠ (s.lp p).rxSeq
        ∧ s.probing p = false
        ∧ (s.lp p).retry = none)
    ∧ (∃ (p : Fin 256) (flit : Bytes) (pre : List TxFlit) (post : List TxFlit) (f : TxFlit) (s : State),
      s.lpLive p = true
        ∧ (s.lp p).st = .active
        ∧ flitGood flit = true
        ∧ ftypeOf flit = 0
        ∧ (s.lp p).replay = pre ++ f :: post
        ∧ f.seq = fackOf flit
        ∧ ((∀ x ∈ pre, x.seq ≠ fackOf flit))
        ∧ bit (byteAt flit 6) 7 = true
        ∧ bit (byteAt flit 6) 3 = false
        ∧ (s.lp p).limit.length = 8)
    ∧ (∃ (p : Fin 256) (flits : Nat) (s : State),
      s.lpLive p = true
        ∧ (s.lp p).st = .active
        ∧ (s.lp p).retry = none)
    ∧ (∃ (p : Fin 256) (flit : Bytes) (s : State),
      s.lpLive p = true
        ∧ (s.lp p).st = .active
        ∧ flitGood flit = true
        ∧ ftypeOf flit = 2
        ∧ ((∀ x ∈ (s.lp p).replay, x.seq ≠ fackOf flit))
        ∧ be flit 16 2 ≠ (s.lp p).txSeq
        ∧ ((∃ f ∈ (s.lp p).replay, f.seq = be flit 16 2))
        ∧ (s.lp p).replayAt = none
        ∧ (s.lp p).replayOf ≠ some (be flit 16 2))
    ∧ (∃ (p : Fin 256) (flit : Bytes) (s : State),
      s.lpLive p = true
        ∧ (s.lp p).st = .active
        ∧ flitGood flit = true
        ∧ ftypeOf flit = 2
        ∧ ((∀ x ∈ (s.lp p).replay, x.seq ≠ fackOf flit))
        ∧ be flit 16 2 ≠ (s.lp p).txSeq
        ∧ (((∀ f ∈ (s.lp p).replay, f.seq ≠ be flit 16 2) ∨ (s.lp p).replayAt = none ∧ (s.lp p).replayOf = some (be flit 16 2) ∧ 7 ≤ (s.lp p).replayRun))
        ∧ ((s.lp p).faults.filter (fun a => decide (s.ns < a + 60000000000))).length < 3)
    ∧ (∃ (p : Fin 256) (c : Nat) (s : State),
      (s.lp p).retry = some c
        ∧ (s.lp p).st = .active)
    ∧ (∃ (p : Fin 256) (s : State),
      (s.lp p).retry = none) :=
  ⟨⟨0, [], lk (la .align), by decide⟩,
   ⟨0, [], lk (la .active), by decide, by decide, by decide, by decide⟩,
   ⟨0, fl [(0, 1, 0x11), (1, 1, 0x80), (2, 2, 3), (4, 2, 6), (12, 1, 4)] [1], lk { lr with retry := some 1, open_ := [(0, ([1], 1))] }, by decide, by decide, fl_good (by decide), by decide, by decide, by decide⟩,
   ⟨0, fl [(0, 1, 0x11), (1, 1, 0x80), (2, 2, 4), (4, 2, 6), (12, 1, 4)] [1], lk lr, by decide, by decide, fl_good (by decide), by decide, by decide, by decide, by decide⟩,
   ⟨0, fl [(4, 2, 6), (6, 1, 0xA1), (8, 2, 99), (10, 2, 2)] [], [tf 5], [tf 7], tf 6, lk lr, by decide, by decide, fl_good (by decide), by decide, by decide, by decide, by decide, by decide, by decide, by decide⟩,
   ⟨0, 3, lk lr, by decide, by decide, by decide⟩,
   ⟨0, fl [(0, 1, 0x20), (4, 2, 4)] (fieldsBE 2 [(0, 2, 6)]), lk lr, by decide, by decide, fl_good (by decide), by decide, by decide, by decide, by decide, by decide, by decide⟩,
   ⟨0, fl [(0, 1, 0x20), (4, 2, 4)] (fieldsBE 2 [(0, 2, 9)]), lk lr, by decide, by decide, fl_good (by decide), by decide, by decide, by decide, by decide, by decide⟩,
   ⟨0, 2, lk { lr with retry := some 2 }, by decide, by decide⟩,
   ⟨0, lk lr, by decide⟩⟩

theorem wit_LinkTransmitter :
    (∃ (p : Fin 256) (s : State),
      ((s.lpLive p = false ∨ (s.lp p).st = .off ∨ (s.lp p).st = .acquire ∨ (s.lp p).st = .failed)))
    ∧ (∃ (p : Fin 256) (s : State),
      s.lpLive p = true
        ∧ (((s.lp p).st = .align ∨ (s.lp p).st = .negotiate ∨ (s.lp p).st = .incompatible)))
    ∧ (∃ (p : Fin 256) (s : State),
      s.lpLive p = true
        ∧ (s.lp p).st = .active
        ∧ s.senderOf p = none
        ∧ (((s.lp p).ringHold.isSome = true ∨ (s.lp p).local_ = [] ∧ (s.lp p).replayAt = none ∧ (s.lp p).txq = [])))
    ∧ (∃ (p : Fin 256) (b : Bytes) (l : List Bytes) (s : State),
      s.lpLive p = true
        ∧ (s.lp p).st = .active
        ∧ s.senderOf p = none
        ∧ (s.lp p).ringHold = none
        ∧ (s.lp p).local_ = b :: l
        ∧ byteAt b 0 = 2)
    ∧ (∃ (p : Fin 256) (f : TxFrame) (q : List TxFrame) (s : State),
      s.lpLive p = true
        ∧ (s.lp p).st = .active
        ∧ s.senderOf p = none
        ∧ (s.lp p).ringHold = none
        ∧ (s.lp p).local_ = []
        ∧ (s.lp p).replayAt = none
        ∧ s.probing p = false
        ∧ (s.lp p).room = true
        ∧ (s.lp p).txq = f :: q
        ∧ (s.lp p).hasCredit f.vc = true
        ∧ f.vc < 8
        ∧ ((s.paused = true → 2 ≤ f.vc ∨ f.done ≠ 0))
        ∧ (s.lp p).sent.length = 8
        ∧ f.done < f.bytes.length
        ∧ 16 ≤ f.bytes.length)
    ∧ (∃ (p : Fin 256) (s : State),
      s.lpLive p = true
        ∧ (s.lp p).st ≠ .off
        ∧ (s.lp p).st ≠ .acquire
        ∧ (s.lp p).st ≠ .failed) :=
  ⟨⟨0, lk (la .failed), by decide⟩,
   ⟨0, lk (la .align), by decide, by decide⟩,
   ⟨0, lk lr, by decide, by decide, by decide, by decide⟩,
   ⟨0, [2, 0, 9, 1, 0, 0, 0, 0, 1], [[3, 1]], lk { lr with local_ := [[2, 0, 9, 1, 0, 0, 0, 0, 1], [3, 1]] }, by decide, by decide, by decide, by decide, by decide, by decide⟩,
   ⟨0, tq 0, [tq 5], lk { lr with txq := [tq 0, tq 5] }, by decide, by decide, by decide, by decide, by decide, by decide, by decide, by decide, by decide, by decide, by decide, by decide, by decide, by decide, by decide⟩,
   ⟨0, lk lr, by decide, by decide, by decide, by decide⟩⟩

theorem wit_HailTimeAndNak :
    (∃ (p : Fin 256) (flit : Bytes) (k : Nat) (s : State),
      s.lpLive p = true
        ∧ (s.lp p).st = .active
        ∧ flitGood flit = true
        ∧ ftypeOf flit = 3
        ∧ be flit 20 8 ≠ 0
        ∧ s.landedT p = some k
        ∧ isAX k = true
        ∧ k < 768
        ∧ s.paused = false)
    ∧ (∃ (p : Fin 256) (flit : Bytes) (s : State),
      s.lpLive p = true
        ∧ (s.lp p).st = .active
        ∧ ((flitGood flit = false ∨ ftypeOf flit ≠ 3 ∨ be flit 20 8 = 0)))
    ∧ (∃ (p : Fin 256) (s : State),
      s.lpLive p = true
        ∧ (s.lp p).st = .active)
    ∧ (∃ (p : Fin 256) (flit : Bytes) (s : State),
      s.lpLive p = true
        ∧ (s.lp p).st = .active
        ∧ flitGood flit = true
        ∧ ftypeOf flit = 4
        ∧ byteAt flit 16 = 1)
    ∧ (∃ (p : Fin 256) (frame : Bytes) (s : State),
      s.lpLive p = true
        ∧ ctlKind frame = 0x20
        ∧ (s.lp p).ownLimit.length = 8)
    ∧ (∃ (p : Fin 256) (above : Bool) (s : State),
      s.lpLive p = true) :=
  ⟨⟨0, hl 0 99 2 3 0, 710, { lkk 710 lr with topo := { (lkk 710 lr).topo with tport := [(710, { TPort.blank with st := .found, lit := true })], rack := 1, hall := 2 } }, by decide, by decide, fl_good (by decide), by decide, by decide, by decide, by decide, by decide, by decide⟩,
   ⟨0, [], lk lr, by decide, by decide, by decide⟩,
   ⟨0, lk { lr with hailSeq := 4294967295 }, by decide, by decide⟩,
   ⟨0, fl [(0, 1, 0x40)] (fieldsBE 20 [(0, 1, 1), (2, 2, 77)]), lk lr, by decide, by decide, fl_good (by decide), by decide, by decide⟩,
   ⟨0, fieldsBE 32 [(0, 1, 0x20)], lk lr, by decide, by decide, by decide⟩,
   ⟨0, true, lk lr, by decide⟩⟩

theorem wit_CompassSlots :
    (∃ (n : Nat) (x : Slice) (g : Fin 64) (u : Nat) (dst : Nat) (src : Nat) (s : State),
      s.ast.st = .locked
        ∧ s.col.seqFault = false
        ∧ s.topo.slice.filter (fun e => decide (1 ≤ e.2.colour)) = [(n, x)]
        ∧ s.topo.slice.find n = some x
        ∧ x.colour = 1
        ∧ s.passagesOf n = []
        ∧ s.sxt.takes = []
        ∧ (s.standingPorts n)[u]? = some g.val
        ∧ s.compassDest n (s.ns / 2000 + 1) u = some dst
        ∧ s.compassSource n (s.ns / 2000 + 1) u = some src
        ∧ (s.gp g).st ≠ 3
        ∧ (s.gp g).st ≠ 4
        ∧ (s.gp g).st ≠ 5
        ∧ (s.gp g).st ≠ 6
        ∧ s.gOpen g = false)
    ∧ (∃ (s : State),
      s.ast.st = .freeRunning
        ∧ s.col.dark = false)
    ∧ (∃ (s : State),
      s.col.dark = true
        ∧ ((s.ast.st ≠ .locked ∨ s.col.seqFault = true)))
    ∧ (∃ (s : State),
      ((s.ast.st = .holdover ∨ s.ast.st = .unqualified))
        ∧ s.ast.h0 ≤ s.ns)
    ∧ (∃ (s : State),
      ((s.ast.st = .locked ∨ s.ast.st = .freeRunning)))
    ∧ (∃ (s : State),
      s.col.seqFault = false)
    ∧ (∃ (s : State),
      s.col.seqFault = true) :=
  ⟨⟨1, { Slice.new 7 4 128 1 with colour := 1 }, 1, 0, 2, 1, sfh, by decide, by decide, by decide, by decide, by decide, by decide, by decide, by decide, by decide, by decide, by decide, by decide, by decide, by decide, by decide⟩,
   ⟨{ sfh with ast := { sfh.ast with st := .freeRunning } }, by decide, by decide⟩,
   ⟨{ sfh with ast := { sfh.ast with st := .holdover }, col := { sfh.col with dark := true } }, by decide, by decide⟩,
   ⟨{ sfh with ast := { sfh.ast with st := .holdover, h0 := 5, raw := 65536 * 1000 } }, by decide, by decide⟩,
   ⟨sfh, by decide⟩,
   ⟨wla (wg sfh 1 { GPort.reset 1 with st := 2, role := 2 }) 1 { Laser.reset with st := 2, gate := true }, by decide⟩,
   ⟨{ sfh with col := { sfh.col with seqFault := true } }, by decide⟩⟩

theorem wit_StandingFrames :
    (∃ (g : Fin 64) (frame : Bytes) (s : State),
      s.standingFrameOk g frame = false)
    ∧ (∃ (g : Fin 64) (frame : Bytes) (u : Nat) (r : Nat) (n : Nat) (s : State),
      s.standingFrameOk g frame = true
        ∧ ctlKind frame = 0x23
        ∧ ctlPid frame = 0
        ∧ u = bits (byteAt frame 16) 0 6
        ∧ r = ctlRack frame
        ∧ n = be frame 24 8
        ∧ (s.path u r).acked < n
        ∧ n ≤ (s.path u r).sent)
    ∧ (∃ (g : Fin 64) (frame : Bytes) (p : Passage) (s : State),
      s.standingFrameOk g frame = true
        ∧ ctlKind frame = 0x23
        ∧ ctlPid frame ≠ 0
        ∧ s.psg.find (psgKey (ctlSlice frame) (ctlPid frame)) = some p
        ∧ ((p.st = .running ∨ p.st = .stalled))
        ∧ ctlLeg frame = p.leg
        ∧ ctlIter frame = p.iter % 2 ^ 48
        ∧ (s.gp (bits (byteAt frame 16) 0 6)).dest = ctlRack frame)
    ∧ (∃ (g : Fin 64) (frame : Bytes) (u : Nat) (r : Nat) (hit : Nat × Nat × Nat × Bytes → Bool) (s : State),
      s.standingFrameOk g frame = true
        ∧ ctlKind frame = 0x24
        ∧ ctlPid frame = 0
        ∧ 1 ≤ byteAt frame 17
        ∧ byteAt frame 17 ≤ 16
        ∧ u = bits (byteAt frame 16) 0 6
        ∧ r = ctlRack frame
        ∧ hit = (fun x => named (nakRanges frame) (x.2.1 - flitsOf x.2.2.2.length) x.2.1))
    ∧ (∃ (g : Fin 64) (frame : Bytes) (u : Nat) (p : Passage) (s : State),
      s.standingFrameOk g frame = true
        ∧ ctlKind frame = 0x25
        ∧ u = bits (byteAt frame 16) 0 6
        ∧ s.psg.find (psgKey (ctlSlice frame) (ctlPid frame)) = some p
        ∧ ((p.st = .running ∨ p.st = .stalled ∨ p.st = .parked))
        ∧ ctlLeg frame = p.leg
        ∧ ctlIter frame = p.iter % 2 ^ 48
        ∧ (s.gp u).st = 2
        ∧ (s.gp u).role = 1
        ∧ (s.gp u).dest = ctlRack frame)
    ∧ (∃ (g : Fin 64) (frame : Bytes) (u : Nat) (s : State),
      s.standingFrameOk g frame = true
        ∧ ctlKind frame = 0x26
        ∧ u = bits (byteAt frame 16) 0 6
        ∧ (s.gp u).st ≠ 4
        ∧ (s.gp u).st ≠ 5
        ∧ (s.gp u).st ≠ 6
        ∧ (s.gp u).takeover = false
        ∧ ((∀ a, (s.gp u).foreignAt = some a → a + 10000000 < s.ns)))
    ∧ (∃ (g : Fin 64) (frame : Bytes) (u : Nat) (a : Nat) (s : State),
      s.standingFrameOk g frame = true
        ∧ ctlKind frame = 0x26
        ∧ u = bits (byteAt frame 16) 0 6
        ∧ (s.gp u).st ≠ 4
        ∧ (s.gp u).st ≠ 5
        ∧ (s.gp u).st ≠ 6
        ∧ (s.gp u).takeover = false
        ∧ (s.gp u).foreignAt = some a
        ∧ s.ns ≤ a + 10000000)
    ∧ (∃ (g : Fin 64) (frame : Bytes) (u : Nat) (r : Nat) (s : State),
      s.standingFrameOk g frame = true
        ∧ ctlKind frame = 0x27
        ∧ u = bits (byteAt frame 16) 0 6
        ∧ r = ctlRack frame) :=
  ⟨⟨2, cg 0x23 [], sfh, by decide⟩,
   ⟨1, cg 0x23 [(24, 8, 128)], 1, 1, 128, sfu, by decide, by decide, by decide, by decide, by decide, by decide, by decide, by decide⟩,
   ⟨1, fieldsBE 64 [(0, 1, 0x23), (1, 1, 1), (2, 1, 5), (3, 1, 1), (16, 1, 0), (24, 8, 70)], { pcol .running with legs := [⟨0, false, false, 0, 1, 0, 0⟩], groups := [⟨3, 0, 0, [0x3000], 0, 64⟩] }, wg (stb (sp ({ pcol .running with legs := [⟨0, false, false, 0, 1, 0, 0⟩], groups := [⟨3, 0, 0, [0x3000], 0, 64⟩] }))) 0 { GPort.reset 0 with dest := 1 }, by decide, by decide, by decide, by decide, by decide, by decide, by decide, by decide⟩,
   ⟨1, cg 0x24 [(17, 1, 1), (20, 4, 1), (24, 4, 1)], 1, 1, fun x => named (nakRanges (cg 0x24 [(17, 1, 1), (20, 4, 1), (24, 4, 1)])) (x.2.1 - flitsOf x.2.2.2.length) x.2.1, sfu, by decide, by decide, by decide, by decide, by decide, by decide, by decide, (rfl)⟩,
   ⟨1, fieldsBE 64 [(0, 1, 0x25), (1, 1, 1), (2, 1, 5), (3, 1, 1), (16, 1, 0)], 0, pcol .running, lg0 2 1, by decide, by decide, by decide, by decide, by decide, by decide, by decide, by decide, by decide, by decide⟩,
   ⟨1, cg 0x26 [], 1, sfu, by decide, by decide, by decide, by decide, by decide, by decide, by decide, (fun a h => nomatch h)⟩,
   ⟨1, cg 0x26 [], 1, 0, wg sfu 1 { GPort.reset 1 with burst := some (1, 0, 0, 0), expectRack := 1, expectValid := true, foreignAt := some 0 }, by decide, by decide, by decide, by decide, by decide, by decide, by decide, by decide, by decide⟩,
   ⟨1, cg 0x27 [(18, 2, 9)], 1, 1, sfu, by decide, by decide, by decide, by decide⟩⟩

theorem wit_BurstHeaders :
    (∃ (g : Fin 64) (header : Option Bytes) (flit : Bytes) (s : State),
      (s.gp g).st = 6)
    ∧ (∃ (g : Fin 64) (header : Option Bytes) (flit : Bytes) (s : State),
      (s.gp g).st ≠ 6
        ∧ s.col.dark = false
        ∧ ((header = none ∨ ∃ b, header = some b ∧ headerGood b = false)))
    ∧ (∃ (g : Fin 64) (b : Bytes) (flit : Bytes) (s : State),
      (s.gp g).st ≠ 6
        ∧ s.col.dark = false
        ∧ headerGood b = true
        ∧ (((bhdr b).dst ≠ s.topo.rack ∨ (bhdr b).port ≠ g.val ∨ (bhdr b).hall ≠ s.topo.hall ∨ (bhdr b).chan ≠ channelTo (bhdr b).src (bhdr b).dst)))
    ∧ (∃ (g : Fin 64) (b : Bytes) (flit : Bytes) (x : Nat × Nat × Passage × Nat × Nat × Nat) (s : State),
      (s.gp g).st ≠ 6
        ∧ (s.standingPorts (s.owner (refG g))).contains g.val = false
        ∧ headerGood b = true
        ∧ (bhdr b).dst = s.topo.rack
        ∧ (bhdr b).port = g.val
        ∧ (bhdr b).hall = s.topo.hall
        ∧ (bhdr b).chan = channelTo (bhdr b).src (bhdr b).dst
        ∧ (bhdr b).kind = 0
        ∧ (s.legsAt g).find? (fun x => (bhdr b).kind == 0 && (bhdr b).slice == x.1 && (bhdr b).pid == x.2.1 && (bhdr b).digest == x.2.2.1.digest && (bhdr b).leg == x.2.2.2.1 && (bhdr b).iter == x.2.2.2.2.1 % 2 ^ 48 && (bhdr b).src == x.2.2.2.2.2) = some x)
    ∧ (∃ (g : Fin 64) (b : Bytes) (flit : Bytes) (n : Nat) (s : State),
      (s.gp g).st ≠ 6
        ∧ s.col.dark = false
        ∧ n = s.owner (refG g)
        ∧ (s.standingPorts n).contains g.val = true
        ∧ headerGood b = true
        ∧ (bhdr b).dst = s.topo.rack
        ∧ (bhdr b).port = g.val
        ∧ (bhdr b).hall = s.topo.hall
        ∧ (bhdr b).chan = channelTo (bhdr b).src (bhdr b).dst
        ∧ (s.gp g).expectValid = true
        ∧ (bhdr b).src = (s.gp g).expectRack
        ∧ (bhdr b).slice = n
        ∧ (bhdr b).slot = s.col.slot
        ∧ (bhdr b).pid = 0
        ∧ (((bhdr b).kind = 1 ∧ (bhdr b).digest = s.compassDigest n ∨ (bhdr b).kind = 2)))
    ∧ (∃ (g : Fin 64) (b : Bytes) (flit : Bytes) (n : Nat) (x : Slice) (s : State),
      (s.gp g).st ≠ 6
        ∧ s.col.dark = false
        ∧ n = s.owner (refG g)
        ∧ (s.standingPorts n).contains g.val = true
        ∧ headerGood b = true
        ∧ (bhdr b).dst = s.topo.rack
        ∧ (bhdr b).port = g.val
        ∧ (bhdr b).hall = s.topo.hall
        ∧ (bhdr b).chan = channelTo (bhdr b).src (bhdr b).dst
        ∧ (s.gp g).expectValid = true
        ∧ (bhdr b).src = (s.gp g).expectRack
        ∧ (bhdr b).kind = 4
        ∧ (bhdr b).slice = 0
        ∧ flitGood flit = true
        ∧ ftypeOf flit = 3
        ∧ be flit 20 8 ≠ 0
        ∧ s.topo.slice.find n = some x)
    ∧ (∃ (g : Fin 64) (rack : Fin 64) (s : State),
      (s.gp g).expectValid = true
        ∧ (s.gp g).expectRack = rack.val)
    ∧ (∃ (g : Fin 64) (rack : Fin 64) (s : State),
      (((s.gp g).expectValid = false ∨ (s.gp g).expectRack ≠ rack.val))) :=
  ⟨⟨1, none, [], wg sf 1 { GPort.reset 1 with st := 6 }, by decide⟩,
   ⟨1, none, [], sf, by decide, by decide, (Or.inl rfl)⟩,
   ⟨1, bh 1 2 1 0 0 0 0 0 0, [], sf, by decide, by decide, by decide, by decide⟩,
   ⟨0, bh 0 0 1 5 0 0 0 0x1234 0, [], (1, 5, pcol .running, 0, 0, 1), lg0 2 1, by decide, by decide, by decide, by decide, by decide, by decide, by decide, by decide, by decide⟩,
   ⟨1, bh 1 1 1 0 0 0 0 (sf.compassDigest 1) 700, [], 1, sf, by decide, by decide, by decide, by decide, by decide, by decide, by decide, by decide, by decide, by decide, by decide, by decide, by decide, by decide, by decide⟩,
   ⟨1, bh 4 1 0 0 0 0 0 (sfh.sliceDigest 1) 0, hl 0 99 0 1 0, 1, { Slice.new 7 4 128 1 with colour := 1 }, sfh, by decide, by decide, by decide, by decide, by decide, by decide, by decide, by decide, by decide, by decide, by decide, by decide, by decide, fl_good (by decide), by decide, by decide, by decide⟩,
   ⟨1, 1, sf, by decide, by decide⟩,
   ⟨1, 2, sf, by decide⟩⟩

theorem wit_LasersAndRelocks :
    (∃ (l : Fin 72) (m : Fin 64) (e : Int) (s : State),
      (((s.laser l).st ≠ 2 ∧ (s.laser l).st ≠ 5 ∨ m.val = (s.laser l).channel ∧ e.natAbs ≤ 500)))
    ∧ (∃ (l : Fin 72) (m : Fin 64) (e : Int) (p : Nat) (s : State),
      (s.laser l).st = 2
        ∧ ((m.val ≠ (s.laser l).channel ∨ 500 < e.natAbs))
        ∧ s.servedBy l = some p
        ∧ (s.gp p).st ≠ 4
        ∧ (s.gp p).st ≠ 5
        ∧ (s.gp p).st ≠ 6
        ∧ (s.gp p).role ≠ 0)
    ∧ (∃ (g : Fin 64) (n : Nat) (pid : Nat) (p : Passage) (s : State),
      s.legOf g = some (n, pid, p)
        ∧ (s.gp g).role = 1
        ∧ (s.gp g).st = 2
        ∧ (s.gp g).tunedAt = some p.enteredAt
        ∧ s.ns ≤ p.enteredAt + 1000)
    ∧ (∃ (g : Fin 64) (s : State),
      s.legOf g = none)
    ∧ (∃ (l : Fin 72) (p : Nat) (thermal : Bool) (s : State),
      s.gfRuns 4 = true
        ∧ s.servedBy l = some p
        ∧ (s.gp p).st = 3
        ∧ (s.gp p).takeover = false
        ∧ (((s.gp p).role ≠ 1 ∨ s.legOf p = none)))
    ∧ (∃ (l : Fin 72) (p : Nat) (n : Nat) (pid : Nat) (x : Passage) (s : State),
      s.gfRuns 4 = true
        ∧ s.servedBy l = some p
        ∧ (s.gp p).st = 3
        ∧ (s.gp p).takeover = false
        ∧ (s.gp p).role = 1
        ∧ s.legOf p = some (n, pid, x)
        ∧ s.psg.find (psgKey n pid) = some x
        ∧ x.blanked = none
        ∧ s.takenPort p = false
        ∧ s.gOpen p = false
        ∧ ((∀ gi ∈ x.legGroups, (x.grp gi).role < 3)))
    ∧ (∃ (l : Fin 72) (p : Nat) (thermal : Bool) (s : State),
      s.gfRuns 4 = true
        ∧ s.servedBy l = some p
        ∧ (s.gp p).st = 3
        ∧ (s.gp p).takeover = false
        ∧ (s.gp p).attempts + 1 < 3)
    ∧ (∃ (l : Fin 72) (p : Nat) (thermal : Bool) (s : State),
      s.gfRuns 4 = true
        ∧ s.servedBy l = some p
        ∧ (s.gp p).st = 3
        ∧ (s.gp p).takeover = false
        ∧ 2 ≤ (s.gp p).attempts)
    ∧ (∃ (l : Fin 72) (ok : Bool) (thermal : Bool) (s : State),
      s.gfRuns 4 = false)
    ∧ (∃ (g : Fin 8) (i : Nat) (s : State),
      (List.range 8).find? (fun i => (s.gp (8 * g + i)).takeover) = some i
        ∧ s.gfRuns 4 = true
        ∧ s.gfRuns 5 = true
        ∧ (((s.gp (8 * g + i)).role ≠ 1 ∨ s.legOf (8 * g + i) = none)))
    ∧ (∃ (l : Fin 72) (s : State),
      (s.laser l).st ≠ 4)
    ∧ (∃ (l : Fin 72) (s : State),
      (s.laser l).st = 4) :=
  ⟨⟨3, 5, 0, up, by decide⟩,
   ⟨0, 5, 0, 0, lg0 2 1, by decide, by decide, by decide, by decide, by decide, by decide, by decide⟩,
   ⟨0, 1, 5, pcol .running, lg0 2 1, by decide, by decide, by decide, by decide, by decide⟩,
   ⟨0, up, by decide⟩,
   ⟨0, 0, true, lg0 3 2, by decide, by decide, by decide, by decide, by decide⟩,
   ⟨0, 0, 1, 5, pcol .running, lg0 3 1, by decide, by decide, by decide, by decide, by decide, by decide, by decide, by decide, by decide, by decide, by decide⟩,
   ⟨0, 0, false, lg0 3 1, by decide, by decide, by decide, by decide, by decide⟩,
   ⟨0, 0, false, wg (lg0 3 1) 0 { GPort.reset 0 with st := 3, attempts := 2, role := 2 }, by decide, by decide, by decide, by decide, by decide⟩,
   ⟨0, true, true, up, by decide⟩,
   ⟨0, 2, wg (gfr up) 2 { GPort.reset 2 with st := 3, role := 2, takeover := true, channel := 9 }, by decide, by decide, by decide, by decide⟩,
   ⟨5, up, by decide⟩,
   ⟨5, wla up 5 { Laser.reset with st := 4 }, by decide⟩⟩

theorem wit_CablingRingsAndHand :
    (∃ (heard : List (Nat × Nat)) (s : State),
      s.col.checking = true)
    ∧ (∃ (heard : List (Nat × Nat)) (s : State),
      s.col.checking = false)
    ∧ (∃ (errs : List Int) (s : State),
      s.gfRuns 5 = true)
    ∧ (∃ (errs : List Int) (s : State),
      s.gfRuns 5 = false)
    ∧ (∃ (g : Fin 8) (s : State),
      s.gfRuns g = true)
    ∧ (∃ (g : Fin 8) (s : State),
      s.gfRuns g = false)
    ∧ (∃ (r : Req) (l : Nat) (m : Nat) (s : State),
      accepts 0x0B04 r s = true
        ∧ r.b 0 2 = 1
        ∧ zeroAt r.params 2 14 = true
        ∧ ranges (lasRows r.params 0 []) = none
        ∧ s.clusterHalted 1 = false
        ∧ l = le r.params 16 1
        ∧ m = le r.params 17 1
        ∧ ((∀ p, s.servedBy l = some p → s.owner (refG p) = 0))
        ∧ ((l < 64 ∨ (s.grp (l - 64)).1 ≠ 1))
        ∧ ((64 ≤ l ∨ s.gOpen l = false))
        ∧ ((m ≤ 3 → (s.laser l).st ≠ 4))
        ∧ ((m = 4 → (s.laser l).st = 4))
        ∧ ((m = 2 → ((s.laser l).st = 2 ∨ (s.laser l).st = 5) ∧ (s.laser l).channel = 0 ∧ (s.laser l).measValid = true ∧ (s.laser l).measChannel = 0 ∧ (s.laser l).freqErr.natAbs ≤ 250 ∧ (64 ≤ l ∨ (s.gp l).cabling = 1))))
    ∧ (∃ (r : Req) (l : Nat) (p : Nat) (s : State),
      accepts 0x0B04 r s = true
        ∧ r.b 0 2 = 1
        ∧ zeroAt r.params 2 14 = true
        ∧ ranges (lasRows r.params 0 []) = none
        ∧ s.clusterHalted 1 = false
        ∧ l = le r.params 16 1
        ∧ s.servedBy l = some p
        ∧ s.owner (refG p) ≠ 0) :=
  ⟨⟨[(0, 120), (2, 40), (3, 200)], chk0 (fun g => { GPort.reset g with cabling := if g < 4 then 0 else 1, tagRun := if g = 3 then 0 else 2 }), by decide⟩,
   ⟨[], up, by decide⟩,
   ⟨[3, -600], gfr up, by decide⟩,
   ⟨[], up, by decide⟩,
   ⟨4, gfr up, by decide⟩,
   ⟨4, up, by decide⟩,
   ⟨rb 0 32 [(0, 2, 1), (16, 1, 3), (17, 1, 2), (18, 1, 0)], 3, 2, mls, by decide, by decide, by decide, by decide, by decide, by decide, by decide, (fun p h => by have : p = 3 := (by have h2 : (some 3 : Option Nat) = some p := h; exact (Option.some.inj h2).symm); subst this; decide), by decide, by decide, by decide, by decide, by decide⟩,
   ⟨rb 0 32 [(0, 2, 1), (16, 1, 3), (17, 1, 0), (18, 1, 9)], 3, 3, { mls with topo := { mls.topo with owner := [(0x3003, 1)] } }, by decide, by decide, by decide, by decide, by decide, by decide, by decide, by decide⟩⟩

theorem wit_TimeDiscipline :
    (∃ (θ : Int) (s : State),
      s.ast.mode ≠ 0)
    ∧ (∃ (θ : Int) (s : State),
      s.ast.mode = 0)
    ∧ (∃ (c : Instr) (θ : Int) (e : Int) (w : Int) (s : State),
      s.ast.servoStopped = false
        ∧ ((c = .ptpMessage (.sync θ) ∧ s.ast.mode = 0 ∧ e = θ ∧ w = 25 ∨ c = .ppsEdge θ ∧ s.ast.mode = 1 ∧ e = θ - s.ast.ppsDelay ∧ w = 10)))
    ∧ (∃ (θ : Int) (s : State),
      s.ast.servoStopped = true
        ∧ s.ast.mode = 0)
    ∧ (∃ (θ : Int) (s : State),
      s.ast.mode = 2
        ∧ s.ast.secondsArmed = true)
    ∧ (∃ (s : State),
      s.ast.servoStopped = true)
    ∧ (∃ (s : State),
      s.ast.servoStopped = false
        ∧ s.ast.st = .locked)
    ∧ (∃ (s : State),
      s.ast.servoStopped = false
        ∧ s.ast.st ≠ .locked)
    ∧ (∃ (s : State),
      s.ast.st = .holdover)
    ∧ (∃ (s : State),
      s.ast.st = .unqualified) :=
  ⟨⟨7, { up with ast := { up.ast with mode := 1 } }, by decide⟩,
   ⟨7, up, by decide⟩,
   ⟨.ptpMessage (.sync 7), 7, 7, 25, { ta .holdover with ast := { (ta .holdover).ast with lockCount := 7 } }, by decide, (by decide)⟩,
   ⟨7, { ta .locked with ast := { (ta .locked).ast with servoStopped := true } }, by decide, by decide⟩,
   ⟨7, { ta .locked with ast := { (ta .locked).ast with mode := 2, secondsArmed := true, seconds := 188, ppsDelay := 100 } }, by decide, by decide⟩,
   ⟨{ ta .locked with ast := { (ta .locked).ast with servoStopped := true } }, by decide⟩,
   ⟨ta .locked, by decide, by decide⟩,
   ⟨ta .unqualified, by decide, by decide⟩,
   ⟨ta .holdover, by decide⟩,
   ⟨ta .unqualified, by decide⟩⟩

theorem wit_TimeStepsAndMasters :
    (∃ (m : Nat) (s : State),
      ((s.ast.jumpHeld = true ∨ s.ast.everLocked = false))
        ∧ s.livePassage = none)
    ∧ (∃ (m : Nat) (s : State),
      ((s.ast.jumpHeld = false ∧ s.ast.everLocked = true ∨ s.livePassage ≠ none)))
    ∧ (∃ (s : State),
      s.ast.acquiring = true
        ∧ s.topo.strapState = 0)
    ∧ (∃ (s : State),
      s.ast.acquiring = true
        ∧ s.topo.strapState ≠ 0)
    ∧ (∃ (s : State),
      s.ast.acquiring = false) :=
  ⟨⟨5000, wla (wg { wtr (ta .locked) (tr 1 0) with ast := { (wtr (ta .locked) (tr 1 0)).ast with jumpHeld := true, slewLeft := 5 } } 1 { GPort.reset 1 with role := 2, st := 2 }) 1 { Laser.reset with st := 2, gate := true }, by decide, by decide⟩,
   ⟨5000, ta .locked, by decide⟩,
   ⟨{ sf with mod := .starting, ast := { (ta .holdover).ast with acquiring := true }, topo := { sf.topo with strapState := 0 } }, by decide, by decide⟩,
   ⟨{ sf with mod := .starting, ast := { (ta .holdover).ast with acquiring := true }, topo := { sf.topo with strapState := 1 } }, by decide, by decide⟩,
   ⟨up, by decide⟩⟩

theorem wit_TimeCommands :
    (∃ (r : Req) (s : State),
      accepts 0x0701 r s = true
        ∧ r.z 16 = true)
    ∧ (∃ (r : Req) (s : State),
      accepts 0x0702 r s = true
        ∧ r.z 16 = true
        ∧ s.ast.source < 4)
    ∧ (∃ (r : Req) (s : State),
      accepts 0x0703 r s = true
        ∧ r.p 16 1 ≤ 2
        ∧ r.p 17 1 ≤ 2
        ∧ r.p 18 1 ≤ 127
        ∧ r.p 19 1 < 2
        ∧ -100000 ≤ ofTwos 32 (r.p 20 4)
        ∧ ofTwos 32 (r.p 20 4) ≤ 100000
        ∧ ((r.p 16 1 = 2 ∨ r.p 24 6 = 0))
        ∧ r.z 30 = true)
    ∧ (∃ (r : Req) (s : State),
      accepts 0x0703 r s = true
        ∧ r.p 16 1 ≤ 2
        ∧ r.p 17 1 ≤ 2
        ∧ r.p 18 1 ≤ 127
        ∧ 2 ≤ r.p 19 1
        ∧ r.p 19 1 < 4
        ∧ -100000 ≤ ofTwos 32 (r.p 20 4)
        ∧ ofTwos 32 (r.p 20 4) ≤ 100000
        ∧ ((r.p 16 1 = 2 ∨ r.p 24 6 = 0))
        ∧ r.z 30 = true
        ∧ ((s.ast.master = 0 ∨ s.ast.measured = false))) :=
  ⟨⟨rp 0 [], ta .locked, by decide, by decide⟩,
   ⟨rp 0 [], { ta .locked with ast := { (ta .locked).ast with source := 2, tenMhz := true, slewLeft := -3, offset := -77, pathDelay := 90 } }, by decide, by decide, by decide⟩,
   ⟨rp 0 [(16, 1, 2), (17, 1, 1), (18, 1, 127), (19, 1, 1), (20, 4, 0xFFFFFFF6), (24, 6, 1000)], ta .locked, by decide, by decide, by decide, by decide, by decide, by decide, by decide, by decide, by decide⟩,
   ⟨rp 0 [(19, 1, 2)], ta .locked, by decide, by decide, by decide, by decide, by decide, by decide, by decide, by decide, by decide, by decide, by decide⟩⟩

theorem wit_Triggers :
    (∃ (r : Req) (k : Nat) (s : State),
      accepts 0x0704 r s = true
        ∧ r.p 16 1 ≤ 15
        ∧ r.p 17 1 = k
        ∧ ((k = 1 ∨ k = 2))
        ∧ ((k = 2 → s.hasRegion (r.p 18 1) = true))
        ∧ ((k = 1 → r.p 18 1 = 0))
        ∧ zeroAt r.inl 3 1 = true
        ∧ r.p 26 4 ≤ 999999999
        ∧ zeroAt r.inl 14 2 = true
        ∧ r.z 44 = true
        ∧ ((r.p 32 8 = 0 ∧ r.p 40 4 = 1 ∨ k = 1 ∧ 10000 ≤ r.p 32 8 ∧ r.p 32 8 ≤ 1000000000000 ∨ k = 2 ∧ 1000000 ≤ r.p 32 8 ∧ r.p 32 8 ≤ 3600000000000))
        ∧ s.ns ≤ r.p 20 6 * 1000000000 + r.p 26 4)
    ∧ (∃ (i : Fin 16) (s : State),
      (s.trig i).kind = 1
        ∧ (s.trig i).active = true
        ∧ s.bnc.lastLatch ≠ some (s.advanceTo (s.trig i).nextAt).time16)
    ∧ (∃ (i : Fin 16) (s : State),
      (s.trig i).kind = 2
        ∧ (s.trig i).active = true
        ∧ (s.region (s.trig i).region).running = false
        ∧ s.paused = false
        ∧ (s.region (s.trig i).region).hold = false)
    ∧ (∃ (i : Fin 16) (s : State),
      (s.trig i).kind = 2
        ∧ (s.trig i).active = true
        ∧ (((s.region (s.trig i).region).running = true ∨ s.paused = true))) :=
  ⟨⟨rp 0 [(16, 1, 3), (17, 1, 2), (18, 1, 5), (20, 6, 200), (26, 4, 5), (32, 8, 1000000), (40, 4, 9)], 2, ta .locked, by decide, by decide, by decide, by decide, by decide, by decide, by decide, by decide, by decide, by decide, by decide, by decide⟩,
   ⟨3, { wtr (ta .locked) (tr 1 0) with bnc := { up.bnc with ctr := [(7, ⟨5, 1, true, false, 0, 99⟩)] } }, by decide, by decide, by decide⟩,
   ⟨3, wtr (ta .locked) (tr 2 5), by decide, by decide, by decide, by decide, by decide⟩,
   ⟨3, pz (wtr (ta .locked) (tr 2 5)), by decide, by decide, by decide⟩⟩

theorem wit_CountersAndSnapshots :
    (∃ (r : Req) (n : Nat) (s : State),
      accepts 0x0801 r s = true
        ∧ n = r.b 0 2
        ∧ 1 ≤ n
        ∧ n ≤ 8192
        ∧ zeroAt r.params 2 6 = true
        ∧ r.b 8 8 = 0
        ∧ ((∀ i, i < n → (ctrEntry r.params i).counter < 8192 ∧ (ctrEntry r.params i).action ≤ 1 ∧ zeroAt r.params (22 + 16 * i) 2 = true ∧ zeroAt r.params (28 + 16 * i) 4 = true ∧ (∀ j, j < i → (ctrEntry r.params j).counter ≠ (ctrEntry r.params i).counter) ∧ (ctrEntry r.params i).source < 4096 ∧ ((ctrEntry r.params i).action = 0 → srcDefined (ctrEntry r.params i).source = true ∧ (ctrEntry r.params i).owner = 0 ∧ (ctrEntry r.params i).inst ≤ srcMax (ctrEntry r.params i).source))))
    ∧ (∃ (r : Req) (s : State),
      accepts 0x0802 r s = true
        ∧ r.z 16 = true
        ∧ ((∀ a, s.bnc.lastLatch = some a → a + 10000 * 2 ^ 16 ≤ s.time16)))
    ∧ (∃ (x : Snap) (rest : List Snap) (s : State),
      s.bnc.latched = x :: rest
        ∧ s.bnc.snaps.length < 2048
        ∧ ((∀ e ∈ s.hif.execs, e.wait ≠ .snapshot x.time16)))
    ∧ (∃ (x : Snap) (rest : List Snap) (e : Exec) (s : State),
      s.bnc.latched = x :: rest
        ∧ s.hif.execs.filter (fun e => e.wait == .snapshot x.time16) = [e]
        ∧ e.discard = false
        ∧ e.dma = .ok
        ∧ (s.ring e.fn e.ring).st ≠ .disabled)
    ∧ (∃ (s : State),
      s.bnc.latched = []) :=
  ⟨⟨rb 0 48 [(0, 2, 2), (16, 2, 7), (18, 2, 0xC11), (20, 1, 0), (32, 2, 9), (36, 1, 0), (37, 1, 1)], 2, { up with bnc := { up.bnc with ctr := [(7, ⟨5, 1, true, false, 0, 99⟩), (9, ⟨0xC10, 0, true, false, 0, 3⟩)], lastLatch := none } }, by decide, by decide, by decide, by decide, by decide, by decide, (fun i h => by have : i = 0 ∨ i = 1 := (by omega); rcases this with rfl | rfl <;> decide)⟩,
   ⟨rp 0 [], { up with bnc := { up.bnc with ctr := [(7, ⟨5, 1, true, false, 0, 99⟩), (9, ⟨0xC10, 0, true, false, 0, 3⟩)], lastLatch := none } }, by decide, by decide, (fun a h => nomatch h)⟩,
   ⟨⟨0, 6553600000, 0, 0, [], false⟩, [], { up with bnc := { up.bnc with latched := [⟨0, 6553600000, 0, 0, [], false⟩] } }, by decide, by decide, (fun e he => nomatch he)⟩,
   ⟨⟨0, 6553600000, 0, 0, [], false⟩, [], ex (.snapshot 6553600000), { upx (.snapshot 6553600000) with bnc := { up.bnc with latched := [⟨0, 6553600000, 0, 0, [], false⟩] } }, by decide, by decide, by decide, by decide, by decide⟩,
   ⟨up, by decide⟩⟩

theorem wit_TraceRing :
    (∃ (r : Req) (mode : Nat) (mib : Nat) (post : Nat) (s : State),
      accepts 0x0803 r s = true
        ∧ mode = r.b 0 1
        ∧ mode ≤ 2
        ∧ mib = (if r.b 2 2 = 0 then 512 else r.b 2 2)
        ∧ post = r.b 28 4
        ∧ zeroAt r.params 1 1 = true
        ∧ 64 ≤ mib
        ∧ mib ≤ 8192
        ∧ mib % 64 = 0
        ∧ r.b 4 2 % 2 = 0
        ∧ r.b 4 2 < 256
        ∧ zeroAt r.params 6 2 = true
        ∧ r.b 16 4 ≤ 1000000
        ∧ ((r.b 20 4 = 0 ∨ 1000 ≤ r.b 20 4 ∧ r.b 20 4 ≤ 1000000000))
        ∧ ((mode = 2 ∧ 1 ≤ post ∧ post + 1024 ≤ mainCap mib ∨ mode ≠ 2 ∧ post = 0))
        ∧ zeroAt r.params 32 32 = true
        ∧ ((s.bnc.trace.st = 0 ∨ s.bnc.trace.st = 3))
        ∧ snapArea + mib * 2 ^ 20 + s.hbmQuotas ≤ s.hbmBytes)
    ∧ (∃ (r : Req) (s : State),
      accepts 0x0804 r s = true
        ∧ r.p 16 1 ≤ 5
        ∧ r.p 18 1 < 64
        ∧ zeroAt r.inl 3 5 = true
        ∧ r.z 32 = true
        ∧ ((s.bnc.trace.st = 0 ∨ s.bnc.trace.st = 3)))
    ∧ (∃ (r : Req) (s : State),
      accepts 0x0804 r s = true
        ∧ r.p 16 1 ≤ 5
        ∧ r.p 18 1 < 64
        ∧ zeroAt r.inl 3 5 = true
        ∧ r.z 32 = true
        ∧ ((s.bnc.trace.st = 1 ∨ s.bnc.trace.st = 2)))
    ∧ (∃ (typ : Fin 16) (n : Fin 64) (d : Fin 13) (stretch : Bool) (body : Bytes) (s : State),
      ((s.bnc.trace.st = 1 ∨ s.bnc.trace.st = 2))
        ∧ s.bnc.trace.wants typ n = true
        ∧ stageDrops s.bnc.trace.stage.length typ = false
        ∧ 3 ≤ typ.val
        ∧ typ.val ≤ 13)
    ∧ (∃ (typ : Fin 16) (n : Fin 64) (d : Fin 13) (stretch : Bool) (body : Bytes) (s : State),
      ((s.bnc.trace.st = 1 ∨ s.bnc.trace.st = 2))
        ∧ s.bnc.trace.wants typ n = true
        ∧ stageDrops s.bnc.trace.stage.length typ = true
        ∧ 3 ≤ typ.val
        ∧ typ.val ≤ 13)
    ∧ (∃ (seq : Nat) (s : State),
      s.bnc.trace.st = 1
        ∧ s.bnc.trace.trigKind ≠ 0)
    ∧ (∃ (seq : Nat) (s : State),
      ((s.bnc.trace.st ≠ 1 ∨ s.bnc.trace.trigKind = 0)))
    ∧ (∃ (s : State),
      ((s.bnc.trace.st = 1 ∧ s.bnc.trace.mode = 1 ∧ s.bnc.trace.stage ≠ [] ∧ mainCap s.bnc.trace.ringMib ≤ s.bnc.trace.main.length ∨ s.bnc.trace.st = 2 ∧ s.bnc.trace.postRecords ≤ s.bnc.trace.post.length)))
    ∧ (∃ (s : State),
      s.bnc.trace.st = 1
        ∧ s.bnc.trace.mode ≠ 1)
    ∧ (∃ (n : Nat) (s : State),
      s.bnc.trace.dropCount = 0)
    ∧ (∃ (r : Req) (s : State),
      accepts 0x0805 r s = true
        ∧ r.z 16 = true
        ∧ ((s.bnc.trace.st = 1 ∨ s.bnc.trace.st = 2)))
    ∧ (∃ (r : Req) (s : State),
      accepts 0x0806 r s = true
        ∧ r.p 20 4 ≤ 32768
        ∧ r.p 24 8 % 32 = 0
        ∧ r.z 32 = true
        ∧ s.bnc.trace.st = 3
        ∧ r.p 16 4 + r.p 20 4 ≤ s.bnc.trace.held.length
        ∧ ((r.p 20 4 = 0 ∨ r.p 24 8 ≠ 0))) :=
  ⟨⟨rb 0 64 [(0, 1, 2), (2, 2, 64), (4, 2, 0xFE), (8, 8, 3), (16, 4, 5), (20, 4, 1000), (24, 4, 7), (28, 4, 100)], 2, 64, 100, { up with hif := { up.hif with linkUp := true } }, by decide, by decide, by decide, by decide, by decide, by decide, by decide, by decide, by decide, by decide, by decide, by decide, by decide, by decide, by decide, by decide, by decide, by decide⟩,
   ⟨rp 0 [(16, 1, 5), (17, 1, 3), (18, 1, 7), (24, 8, 9)], wtc up { tar with st := 3, stage := [rc 3 1], drops := [(3, 1)] }, by decide, by decide, by decide, by decide, by decide, by decide⟩,
   ⟨rp 0 [(16, 1, 5)], wtc up tar, by decide, by decide, by decide, by decide, by decide, by decide⟩,
   ⟨3, 0, 2, false, [1, 2], wtc up tar, by decide, by decide, by decide, by decide, by decide⟩,
   ⟨3, 0, 2, false, [1, 2], wtc up { tar with stage := List.replicate 65536 (rc 3 1) }, by decide, by decide, (by show stageDrops (List.replicate 65536 (rc 3 1)).length 3 = true; rw [List.length_replicate]; decide), by decide, by decide⟩,
   ⟨77, wtc up { tar with mode := 2 }, by decide, by decide⟩,
   ⟨77, up, by decide⟩,
   ⟨wtc up { tar with st := 2, mode := 2, postRecords := 1, post := [rc 3 9] }, by decide⟩,
   ⟨wtc up tar, by decide, by decide⟩,
   ⟨1, wtc up { tar with stage := [rc 3 1, rc 4 2] }, by decide⟩,
   ⟨rp 0 [], wtc up { tar with main := [rc 3 1, rc 4 2], stage := [rc 5 3] }, by decide, by decide, by decide⟩,
   ⟨rp 0 [(16, 4, 1), (20, 4, 2), (24, 8, 4096)], wtc up { tar with st := 3, main := [rc 3 1, rc 4 2, rc 6 9], dropCount := 0 }, by decide, by decide, by decide, by decide, by decide, by decide, by decide⟩⟩

theorem wit_CoreStepping :
    (∃ (r : Req) (k : Nat) (s : State),
      accepts 0x0B05 r s = true
        ∧ 1 ≤ r.p 16 1
        ∧ r.p 16 1 ≤ 31
        ∧ r.p 17 1 ≤ 3
        ∧ k = r.p 18 1
        ∧ k ≤ 3
        ∧ zeroAt r.inl 3 5 = true
        ∧ ((k = 0 → r.p 24 8 = 0))
        ∧ ((k = 1 → r.p 24 8 % 4 = 0))
        ∧ ((2 ≤ k → r.p 24 8 % 8 = 0))
        ∧ r.z 32 = true)
    ∧ (∃ (r : Req) (s : State),
      accepts 0x0B05 r s = true
        ∧ 1 ≤ r.p 16 1
        ∧ r.p 16 1 ≤ 31
        ∧ r.p 17 1 ≤ 3
        ∧ r.p 18 1 = 4
        ∧ zeroAt r.inl 3 5 = true
        ∧ r.p 24 8 = 0
        ∧ r.z 32 = true
        ∧ s.coreHalted (r.p 16 1) = false)
    ∧ (∃ (core : Fin 32) (i : Fin 4) (pc : Nat) (kind : Nat) (addr : Nat) (s : State),
      (s.core core).bps.find i = some (kind, addr)
        ∧ s.mod = .maintenance
        ∧ core.val ≠ 0
        ∧ (s.core core).st = 0)
    ∧ (∃ (core : Fin 32) (i : Fin 4) (pc : Nat) (s : State),
      (((s.core core).bps.find i = none ∨ s.mod ≠ .maintenance ∨ core.val = 0 ∨ (s.core core).st ≠ 0)))
    ∧ (∃ (r : Req) (s : State),
      accepts 0x0B06 r s = true
        ∧ 1 ≤ r.p 16 1
        ∧ r.p 16 1 ≤ 31
        ∧ r.p 17 1 ≤ 1
        ∧ r.z 18 = true
        ∧ s.coreHalted (r.p 16 1) = true)
    ∧ (∃ (r : Req) (s : State),
      accepts 0x0B06 r s = true
        ∧ 1 ≤ r.p 16 1
        ∧ r.p 16 1 ≤ 31
        ∧ r.p 17 1 ≤ 1
        ∧ r.z 18 = true
        ∧ s.coreHalted (r.p 16 1) = false) :=
  ⟨⟨rp 0 [(16, 1, 4), (17, 1, 1), (18, 1, 2), (24, 8, 4096)], 2, wco mnt 4 { st := 0, bpHit := 0, bps := [(1, (1, 64)), (2, (2, 8))], pc := 0 }, by decide, by decide, by decide, by decide, by decide, by decide, by decide, by decide, by decide, by decide, by decide⟩,
   ⟨rp 0 [(16, 1, 4), (18, 1, 4)], mnt, by decide, by decide, by decide, by decide, by decide, by decide, by decide, by decide, by decide⟩,
   ⟨4, 2, 1000, 2, 8, wco mnt 4 { st := 0, bpHit := 0, bps := [(1, (1, 64)), (2, (2, 8))], pc := 0 }, by decide, by decide, by decide, by decide⟩,
   ⟨4, 0, 1000, wco mnt 4 { st := 0, bpHit := 0, bps := [(1, (1, 64)), (2, (2, 8))], pc := 0 }, by decide⟩,
   ⟨rp 0 [(16, 1, 4), (17, 1, 1)], wco mnt 4 { st := 1, bpHit := 2, bps := [(1, (1, 64)), (2, (2, 8))], pc := 1000 }, by decide, by decide, by decide, by decide, by decide, by decide⟩,
   ⟨rp 0 [(16, 1, 4)], mnt, by decide, by decide, by decide, by decide, by decide, by decide⟩⟩

theorem wit_LoglineRecorder :
    (∃ (sev : Fin 7) (n : Fin 64) (event : Nat) (agent : Nat) (args : List Nat) (s : State),
      ((sev.val ≠ 0 ∨ s.mod = .maintenance)))
    ∧ (∃ (n : Fin 64) (event : Nat) (agent : Nat) (args : List Nat) (s : State),
      s.mod ≠ .maintenance)
    ∧ (∃ (ok : Bool) (s : State),
      s.log.jqueue = [])
    ∧ (∃ (e : LogEntry) (tries : Nat) (rest : List (LogEntry × Nat)) (s : State),
      s.log.jqueue = (e, tries) :: rest
        ∧ s.log.journal.length < 262144)
    ∧ (∃ (e : LogEntry) (rest : List (LogEntry × Nat)) (s : State),
      s.log.jqueue = (e, 0) :: rest)
    ∧ (∃ (e : LogEntry) (rest : List (LogEntry × Nat)) (s : State),
      s.log.jqueue = (e, 1) :: rest)
    ∧ (∃ (addr : Nat) (s : State),
      s.log.mode < 2)
    ∧ (∃ (addr : Nat) (s : State),
      s.log.mode = 2)
    ∧ (∃ (r : Req) (want : List LogEntry) (s : State),
      accepts 0x0901 r s = true
        ∧ r.b 0 1 = 0
        ∧ r.b 1 1 ≤ 6
        ∧ zeroAt r.params 2 2 = true
        ∧ 64 ≤ r.b 8 4
        ∧ r.b 8 4 ≤ 1048576
        ∧ r.b 8 4 % 64 = 0
        ∧ zeroAt r.params 12 4 = true
        ∧ r.b 16 8 % 64 = 0
        ∧ zeroAt r.params 24 8 = true
        ∧ want = (s.log.entries.filter (fun e => decide (r.b 4 4 ≤ e.seq) && decide (r.b 1 1 ≤ e.sev))).take (r.b 8 4 / 64)
        ∧ want ≠ [])
    ∧ (∃ (r : Req) (s : State),
      accepts 0x0902 r s = true
        ∧ r.z 16 = true) :=
  ⟨⟨3, 1, 0x1234, 7, [1, 2, 3, 4, 5], wlg up { Log.reset with entries := [le_ 3 2], seq := 4, created := 4 }, by decide⟩,
   ⟨1, 5, 7, [1], up, by decide⟩,
   ⟨true, up, by decide⟩,
   ⟨le_ 4 5, 0, [(le_ 5 5, 0)], wlg up { Log.reset with entries := [le_ 3 2, le_ 4 5], seq := 5, journal := [le_ 1 6], jqueue := [(le_ 4 5, 0), (le_ 5 5, 0)] }, by decide, by decide⟩,
   ⟨le_ 4 5, [(le_ 5 5, 0)], wlg up { Log.reset with entries := [le_ 3 2, le_ 4 5], seq := 5, journal := [le_ 1 6], jqueue := [(le_ 4 5, 0), (le_ 5 5, 0)] }, by decide⟩,
   ⟨le_ 4 5, [(le_ 5 5, 0)], wlg up { Log.reset with entries := [le_ 3 2, le_ 4 5], seq := 5, journal := [le_ 1 6], jqueue := [(le_ 4 5, 1), (le_ 5 5, 0)] }, by decide⟩,
   ⟨5, wlg up { Log.reset with entries := [le_ 3 2, le_ 4 5], seq := 5, journal := [le_ 1 6], jqueue := [(le_ 4 5, 1), (le_ 5 5, 0)] }, by decide⟩,
   ⟨5, wlg up { Log.reset with mode := 2, entries := [le_ 3 2] }, by decide⟩,
   ⟨rb 0 32 [(1, 1, 2), (4, 4, 4), (8, 4, 64), (16, 8, 4096)], [le_ 4 5], wlg up { Log.reset with entries := [le_ 3 2, le_ 4 5, le_ 5 6], created := 6 }, by decide, by decide, by decide, by decide, by decide, by decide, by decide, by decide, by decide, by decide, by decide, by decide⟩,
   ⟨rp 0 [], up, by decide, by decide⟩⟩

theorem wit_CalibrationRuns :
    (∃ (g : Fin 32) (temp : Int) (s : State),
      s.hasRegion g = true)
    ∧ (∃ (g : Fin 32) (temp : Int) (s : State),
      s.hasRegion g = false)
    ∧ (∃ (g : Fin 32) (a : Nat) (s : State),
      (s.region g).rerunAt = some a
        ∧ s.calPaused = false
        ∧ s.hasRegion g = true
        ∧ (s.region g).running = false)
    ∧ (∃ (g : Fin 32) (s : State),
      (((s.region g).rerunAt = none ∨ s.calPaused = true)))
    ∧ (∃ (l : Fin 72) (s : State),
      s.calPaused = false
        ∧ s.needsPass l = true
        ∧ s.takeOf l = none
        ∧ s.darkWindow l = true)
    ∧ (∃ (l : Fin 72) (k : Take) (s : State),
      s.calPaused = false
        ∧ s.needsPass l = true
        ∧ s.takeOf l = some k
        ∧ (s.standingPorts k.slice).contains k.port = true
        ∧ (s.region (regionOf l)).passes.get l 0 = 1)
    ∧ (∃ (l : Fin 72) (cut : Bool) (s : State),
      ((s.calPaused = true ∨ s.needsPass l = false)))
    ∧ (∃ (l : Fin 72) (p : Nat) (n : Nat) (due : Nat) (s : State),
      s.servedBy l = some p
        ∧ n = s.owner (refG p)
        ∧ n ≠ 0
        ∧ s.calPaused = false
        ∧ s.needsPass l = true
        ∧ ((∀ k ∈ s.sxt.takes, k.laser ≠ l.val))
        ∧ s.darkWindow l = false
        ∧ s.passagesOf n = []
        ∧ due = (s.region (regionOf l)).started + (s.region (regionOf l)).deadline * 1000000000)
    ∧ (∃ (l : Fin 72) (s : State),
      ((s.servedBy l = none ∨ s.calPaused = true ∨ s.needsPass l = false ∨ s.darkWindow l = true)))
    ∧ (∃ (g : Fin 32) (tables : List (Nat × Bool)) (temp : Int) (moved : Nat) (s : State),
      s.hasRegion g = true
        ∧ s.calPaused = false
        ∧ (s.region g).running = true
        ∧ (s.region g).sweep = false
        ∧ (lasersOf g).any s.needsPass = false
        ∧ moved ≤ 50
        ∧ ((∀ τ ∈ tablesOf g, (τ, true) ∈ tables)))
    ∧ (∃ (g : Fin 32) (tables : List (Nat × Bool)) (temp : Int) (moved : Nat) (s : State),
      s.hasRegion g = true
        ∧ s.calPaused = false
        ∧ (s.region g).running = true
        ∧ (lasersOf g).any s.needsPass = false
        ∧ 50 < moved)
    ∧ (∃ (g : Fin 32) (tables : List (Nat × Bool)) (temp : Int) (moved : Nat) (a : Nat) (j : Nat) (e : Exec) (s : State),
      s.hasRegion g = true
        ∧ s.calPaused = false
        ∧ (s.region g).running = true
        ∧ (lasersOf g).any s.needsPass = false
        ∧ 50 < moved
        ∧ s.hif.execs = [e]
        ∧ e.wait = .calRun [g.val] a j
        ∧ e.discard = false
        ∧ e.dma = .ok
        ∧ (s.ring e.fn e.ring).st ≠ .disabled)
    ∧ (∃ (r : Req) (rs : List Nat) (s : State),
      accepts 0x0602 r s = true
        ∧ ((r.p 16 1 = 0xFF ∨ s.hasRegion (r.p 16 1) = true))
        ∧ r.p 17 1 ≤ 1
        ∧ r.z 18 = true
        ∧ rs = (if r.p 16 1 = 0xFF then s.regions else [r.p 16 1])
        ∧ ((∀ x ∈ rs, (s.region x).hold = false ∧ (s.region x).running = false)))
    ∧ (∃ (r : Req) (s : State),
      accepts 0x0602 r s = true
        ∧ s.hasRegion (r.p 16 1) = true
        ∧ r.p 16 1 ≠ 0xFF
        ∧ r.p 17 1 ≤ 1
        ∧ r.z 18 = true
        ∧ (s.region (r.p 16 1)).hold = false
        ∧ (s.region (r.p 16 1)).running = true) :=
  ⟨⟨2, 2701, wr_ (ta .locked) 2 { Region.reset with tempRun := 2500 }, by decide⟩,
   ⟨0, 2300, up, by decide⟩,
   ⟨2, 200000000000, wr_ (ta .locked) 2 { Region.reset with rerunAt := some 200000000000 }, by decide, by decide, by decide, by decide⟩,
   ⟨2, up, by decide⟩,
   ⟨10, wr_ (ta .locked) 6 rr, by decide, by decide, by decide, by decide⟩,
   ⟨1, ⟨5, 1, 1, 1, 0, none, true⟩, { wr_ (gfr sf) 5 { rr with passes := [(1, 1)] } with sxt := { (wr_ sf 5 { rr with passes := [(1, 1)] }).sxt with takes := [⟨5, 1, 1, 1, 0, none, true⟩] } }, by decide, by decide, by decide, by decide, by decide⟩,
   ⟨1, false, up, by decide⟩,
   ⟨1, 1, 1, 10000000100, { wr_ sf 5 rr with ast := (ta .locked).ast, col := { sf.col with laser := [(1, { Laser.reset with gate := true })] } }, by decide, by decide, by decide, by decide, by decide, (fun k hk => nomatch hk), by decide, by decide, by decide⟩,
   ⟨1, up, by decide⟩,
   ⟨2, [(5, true), (6, true), (7, true), (8, true)], 2600, 50, { wr_ (ta .locked) 2 { rr with bad := 2 } with sxt := { (wr_ (ta .locked) 2 { rr with bad := 2 }).sxt with store := [(storeKey 2 5 0, cr 8)] } }, by decide, by decide, by decide, by decide, by decide, by decide, by decide⟩,
   ⟨2, [(5, true), (6, true), (7, true), (8, true)], 2600, 51, wr_ (ta .locked) 2 { rr with bad := 2 }, by decide, by decide, by decide, by decide, by decide⟩,
   ⟨2, [(5, true), (6, true), (7, true), (8, true)], 2600, 51, 3, 1, ex (.calRun [2] 3 1), { wr_ (upx (.calRun [2] 3 1)) 2 rr with ast := (ta .locked).ast }, by decide, by decide, by decide, by decide, by decide, by decide, by decide, by decide, by decide, by decide⟩,
   ⟨rp 0 [(16, 1, 0xFF), (17, 1, 1)], up.regions, up, by decide, by decide, by decide, by decide, (by decide), by decide⟩,
   ⟨rp 0 [(16, 1, 2)], wr_ (ta .locked) 2 rr, by decide, by decide, by decide, by decide, by decide, by decide, by decide⟩⟩

theorem wit_CalibrationStore :
    (∃ (g : Fin 32) (τ : Fin 16) (c : CalRec) (s : State),
      (s.region g).pending.find τ = some c
        ∧ s.paused = false)
    ∧ (∃ (g : Fin 32) (τ : Fin 16) (s : State),
      (((s.region g).pending.find τ = none ∨ s.paused = true)))
    ∧ (∃ (g : Fin 32) (τ : Fin 16) (c : CalRec) (n : Nat) (a : Nat) (s : State),
      s.sxt.writes.find (tableKey g τ) = some (c, n, a))
    ∧ (∃ (g : Fin 32) (τ : Fin 16) (c : CalRec) (a : Nat) (s : State),
      s.sxt.writes.find (tableKey g τ) = some (c, 0, a))
    ∧ (∃ (g : Fin 32) (τ : Fin 16) (c : CalRec) (n : Nat) (a : Nat) (s : State),
      s.sxt.writes.find (tableKey g τ) = some (c, n, a)
        ∧ n ≠ 0)
    ∧ (∃ (g : Fin 32) (τ : Fin 16) (ok : Bool) (s : State),
      s.sxt.writes.find (tableKey g τ) = none)
    ∧ (∃ (r : Req) (τ : Nat) (g : Nat) (copy : Nat) (first : Nat) (n : Nat) (c : CalRec) (s : State),
      accepts 0x0601 r s = true
        ∧ τ = r.b 0 1
        ∧ g = r.b 1 1
        ∧ copy = r.b 2 1
        ∧ first = r.b 4 4
        ∧ n = r.b 8 4
        ∧ 1 ≤ τ
        ∧ τ ≤ 8
        ∧ s.hasRegion g = true
        ∧ τ ∈ tablesOf g
        ∧ copy ≤ 3
        ∧ zeroAt r.params 3 1 = true
        ∧ first < entriesOf g τ
        ∧ 1 ≤ n
        ∧ n ≤ 131072
        ∧ first + n ≤ entriesOf g τ
        ∧ 32 + n * entryBytes τ ≤ r.b 12 4
        ∧ r.b 16 8 % 32 = 0
        ∧ zeroAt r.params 24 8 = true
        ∧ s.calCopy g τ copy = some c)
    ∧ (∃ (r : Req) (rs : List Nat) (s : State),
      accepts 0x0603 r s = true
        ∧ ((r.p 16 1 = 0xFF ∨ s.hasRegion (r.p 16 1) = true))
        ∧ ((r.p 17 1 = 0 ∨ 5 ≤ r.p 17 1 ∧ r.p 17 1 ≤ 100))
        ∧ ((r.p 18 2 = 0 ∨ 1 ≤ r.p 18 2 ∧ r.p 18 2 ≤ 600))
        ∧ r.p 20 1 ≤ 3
        ∧ r.z 21 = true
        ∧ rs = (if r.p 16 1 = 0xFF then s.regions else [r.p 16 1]))
    ∧ (∃ (r : Req) (x : Region) (s : State),
      accepts 0x0604 r s = true
        ∧ s.hasRegion (r.p 16 1) = true
        ∧ r.z 17 = true
        ∧ x = s.region (r.p 16 1)
        ∧ x.deltaT < 256
        ∧ x.deadline < 65536) :=
  ⟨⟨2, 5, cr 9, wr_ (ta .locked) 2 { Region.reset with pending := [(5, cr 9), (6, cr 8)] }, by decide, by decide⟩,
   ⟨2, 5, up, by decide⟩,
   ⟨2, 5, cr 9, 1, 187000000000, ww (ta .locked) 1, by decide⟩,
   ⟨2, 5, cr 9, 187000000000, ww (ta .locked) 0, by decide⟩,
   ⟨2, 5, cr 9, 1, 187000000000, ww (ta .locked) 1, by decide, by decide⟩,
   ⟨2, 5, true, up, by decide⟩,
   ⟨rb 0 32 [(0, 1, 5), (1, 1, 2), (2, 1, 1), (4, 4, 250), (8, 4, 6), (12, 4, 56), (16, 8, 4096)], 5, 2, 1, 250, 6, cr 8, ww (ta .locked) 1, by decide, by decide, by decide, by decide, by decide, by decide, by decide, by decide, by decide, by decide, by decide, by decide, by decide, by decide, by decide, by decide, by decide, by decide, by decide, by decide⟩,
   ⟨rp 0 [(16, 1, 0xFF), (17, 1, 5), (18, 2, 600), (20, 1, 3)], (wr_ (ta .locked) 2 rr).regions, wr_ (ta .locked) 2 rr, by decide, by decide, by decide, by decide, by decide, by decide, by decide⟩,
   ⟨rp 0 [(16, 1, 2)], { rr with rejTotal := 70000, lastS := 99 }, wr_ (ta .locked) 2 { rr with rejTotal := 70000, lastS := 99 }, by decide, by decide, by decide, by decide, by decide, by decide⟩⟩

theorem wit_ThermalLoops :
    (∃ (e : Fin 4) (errs : List Int) (s : State),
      s.gfRuns e = true
        ∧ e.val < s.fuse.ioDies)
    ∧ (∃ (e : Fin 4) (errs : List Int) (s : State),
      ((s.gfRuns e = false ∨ s.fuse.ioDies ≤ e.val)))
    ∧ (∃ (s : State),
      s.sxt.stale = false)
    ∧ (∃ (s : State),
      s.sxt.stale = true)
    ∧ (∃ (p : Fin 256) (s : State),
      s.lpLive p = true
        ∧ (s.lp p).ringHold = none)
    ∧ (∃ (p : Fin 256) (s : State),
      ((s.lpLive p = false ∨ (s.lp p).ringHold.isSome = true))) :=
  ⟨⟨1, [500, 3, -600, 0, 400, 0, 0, 0, 1, 2, 3, -300], { gfr (ta .locked) with col := { up.col with gf := [(1, (2, []))] }, lnk := { up.lnk with port := [(64, { la .active with ringHold := some 188305000000 }), (65, { la .active with ringHold := some 100 }), (66, { la .active with ringHold := some 188305000000 })] } }, by decide, by decide⟩,
   ⟨1, [], up, by decide⟩,
   ⟨ta .locked, by decide⟩,
   ⟨{ up with sxt := { up.sxt with stale := true } }, by decide⟩,
   ⟨65, ta .locked, by decide, by decide⟩,
   ⟨65, { up with boot.power := false }, by decide⟩⟩

theorem wit_ColdStarts :
    (∃ (c : ColdStart) (i : Img) (s : State),
      c.loaderOk = true
        ∧ c.slotOk = (true, true)
        ∧ s.boot.trial = false
        ∧ s.boot.slot.find s.boot.active = some i
        ∧ s.boot.fusedSv ≤ i.sv
        ∧ c.sramOk = true
        ∧ c.badCores = [])
    ∧ (∃ (c : ColdStart) (i : Img) (s : State),
      c.loaderOk = true
        ∧ c.slotOk = (true, true)
        ∧ s.boot.trial = true
        ∧ 1 ≤ s.boot.trialStarts
        ∧ s.boot.staging = none
        ∧ s.boot.active ≤ 1
        ∧ s.boot.slot.find (1 - s.boot.active) = some i
        ∧ s.boot.fusedSv ≤ i.sv
        ∧ c.sramOk = true
        ∧ c.badCores = [])
    ∧ (∃ (c : ColdStart) (s : State),
      c.loaderOk = true
        ∧ c.slotOk = (false, false))
    ∧ (∃ (c : ColdStart) (i : Img) (s : State),
      c.loaderOk = true
        ∧ c.slotOk = (true, true)
        ∧ s.boot.trial = false
        ∧ s.boot.slot.find s.boot.active = some i
        ∧ s.boot.fusedSv ≤ i.sv
        ∧ c.sramOk = false)
    ∧ (∃ (c : ColdStart) (s : State),
      c.loaderOk = false)
    ∧ (∃ (ms : Nat) (c : ColdStart) (s : State),
      ms < 100)
    ∧ (∃ (ms : Nat) (c : ColdStart) (s : State),
      100 ≤ ms
        ∧ s.boot.power = true) :=
  ⟨⟨cst, ⟨0, 0, 1, 1, []⟩, lk (la .active), by decide, by decide, by decide, by decide, by decide, by decide, by decide⟩,
   ⟨cst, ⟨5, 3, 1, 1, []⟩, { sf with boot := { sf.boot with active := 0, trial := true, trialStarts := 1, slot := [(0, ⟨7, 0, 1, 1, []⟩), (1, ⟨5, 3, 1, 1, []⟩)], staged := false } }, by decide, by decide, by decide, by decide, by decide, by decide, by decide, by decide, by decide, by decide⟩,
   ⟨{ cst with slotOk := (false, false) }, sf, by decide, by decide⟩,
   ⟨{ cst with sramOk := false }, ⟨0, 0, 1, 1, []⟩, sf, by decide, by decide, by decide, by decide, by decide, by decide⟩,
   ⟨{ cst with loaderOk := false }, sf, by decide⟩,
   ⟨99, cst, sf, by decide⟩,
   ⟨100, cst, sf, by decide, by decide⟩⟩

theorem wit_WarmRestartsBegin :
    (∃ (k : Fin 32) (cause : RestartCause) (s : State),
      s.alive = true
        ∧ ((s.mod = .ready ∨ s.mod = .maintenance))
        ∧ ((cause = .fault ∨ cause = .watchdog ∧ s.coreHalted k = false))
        ∧ (s.boot.unplannedAt.filter (fun (a : Nat) => decide (s.ns < a + 600000000000))).length ≤ 1
        ∧ s.boot.actWait = none
        ∧ s.boot.trial = false)
    ∧ (∃ (k : Fin 32) (s : State),
      s.alive = true
        ∧ ((s.mod = .ready ∨ s.mod = .maintenance))
        ∧ 2 ≤ (s.boot.unplannedAt.filter (fun (a : Nat) => decide (s.ns < a + 600000000000))).length
        ∧ s.boot.actWait = none)
    ∧ (∃ (k : Fin 32) (s : State),
      s.coreHalted k = true)
    ∧ (∃ (k : Fin 32) (cause : RestartCause) (s : State),
      s.mod ≠ .ready
        ∧ s.mod ≠ .maintenance)
    ∧ (∃ (k : Fin 32) (s : State),
      s.exitWait = none)
    ∧ (∃ (k : Fin 32) (e : Exec) (s : State),
      s.alive = true
        ∧ s.mod = .maintenance
        ∧ s.exitWait = some e)
    ∧ (∃ (k : Fin 32) (s : State),
      s.alive = true
        ∧ ((s.mod = .ready ∨ s.mod = .maintenance))
        ∧ s.boot.restartReq = true
        ∧ s.hif.execs = []
        ∧ s.boot.actWait = none) :=
  ⟨⟨5, .fault, wr_ (wt (we sf (ex (.calRun [2] 3 1))) 3 ⟨2, [], 0, 0, none, 0⟩) 2 rr, by decide, (.inl (by decide)), (.inl (by decide)), by decide, by decide, by decide⟩,
   ⟨5, { sfu with boot := { sfu.boot with unplannedAt := [0, 0] } }, by decide, (.inl (by decide)), by decide, by decide⟩,
   ⟨5, wco up 5 ⟨1, 2, [], 4⟩, by decide⟩,
   ⟨5, .fault, State.reset, by decide, by decide⟩,
   ⟨5, up, by decide⟩,
   ⟨5, ex (.exitRestart 3), { we mnt (ex (.exitRestart 3)) with lnk := sfu.lnk }, by decide, by decide, by decide⟩,
   ⟨0, { sfu with boot := { sfu.boot with restartReq := true } }, by decide, (.inl (by decide)), by decide, by decide, by decide⟩⟩

theorem wit_PausesEnd :
    (∃ (bad : List Nat) (s : State),
      s.boot.pause = none)
    ∧ (∃ (bad : List Nat) (p : Pause) (s : State),
      s.boot.pause = some p)
    ∧ (∃ (bad : List Nat) (p : Pause) (s : State),
      s.boot.pause = some p
        ∧ p.kind = 0
        ∧ s.hif.execs = []
        ∧ NoHeld s
        ∧ s.fm.heldG = []
        ∧ NothingReleasing s)
    ∧ (∃ (bad : List Nat) (p : Pause) (e : Exec) (n : Nat) (s : State),
      s.boot.pause = some p
        ∧ p.kind = 0
        ∧ s.hif.execs = [e]
        ∧ e.wait = .exitRestart n
        ∧ e.discard = false
        ∧ e.dma = .ok
        ∧ (s.ring e.fn e.ring).st ≠ .disabled
        ∧ NoHeld s
        ∧ s.fm.heldG = []
        ∧ NothingReleasing s)
    ∧ (∃ (p : Pause) (e : Exec) (time16 : Nat) (s : State),
      s.boot.pause = some p
        ∧ p.kind = 1
        ∧ s.hif.execs = [e]
        ∧ e.wait = .snapshot time16
        ∧ e.discard = false
        ∧ e.dma = .ok
        ∧ (s.ring e.fn e.ring).st ≠ .disabled
        ∧ NoHeld s
        ∧ s.fm.heldG = []
        ∧ NothingReleasing s) :=
  ⟨⟨[], up, by decide⟩,
   ⟨[], ⟨1, 5, 0, 0⟩, wpz sfu 1, by decide⟩,
   ⟨[4], ⟨0, 5, 0, 0⟩, wt (wpz sfu 0) 3 ⟨3, [], 0, 0, none, 77⟩, by decide, by decide, by decide, (by unfold NoHeld; decide), by decide, (nr (by decide) (by decide))⟩,
   ⟨[], ⟨0, 5, 0, 0⟩, ex (.exitRestart 3), 3, we (wpz sf 0) (ex (.exitRestart 3)), by decide, by decide, by decide, by decide, by decide, by decide, by decide, (by unfold NoHeld; decide), by decide, (nr (by decide) (by decide))⟩,
   ⟨⟨1, 5, 0, 0⟩, ex (.snapshot 9), 9, we (wpz sf 1) (ex (.snapshot 9)), by decide, by decide, by decide, by decide, by decide, by decide, by decide, (by unfold NoHeld; decide), by decide, (nr (by decide) (by decide))⟩⟩

theorem wit_TrustQueries :
    (∃ (r : Req) (s : State),
      accepts 0x0A01 r s = true
        ∧ r.z 16 = true)
    ∧ (∃ (r : Req) (s : State),
      accepts 0x0A02 r s = true
        ∧ r.b 32 8 % 32 = 0
        ∧ 33924 ≤ r.b 40 4
        ∧ zeroAt r.params 44 4 = true)
    ∧ (∃ (r : Req) (s : State),
      accepts 0x0A03 r s = true
        ∧ r.b 0 8 % 32 = 0
        ∧ 1536 ≤ r.b 8 4
        ∧ zeroAt r.params 12 4 = true)
    ∧ (∃ (r : Req) (s : State),
      accepts 0x0A04 r s = true
        ∧ r.b 0 8 % 32 = 0
        ∧ 480 ≤ r.b 8 4
        ∧ zeroAt r.params 12 4 = true) :=
  ⟨⟨rp 0 [], up, by decide, by decide⟩,
   ⟨rb 0 48 [(0, 16, 0x1234567890), (32, 8, 4096), (40, 4, 33924)], up, by decide, by decide, by decide, by decide⟩,
   ⟨rb 0 16 [(0, 8, 4096), (8, 4, 1536)], up, by decide, by decide, by decide, by decide⟩,
   ⟨rb 0 16 [(0, 8, 4096), (8, 4, 480)], up, by decide, by decide, by decide, by decide⟩⟩

theorem wit_CleoshDatagrams :
    (∃ (p : Fin 2) (local_ : Bool) (b : Bytes) (s : State),
      s.served = false)
    ∧ (∃ (p : Fin 2) (local_ : Bool) (b : Bytes) (s : State),
      s.served = true
        ∧ ((local_ = false ∨ datagramOk b = false ∨ be b 3 1 ≠ 0x01 ∧ s.boot.sess.find (be b 4 8) = none)))
    ∧ (∃ (p : Fin 2) (b : Bytes) (x : Sess) (s : State),
      s.served = true
        ∧ datagramOk b = true
        ∧ be b 3 1 ≠ 0x01
        ∧ bit (be b 30 1) 1 = false
        ∧ s.boot.sess.find (be b 4 8) = some x
        ∧ x.port = p.val
        ∧ be b 12 4 = x.rxSeq
        ∧ be b 20 4 = x.rxMsg
        ∧ be b 24 4 = 0
        ∧ x.part = []
        ∧ bit (be b 30 1) 0 = true
        ∧ x.unackedRx < 31)
    ∧ (∃ (p : Fin 2) (b : Bytes) (x : Sess) (s : State),
      s.served = true
        ∧ datagramOk b = true
        ∧ be b 3 1 ≠ 0x01
        ∧ bit (be b 30 1) 1 = false
        ∧ s.boot.sess.find (be b 4 8) = some x
        ∧ x.port = p.val
        ∧ be b 12 4 ≠ x.rxSeq)
    ∧ (∃ (id : Nat) (x : Sess) (s : State),
      s.served = true
        ∧ s.boot.sess.find id = some x
        ∧ x.unackedRx ≠ 0)
    ∧ (∃ (id : Nat) (s : State),
      ((s.boot.sess.find id = none ∨ ∃ x, s.boot.sess.find id = some x ∧ x.unackedRx = 0)))
    ∧ (∃ (id : Nat) (x : Sess) (s : State),
      s.served = true
        ∧ s.boot.sess.find id = some x
        ∧ x.unacked ≠ []
        ∧ x.resends < 10)
    ∧ (∃ (id : Nat) (x : Sess) (s : State),
      s.served = true
        ∧ s.boot.sess.find id = some x
        ∧ x.unacked ≠ []
        ∧ 10 ≤ x.resends
        ∧ s.holdsLock id = false)
    ∧ (∃ (id : Nat) (s : State),
      s.boot.sess.find id = none) :=
  ⟨⟨1, true, [1, 2], pz up, by decide⟩,
   ⟨1, false, [1, 2], up, by decide, (.inl (by decide))⟩,
   ⟨0, dg [(3, 1, 0x10), (4, 8, 9), (12, 4, 12), (16, 4, 10), (20, 4, 14), (30, 1, 1)] [1, 2, 3], se 3 [(13, 0x10, [])], wse up (se 3 [(13, 0x10, [])]), by decide, by decide, by decide, by decide, by decide, by decide, by decide, by decide, by decide, by decide, by decide, by decide⟩,
   ⟨0, dg [(3, 1, 0x10), (4, 8, 9), (12, 4, 13), (16, 4, 10), (20, 4, 14), (30, 1, 1)] [1, 2, 3], se 3 [], lkd (wse up (se 3 [])), by decide, by decide, by decide, by decide, by decide, by decide, by decide⟩,
   ⟨9, se 3 [], wse up (se 3 []), by decide, by decide, by decide⟩,
   ⟨8, wse up (se 3 []), (.inl (by decide))⟩,
   ⟨9, se 3 [], wse up (se 3 []), by decide, by decide, by decide, by decide⟩,
   ⟨9, { se 3 [] with resends := 10 }, wse up { se 3 [] with resends := 10 }, by decide, by decide, by decide, by decide, by decide⟩,
   ⟨8, wse up (se 3 []), by decide⟩⟩

theorem wit_CleoshSessions :
    (∃ (p : Fin 2) (addr : Bytes) (k : Nat) (s : State),
      s.served = true
        ∧ s.boot.ignoreUntil.get p 0 ≤ s.ns
        ∧ k < 16
        ∧ (s.boot.sess.filter (fun e => e.2.port == p.val)).length < 4)
    ∧ (∃ (p : Fin 2) (addr : Bytes) (k : Nat) (s : State),
      s.served = true
        ∧ s.boot.ignoreUntil.get p 0 ≤ s.ns
        ∧ k < 16
        ∧ 4 ≤ (s.boot.sess.filter (fun e => e.2.port == p.val)).length)
    ∧ (∃ (p : Fin 2) (addr : Bytes) (k : Nat) (s : State),
      ((s.served = false ∨ s.ns < s.boot.ignoreUntil.get p 0)))
    ∧ (∃ (m : CMsg) (x : Sess) (s : State),
      HeardSigned m 0x03 x s
        ∧ ((s.boot.keys.find x.key = none ∨ x.since + 10000000000 ≤ s.ns))
        ∧ s.holdsLock m.sess = false)
    ∧ (∃ (id : Nat) (x : Sess) (s : State),
      s.boot.sess.find id = some x
        ∧ x.role = 0
        ∧ s.holdsLock id = false)
    ∧ (∃ (id : Nat) (s : State),
      ((s.boot.sess.find id = none ∨ ∃ x, s.boot.sess.find id = some x ∧ x.role ≠ 0)))
    ∧ (∃ (id : Nat) (x : Sess) (s : State),
      s.boot.sess.find id = some x
        ∧ s.holdsLock id = false)
    ∧ (∃ (id : Nat) (x : Sess) (s : State),
      s.boot.sess.find id = some x
        ∧ s.holdsLock id = true)
    ∧ (∃ (id : Nat) (x : Sess) (w : Nat × Nat × Bytes) (s : State),
      s.boot.sess.find id = some x
        ∧ x.whole.head? = some w
        ∧ w.2.1 = 0x7E
        ∧ s.holdsLock id = false)
    ∧ (∃ (id : Nat) (s : State),
      s.boot.sess.find id = none) :=
  ⟨⟨0, List.replicate 16 9, 5, wse up (se 3 []), by decide, by decide, by decide, by decide⟩,
   ⟨0, List.replicate 16 9, 5, { up with boot := { up.boot with sess := [(4, se 1 []), (5, se 0 []), (6, se 1 []), (7, se 1 [])] } }, by decide, by decide, by decide, by decide⟩,
   ⟨0, List.replicate 16 9, 5, pz up, (.inl (by decide))⟩,
   ⟨smsg [], { sqs 0 3 (smsg []) with key := 7 }, wse up ({ sqs 0 3 (smsg []) with key := 7 }), (⟨rfl, rfl, rfl⟩), (.inl (by decide)), by decide⟩,
   ⟨9, se 0 [], wse up (se 0 []), by decide, by decide, by decide⟩,
   ⟨9, wse up (se 3 []), (.inr ⟨se 3 [], by decide, by decide⟩)⟩,
   ⟨9, se 3 [], wse up (se 3 []), by decide, by decide⟩,
   ⟨9, se 3 [], wsg (lkd (wse up (se 3 []))) ⟨9, 1, 20000, []⟩, by decide, by decide⟩,
   ⟨9, se 3 [(14, 0x7E, [])], (14, 0x7E, []), wse up (se 3 [(14, 0x7E, [])]), by decide, by decide, by decide, by decide⟩,
   ⟨8, wse up (se 3 []), by decide⟩⟩

theorem wit_UpdateLock :
    (∃ (m : CMsg) (x : Sess) (s : State),
      Heard m 0x10 x s
        ∧ 1 ≤ x.role
        ∧ m.body = [])
    ∧ (∃ (m : CMsg) (x : Sess) (s : State),
      Heard m 0x20 x s
        ∧ x.role < 3)
    ∧ (∃ (m : CMsg) (x : Sess) (s : State),
      Heard m 0x20 x s
        ∧ 3 ≤ x.role
        ∧ m.body = []
        ∧ s.boot.lock = none)
    ∧ (∃ (m : CMsg) (x : Sess) (l : Lock) (s : State),
      Heard m 0x20 x s
        ∧ 3 ≤ x.role
        ∧ m.body = []
        ∧ s.boot.lock = some l
        ∧ l.sess ≠ m.sess
        ∧ ((x.port ≠ 0 ∨ l.port ≠ 1 ∨ l.at_ + 10000 < s.ns)))
    ∧ (∃ (m : CMsg) (x : Sess) (y : Sess) (l : Lock) (s : State),
      Heard m 0x20 x s
        ∧ 3 ≤ x.role
        ∧ m.body = []
        ∧ s.boot.lock = some l
        ∧ l.sess ≠ m.sess
        ∧ x.port = 0
        ∧ l.port = 1
        ∧ s.ns ≤ l.at_ + 10000
        ∧ s.boot.staging = none
        ∧ s.boot.sess.find l.sess = some y)
    ∧ (∃ (m : CMsg) (x : Sess) (s : State),
      Heard m 0x23 x s
        ∧ 3 ≤ x.role
        ∧ m.body = []
        ∧ s.holdsLock m.sess = true)
    ∧ (∃ (m : CMsg) (x : Sess) (s : State),
      Heard m 0x23 x s
        ∧ 3 ≤ x.role
        ∧ s.holdsLock m.sess = false)
    ∧ (∃ (l : Lock) (s : State),
      s.boot.lock = some l)
    ∧ (∃ (s : State),
      s.boot.lock = none) :=
  ⟨⟨msg [], sq 1 16 (msg []), wse up (sq 1 16 (msg [])), (⟨rfl, rfl, rfl⟩), by decide, by decide⟩,
   ⟨msg [], sq 2 32 (msg []), wse up (sq 2 32 (msg [])), (⟨rfl, rfl, rfl⟩), by decide⟩,
   ⟨msg [], sq 3 32 (msg []), wse up (sq 3 32 (msg [])), (⟨rfl, rfl, rfl⟩), by decide, by decide, by decide⟩,
   ⟨msg [], { sq 3 0x20 (msg []) with port := 1 }, ⟨4, 1, 5, List.replicate 16 1, 0, 0⟩, { wse up { sq 3 0x20 (msg []) with port := 1 } with boot := { (wse up { sq 3 0x20 (msg []) with port := 1 }).boot with lock := some ⟨4, 1, 5, List.replicate 16 1, 0, 0⟩ } }, (⟨rfl, rfl, rfl⟩), by decide, by decide, by decide, by decide, (.inl (by decide))⟩,
   ⟨msg [], sq 3 0x20 (msg []), { se 2 [] with port := 1, key := 5 }, ⟨4, 1, 5, List.replicate 16 1, 0, 0⟩, { wse up (sq 3 0x20 (msg [])) with boot := { (wse up (sq 3 0x20 (msg []))).boot with lock := some ⟨4, 1, 5, List.replicate 16 1, 0, 0⟩ } }, (⟨rfl, rfl, rfl⟩), by decide, by decide, by decide, by decide, by decide, by decide, by decide, by decide, by decide⟩,
   ⟨msg [], sq 3 35 (msg []), lkd (wse up (sq 3 35 (msg []))), (⟨rfl, rfl, rfl⟩), by decide, by decide, by decide⟩,
   ⟨msg [], sq 3 35 (msg []), wse up (sq 3 35 (msg [])), (⟨rfl, rfl, rfl⟩), by decide, by decide⟩,
   ⟨⟨9, 0, 0, [3, 4], 1, 2⟩, wsg (lkd (wse up (se 3 []))) ⟨9, 1, 20000, []⟩, by decide⟩,
   ⟨up, by decide⟩⟩

theorem wit_Staging :
    (∃ (m : CMsg) (x : Sess) (total : Nat) (s : State),
      Heard m 0x30 x s
        ∧ 3 ≤ x.role
        ∧ s.holdsLock m.sess = true
        ∧ m.body.length = 16
        ∧ byteAt m.body 0 = 1
        ∧ zeroAt m.body 1 7 = true
        ∧ total = be m.body 8 8
        ∧ 16736 ≤ total
        ∧ total ≤ 16736 + 2 ^ 29
        ∧ s.boot.healthPending = false
        ∧ s.boot.actWait = none)
    ∧ (∃ (m : CMsg) (x : Sess) (cls : Nat) (s : State),
      Heard m 0x30 x s
        ∧ 4 ≤ x.role
        ∧ s.holdsLock m.sess = true
        ∧ m.body.length = 16
        ∧ cls = byteAt m.body 0
        ∧ ((cls = 2 ∨ cls = 3))
        ∧ zeroAt m.body 1 7 = true
        ∧ s.mod = .maintenance
        ∧ 16544 ≤ be m.body 8 8
        ∧ be m.body 8 8 ≤ 16544 + payloadMax cls
        ∧ s.boot.healthPending = false
        ∧ s.boot.actWait = none)
    ∧ (∃ (m : CMsg) (x : Sess) (g : Stage) (s : State),
      Heard m 0x31 x s
        ∧ 3 ≤ x.role
        ∧ s.holdsLock m.sess = true
        ∧ s.boot.staging = some g
        ∧ 9 ≤ m.body.length
        ∧ m.body.length ≤ 1048584
        ∧ be m.body 0 8 % 1048576 = 0
        ∧ be m.body 0 8 + (m.body.length - 8) ≤ g.total)
    ∧ (∃ (m : CMsg) (x : Sess) (g : Stage) (s : State),
      Heard m 0x32 x s
        ∧ 3 ≤ x.role
        ∧ s.holdsLock m.sess = true
        ∧ m.body = []
        ∧ s.boot.staging = some g
        ∧ g.image = none)
    ∧ (∃ (m : CMsg) (x : Sess) (g : Stage) (b : Bytes) (st : Nat) (d : Nat) (w : Nat) (s : State),
      Heard m 0x32 x s
        ∧ 3 ≤ x.role
        ∧ s.holdsLock m.sess = true
        ∧ m.body = []
        ∧ s.boot.staging = some g
        ∧ g.image = some b
        ∧ s.imageChk g.cls b = some (st, d, w)) :=
  ⟨⟨msg (fieldsBE 16 [(0, 1, 1), (8, 8, 16736)]), sq 3 0x30 (msg (fieldsBE 16 [(0, 1, 1), (8, 8, 16736)])), 16736, lkd (wst (wse up (sq 3 0x30 (msg (fieldsBE 16 [(0, 1, 1), (8, 8, 16736)]))))), (⟨rfl, rfl, rfl⟩), by decide, by decide, by decide, by decide, by decide, by decide, by decide, by decide, by decide, by decide⟩,
   ⟨msg (fieldsBE 16 [(0, 1, 2), (8, 8, 20000)]), sq 4 0x30 (msg (fieldsBE 16 [(0, 1, 2), (8, 8, 20000)])), 2, lkd (wst (wse mnt (sq 4 0x30 (msg (fieldsBE 16 [(0, 1, 2), (8, 8, 20000)]))))), (⟨rfl, rfl, rfl⟩), by decide, by decide, by decide, by decide, (.inl rfl), by decide, by decide, by decide, by decide, by decide, by decide⟩,
   ⟨msg (fieldsBE 8 [(0, 8, 1048576)] ++ [1, 2, 3]), sq 3 0x31 (msg (fieldsBE 8 [(0, 8, 1048576)] ++ [1, 2, 3])), ⟨9, 1, 1048579, [(0, [9])]⟩, wsg (lkd (wse up (sq 3 0x31 (msg (fieldsBE 8 [(0, 8, 1048576)] ++ [1, 2, 3]))))) ⟨9, 1, 1048579, [(0, [9])]⟩, (⟨rfl, rfl, rfl⟩), by decide, by decide, by decide, by decide, by decide, by decide, by decide⟩,
   ⟨msg [], sq 3 0x32 (msg []), ⟨9, 1, 1048579, [(0, [9])]⟩, wsg (lkd (wse up (sq 3 0x32 (msg [])))) ⟨9, 1, 1048579, [(0, [9])]⟩, (⟨rfl, rfl, rfl⟩), by decide, by decide, by decide, by decide, by decide⟩,
   ⟨msg [], sq 3 0x32 (msg []), ⟨9, 1, 3, [(0, [1, 2, 3])]⟩, [1, 2, 3], 0x0101, 2, 0, wsg (lkd (wse up (sq 3 0x32 (msg [])))) ⟨9, 1, 3, [(0, [1, 2, 3])]⟩, (⟨rfl, rfl, rfl⟩), by decide, by decide, by decide, by decide, by decide, by decide⟩⟩

theorem wit_Activation :
    (∃ (m : CMsg) (x : Sess) (s : State),
      HeardSigned m 0x40 x s
        ∧ 3 ≤ x.role
        ∧ s.holdsLock m.sess = true
        ∧ s.signedOk x m 0x40 = false)
    ∧ (∃ (a0 : Nat) (w : Nat) (id : Nat) (msg : Nat) (x : Sess) (s : State),
      s.boot.actWait = some (a0, w, id, msg)
        ∧ s.mod = .ready
        ∧ s.alive = true
        ∧ s.busyForP0 = false
        ∧ s.boot.sess.find id = some x)
    ∧ (∃ (s : State),
      ((s.boot.actWait = none ∨ s.mod ≠ .ready ∨ s.busyForP0 = true)))
    ∧ (∃ (a0 : Nat) (w : Nat) (id : Nat) (msg : Nat) (x : Sess) (s : State),
      s.boot.actWait = some (a0, w, id, msg)
        ∧ s.boot.sess.find id = some x
        ∧ ((∀ e ∈ s.psg, e.2.parkedByAct = false)))
    ∧ (∃ (s : State),
      s.boot.actWait = none) :=
  ⟨⟨msg [0, 0], se 3 [(14, 0x40, [0, 0] ++ beBytes 4 0 ++ [])], lkd (wse up (se 3 [(14, 0x40, [0, 0] ++ beBytes 4 0 ++ [])])), (⟨rfl, rfl, rfl⟩), by decide, by decide, by decide⟩,
   ⟨0, 300, 9, 14, se 3 [], { wst (wse up5 (se 3 [])) with boot := { (wst (wse up5 (se 3 []))).boot with actWait := some (0, 300, 9, 14) } }, by decide, by decide, by decide, by decide, by decide⟩,
   ⟨up, (.inl (by decide))⟩,
   ⟨0, 300, 9, 14, se 3 [], { wst (wse up5 (se 3 [])) with boot := { (wst (wse up5 (se 3 []))).boot with actWait := some (0, 300, 9, 14) } }, by decide, by decide, (by decide)⟩,
   ⟨up, by decide⟩⟩

theorem wit_HealthAndFallback :
    (∃ (s : State),
      s.boot.healthPending = true
        ∧ s.boot.fbWait = none
        ∧ s.paused = false)
    ∧ (∃ (s : State),
      s.boot.healthPending = false)
    ∧ (∃ (f : Fin 64) (s : State),
      s.boot.healthPending = true
        ∧ s.boot.fbWait = none
        ∧ s.paused = false)
    ∧ (∃ (f : Fin 64) (s : State),
      s.boot.healthPending = false)
    ∧ (∃ (at_ : Nat) (f : Nat) (s : State),
      s.boot.fbWait = some (at_, f)
        ∧ s.paused = false
        ∧ ((∀ e ∈ s.psg, e.2.st ≠ .running ∧ e.2.st ≠ .stalled)))
    ∧ (∃ (at_ : Nat) (f : Nat) (s : State),
      s.boot.fbWait = some (at_, f)
        ∧ s.paused = false
        ∧ s.psg.filter (fun e => e.2.st == .running || e.2.st == .stalled) ≠ [])
    ∧ (∃ (s : State),
      s.boot.fbWait = none) :=
  ⟨⟨whp up, by decide, by decide, by decide⟩,
   ⟨up, by decide⟩,
   ⟨0, whp sfu, by decide, by decide, by decide⟩,
   ⟨0, up, by decide⟩,
   ⟨7, 5, { whp (sp (ps .parked)) with boot := { (whp (sp (ps .parked))).boot with fbWait := some (7, 5) } }, by decide, by decide, by decide⟩,
   ⟨7, 5, { whp (sp (ps .running)) with boot := { (whp (sp (ps .running))).boot with fbWait := some (7, 5) } }, by decide, by decide, by decide⟩,
   ⟨up, by decide⟩⟩

theorem wit_KeyChanges :
    (∃ (m : CMsg) (x : Sess) (s : State),
      Heard m 0x52 x s
        ∧ m.body.length = 88
        ∧ byteAt m.body 17 = 1
        ∧ 1 ≤ byteAt m.body 20
        ∧ byteAt m.body 20 ≤ 2
        ∧ zeroAt m.body 21 3 = true
        ∧ ((byteAt m.body 20 = 2 ∨ zeroAt m.body 72 16 = true))
        ∧ s.boot.claimed = false
        ∧ s.upMs ≤ 600000
        ∧ s.boot.claimBad < 3
        ∧ (Config.sha256 (m.body.take 16)).toNat = s.fuse.claim)
    ∧ (∃ (m : CMsg) (x : Sess) (s : State),
      Heard m 0x52 x s
        ∧ m.body.length = 88
        ∧ byteAt m.body 17 = 1
        ∧ 1 ≤ byteAt m.body 20
        ∧ byteAt m.body 20 ≤ 2
        ∧ zeroAt m.body 21 3 = true
        ∧ ((byteAt m.body 20 = 2 ∨ zeroAt m.body 72 16 = true))
        ∧ s.boot.claimed = false
        ∧ s.upMs ≤ 600000
        ∧ s.boot.claimBad < 3
        ∧ (Config.sha256 (m.body.take 16)).toNat ≠ s.fuse.claim) :=
  ⟨⟨msg (fieldsBE 88 [(0, 16, 1234), (17, 1, 1), (20, 1, 1), (40, 4, 77)]), sq 0 0x52 (msg (fieldsBE 88 [(0, 16, 1234), (17, 1, 1), (20, 1, 1), (40, 4, 77)])), { wse up (sq 0 0x52 (msg (fieldsBE 88 [(0, 16, 1234), (17, 1, 1), (20, 1, 1), (40, 4, 77)]))) with fuse := { (wse up (sq 0 0x52 (msg (fieldsBE 88 [(0, 16, 1234), (17, 1, 1), (20, 1, 1), (40, 4, 77)])))).fuse with claim := (Config.sha256 ((fieldsBE 88 [(0, 16, 1234), (17, 1, 1), (20, 1, 1), (40, 4, 77)]).take 16)).toNat } }, (⟨rfl, rfl, rfl⟩), by decide, by decide, by decide, by decide, by decide, (by decide), by decide, by decide, by decide, (rfl)⟩,
   ⟨msg (fieldsBE 88 [(0, 16, 1234), (17, 1, 1), (20, 1, 1), (40, 4, 77)]), sq 0 0x52 (msg (fieldsBE 88 [(0, 16, 1234), (17, 1, 1), (20, 1, 1), (40, 4, 77)])), { wse up (sq 0 0x52 (msg (fieldsBE 88 [(0, 16, 1234), (17, 1, 1), (20, 1, 1), (40, 4, 77)]))) with fuse := { (wse up (sq 0 0x52 (msg (fieldsBE 88 [(0, 16, 1234), (17, 1, 1), (20, 1, 1), (40, 4, 77)])))).fuse with claim := (Config.sha256 ((fieldsBE 88 [(0, 16, 1234), (17, 1, 1), (20, 1, 1), (40, 4, 77)]).take 16)).toNat + 1 } }, (⟨rfl, rfl, rfl⟩), by decide, by decide, by decide, by decide, by decide, (by decide), by decide, by decide, by decide, (Nat.ne_of_lt (Nat.lt_succ_self _))⟩⟩

theorem wit_Maintenance :
    (∃ (e : Exec) (n : Nat) (s : State),
      s.hif.execs = [e]
        ∧ e.wait = .drain n
        ∧ s.fm.reqs = []
        ∧ e.discard = false
        ∧ e.dma = .ok
        ∧ (s.ring e.fn e.ring).st ≠ .disabled)
    ∧ (∃ (s : State),
      ((s.fm.reqs ≠ [] ∨ ∀ e ∈ s.hif.execs, ∀ n, e.wait ≠ .drain n)))
    ∧ (∃ (r : Req) (s : State),
      accepts 0x0B02 r s = true
        ∧ r.p 16 1 = 0
        ∧ r.z 17 = true
        ∧ s.mod = .maintenance)
    ∧ (∃ (r : Req) (s : State),
      accepts 0x0B02 r s = true
        ∧ r.p 16 1 = 1
        ∧ r.z 17 = true
        ∧ s.mod = .maintenance) :=
  ⟨⟨ex (.drain 3), 3, we mnt (ex (.drain 3)), by decide, by decide, by decide, by decide, by decide, by decide⟩,
   ⟨wr sf [fr 3 1] [], (.inl (by decide))⟩,
   ⟨rp 0 [], mnx, by decide, by decide, by decide, by decide⟩,
   ⟨rp 0 [(16, 1, 1)], mnx, by decide, by decide, by decide, by decide⟩⟩

theorem wit_MemoryProtection :
    (∃ (mem : Fin 4) (a : Nat) (s : State),
      mem.val ≠ 0)
    ∧ (∃ (mem : Fin 4) (i : Nat) (s : State),
      s.mem.rateHigh.contains (corrKey mem i) = true)
    ∧ (∃ (mem : Fin 4) (i : Nat) (s : State),
      s.mem.rateHigh.contains (corrKey mem i) = false)
    ∧ (∃ (mem : Fin 4) (a : Nat) (n : Fin 64) (obj : Nat) (s : State),
      mem.val ≠ 0
        ∧ s.mem.poison.contains (mem.val, a) = false
        ∧ s.mem.poison.length < 65536)
    ∧ (∃ (mem : Fin 4) (a : Nat) (n : Fin 64) (obj : Nat) (x : Slice) (s : State),
      mem.val ≠ 0
        ∧ s.topo.slice.find n = some x)
    ∧ (∃ (mem : Fin 4) (a : Nat) (n : Fin 64) (obj : Nat) (e : Exec) (s : State),
      mem.val ≠ 0
        ∧ s.ringExec (obj / 16) (obj % 16) = some e
        ∧ e.discard = false
        ∧ e.dma = .ok
        ∧ (s.ring e.fn e.ring).st ≠ .disabled)
    ∧ (∃ (mem : Fin 4) (a : Nat) (n : Fin 64) (obj : Nat) (r : FReq) (s : State),
      mem.val ≠ 0
        ∧ s.fm.reqs.find? (·.ref == obj) = some r
        ∧ RefsBelow s
        ∧ Answerable r s)
    ∧ (∃ (mem : Fin 4) (s : State),
      mem.val ≠ 0
        ∧ s.calPaused = false)
    ∧ (∃ (mem : Fin 4) (s : State),
      mem.val ≠ 0
        ∧ s.calPaused = false
        ∧ s.mem.overdue.contains mem.val = false)
    ∧ (∃ (mem : Fin 4) (u : Nat) (k : Nat) (s : State),
      mem.val ≠ 0
        ∧ s.calPaused = false
        ∧ 60 < k)
    ∧ (∃ (mem : Fin 4) (o : Bool) (c : List (Nat × Nat)) (bad : List Nat) (s : State),
      s.calPaused = true) :=
  ⟨⟨1, 64, up, by decide⟩,
   ⟨2, 5, wmem up { Mem.reset with rateHigh := [131077, 131078] }, by decide⟩,
   ⟨2, 5, wmem up { Mem.reset with rateHigh := [131078] }, by decide⟩,
   ⟨1, 64, 1, 0, sf, by decide, by decide, by decide⟩,
   ⟨1, 64, 1, 128, sl, up1, by decide, by decide⟩,
   ⟨2, 64, 1, 0, ex (.calRun [2] 3 1), we sf (ex (.calRun [2] 3 1)), by decide, by decide, by decide, by decide, by decide⟩,
   ⟨3, 64, 1, 4, fr 3 1, wr sf [fr 3 1] [], by decide, by decide, (by unfold RefsBelow; decide), (by unfold Answerable; decide)⟩,
   ⟨2, wmem up { Mem.reset with overdue := [2, 3] }, by decide, by decide⟩,
   ⟨2, wmem up { Mem.reset with overdue := [3] }, by decide, by decide, by decide⟩,
   ⟨2, 5, 61, up, by decide, by decide, by decide⟩,
   ⟨2, true, [(1, 2)], [3], pz up, by decide⟩⟩

theorem wit_Retirement :
    (∃ (u : Fin 48) (s : State),
      s.skk.retired.contains u.val = false
        ∧ ((∀ e ∈ s.psg, s.usesUnit (e.1 / 256) u e.2 = false)))
    ∧ (∃ (u : Fin 48) (k : Nat) (p : Passage) (s : State),
      s.skk.retired.contains u.val = false
        ∧ s.psg = [(k, p)]
        ∧ s.usesUnit (k / 256) u p = true)
    ∧ (∃ (k : Fin 8) (s : State),
      k.val < s.fuse.stacks
        ∧ s.mem.badStacks.contains k.val = false
        ∧ s.mem.deadStacks.contains k.val = false
        ∧ s.boot.actWait = none)
    ∧ (∃ (k : Fin 8) (s : State),
      s.fuse.stacks ≤ k.val)
    ∧ (∃ (d : Fin 4) (lane : Nat) (s : State),
      d.val < s.fuse.ioDies
        ∧ s.mem.deadDies.contains d.val = false
        ∧ s.mem.lanes.get d 0 < 2)
    ∧ (∃ (d : Fin 4) (lane : Nat) (lost : Bool) (s : State),
      d.val < s.fuse.ioDies
        ∧ s.mem.deadDies.contains d.val = false
        ∧ ((lost = true ∨ 2 ≤ s.mem.lanes.get d 0)))
    ∧ (∃ (d : Fin 4) (lane : Nat) (lost : Bool) (s : State),
      s.fuse.ioDies ≤ d.val) :=
  ⟨⟨4, sp ({ ps .running with units := List.range 48, stripes := [(5, 1)] }), by decide, (by decide)⟩,
   ⟨5, psgKey 1 5, { ps .running with units := List.range 48, stripes := [(5, 1)] }, sp ({ ps .running with units := List.range 48, stripes := [(5, 1)] }), by decide, (by decide), by decide⟩,
   ⟨3, wmem sf { Mem.reset with deadStacks := [1] }, by decide, by decide, by decide, by decide⟩,
   ⟨4, { up with fuse := { up.fuse with variant := 0x44 } }, by decide⟩,
   ⟨1, 9, sf, by decide, by decide, by decide⟩,
   ⟨0, 9, true, sfu, by decide, by decide, (.inl rfl)⟩,
   ⟨2, 9, true, { up with fuse := { up.fuse with variant := 0x28 } }, by decide⟩⟩

theorem wit_OverloadAndHeat :
    (∃ (res : Fin 7) (busy : Nat) (waited : Nat) (n : Nat) (w : Nat) (s : State),
      res.val ≠ 0
        ∧ s.ringsPaused = false
        ∧ 980 ≤ busy
        ∧ 0 < waited
        ∧ 1 ≤ n
        ∧ n < 64
        ∧ 500 ≤ w
        ∧ s.mem.overMs.get (overKey res n) 0 < 999)
    ∧ (∃ (res : Fin 7) (busy : Nat) (waited : Nat) (n : Nat) (w : Nat) (s : State),
      res.val ≠ 0
        ∧ s.ringsPaused = false
        ∧ 980 ≤ busy
        ∧ 0 < waited
        ∧ 1 ≤ n
        ∧ n < 64
        ∧ 500 ≤ w
        ∧ 999 ≤ s.mem.overMs.get (overKey res n) 0)
    ∧ (∃ (res : Fin 7) (busy : Nat) (waited : Nat) (waits : List (Nat × Nat)) (s : State),
      res.val ≠ 0
        ∧ s.ringsPaused = false
        ∧ ((busy < 980 ∨ waited = 0))
        ∧ s.mem.overAlarm = [])
    ∧ (∃ (temp : Int) (s : State),
      10000 < temp)
    ∧ (∃ (temp : Int) (s : State),
      temp < 9500
        ∧ s.mem.thermStop = false)
    ∧ (∃ (temp : Int) (s : State),
      9500 ≤ temp
        ∧ temp ≤ 10000
        ∧ s.mem.thermStop = false)
    ∧ (∃ (temp : Int) (s : State),
      11000 < temp
        ∧ s.mem.thermStop = false)
    ∧ (∃ (temp : Int) (s : State),
      10000 ≤ temp
        ∧ ((temp ≤ 11000 ∨ s.mem.thermStop = true)))
    ∧ (∃ (temp : Int) (s : State),
      temp < 10000
        ∧ s.mem.thermStop = true
        ∧ NoHeld s)
    ∧ (∃ (k : Fin 16) (v : Int) (second : Int) (lim : Int) (s : State),
      s.calPaused = false
        ∧ k.val < 8
        ∧ sensorLimit k = some lim
        ∧ lim < v)
    ∧ (∃ (k : Fin 16) (v : Int) (second : Int) (lim : Int) (s : State),
      s.calPaused = false
        ∧ k.val < 8
        ∧ sensorLimit k = some lim
        ∧ v ≤ lim)
    ∧ (∃ (flow : Int) (inlet : Int) (s : State),
      s.calPaused = false)
    ∧ (∃ (k : Fin 16) (v : Int) (second : Int) (s : State),
      s.calPaused = true) :=
  ⟨⟨1, 980, 1, 5, 500, up1, by decide, by decide, by decide, by decide, by decide, by decide, by decide, by decide⟩,
   ⟨1, 980, 1, 5, 500, wmem up { Mem.reset with overMs := [(69, 999)] }, by decide, by decide, by decide, by decide, by decide, by decide, by decide, by decide⟩,
   ⟨1, 979, 4, [(3, 700)], wmem up { Mem.reset with overMs := [(69, 500)] }, by decide, by decide, (.inl (by decide)), by decide⟩,
   ⟨10001, up, by decide⟩,
   ⟨9499, wmem up { Mem.reset with rate := 3 }, by decide, by decide⟩,
   ⟨9500, up, by decide, by decide, by decide⟩,
   ⟨11001, up, by decide, by decide⟩,
   ⟨10000, wmem up { Mem.reset with thermStop := true }, by decide, (.inl (by decide))⟩,
   ⟨9999, wmem up { Mem.reset with thermStop := true }, by decide, by decide, (by unfold NoHeld; decide)⟩,
   ⟨3, 9501, 0, 9500, up, by decide, by decide, by decide, by decide⟩,
   ⟨3, 9500, 0, 9500, wmem up { Mem.reset with hot := [3, 4] }, by decide, by decide, by decide, by decide⟩,
   ⟨180, 2000, wmem up { Mem.reset with coolantOut := true }, by decide⟩,
   ⟨3, 9500, 0, pz up, by decide⟩⟩

theorem wit_VfActsOnItsSlice :
    (∃ (op : Nat) (mk : Req → Instr) (r : Req) (s : State),
      (op, mk) ∈ hostRows
        ∧ s.canStart r.fn r.ring = true
        ∧ (s.ring r.fn r.ring).st = .running
        ∧ r.dma = .ok
        ∧ r.fn ≠ 0
        ∧ r.slice < 64
        ∧ r.slice ≠ r.fn) :=
  ⟨0x0103, .sliceQuery, { rp 2 [] with fn := 1 }, { up with hif := { up.hif with ring := [(0, rg), (16, rg)] } }, (by simp [hostRows]), by decide, by decide, by decide, by decide, by decide, by decide⟩

theorem wit_ChecksRefuse :
    (∃ (op : Nat) (mk : Req → Instr) (r : Req) (s : State),
      (op, mk) ∈ hostRows
        ∧ s.canStart r.fn r.ring = true
        ∧ (s.ring r.fn r.ring).st = .running
        ∧ r.dma = .ok
        ∧ sliceFieldOk r.fn op r.slice = false)
    ∧ (∃ (op : Nat) (mk : Req → Instr) (r : Req) (i : CmdInfo) (st : Nat) (w0 : Nat) (w1 : Nat) (s : State),
      (op, mk) ∈ hostRows
        ∧ s.canStart r.fn r.ring = true
        ∧ (s.ring r.fn r.ring).st = .running
        ∧ r.dma = .ok
        ∧ sliceFieldOk r.fn op r.slice = true
        ∧ catalogue.find op = some i
        ∧ authChk s i op r.fn r.slice r.params = some (st, w0, w1)) :=
  ⟨⟨0x0103, .sliceQuery, rp 64 [], up, (by simp [hostRows]), by decide, by decide, by decide, by decide⟩,
   ⟨0x0B03, .mirrorSet, rb 0 16 [], ⟨true, 10000, true, 0⟩, 0x0405, 0, 0, up, (by simp [hostRows]), by decide, by decide, by decide, by decide, (rfl), by decide⟩⟩

theorem wit_LegalKept :
    (∃ (s : State) (t : State),
      Legal s
        ∧ step s = .next t) :=
  ⟨{ State.reset with pending := [.healthConfirmed] }, State.reset, (by unfold Legal; decide), (rfl)⟩

theorem wit_CountersAndSnapshots_1 (hd : srcDefined 0x123 = true) (hs : srcScope 0x123 = 2) :
    (∃ (r : Req) (s : State),
      accepts 0x0801 r s = true
        ∧ r.b 0 2 = 1
        ∧ zeroAt r.params 2 6 = true
        ∧ r.b 8 8 = 0
        ∧ (ctrEntry r.params 0).counter < 8192
        ∧ (ctrEntry r.params 0).action = 0
        ∧ zeroAt r.params 22 2 = true
        ∧ zeroAt r.params 28 4 = true
        ∧ (ctrEntry r.params 0).source < 4096
        ∧ srcDefined (ctrEntry r.params 0).source = true
        ∧ (ctrEntry r.params 0).inst ≤ srcMax (ctrEntry r.params 0).source
        ∧ (ctrEntry r.params 0).owner < 64
        ∧ (ctrEntry r.params 0).owner ≠ 0
        ∧ srcScope (ctrEntry r.params 0).source = 2
        ∧ s.owner (ctrEntry r.params 0).inst ≠ (ctrEntry r.params 0).owner) :=
  ⟨rb 0 32 [(0, 2, 1), (16, 2, 7), (18, 2, 0x123), (20, 1, 5)], up1, by decide, by decide, by decide, by decide, by decide, by decide, by decide, by decide, by decide, (hd), (Nat.zero_le _), by decide, by decide, (hs), by decide⟩

theorem wit_LoglineRecorder_10 (hv : ∀ a b c d, Config.sigVerify a b c d = true) :
    (∃ (r : Req) (s : State),
      accepts 0x0903 r s = true
        ∧ r.b 0 1 = 0
        ∧ zeroAt r.params 1 7 = true
        ∧ s.clusterHalted 3 = false) :=
  ⟨rq 0 (tkb 0x0903 []), wn up, (accepts_token hv rfl (by decide) rfl (by decide) (by decide) (by decide) rfl rfl (by decide) (by decide) (by decide) rfl (by decide) (by decide) (by decide) (by decide) (by decide) (by decide) (by decide)), by decide, by decide, by decide⟩

theorem wit_CleoshSessions_3 (hv : ∀ a b c d, Config.sigVerify a b c d = true) :
    (∃ (m : CMsg) (x : Sess) (k : Key) (s : State),
      HeardSigned m 0x03 x s
        ∧ s.boot.keys.find x.key = some k
        ∧ bit k.usage 1 = true
        ∧ s.ns < x.since + 10000000000
        ∧ m.body = []
        ∧ m.sig.length = sigLenOf k.param
        ∧ Config.sigVerify k.param k.pub (beBytes 16 x.nonce ++ padTo 16 s.fuse.serial ++ beBytes 8 m.sess ++ beBytes 1 x.port) m.sig = true) :=
  ⟨smsg [], sqs 0 3 (smsg []), ⟨4, 7, 2, [], List.replicate 48 0, 0⟩, wse up (sqs 0 3 (smsg [])), (⟨rfl, rfl, rfl⟩), by decide, by decide, by decide, by decide, (List.length_replicate ..), (hv ..)⟩

theorem wit_Staging_4 (b0 : Bytes) (hb : (lkd (wse up (sq 3 0x32 (msg [])))).imageChk 1 b0 = none) :
    (∃ (m : CMsg) (x : Sess) (g : Stage) (b : Bytes) (s : State),
      Heard m 0x32 x s
        ∧ 3 ≤ x.role
        ∧ s.holdsLock m.sess = true
        ∧ m.body = []
        ∧ s.boot.staging = some g
        ∧ g.cls = 1
        ∧ g.image = some b
        ∧ s.imageChk 1 b = none
        ∧ s.boot.recovery = false) :=
  ⟨msg [], sq 3 0x32 (msg []), ⟨9, 1, b0.length, [(0, b0)]⟩, b0, wsg (lkd (wse up (sq 3 0x32 (msg [])))) ⟨9, 1, b0.length, [(0, b0)]⟩, (⟨rfl, rfl, rfl⟩), by decide, (rfl), by decide, (rfl), (rfl), (one_block 9 b0), (hb), (rfl)⟩

theorem wit_Activation_0 (hv : ∀ a b c d, Config.sigVerify a b c d = true) :
    (∃ (m : CMsg) (x : Sess) (i : Img) (w : Nat) (s : State),
      HeardSigned m 0x40 x s
        ∧ 3 ≤ x.role
        ∧ s.holdsLock m.sess = true
        ∧ s.signedOk x m 0x40 = true
        ∧ m.body.length = 2
        ∧ w = be m.body 0 2
        ∧ w ≤ 3600
        ∧ s.boot.staged = true
        ∧ s.boot.rejected = false
        ∧ s.mod = .ready
        ∧ s.boot.healthPending = false
        ∧ s.boot.actWait = none
        ∧ s.boot.slot.find (1 - s.boot.active) = some i
        ∧ s.boot.fusedSv ≤ i.sv
        ∧ s.boot.cfgVersion ≤ i.cfg
        ∧ i.cfg ≤ s.boot.cfgVersion + 2
        ∧ s.boot.handover ≤ i.hand
        ∧ i.hand ≤ s.boot.handover + 2) :=
  ⟨smsg ([0, 0]), sqs 3 64 (smsg ([0, 0])), ⟨8, 2, 3, 3, [1]⟩, 0, wst (lkd (wse (sp (ps .running)) (sqs 3 64 (smsg ([0, 0]))))), (⟨rfl, rfl, rfl⟩), by decide, by decide, (signed_ok hv (by decide)), by decide, by decide, by decide, by decide, by decide, by decide, by decide, by decide, by decide, by decide, by decide, by decide, by decide, by decide⟩

theorem wit_LoaderAndRestart_0 (hv : ∀ a b c d, Config.sigVerify a b c d = true) :
    (∃ (m : CMsg) (x : Sess) (cls : Nat) (s : State),
      HeardSigned m 0x41 x s
        ∧ s.hif.execs = []
        ∧ 4 ≤ x.role
        ∧ s.holdsLock m.sess = true
        ∧ s.signedOk x m 0x41 = true
        ∧ m.body.length = 1
        ∧ cls = byteAt m.body 0
        ∧ ((cls = 2 ∨ cls = 3))
        ∧ s.mod = .maintenance
        ∧ ((∀ e ∈ s.psg, e.2.st ≠ .armed ∧ e.2.st ≠ .running ∧ e.2.st ≠ .stalled))
        ∧ s.boot.reserve.has cls = true) :=
  ⟨smsg [2], sqs 4 65 (smsg [2]), 2, { lkd (wse mnt (sqs 4 65 (smsg [2]))) with boot.reserve := [(2, ⟨8, 2, 3, 3, [1]⟩)] }, (⟨rfl, rfl, rfl⟩), by decide, by decide, by decide, (signed_ok hv (by decide)), by decide, by decide, (.inl rfl), by decide, (by decide), by decide⟩

theorem wit_LoaderAndRestart_1 (hv : ∀ a b c d, Config.sigVerify a b c d = true) :
    (∃ (m : CMsg) (x : Sess) (s : State),
      HeardSigned m 0x42 x s
        ∧ 3 ≤ x.role
        ∧ s.holdsLock m.sess = true
        ∧ s.signedOk x m 0x42 = true
        ∧ m.body = [0]
        ∧ s.mod ≠ .failed
        ∧ s.boot.healthPending = false) :=
  ⟨smsg [0], sqs 3 66 (smsg [0]), lkd (wse up (sqs 3 66 (smsg [0]))), (⟨rfl, rfl, rfl⟩), by decide, by decide, (signed_ok hv (by decide)), by decide, by decide, by decide⟩

theorem wit_LoaderAndRestart_2 (hv : ∀ a b c d, Config.sigVerify a b c d = true) :
    (∃ (m : CMsg) (x : Sess) (s : State),
      HeardSigned m 0x42 x s
        ∧ 3 ≤ x.role
        ∧ s.holdsLock m.sess = true
        ∧ s.signedOk x m 0x42 = true
        ∧ m.body = [1]) :=
  ⟨smsg [1], sqs 3 66 (smsg [1]), lkd (wse sfu (sqs 3 66 (smsg [1]))), (⟨rfl, rfl, rfl⟩), by decide, by decide, (signed_ok hv (by decide)), by decide⟩

theorem wit_KeyChanges_0 (hv : ∀ a b c d, Config.sigVerify a b c d = true) :
    (∃ (m : CMsg) (x : Sess) (n : Nat) (s : State),
      HeardSigned m 0x50 x s
        ∧ 3 ≤ x.role
        ∧ s.holdsLock m.sess = true
        ∧ s.signedOk x m 0x50 = true
        ∧ m.body.length = 72
        ∧ n = byteAt m.body 0
        ∧ 4 ≤ n
        ∧ n ≤ 15
        ∧ byteAt m.body 1 = 1
        ∧ 1 ≤ byteAt m.body 2
        ∧ byteAt m.body 2 ≤ 3
        ∧ byteAt m.body 2 ≤ x.role
        ∧ byteAt m.body 3 ≤ 3
        ∧ 1 ≤ byteAt m.body 4
        ∧ byteAt m.body 4 ≤ 2
        ∧ zeroAt m.body 5 3 = true
        ∧ ((byteAt m.body 4 = 2 ∨ zeroAt m.body 56 16 = true))) :=
  ⟨smsg (fieldsBE 72 [(0, 1, 5), (1, 1, 1), (2, 1, 2), (3, 1, 3), (4, 1, 1), (8, 3, 0x414243), (24, 4, 77)]), sqs 3 80 (smsg (fieldsBE 72 [(0, 1, 5), (1, 1, 1), (2, 1, 2), (3, 1, 3), (4, 1, 1), (8, 3, 0x414243), (24, 4, 77)])), 5, lkd (wse up (sqs 3 80 (smsg (fieldsBE 72 [(0, 1, 5), (1, 1, 1), (2, 1, 2), (3, 1, 3), (4, 1, 1), (8, 3, 0x414243), (24, 4, 77)])))), (⟨rfl, rfl, rfl⟩), by decide, by decide, (signed_ok hv (by decide)), by decide, by decide, by decide, by decide, by decide, by decide, by decide, by decide, by decide, by decide, by decide, by decide, (by decide)⟩

theorem wit_KeyChanges_1 (hv : ∀ a b c d, Config.sigVerify a b c d = true) :
    (∃ (m : CMsg) (x : Sess) (k : Key) (n : Nat) (s : State),
      HeardSigned m 0x51 x s
        ∧ 3 ≤ x.role
        ∧ s.holdsLock m.sess = true
        ∧ s.signedOk x m 0x51 = true
        ∧ m.body.length = 1
        ∧ n = byteAt m.body 0
        ∧ 4 ≤ n
        ∧ n ≤ 15
        ∧ n ≠ x.key
        ∧ s.boot.keys.find n = some k
        ∧ ((∀ e ∈ s.boot.sess, e.1 = m.sess → e.2 = x))) :=
  ⟨smsg [5], sqs 3 81 (smsg [5]), ⟨2, 3, 1, [1], [9], 7⟩, 5, { lkd (wse up (sqs 3 81 (smsg [5]))) with boot := { (lkd (wse up (sqs 3 81 (smsg [5])))).boot with keys := [(0, ⟨4, 7, 2, [], List.replicate 48 0, 0⟩), (5, ⟨2, 3, 1, [1], [9], 7⟩), (6, ⟨3, 3, 1, [1], [9], 7⟩)] } }, (⟨rfl, rfl, rfl⟩), by decide, by decide, (signed_ok hv (by decide)), by decide, by decide, by decide, by decide, by decide, by decide, (one_sess rfl)⟩

theorem wit_KeyChanges_2 (hv : ∀ a b c d, Config.sigVerify a b c d = true) :
    (∃ (m : CMsg) (x : Sess) (s : State),
      HeardSigned m 0x51 x s
        ∧ 3 ≤ x.role
        ∧ s.holdsLock m.sess = true
        ∧ s.signedOk x m 0x51 = true
        ∧ m.body.length = 1
        ∧ byteAt m.body 0 = x.key
        ∧ 4 ≤ x.key
        ∧ x.key ≤ 15) :=
  ⟨smsg [6], { sqs 3 0x51 (smsg [6]) with key := 6 }, { lkd (wse up ({ sqs 3 0x51 (smsg [6]) with key := 6 })) with boot := { (lkd (wse up ({ sqs 3 0x51 (smsg [6]) with key := 6 }))).boot with keys := [(0, ⟨4, 7, 2, [], List.replicate 48 0, 0⟩), (5, ⟨2, 3, 1, [1], [9], 7⟩), (6, ⟨4, 7, 2, [], List.replicate 48 0, 0⟩)] } }, (⟨rfl, rfl, rfl⟩), by decide, by decide, (signed_ok hv (by decide)), by decide, by decide, by decide, by decide⟩

theorem wit_KeyChanges_5 (hv : ∀ a b c d, Config.sigVerify a b c d = true) :
    (∃ (m : CMsg) (x : Sess) (s : State),
      HeardSigned m 0x53 x s
        ∧ 4 ≤ x.role
        ∧ s.holdsLock m.sess = true
        ∧ s.signedOk x m 0x53 = true
        ∧ m.body = []) :=
  ⟨smsg [], sqs 4 83 (smsg []), { lkd (wse up (sqs 4 83 (smsg []))) with boot := { (lkd (wse up (sqs 4 83 (smsg [])))).boot with keys := [(0, ⟨4, 7, 2, [], List.replicate 48 0, 0⟩), (5, ⟨2, 3, 1, [1], [9], 7⟩), (6, ⟨3, 3, 1, [1], [9], 7⟩)] } }, (⟨rfl, rfl, rfl⟩), by decide, by decide, (signed_ok hv (by decide)), by decide⟩

theorem wit_Maintenance_0 (hv : ∀ a b c d, Config.sigVerify a b c d = true) :
    (∃ (r : Req) (s : State),
      accepts 0x0B01 r s = true
        ∧ r.b 0 1 ≤ 2
        ∧ zeroAt r.params 1 7 = true
        ∧ s.mod = .ready
        ∧ ((∀ e ∈ s.psg, e.2.st ≠ .armed ∧ e.2.st ≠ .running ∧ e.2.st ≠ .stalled))
        ∧ s.fm.reqs = []) :=
  ⟨rq 0 (tkb 0x0B01 []), wn up, (accepts_token hv rfl (by decide) rfl (by decide) (by decide) (by decide) rfl rfl (by decide) (by decide) (by decide) rfl (by decide) (by decide) (by decide) (by decide) (by decide) (by decide) (by decide)), by decide, by decide, by decide, by decide, by decide⟩

theorem wit_Maintenance_1 (hv : ∀ a b c d, Config.sigVerify a b c d = true) :
    (∃ (r : Req) (s : State),
      accepts 0x0B01 r s = true
        ∧ r.b 0 1 ≤ 2
        ∧ zeroAt r.params 1 7 = true
        ∧ s.mod = .ready
        ∧ ((∀ e ∈ s.psg, e.2.st ≠ .armed ∧ e.2.st ≠ .running ∧ e.2.st ≠ .stalled))
        ∧ s.fm.reqs ≠ []) :=
  ⟨rq 0 (tkb 0x0B01 []), wn (wr sf [fr 3 1] []), (accepts_token hv rfl (by decide) rfl (by decide) (by decide) (by decide) rfl rfl (by decide) (by decide) (by decide) rfl (by decide) (by decide) (by decide) (by decide) (by decide) (by decide) (by decide)), by decide, by decide, by decide, (by decide), by decide⟩

theorem wit_Maintenance_2 (hv : ∀ a b c d, Config.sigVerify a b c d = true) :
    (∃ (r : Req) (e : Nat × Passage) (s : State),
      accepts 0x0B01 r s = true
        ∧ r.b 0 1 ≤ 2
        ∧ zeroAt r.params 1 7 = true
        ∧ s.mod = .ready
        ∧ s.psg.find? (fun e => e.2.st == .armed || e.2.st == .running || e.2.st == .stalled) = some e) :=
  ⟨rq 0 (tkb 0x0B01 []), (psgKey 1 5, ps .stalled), wn (sp (ps .stalled)), (accepts_token hv rfl (by decide) rfl (by decide) (by decide) (by decide) rfl rfl (by decide) (by decide) (by decide) rfl (by decide) (by decide) (by decide) (by decide) (by decide) (by decide) (by decide)), by decide, by decide, by decide, by decide⟩


/-! ### Ill-formed operands are refused by WellFormed -/

theorem test_wf_tag : (Instr.nop { rq 0 [] with tag := 2 ^ 32 }).wf = false := by decide
theorem test_wf_slice : (Instr.sliceQuery (rq 65536 [])).wf = false := by decide
theorem test_wf_params (b : Bytes) (h : b.length = 1048577) : (Instr.chartLoad (rq 1 b)).wf = false := by
  simp [Instr.wf, Req.wf, rq, h]
theorem test_wf_flit : (Instr.flitReceived 0 [1, 2, 3]).wf = false := by decide
theorem test_wf_frame : (Instr.fmReq 0 0 [1, 2, 3]).wf = false := by decide
theorem test_wf_value : (Instr.registerWrite (.pf 64) false (2 ^ 32)).wf = false := by decide
theorem test_wf_pf_misaligned : (Instr.registerWrite (.pf 66) false 0).wf = false := by decide
theorem test_wf_pf_range : (Instr.registerReadClear (.pf (2 ^ 26)) false).wf = false := by decide
theorem test_wf_vf_zero : (Instr.registerReadClear (.vf 0 64) false).wf = false := by decide
theorem test_wf_bar2_range : (Instr.registerReadClear (.bar2 1 (2 ^ 22)) false).wf = false := by decide
theorem test_wf_entry : (Instr.commandFetch 0 0 (some [1]) none [] .ok).wf = false := by decide
theorem test_wf_ring_enable : (Instr.ringEnable 0 0 0).wf = false := by decide
theorem test_wf_ring_disable : (Instr.ringDisable 0 0 256).wf = false := by decide
theorem test_wf_step_set : (Instr.stepModeSet 0 0 0).wf = false := by decide
theorem test_wf_step_clear : (Instr.stepModeClear 0 0 512).wf = false := by decide
theorem test_wf_tensor : (Instr.stateTransferEnd 1 65536 0).wf = false := by decide
theorem test_wf_status_page : (Instr.statusPageRefresh [64]).wf = false := by decide
theorem test_wf_codeword : (Instr.codewordUncorrectable 0 6).wf = false := by decide
theorem test_wf_header : (Instr.burstHeader 0 (some [1]) []).wf = false := by decide
theorem test_wf_cabling : (Instr.cablingCheckFrame [(64, 0)]).wf = false := by decide
theorem test_wf_rings : (Instr.ringHeaterUpdate []).wf = false := by decide
theorem test_wf_latch : (Instr.latchReadback 0 65536 0).wf = false := by decide
theorem test_wf_straps : (Instr.strapSample 2048).wf = false := by decide
theorem test_wf_judged : (Instr.calRunJudged 2 [(16, true)] 2500 0).wf = false := by decide
theorem test_wf_power : (Instr.feedforwardUpdate 65536 0).wf = false := by decide
theorem test_wf_heaters : (Instr.terminatedHeaterUpdate 0 []).wf = false := by decide
theorem test_wf_record : (Instr.traceRecord 7 1 0 false []).wf = false := by decide
theorem test_wf_trigger : (Instr.traceTriggered (2 ^ 32)).wf = false := by decide
theorem test_wf_entry_args : (Instr.loglineEntry 1 0 5 0 [1, 2, 3, 4, 5]).wf = false := by decide
theorem test_wf_pc : (Instr.breakHit 3 0 (2 ^ 64)).wf = false := by decide
theorem test_wf_cold_start : (Instr.coldStart { cst with badStacks := [8] }).wf = false := by decide
theorem test_wf_tables : (Instr.warmRestartDone [8] true).wf = false := by decide
theorem test_wf_hello : (Instr.hello 0 [1] 5).wf = false := by decide
theorem test_wf_message : (Instr.lockReq ⟨2 ^ 64, 0, [], []⟩).wf = false := by decide
theorem test_wf_datagram (b : Bytes) (h : b.length = 65508) : (Instr.cleoshDatagram 0 true b).wf = false := by
  simp [Instr.wf, h]
theorem test_wf_lane : (Instr.dieLinkLaneFail 0 64 false).wf = false := by decide
theorem test_wf_relay : (Instr.relay 0 (2 ^ 32)).wf = false := by decide
theorem test_wf_route : (Instr.fmRouteTimeout 0 (2 ^ 32)).wf = false := by decide
theorem test_wf_path : (Instr.fmPathFault 0 (2 ^ 32)).wf = false := by decide

/-! ### Single commands -/

/-- The state a command answers; the same state where it answered none. -/
def after (c : Instr) (s : State) : State :=
  match exec c s with
  | .next t => t
  | .fault _ => s
  | .refused _ => s

/-- Status and tag of the last completion put out. -/
def lastCpl (s : State) : Option (Nat × Nat) :=
  match s.out.getLast? with
  | some (.completion _ _ _ c) => some (c.status, c.tag)
  | _ => none

/-- R106: NOP completes with status 0 and the command's tag. -/
theorem test_nop_completes : lastCpl (after (.nop (rp 0 [])) up) = some (0, 7) := by decide

/-- R38: a virtual function that names another slice is answered 0x0402. -/
theorem test_vf_other_slice :
    lastCpl (after (.sliceQuery { rp 2 [] with fn := 1 }) { up with hif := { up.hif with ring := [(16, rg)] } })
      = some (0x0402, 7) := by decide

/-- R103, R104: MIRROR_SET outside MAINTENANCE is answered 0x0405. -/
theorem test_mirror_set_needs_maintenance : lastCpl (after (.mirrorSet (rb 0 16 [])) up) = some (0x0405, 7) := by decide

/-- Log entry 1: a step on an empty queue moves the clock alone. -/
theorem test_idle : (match step State.reset with
    | .next t => t.mod == .starting && t.out == [] && t.pending == []
    | _ => false) = true := by decide

/-- R476: MOD_RESET_N below 100 ms does nothing. -/
theorem test_reset_99_ms : after (.modResetN 99 cst) sf = sf := by decide

/-- R303: straps 10110000101 of odd parity give hall 5 and rack 34. -/
theorem test_straps : ((after (.coldStart cst) up).topo.hall, (after (.coldStart cst) up).topo.rack) = (5, 34) := by decide

/-- R421: the third unplanned restart in 10 minutes is FAILED. -/
theorem test_third_restart_fails :
    (after (.warmRestart .fault 5) { up with boot := { up.boot with unplannedAt := [0, 0] } }).mod = .failed := by decide

/-- R428: HELLO is answered with CHALLENGE, whose type is 0x02. -/
theorem test_hello_challenge : (match (after (.hello 0 (List.replicate 16 9) 5) up).out with
    | [.cleosh 1 d] => be d 3 1
    | _ => 0) = 2 := by decide

/-- R429: a free update lock is granted. -/
theorem test_lock_granted :
    ((after (.lockReq (msg [])) (wse up (sq 3 0x20 (msg [])))).boot.lock.map Lock.sess) = some 9 := by decide

/-- R427: an Operator (role 2) gets no update lock. -/
theorem test_lock_needs_custodian :
    (after (.lockReq (msg [])) (wse up (sq 2 0x20 (msg [])))).boot.lock = none := by decide

/-- R453: a location already poisoned is not poisoned twice. -/
theorem test_poison_once :
    (after (.memUncorrectable 1 64 0 1 0) (wmem up { Mem.reset with poison := [(1, 64)] })).mem.poison = [(1, 64)] := by decide

/-- R452: 61 corrections in 60 s raise the alarm, 60 do not. -/
theorem test_rate_61 : (after (.scrubPass 2 false [(5, 61)] []) up).mem.rateHigh = [131077] := by decide
theorem test_rate_60 : (after (.scrubPass 2 false [(5, 60)] []) up).mem.rateHigh = [] := by decide

/-- R465: the third lane failure of a die-to-die port loses it. -/
theorem test_third_lane : (after (.dieLinkLaneFail 1 9 false) (wmem up { Mem.reset with lanes := [(1, 2)] })).mem.deadDies
    = [1] := by decide

/-- R466: the issue rate falls by an eighth above 100 °C and never below a quarter. -/
theorem test_throttle : (after (.throttleStep 10001) up).mem.rate = 7 := by decide
theorem test_throttle_floor : (after (.throttleStep 10001) (wmem up { Mem.reset with rate := 2 })).mem.rate = 2 := by decide

/-- R466: above 110 °C the module stops its units. -/
theorem test_thermal_stop : (after (.thermalStop 11001) up).mem.thermStop = true := by decide

/-- R484: the coolant alarm stands below 18.0 L/min. -/
theorem test_coolant : (after (.sensorLimit 8 179 2500) up).mem.coolantOut = true := by decide

/-- R408: an entry takes the next sequence number. -/
theorem test_logline_seq : (after (.loglineEntry 3 0 0x1234 0 [1]) up).log.seq = 1 := by decide

/-- R81: rings are DISABLED at reset. -/
theorem test_reset_ring_disabled : (State.reset.ring 0 0).st = .disabled := by decide

end Sys2Proof.Tests
end

section
/-! SUPPORT. What `Safety.Legal` reads of a state, and the general rules for what keeps it. -/

namespace Sys2Proof

/-! ### Tables: every entry after a put -/

theorem Tbl.mem_of_find {α : Type} {t : Tbl α} {k : Nat} {v : α} (h : Tbl.find t k = some v) : (k, v) ∈ t := by
  induction t with
  | nil => simp [Tbl.find] at h
  | cons e t ih =>
    obtain ⟨j, w⟩ := e
    by_cases hj : j = k
    · simp_all [Tbl.find]
    · exact List.mem_cons_of_mem _ (ih (by simpa [Tbl.find, hj] using h))

theorem Tbl.mem_put {α : Type} {t : Tbl α} {k : Nat} {v : α} {e : Nat × α} (h : e ∈ Tbl.put t k v) : e = (k, v) ∨ e ∈ t := by
  induction t with
  | nil => simpa [Tbl.put] using h
  | cons d t ih =>
    obtain ⟨j, w⟩ := d
    unfold Tbl.put at h
    split at h
    · rcases List.mem_cons.mp h with rfl | h
      · simp
      · exact (ih h).imp_right (List.mem_cons_of_mem _)
    · split at h <;> simp only [List.mem_cons] at h ⊢ <;> tauto

/-- Putting a value that a test judges as it judged the entry found leaves the judgement of the whole table. -/
theorem Tbl.all_put {α : Type} (p : α → Bool) {t : Tbl α} {k : Nat} {x v : α} (hx : Tbl.find t k = some x) (hv : p v = p x) :
    (Tbl.put t k v).all (fun e => p e.2) = t.all (fun e => p e.2) := by
  induction t with
  | nil => simp [Tbl.find] at hx
  | cons e t ih =>
    obtain ⟨j, w⟩ := e
    by_cases hj : j = k
    · obtain rfl : w = x := by simpa [Tbl.find, hj] using hx
      simp [Tbl.put, hj, hv]
    · have hx' : Tbl.find t k = some x := by simpa [Tbl.find, hj] using hx
      by_cases hlt : j < k
      · simpa [Tbl.put, hlt] using congrArg (p w && ·) (ih hx')
      · have hall : t.all (fun e => p e.2) = true → p x = true :=
          fun h => List.all_eq_true.mp h _ (Tbl.mem_of_find hx')
        have hput : Tbl.put ((j, w) :: t) k v = (k, v) :: (j, w) :: t := by simp [Tbl.put, hlt, hj]
        rw [hput, List.all_cons, List.all_cons, hv]
        cases ha : t.all (fun e => p e.2)
        · simp
        · simp [hall ha]

namespace Machine

/-! ### The legal part of a state -/

/-- What `Safety.Legal` reads of a state: its fuses, and whether every fabric-memory window is in canonical form. -/
def State.legality (s : State) : Fuse × Bool := (s.fuse, Safety.windowsWf s)

/-- The state in which a command's own part ends. -/
def CmdOut.state : CmdOut → State
  | .done s _ _ _ => s
  | .wait s _ => s

/-- The legal part of the state that an outcome reaches. -/
def outcomeLegality : Host.Outcome State Fault Refusal → Option (Fuse × Bool)
  | .next s => some s.legality
  | .fault _ => none
  | .refused _ => none

/-- The fuses stay, and canonical windows stay canonical. -/
def Keeps (a b : Fuse × Bool) : Prop := b.1 = a.1 ∧ (a.2 = true → b.2 = true)

@[simp] theorem Keeps.rfl {a : Fuse × Bool} : Keeps a a := ⟨Eq.refl _, id⟩

theorem Keeps.trans {a b c : Fuse × Bool} (h : Keeps a b) (k : Keeps b c) : Keeps a c := ⟨k.1.trans h.1, k.2 ∘ h.2⟩

theorem keeps_legality_iff {s t : State} :
    Keeps s.legality t.legality ↔ t.fuse = s.fuse ∧ (Safety.windowsWf s = true → Safety.windowsWf t = true) := Iff.rfl

@[simp] theorem CmdOut.state_done (s : State) (st w0 w1 : Nat) : (CmdOut.done s st w0 w1).state = s := rfl
@[simp] theorem CmdOut.state_wait (s : State) (w : Wait) : (CmdOut.wait s w).state = s := rfl
@[simp] theorem CmdOut.state_ok (s : State) (w0 w1 : Nat) : (ok s w0 w1).state = s := rfl
@[simp] theorem CmdOut.state_refuse (s : State) (e : Nat × Nat × Nat) : (CmdOut.refuse s e).state = s := rfl
@[simp] theorem CmdOut.state_ite (c : Prop) [Decidable c] (x y : CmdOut) :
    (if c then x else y).state = if c then x.state else y.state := apply_ite _ c x y

@[simp] theorem outcomeLegality_next (s : State) : outcomeLegality (.next s) = some s.legality := rfl

@[simp] theorem State.legality_ite (c : Prop) [Decidable c] (s t : State) :
    (if c then s else t).legality = if c then s.legality else t.legality := apply_ite _ c s t

/-- Writing any part of the state but its fuses and its topology. -/
@[simp] theorem State.legality_frame (s : State) (mod : Mod) (ast : Ast) (bnc : Bnc) (log : Log) (hif : Hif) (plane : Plane)
    (col : Col) (psg : Tbl Passage) (skk : Skk) (fm : Fm) (boot : Boot) (sxt : Sxt) (mem : Mem) (lnk : Lnk) (free : Nat)
    (out : List Out) (pending : List Instr) :
    State.legality ⟨s.fuse, mod, ast, bnc, log, hif, s.topo, plane, col, psg, skk, fm, boot, sxt, mem, lnk, free, out,
      pending⟩ = s.legality := rfl

/-- Writing any part of the state but its fuses and its slices. -/
@[simp] theorem State.legality_topo_frame (s : State) (mod : Mod) (ast : Ast) (bnc : Bnc) (log : Log) (hif : Hif)
    (plane : Plane) (col : Col) (psg : Tbl Passage) (skk : Skk) (fm : Fm) (boot : Boot) (sxt : Sxt) (mem : Mem) (lnk : Lnk)
    (free : Nat) (out : List Out) (pending : List Instr) (hall rack strapState straps strapDiff : Nat) (strapWarned : Bool)
    (owner : Tbl Nat) (tport : Tbl TPort) (linkMap : Tbl (List Nat)) (plot : Tbl Plot) :
    State.legality ⟨s.fuse, mod, ast, bnc, log, hif,
      ⟨hall, rack, strapState, straps, strapDiff, strapWarned, owner, tport, linkMap, plot, s.topo.slice⟩,
      plane, col, psg, skk, fm, boot, sxt, mem, lnk, free, out, pending⟩ = s.legality := rfl

/-! ### Repetition -/

@[simp] theorem State.legality_foldl {α : Type} (g : State → α → State) (h : ∀ s x, (g s x).legality = s.legality)
    (l : List α) (s : State) : (l.foldl g s).legality = s.legality :=
  List.foldlRecOn l g (motive := fun t => t.legality = s.legality) rfl (fun t ht x _ => (h t x).trans ht)

@[simp] theorem State.legality_foldl_fst {α β : Type} (g : State × β → α → State × β)
    (h : ∀ a x, (g a x).1.legality = a.1.legality) (l : List α) (a : State × β) :
    (l.foldl g a).1.legality = a.1.legality :=
  List.foldlRecOn l g (motive := fun b => b.1.legality = a.1.legality) rfl (fun b hb x _ => (h b x).trans hb)

@[simp] theorem State.legality_foldl_snd {α β : Type} (g : β × State → α → β × State)
    (h : ∀ a x, (g a x).2.legality = a.2.legality) (l : List α) (a : β × State) :
    (l.foldl g a).2.legality = a.2.legality :=
  List.foldlRecOn l g (motive := fun b => b.2.legality = a.2.legality) rfl (fun b hb x _ => (h b x).trans hb)

/-! ### Slices and windows -/

/-- A change of a slice that leaves its window alone. -/
@[simp] theorem State.updSlice_legality (s : State) (n : Nat) (f : Slice → Slice) (h : ∀ x, (f x).window = x.window) :
    (s.updSlice n f).legality = s.legality := by
  unfold State.updSlice
  split
  · rfl
  · rename_i x hx
    exact congrArg (Prod.mk _) (Tbl.all_put (fun y : Slice => Memory.wf y.window) hx (by simp [h]))

/-- A change of a slice that leaves a canonical window canonical. -/
theorem State.updSlice_keeps (s : State) (n : Nat) (f : Slice → Slice)
    (h : ∀ x, Memory.wf x.window = true → Memory.wf (f x).window = true) : Keeps s.legality (s.updSlice n f).legality := by
  unfold State.updSlice
  split
  · exact Keeps.rfl
  · rename_i x hx
    refine ⟨rfl, fun hs => List.all_eq_true.mpr fun e he => ?_⟩
    have hs := List.all_eq_true.mp hs
    rcases Tbl.mem_put he with rfl | he
    · exact h x (hs _ (Tbl.mem_of_find hx))
    · exact hs e he

theorem Memory.lt_of_mem {m : List Host.Cell} {a : Nat} (h : Memory.wf m = true) (ha : Memory.above a m) {d : Host.Cell}
    (hd : d ∈ m) : a < d.1 := by
  induction m generalizing a with
  | nil => simp at hd
  | cons c t ih =>
    obtain ⟨_, ht, hw⟩ := Memory.wf_cons.mp h
    have hc : a < c.1 := ha c rfl
    rcases List.mem_cons.mp hd with rfl | hd
    · exact hc
    · exact hc.trans (ih hw ht hd)

/-- A window from which bytes are dropped stays canonical (R279). -/
theorem Memory.wf_filter (p : Host.Cell → Bool) {m : List Host.Cell} (h : Memory.wf m = true) :
    Memory.wf (m.filter p) = true := by
  induction m with
  | nil => rfl
  | cons c t ih =>
    obtain ⟨hc, ht, hw⟩ := Memory.wf_cons.mp h
    rw [List.filter_cons]
    split
    · have habove : Memory.above c.1 (t.filter p) :=
        fun d hd => Memory.lt_of_mem hw ht (List.mem_filter.mp (List.mem_of_mem_head? hd)).1
      exact Memory.wf_cons.mpr ⟨hc, habove, ih hw⟩
    · exact ih hw

/-! ### Host commands -/

/-- A command whose checks fail ends where it began, any other where its own effect ends. -/
@[simp] theorem guarded_state (s : State) (cs : List Chk) (f : CmdOut) :
    (guarded s cs f).state = if (firstFail cs).isSome then s else f.state := by
  unfold guarded
  split <;> simp_all

theorem guarded_legality (s : State) (cs : List Chk) (f : CmdOut) (h : f.state.legality = s.legality) :
    (guarded s cs f).state.legality = s.legality := by
  simp [h]

theorem guarded_keeps (s : State) (cs : List Chk) (f : CmdOut) (h : Keeps s.legality f.state.legality) :
    Keeps s.legality (guarded s cs f).state.legality := by
  rw [guarded_state]
  split
  · exact Keeps.rfl
  · exact h

/-! ## The operations that write neither a fuse nor a window: one lemma for each.
Those that hold by unfolding are proved `by rfl`, not `:= rfl`: `simp` then takes them as rewrite rules, which it can use
under the hypothesis of `State.legality_foldl`. -/

/-! ### Shared operations -/

@[simp] theorem State.advanceTo_legality (s : State) (t : Nat) : (s.advanceTo t).legality = s.legality := by rfl
@[simp] theorem State.fresh_legality (s : State) (w : Nat) : (s.fresh w).2.legality = s.legality := by rfl
@[simp] theorem State.emit_legality (s : State) (o : Out) : (s.emit o).legality = s.legality := by rfl
@[simp] theorem State.answer_legality (s : State) (v : Nat) : (s.answer v).legality = s.legality := by rfl
@[simp] theorem State.updPsg_legality (s : State) (slice pid : Nat) (f : Passage → Passage) :
    (s.updPsg slice pid f).legality = s.legality := by
  unfold State.updPsg
  split <;> simp
@[simp] theorem State.traceAt_legality (s : State) (time typ slice : Nat) (stretch : Bool) (domain : Nat)
    (body : Bytes) :
    (s.traceAt time typ slice stretch domain body).legality = s.legality := by simp [State.traceAt]
@[simp] theorem State.trace_legality (s : State) (typ slice : Nat) (body : Bytes) :
    (s.trace typ slice body).legality = s.legality := by simp [State.trace]
@[simp] theorem State.logAdd_legality (s : State) (sev slice event agent : Nat) (args : List Nat) :
    (s.logAdd sev slice event agent args).legality = s.legality := by simp [State.logAdd]
@[simp] theorem State.fatal_legality (s : State) (event agent : Nat) (args : List Nat) :
    (s.fatal event agent args).legality = s.legality := by rfl
@[simp] theorem State.count_legality (s : State) (source inst n : Nat) :
    (s.count source inst n).legality = s.legality := by rfl
@[simp] theorem State.updRing_legality (s : State) (fn ring : Nat) (f : Ring → Ring) :
    (s.updRing fn ring f).legality = s.legality := by rfl
@[simp] theorem State.updFn_legality (s : State) (fn : Nat) (f : FnBlock → FnBlock) :
    (s.updFn fn f).legality = s.legality := by rfl
@[simp] theorem State.fnErr_legality (s : State) (fn i : Nat) : (s.fnErr fn i).legality = s.legality := by rfl
@[simp] theorem State.complete_legality (s : State) (fn ring seq tag status w0 w1 : Nat) (logged : Bool) (dma : Dma)
    (discard : Bool) :
    (s.complete fn ring seq tag status w0 w1 logged dma discard).legality = s.legality := by simp [State.complete]

/-! ### Rings and host commands (03) -/

@[simp] theorem State.useNonce_legality (s : State) (i : CmdInfo) :
    (s.useNonce i).legality = s.legality := by simp [State.useNonce]
@[simp] theorem State.finish_legality (s : State) (opcode : Nat) (r : Req) (status w0 w1 : Nat) (logged : Bool) :
    (s.finish opcode r status w0 w1 logged).legality = s.legality := by simp [State.finish]
@[simp] theorem State.begin_legality (s : State) (opcode : Nat) (r : Req) :
    (s.begin opcode r).legality = s.legality := by simp [State.begin]
@[simp] theorem State.refuseCmd_legality (s : State) (opcode : Nat) (r : Req) (e : Nat × Nat × Nat) :
    (s.refuseCmd opcode r e).legality = s.legality := by simp [State.refuseCmd]

/-- The own part of a command is all of it that can touch a fuse or a window. -/
theorem State.runReq_legality_cases (s : State) (op : Nat) (i : CmdInfo) (r : Req) (pre : Chk) (run : Req → State → CmdOut) :
    (s.runReq op i r pre run).legality = s.legality
      ∨ ∃ s1, s1.legality = s.legality ∧ (s.runReq op i r pre run).legality = (run r s1).state.legality := by
  unfold State.runReq
  simp only
  split
  · exact .inl (by simp)
  · refine .inr ⟨(s.begin op r).useNonce i, by simp, ?_⟩
    split <;> rename_i h <;> simp [h]

theorem State.hostRow_legality_cases (s : State) (op : Nat) (r : Req) (run : Req → State → CmdOut) :
    (s.hostRow op r run).legality = s.legality
      ∨ ∃ s1, s1.legality = s.legality ∧ (s.hostRow op r run).legality = (run r s1).state.legality := by
  unfold State.hostRow
  split
  · exact .inl rfl
  · split
    · exact .inl rfl
    · split
      · exact .inl (by simp)
      · exact s.runReq_legality_cases op _ r none run

theorem State.runReq_keeps (s : State) (op : Nat) (i : CmdInfo) (r : Req) (pre : Chk) (run : Req → State → CmdOut)
    (h : ∀ s, Keeps s.legality (run r s).state.legality) : Keeps s.legality (s.runReq op i r pre run).legality := by
  rcases s.runReq_legality_cases op i r pre run with e | ⟨s1, e1, e⟩
  · rw [e]; exact Keeps.rfl
  · rw [e, ← e1]; exact h s1

@[simp] theorem State.hostRow_legality (s : State) (op : Nat) (r : Req) (run : Req → State → CmdOut)
    (h : ∀ s, (run r s).state.legality = s.legality) : (s.hostRow op r run).legality = s.legality := by
  rcases s.hostRow_legality_cases op r run with e | ⟨s1, e1, e⟩
  · exact e
  · rw [e, h, e1]

theorem State.hostRow_keeps (s : State) (op : Nat) (r : Req) (run : Req → State → CmdOut)
    (h : ∀ s, Keeps s.legality (run r s).state.legality) : Keeps s.legality (s.hostRow op r run).legality := by
  rcases s.hostRow_legality_cases op r run with e | ⟨s1, e1, e⟩
  · rw [e]; exact Keeps.rfl
  · rw [e, ← e1]; exact h s1

@[simp] theorem State.completeExec_legality (s : State) (e : Exec) (status w0 w1 : Nat) :
    (s.completeExec e status w0 w1).legality = s.legality := by simp [State.completeExec]
@[simp] theorem State.completeWhere_legality (s : State) (p : Wait → Bool) (status w0 w1 : Nat) :
    (s.completeWhere p status w0 w1).legality = s.legality := by simp [State.completeWhere]
@[simp] theorem State.writeBase_legality (s : State) (fn k : Nat) (cpl : Bool) (v : Nat) :
    (s.writeBase fn k cpl v).legality = s.legality := by simp [State.writeBase]
@[simp] theorem State.cfgDisabled_legality (s : State) (fn k v : Nat) :
    (s.cfgDisabled fn k v).legality = s.legality := by simp [State.cfgDisabled]
@[simp] theorem State.cfgEnabled_legality (s : State) (fn k v : Nat) :
    (s.cfgEnabled fn k v).legality = s.legality := by simp [State.cfgEnabled]
@[simp] theorem State.writeCfg_legality (s : State) (fn k v : Nat) :
    (s.writeCfg fn k v).legality = s.legality := by simp [State.writeCfg]
@[simp] theorem State.writeTail_legality (s : State) (fn k v : Nat) :
    (s.writeTail fn k v).legality = s.legality := by simp [State.writeTail]
@[simp] theorem State.writeHead_legality (s : State) (fn k v : Nat) : (s.writeHead fn k v).legality = s.legality := by
  unfold State.writeHead
  split <;> simp
@[simp] theorem State.writeResume_legality (s : State) (fn k v : Nat) :
    (s.writeResume fn k v).legality = s.legality := by simp [State.writeResume]
@[simp] theorem State.resetFn_legality (s : State) (fn : Nat) : (s.resetFn fn).legality = s.legality := by rfl
@[simp] theorem execHifRingCmdDb_legality (fn : Fin 64) (ring : Fin 16) (value : Nat) (s : State) :
    outcomeLegality (execHifRingCmdDb fn ring value s) = some s.legality := by simp [execHifRingCmdDb]
@[simp] theorem execHifRingCplDb_legality (fn : Fin 64) (ring : Fin 16) (value : Nat) (s : State) :
    outcomeLegality (execHifRingCplDb fn ring value s) = some s.legality := by simp [execHifRingCplDb]
@[simp] theorem execHifRingCtrlResume_legality (fn : Fin 64) (ring : Fin 16) (value : Nat) (s : State) :
    outcomeLegality (execHifRingCtrlResume fn ring value s) = some s.legality := by simp [execHifRingCtrlResume]
@[simp] theorem execRingEnable_legality (fn : Fin 64) (ring : Fin 16) (value : Nat) (s : State) :
    outcomeLegality (execRingEnable fn ring value s) = some s.legality := by simp [execRingEnable]
@[simp] theorem execRingDisable_legality (fn : Fin 64) (ring : Fin 16) (value : Nat) (s : State) :
    outcomeLegality (execRingDisable fn ring value s) = some s.legality := by simp [execRingDisable]
@[simp] theorem execStepModeSet_legality (fn : Fin 64) (ring : Fin 16) (value : Nat) (s : State) :
    outcomeLegality (execStepModeSet fn ring value s) = some s.legality := by simp [execStepModeSet]
@[simp] theorem execRingDrainDone_legality (fn : Fin 64) (ring : Fin 16) (s : State) :
    outcomeLegality (execRingDrainDone fn ring s) = some s.legality := by simp [execRingDrainDone]
@[simp] theorem execBar0BadAccess_legality (fn : Fin 64) (write : Bool) (s : State) :
    outcomeLegality (execBar0BadAccess fn write s) = some s.legality := by simp [execBar0BadAccess]
@[simp] theorem execFunctionLevelReset_legality (fn : Fin 64) (s : State) :
    outcomeLegality (execFunctionLevelReset fn s) = some s.legality := by simp [execFunctionLevelReset]
@[simp] theorem execPcieLinkDown_legality (s : State) :
    outcomeLegality (execPcieLinkDown s) = some s.legality := by simp [execPcieLinkDown]
@[simp] theorem execPcieLinkUp_legality (gen : Fin 8) (width : Fin 9) (s : State) :
    outcomeLegality (execPcieLinkUp gen width s) = some s.legality := by simp [execPcieLinkUp]
@[simp] theorem execCommandTimeout_legality (fn : Fin 64) (ring : Fin 16) (s : State) :
    outcomeLegality (execCommandTimeout fn ring s) = some s.legality := by
  unfold execCommandTimeout
  split <;> simp

/-! ### Binnacle and Logline (13) -/

@[simp] theorem cmdCtrSelect_legality (r : Req) (s : State) :
    (cmdCtrSelect r s).state.legality = s.legality := by simp [cmdCtrSelect]
@[simp] theorem State.orphan_legality (s : State) (scope : Nat) (p : Nat → Bool) :
    (s.orphan scope p).legality = s.legality := by rfl
@[simp] theorem State.latch_legality (s : State) (cause origin : Nat) :
    (s.latch cause origin).legality = s.legality := by simp [State.latch]
@[simp] theorem cmdCtrSnapshot_legality (r : Req) (s : State) : (cmdCtrSnapshot r s).state.legality = s.legality := by
  refine guarded_legality s _ _ ((State.latch_legality _ _ _).trans ?_)
  (repeat' split) <;> rfl
@[simp] theorem execSnapshotWritten_legality (s : State) :
    outcomeLegality (execSnapshotWritten s) = some s.legality := by
  unfold execSnapshotWritten
  split <;> simp
@[simp] theorem State.stopTrace_legality (s : State) (cause : Nat) : (s.stopTrace cause).legality = s.legality := by rfl
@[simp] theorem cmdTraceConfig_legality (r : Req) (s : State) :
    (cmdTraceConfig r s).state.legality = s.legality := by simp [cmdTraceConfig]
@[simp] theorem cmdTraceArm_legality (r : Req) (s : State) :
    (cmdTraceArm r s).state.legality = s.legality := by simp [cmdTraceArm]
@[simp] theorem cmdTraceStop_legality (r : Req) (s : State) :
    (cmdTraceStop r s).state.legality = s.legality := by simp [cmdTraceStop]
@[simp] theorem cmdTraceQuery_legality (r : Req) (s : State) :
    (cmdTraceQuery r s).state.legality = s.legality := by simp [cmdTraceQuery]
@[simp] theorem execTraceRecord_legality (typ : Fin 16) (slice : Fin 64) (domain : Fin 13) (stretch : Bool)
    (body : Bytes) (s : State) :
    outcomeLegality (execTraceRecord typ slice domain stretch body s) = some s.legality := by simp [execTraceRecord]
@[simp] theorem execTraceTriggered_legality (seq : Nat) (s : State) :
    outcomeLegality (execTraceTriggered seq s) = some s.legality := by simp [execTraceTriggered]
@[simp] theorem execTraceRingFull_legality (s : State) :
    outcomeLegality (execTraceRingFull s) = some s.legality := by simp [execTraceRingFull]
@[simp] theorem execTraceStageDrain_legality (n : Nat) (s : State) :
    outcomeLegality (execTraceStageDrain n s) = some s.legality := by rfl
@[simp] theorem State.updCore_legality (s : State) (c : Nat) (f : Core → Core) :
    (s.updCore c f).legality = s.legality := by rfl
@[simp] theorem State.flushLog_legality (s : State) : (s.flushLog).legality = s.legality := by simp [State.flushLog]
@[simp] theorem State.halt_legality (s : State) (c st index kind pc : Nat) :
    (s.halt c st index kind pc).legality = s.legality := by simp [State.halt]
@[simp] theorem cmdBreakSet_legality (r : Req) (s : State) : (cmdBreakSet r s).state.legality = s.legality := by
  simp only [cmdBreakSet]
  (repeat' split) <;> simp
@[simp] theorem execBreakHit_legality (core : Fin 32) (index : Fin 4) (pc : Nat) (s : State) :
    outcomeLegality (execBreakHit core index pc s) = some s.legality := by
  unfold execBreakHit
  split <;> simp
@[simp] theorem State.resumeCore_legality (s : State) (c mode : Nat) :
    (s.resumeCore c mode).legality = s.legality := by simp [State.resumeCore]
@[simp] theorem cmdCoreResume_legality (r : Req) (s : State) :
    (cmdCoreResume r s).state.legality = s.legality := by simp [cmdCoreResume]
@[simp] theorem cmdLogRead_legality (r : Req) (s : State) : (cmdLogRead r s).state.legality = s.legality := by
  simp only [cmdLogRead]
  (repeat' split) <;> simp
@[simp] theorem cmdLogNonce_legality (r : Req) (s : State) :
    (cmdLogNonce r s).state.legality = s.legality := by simp [cmdLogNonce]
@[simp] theorem cmdLogClear_legality (r : Req) (s : State) :
    (cmdLogClear r s).state.legality = s.legality := by simp [cmdLogClear]
@[simp] theorem execLoglineEntry_legality (severity : Fin 7) (slice : Fin 64) (event agent : Nat) (args : List Nat)
    (s : State) :
    outcomeLegality (execLoglineEntry severity slice event agent args s) = some s.legality := by simp [execLoglineEntry]
@[simp] theorem execJournalWrite_legality (ok : Bool) (s : State) :
    outcomeLegality (execJournalWrite ok s) = some s.legality := by
  simp only [execJournalWrite]
  (repeat' split) <;> simp
@[simp] theorem execRecorderStandby_legality (addr : Nat) (s : State) :
    outcomeLegality (execRecorderStandby addr s) = some s.legality := by simp [execRecorderStandby]

/-! ### Astrolabe (11) -/

@[simp] theorem State.tick_legality (s : State) : (s.tick).legality = s.legality := by rfl
@[simp] theorem State.enterTime_legality (s : State) (t : TimeState) :
    (s.enterTime t).legality = s.legality := by simp [State.enterTime]
@[simp] theorem State.astEvent_legality (s : State) (i : Nat) : (s.astEvent i).legality = s.legality := by rfl
@[simp] theorem State.measure_legality (s : State) (θ : Int) :
    (s.measure θ).legality = s.legality := by simp [State.measure]
@[simp] theorem State.holdJump_legality (s : State) (θ : Int) : (s.holdJump θ).legality = s.legality := by rfl
@[simp] theorem State.judgeOffset_legality (s : State) (θ : Int) :
    (s.judgeOffset θ).legality = s.legality := by simp [State.judgeOffset]
@[simp] theorem State.setTrig_legality (s : State) (i : Nat) (t : Trig) :
    (s.setTrig i t).legality = s.legality := by rfl
@[simp] theorem State.updRegion_legality (s : State) (r : Nat) (f : Region → Region) :
    (s.updRegion r f).legality = s.legality := by rfl
@[simp] theorem State.calStart_legality (s : State) (r : Nat) : (s.calStart r).legality = s.legality := by rfl
@[simp] theorem State.fireTrig_legality (s : State) (i : Nat) :
    (s.fireTrig i).legality = s.legality := by simp [State.fireTrig]
@[simp] theorem State.stepTrig_legality (s : State) (i : Nat) :
    (s.stepTrig i).legality = s.legality := by simp [State.stepTrig]
@[simp] theorem execCounterSnapshotTrigger_legality (i : Fin 16) (s : State) :
    outcomeLegality (execCounterSnapshotTrigger i s) = some s.legality := by simp [execCounterSnapshotTrigger]
@[simp] theorem execSextantSweepTrigger_legality (i : Fin 16) (s : State) :
    outcomeLegality (execSextantSweepTrigger i s) = some s.legality := by simp [execSextantSweepTrigger]
@[simp] theorem State.stepTo_legality (s : State) (t : Nat) :
    (s.stepTo t).legality = s.legality := by simp [State.stepTo]
@[simp] theorem execTimeStep_legality (masterTime : Nat) (s : State) :
    outcomeLegality (execTimeStep masterTime s) = some s.legality := by simp [execTimeStep]
@[simp] theorem execPtpMessage_legality (m : PtpMsg) (s : State) :
    outcomeLegality (execPtpMessage m s) = some s.legality := by
  unfold execPtpMessage
  split <;> simp
@[simp] theorem execPpsEdge_legality (offset : Int) (s : State) :
    outcomeLegality (execPpsEdge offset s) = some s.legality := by simp [execPpsEdge]
@[simp] theorem execDisciplineLost_legality (s : State) :
    outcomeLegality (execDisciplineLost s) = some s.legality := by simp [execDisciplineLost]
@[simp] theorem execHoldoverExpiry_legality (s : State) :
    outcomeLegality (execHoldoverExpiry s) = some s.legality := by simp [execHoldoverExpiry]
@[simp] theorem execUnqualifiedExpiry_legality (s : State) :
    outcomeLegality (execUnqualifiedExpiry s) = some s.legality := by simp [execUnqualifiedExpiry]
@[simp] theorem execMasterChange_legality (master : Nat) (offset : Int) (s : State) :
    outcomeLegality (execMasterChange master offset s) = some s.legality := by simp [execMasterChange]
@[simp] theorem execTenMhzLost_legality (s : State) : outcomeLegality (execTenMhzLost s) = some s.legality := by rfl
@[simp] theorem execPpsOut_legality (s : State) : outcomeLegality (execPpsOut s) = some s.legality := by rfl
@[simp] theorem execAstNowSRead_legality (s : State) : outcomeLegality (execAstNowSRead s) = some s.legality := by rfl
@[simp] theorem cmdTimeGet_legality (r : Req) (s : State) :
    (cmdTimeGet r s).state.legality = s.legality := by simp [cmdTimeGet]
@[simp] theorem cmdTimeStatus_legality (r : Req) (s : State) :
    (cmdTimeStatus r s).state.legality = s.legality := by simp [cmdTimeStatus]
@[simp] theorem cmdTimeConfig_legality (r : Req) (s : State) :
    (cmdTimeConfig r s).state.legality = s.legality := by simp [cmdTimeConfig]
@[simp] theorem cmdTriggerSet_legality (r : Req) (s : State) :
    (cmdTriggerSet r s).state.legality = s.legality := by simp [cmdTriggerSet]

/-! ### Transparent plane (04) -/

@[simp] theorem State.updMirror_legality (s : State) (m : Nat) (f : Mirror → Mirror) :
    (s.updMirror m f).legality = s.legality := by rfl
@[simp] theorem State.updTf_legality (s : State) (k : Nat) (f : Tf → Tf) : (s.updTf k f).legality = s.legality := by rfl
@[simp] theorem State.trpEvent_legality (s : State) (i : Nat) : (s.trpEvent i).legality = s.legality := by rfl
@[simp] theorem State.updPlots_legality (s : State) (f : Nat → Plot → Plot) :
    (s.updPlots f).legality = s.legality := by rfl
@[simp] theorem State.updPlot_legality (s : State) (id : Nat) (f : Plot → Plot) :
    (s.updPlot id f).legality = s.legality := by rfl
@[simp] theorem State.updCircuits_legality (s : State) (f : Circuit → Circuit) :
    (s.updCircuits f).legality = s.legality := by rfl
@[simp] theorem State.aim_legality (s : State) (m : Nat) (a : Aim) : (s.aim m a).legality = s.legality := by
  unfold State.aim
  split <;> simp
@[simp] theorem State.supersede_legality (s : State) (m : Nat) (a : Aim) :
    (s.supersede m a).legality = s.legality := by rfl
@[simp] theorem State.aimCircuit_legality (s : State) (c : Circuit) :
    (s.aimCircuit c).legality = s.legality := by simp [State.aimCircuit]
@[simp] theorem State.portMirrorFailed_legality (s : State) (m : Nat) :
    (s.portMirrorFailed m).legality = s.legality := by
  simp only [State.portMirrorFailed]
  (repeat' split) <;> simp
@[simp] theorem State.failCircuit_legality (s : State) (c : Circuit) (fault : Nat) :
    (s.failCircuit c fault).legality = s.legality := by rfl
@[simp] theorem State.failMirror_legality (s : State) (m fault : Nat) (driver : Bool) :
    (s.failMirror m fault driver).legality = s.legality := by
  unfold State.failMirror
  split <;> simp
@[simp] theorem State.holdCircuit_legality (s : State) (c : Circuit) (i : Nat) (on : Bool) :
    (s.holdCircuit c i on).legality = s.legality := by rfl
@[simp] theorem State.endCircuits_legality (s : State) (cs : List Circuit) (keep : Nat → Bool) :
    (s.endCircuits cs keep).legality = s.legality := by rfl
@[simp] theorem State.finishReleases_legality (s : State) :
    (s.finishReleases).legality = s.legality := by simp [State.finishReleases]
@[simp] theorem State.startMirror_legality (s : State) (m : Nat) : (s.startMirror m).legality = s.legality := by
  unfold State.startMirror
  split <;> simp
@[simp] theorem execTfBatchSlot_legality (tf : Fin 16) (s : State) :
    outcomeLegality (execTfBatchSlot tf s) = some s.legality := by
  simp only [execTfBatchSlot]
  (repeat' split) <;> simp
@[simp] theorem State.mirrorAcquiring_legality (s : State) (out : Fin 1024) (ident : Fin 1024) :
    (s.mirrorAcquiring out ident).legality = s.legality := by
  simp only [State.mirrorAcquiring]
  (repeat' split) <;> simp
@[simp] theorem execMirrorSettled_legality (out : Fin 1024) (loss : Nat) (s : State) :
    outcomeLegality (execMirrorSettled out loss s) = some s.legality := by
  simp only [execMirrorSettled]
  (repeat' split) <;> simp
@[simp] theorem State.mirrorParked_legality (s : State) (m : Fin 2048) :
    (s.mirrorParked m).legality = s.legality := by simp [State.mirrorParked]
@[simp] theorem execLoopFrame_legality (out : Fin 1024) (dx0 dy0 dx1 dy1 : Int) (s : State) :
    outcomeLegality (execLoopFrame out dx0 dy0 dx1 dy1 s) = some s.legality := by
  unfold execLoopFrame
  split <;> simp
@[simp] theorem State.identityCheck_legality (s : State) (out : Fin 1024) (ident : Fin 1024) :
    (s.identityCheck out ident).legality = s.legality := by
  unfold State.identityCheck
  split <;> simp
@[simp] theorem State.holdWhere_legality (s : State) (p : Circuit → Bool) (i : Nat) (on : Bool) :
    (s.holdWhere p i on).legality = s.legality := by simp [State.holdWhere]
@[simp] theorem execMonitorBandDetect_legality (t : Fin 768) (power : Int) (s : State) :
    outcomeLegality (execMonitorBandDetect t power s) = some s.legality := by simp [execMonitorBandDetect]
@[simp] theorem execMonitorBandClear_legality (t : Fin 768) (s : State) :
    outcomeLegality (execMonitorBandClear t s) = some s.legality := by simp [execMonitorBandClear]
@[simp] theorem execMonitorLoss_legality (what : Monitor) (lost : Bool) (s : State) :
    outcomeLegality (execMonitorLoss what lost s) = some s.legality := by simp [execMonitorLoss]
@[simp] theorem execHoldLong_legality (out : Fin 1024) (s : State) :
    outcomeLegality (execHoldLong out s) = some s.legality := by
  unfold execHoldLong
  split <;> simp
@[simp] theorem State.mirrorNotFollowing_legality (s : State) (m : Fin 2048) :
    (s.mirrorNotFollowing m).legality = s.legality := by simp [State.mirrorNotFollowing]
@[simp] theorem State.latchReadback_legality (s : State) (m : Fin 2048) (x y : Nat) :
    (s.latchReadback m x y).legality = s.legality := by simp [State.latchReadback]
@[simp] theorem State.driverOvercurrent_legality (s : State) (m : Fin 2048) :
    (s.driverOvercurrent m).legality = s.legality := by simp [State.driverOvercurrent]
@[simp] theorem State.hvSupplyLost_legality (s : State) (b : Bool) :
    (s.hvSupplyLost b).legality = s.legality := by simp [State.hvSupplyLost]
@[simp] theorem execHvSupplyRestored_legality (b : Bool) (s : State) :
    outcomeLegality (execHvSupplyRestored b s) = some s.legality := by simp [execHvSupplyRestored]
@[simp] theorem execTfWatchdog_legality (tf : Fin 16) (s : State) :
    outcomeLegality (execTfWatchdog tf s) = some s.legality := by simp [execTfWatchdog]
@[simp] theorem execTfReloaded_legality (tf : Fin 16) (s : State) :
    outcomeLegality (execTfReloaded tf s) = some s.legality := by simp [execTfReloaded]
@[simp] theorem State.openPathRow_legality (s : State) (k : Fin 104) :
    (s.openPathRow k).legality = s.legality := by simp [State.openPathRow]
@[simp] theorem mirAct_legality (acc : State × Nat) (e : Nat × Nat × Nat × Nat) :
    (mirAct acc e).1.legality = acc.1.legality := by
  simp only [mirAct]
  (repeat' split) <;> simp
@[simp] theorem cmdMirrorSet_legality (r : Req) (s : State) :
    (cmdMirrorSet r s).state.legality = s.legality := by simp [cmdMirrorSet]
@[simp] theorem State.parkTestMirrors_legality (s : State) : (s.parkTestMirrors).legality = s.legality := by rfl

/-! ### Discovery and slices (10) -/

@[simp] theorem State.updTp_legality (s : State) (t : Nat) (f : TPort → TPort) :
    (s.updTp t f).legality = s.legality := by rfl
@[simp] theorem State.remap_legality (s : State) (t : Nat) : (s.remap t).legality = s.legality := by simp [State.remap]
@[simp] theorem State.rejoin_legality (s : State) (t : Nat) :
    (s.rejoin t).legality = s.legality := by simp [State.rejoin]
@[simp] theorem State.endProbe_legality (s : State) (t : Nat) : (s.endProbe t).legality = s.legality := by
  unfold State.endProbe
  split <;> simp
@[simp] theorem State.quarantine_legality (s : State) (t cause : Nat) :
    (s.quarantine t cause).legality = s.legality := by simp [State.quarantine]
@[simp] theorem State.found_legality (s : State) (t : Nat) : (s.found t).legality = s.legality := by rfl
@[simp] theorem State.judgeHail_legality (s : State) (t : Nat) (h : Hail) :
    (s.judgeHail t h).legality = s.legality := by
  simp only [State.judgeHail]
  (repeat' split) <;> simp
@[simp] theorem execPortLit_legality (t : Fin 768) (s : State) :
    outcomeLegality (execPortLit t s) = some s.legality := by simp [execPortLit]
@[simp] theorem execPortDark_legality (t : Fin 768) (s : State) :
    outcomeLegality (execPortDark t s) = some s.legality := by simp [execPortDark]
@[simp] theorem execProbeStart_legality (t : Fin 768) (s : State) :
    outcomeLegality (execProbeStart t s) = some s.legality := by
  unfold execProbeStart
  split <;> simp
@[simp] theorem execProbeTimeout_legality (t : Fin 768) (s : State) :
    outcomeLegality (execProbeTimeout t s) = some s.legality := by simp [execProbeTimeout]
@[simp] theorem execSilentRetry_legality (t : Fin 768) (s : State) :
    outcomeLegality (execSilentRetry t s) = some s.legality := by simp [execSilentRetry]
@[simp] theorem execStrapSample_legality (levels : Nat) (s : State) :
    outcomeLegality (execStrapSample levels s) = some s.legality := by simp [execStrapSample]
@[simp] theorem State.freePort_legality (s : State) (key : Nat) :
    (s.freePort key).legality = s.legality := by simp [State.freePort]
@[simp] theorem State.yieldProbes_legality (s : State) (ports : List Nat) :
    (s.yieldProbes ports).legality = s.legality := by simp [State.yieldProbes]
@[simp] theorem cmdSliceAssign_legality (r : Req) (s : State) : (cmdSliceAssign r s).state.legality = s.legality := by
  refine guarded_legality s _ _ ?_
  rw [CmdOut.state_ok, State.legality_ite, State.updSlice_legality _ _ Slice.darken (fun _ => rfl), ite_self]
  split <;> simp
@[simp] theorem cmdStandingSet_legality (r : Req) (s : State) : (cmdStandingSet r s).state.legality = s.legality := by
  simp [cmdStandingSet, Slice.darken]
@[simp] theorem cmdPortAdmit_legality (r : Req) (s : State) :
    (cmdPortAdmit r s).state.legality = s.legality := by simp [cmdPortAdmit]
@[simp] theorem cmdSliceQuery_legality (r : Req) (s : State) :
    (cmdSliceQuery r s).state.legality = s.legality := by simp [cmdSliceQuery]

/-! ### Charts (02) -/

@[simp] theorem cmdChartLoad_legality (r : Req) (s : State) :
    (cmdChartLoad r s).state.legality = s.legality := by simp [cmdChartLoad]
@[simp] theorem cmdChartQuery_legality (r : Req) (s : State) :
    (cmdChartQuery r s).state.legality = s.legality := by simp [cmdChartQuery]
@[simp] theorem State.enterCircuits_legality (s : State) (cs : List Circuit) :
    (s.enterCircuits cs).legality = s.legality := by rfl
@[simp] theorem cmdChartCommit_legality (r : Req) (s : State) :
    (cmdChartCommit r s).state.legality = s.legality := by simp [cmdChartCommit]
@[simp] theorem State.substitute_legality (s : State) (id a p d0 : Nat) :
    (s.substitute id a p d0).legality = s.legality := by
  unfold State.substitute
  split <;> simp
@[simp] theorem State.applyLost_legality (s : State) (n a d0 : Nat) : (s.applyLost n a d0).legality = s.legality := by
  simp only [State.applyLost]
  (repeat' split) <;> simp
@[simp] theorem State.runLost_legality (s : State) (n : Nat) : (s.runLost n).legality = s.legality := by
  unfold State.runLost
  split <;> simp
@[simp] theorem execPositionLost_legality (slice : Fin 64) (a : Fin 80) (s : State) :
    outcomeLegality (execPositionLost slice a s) = some s.legality := by
  unfold execPositionLost
  split <;> simp
@[simp] theorem State.endCommit_legality (s : State) (n id : Nat) (p : Plot) :
    (s.endCommit n id p).legality = s.legality := by
  simp only [State.endCommit]
  (repeat' split) <;> simp
@[simp] theorem State.chartCommitComplete_legality (s : State) (slice : Fin 64) :
    (s.chartCommitComplete slice).legality = s.legality := by
  unfold State.chartCommitComplete
  split <;> simp
@[simp] theorem State.releasePlot_legality (s : State) (id : Nat) (p : Plot) :
    (s.releasePlot id p).legality = s.legality := by simp [State.releasePlot]
@[simp] theorem cmdChartRelease_legality (r : Req) (s : State) :
    (cmdChartRelease r s).state.legality = s.legality := by simp [cmdChartRelease]

/-! ### Programs (08) -/

@[simp] theorem cmdProgLoad_legality (r : Req) (s : State) :
    (cmdProgLoad r s).state.legality = s.legality := by simp [cmdProgLoad]
@[simp] theorem cmdProgUnload_legality (r : Req) (s : State) :
    (cmdProgUnload r s).state.legality = s.legality := by simp [cmdProgUnload]

/-! ### Loading passages (02) -/

@[simp] theorem cmdPassageLoad_legality (r : Req) (s : State) :
    (cmdPassageLoad r s).state.legality = s.legality := by simp [cmdPassageLoad]

/-! ### Ports and standing streams -/

@[simp] theorem State.updLp_legality (s : State) (p : Nat) (f : LPort → LPort) :
    (s.updLp p f).legality = s.legality := by rfl
@[simp] theorem State.sendOn_legality (s : State) (p vc : Nat) (b : Bytes) (tag : Option (Nat × Nat × Nat × Nat)) :
    (s.sendOn p vc b tag).legality = s.legality := by rfl
@[simp] theorem State.lcount_legality (s : State) (name : String) (p n : Nat) :
    (s.lcount name p n).legality = s.legality := by rfl
@[simp] theorem State.nak_legality (s : State) (p : Nat) (b : Bytes) (cause : Nat) :
    (s.nak p b cause).legality = s.legality := by rfl
@[simp] theorem State.updGp_legality (s : State) (t : Nat) (f : GPort → GPort) :
    (s.updGp t f).legality = s.legality := by rfl
@[simp] theorem State.updLaser_legality (s : State) (l : Nat) (f : Laser → Laser) :
    (s.updLaser l f).legality = s.legality := by rfl
@[simp] theorem State.colEvent_legality (s : State) (i : Nat) : (s.colEvent i).legality = s.legality := by rfl
@[simp] theorem State.blankPort_legality (s : State) (t : Nat) :
    (s.blankPort t).legality = s.legality := by simp [State.blankPort]
@[simp] theorem State.updPath_legality (s : State) (t rack : Nat) (f : Path → Path) :
    (s.updPath t rack f).legality = s.legality := by rfl
@[simp] theorem State.queueStanding_legality (s : State) (slice rack prec : Nat) (b : Bytes) :
    (s.queueStanding slice rack prec b).legality = s.legality := by rfl
@[simp] theorem State.queueAll_legality (s : State) (slice mask prec : Nat) (b : Bytes) :
    (s.queueAll slice mask prec b).legality = s.legality := by simp [State.queueAll]

/-! ### Data frames and stripes (02, 07) -/

@[simp] theorem State.skkEvent_legality (s : State) (i : Nat) : (s.skkEvent i).legality = s.legality := by rfl
@[simp] theorem State.countNum_legality (s : State) (slice nan inf sat : Nat) :
    (s.countNum slice nan inf sat).legality = s.legality := by simp [State.countNum]
@[simp] theorem State.recordResid_legality (s : State) (slice tensor pid e : Nat) (x q : FV) :
    (s.recordResid slice tensor pid e x q).legality = s.legality := by
  unfold State.recordResid
  split <;> simp
@[simp] theorem State.zeroResid_legality (s : State) (slice tensor e : Nat) :
    (s.zeroResid slice tensor e).legality = s.legality := by rfl
@[simp] theorem State.absorb_legality (s : State) (slice : Nat) (p : Passage) (blk : Nat) (vs : List (Option Nat)) :
    (s.absorb slice p blk vs).1.legality = s.legality := by
  unfold State.absorb
  split <;> simp
@[simp] theorem State.residBlock_legality (s : State) (slice pid : Nat) (p : Passage) (b blk : Nat)
    (vs : List (Option Nat)) (pair : Bool) :
    (s.residBlock slice pid p b blk vs pair).legality = s.legality := by
  unfold State.residBlock
  split
  · rfl
  · refine State.legality_foldl _ (fun s kv => ?_) _ _
    split <;> simp
@[simp] theorem State.openStripe_legality (s : State) (slice pid gi blk : Nat) :
    (s.openStripe slice pid gi blk).1.legality = s.legality := by
  simp only [State.openStripe]
  (repeat' split) <;> simp

theorem State.openFor_legality {s t : State} {port : Nat} {b : Bytes} (h : s.openFor port b = some t) :
    t.legality = s.legality := by
  refine List.foldlRecOn (motive := fun acc => ∀ t, acc = some t → t.legality = s.legality) _ _
    (fun _ e => by rw [Option.some.inj e]) (fun acc ha blk _ t ht => ?_) t h
  cases acc with
  | none => simp at ht
  | some u =>
    have hu := ha u rfl
    simp only at ht
    repeat' split at ht
    all_goals cases ht
    all_goals simpa using hu

@[simp] theorem State.emitDone_legality (s : State) (slice pid gi blk : Nat) :
    (s.emitDone slice pid gi blk).legality = s.legality := by
  unfold State.emitDone
  split <;> simp
@[simp] theorem State.arriveBlock_legality (s : State) (slice pid gi k blk : Nat) (vs : List (Option Nat)) :
    (s.arriveBlock slice pid gi k blk vs).legality = s.legality := by
  unfold State.arriveBlock
  split <;> simp
@[simp] theorem State.takeBlock_legality (s : State) (port : Nat) (h : DHdr) (b : Bytes) (blk : Nat) :
    (s.takeBlock port h b blk).1.legality = s.legality := by
  simp only [State.takeBlock]
  (repeat' split) <;> simp
@[simp] theorem State.takeFrame_legality (s : State) (port : Nat) (b : Bytes) :
    (s.takeFrame port b).legality = s.legality := by
  simp only [State.takeFrame]
  (repeat' split) <;> simp
@[simp] theorem State.countRefused_legality (s : State) (b : Bytes) :
    (s.countRefused b).legality = s.legality := by simp [State.countRefused]
@[simp] theorem State.dataOn_legality (s : State) (p vc : Nat) (b : Bytes) :
    (s.dataOn p vc b).1.legality = s.legality := by
  unfold State.dataOn
  split
  · simp
  · simp
  · split
    · rename_i s1 h
      simpa using State.openFor_legality h
    · simp
@[simp] theorem State.freeCredit_legality (s : State) (p vc flits : Nat) :
    (s.freeCredit p vc flits).legality = s.legality := by rfl
@[simp] theorem State.retryHeld_legality (s : State) (p : Nat) :
    (s.retryHeld p).legality = s.legality := by simp [State.retryHeld]
@[simp] theorem State.retryAll_legality (s : State) : (s.retryAll).legality = s.legality := by simp [State.retryAll]
@[simp] theorem State.ackLeg_legality (s : State) (t : Nat) (h : DHdr) : (s.ackLeg t h).legality = s.legality := by
  unfold State.ackLeg
  split <;> simp
@[simp] theorem State.legOn_legality (s : State) (t seq : Nat) (b : Bytes) :
    (s.legOn t seq b).legality = s.legality := by
  unfold State.legOn
  dsimp only
  split
  · simp
  · simp
  · split
    · rename_i s1 h
      split at h
      · cases h
      · simpa using State.openFor_legality h
    · simp
@[simp] theorem State.sentBlocks_legality (s : State) (slice pid : Nat) (p : Passage) (src : Nat) (r : Nat × Nat)
    (c n : Nat) :
    (s.sentBlocks slice pid p src r c n).legality = s.legality := by
  refine State.legality_foldl _ (fun s i => ?_) _ _
  dsimp only
  split
  · refine (State.legality_foldl _ (fun s kv => ?_) _ _).trans (by simp)
    split <;> simp
  · simp

theorem State.nextFrame_legality {s t : State} {slice pid gi k n : Nat} {b : Bytes}
    (h : s.nextFrame slice pid gi k = some (b, n, t)) : t.legality = s.legality := by
  unfold State.nextFrame at h
  split at h
  · cases h
  · dsimp only at h
    split at h
    · cases h
    · cases h; simp

@[simp] theorem State.allFrames_legality (fuel : Nat) (s : State) (slice pid gi k : Nat) :
    (State.allFrames fuel s slice pid gi k).2.legality = s.legality := by
  induction fuel generalizing s with
  | zero => rfl
  | succ fuel ih =>
    unfold State.allFrames
    split
    · rfl
    · rename_i b n s1 h
      exact (ih s1).trans (State.nextFrame_legality h)

@[simp] theorem execDataFrame_legality (p : Fin 256) (vc : Fin 8) (frame : Bytes) (s : State) :
    outcomeLegality (execDataFrame p vc frame s) = some s.legality := by simp [execDataFrame]
@[simp] theorem execGlobalLegFrame_legality (g : Fin 64) (_vc : Fin 8) (seq : Fin 65536) (frame : Bytes) (s : State) :
    outcomeLegality (execGlobalLegFrame g _vc seq frame s) = some s.legality := by
  unfold execGlobalLegFrame
  split <;> simp
@[simp] theorem execStripeFreed_legality (slice : Fin 64) (s : State) :
    outcomeLegality (execStripeFreed slice s) = some s.legality := by simp [execStripeFreed]
@[simp] theorem cmdResidualClear_legality (r : Req) (s : State) :
    (cmdResidualClear r s).state.legality = s.legality := by simp [cmdResidualClear]

/-! ### The optimizer (08) -/

@[simp] theorem State.putBinding_legality (s : State) (slice tensor : Nat) (b : Binding) :
    (s.putBinding slice tensor b).legality = s.legality := by rfl
@[simp] theorem cmdOptBind_legality (r : Req) (s : State) :
    (cmdOptBind r s).state.legality = s.legality := by simp [cmdOptBind]
@[simp] theorem cmdOptUnbind_legality (r : Req) (s : State) :
    (cmdOptUnbind r s).state.legality = s.legality := by simp [cmdOptUnbind]
@[simp] theorem optTransfer_legality (load : Bool) (r : Req) (s : State) :
    (optTransfer load r s).state.legality = s.legality := by simp [optTransfer]
@[simp] theorem cmdOptStateLoad_legality (r : Req) (s : State) :
    (cmdOptStateLoad r s).state.legality = s.legality := by simp [cmdOptStateLoad]
@[simp] theorem cmdOptStateDump_legality (r : Req) (s : State) :
    (cmdOptStateDump r s).state.legality = s.legality := by simp [cmdOptStateDump]
@[simp] theorem State.endTransfer_legality (s : State) (e : Exec) (done : Nat) :
    (s.endTransfer e done).legality = s.legality := by
  simp only [State.endTransfer]
  (repeat' split) <;> simp
@[simp] theorem State.optRun_legality (s : State) (slice pid : Nat) (pick : Nat → Bool) :
    (s.optRun slice pid pick).1.legality = s.legality := by
  simp only [State.optRun]
  (repeat' split) <;> simp
@[simp] theorem execOptimizerPassComplete_legality (slice : Fin 64) (pid : Fin 256) (s : State) :
    outcomeLegality (execOptimizerPassComplete slice pid s) = some s.legality := by
  simp only [execOptimizerPassComplete]
  (repeat' split) <;> simp
@[simp] theorem State.optEnter_legality (s : State) (slice pid : Nat) :
    (s.optEnter slice pid).1.legality = s.legality := by
  simp only [State.optEnter]
  (repeat' split) <;> simp
@[simp] theorem State.optStop_legality (s : State) (slice pid : Nat) : (s.optStop slice pid).legality = s.legality := by
  simp only [State.optStop]
  (repeat' split) <;> simp

/-! ### Passages (02) -/

@[simp] theorem State.unstall_legality (s : State) (slice pid : Nat) : (s.unstall slice pid).legality = s.legality := by
  unfold State.unstall
  split <;> simp
@[simp] theorem State.dropTakes_legality (s : State) (slice pid : Nat) :
    (s.dropTakes slice pid).legality = s.legality := by rfl
@[simp] theorem State.abortPassage_legality (s : State) (slice pid cause : Nat) :
    (s.abortPassage slice pid cause).legality = s.legality := by
  unfold State.abortPassage
  split <;> simp
@[simp] theorem State.planMismatch_legality (s : State) (slice pid rack : Nat) :
    (s.planMismatch slice pid rack).legality = s.legality := by simp [State.planMismatch]
@[simp] theorem State.numberFrames_legality (s : State) (t rack : Nat) (fs : List Bytes) :
    (s.numberFrames t rack fs).2.legality = s.legality := by rfl
@[simp] theorem State.sendLeg_legality (s : State) (slice pid t : Nat) (cont : Bool) :
    (s.sendLeg slice pid t cont).legality = s.legality := by
  unfold State.sendLeg
  split
  · rfl
  · dsimp only
    split
    · rfl
    · simp only [State.legality_ite, State.emit_legality, State.updGp_legality, State.numberFrames_legality, ite_self]
      refine State.legality_foldl_snd _ (fun acc gi => ?_) _ _
      split <;> simp
@[simp] theorem State.setLegPort_legality (s : State) (slice pid : Nat) (p : Passage) (t : Nat) :
    (s.setLegPort slice pid p t).1.legality = s.legality := by
  simp only [State.setLegPort]
  (repeat' split) <;> simp
@[simp] theorem State.setLegPorts_legality (s : State) (slice pid : Nat) :
    (s.setLegPorts slice pid).legality = s.legality := by
  unfold State.setLegPorts
  split <;> simp
@[simp] theorem State.darkLegPorts_legality (s : State) (p : Passage) :
    (s.darkLegPorts p).legality = s.legality := by simp [State.darkLegPorts]
@[simp] theorem State.copyShard_legality (s : State) (slice pid : Nat) :
    (s.copyShard slice pid).legality = s.legality := by
  unfold State.copyShard
  split <;> simp
@[simp] theorem State.runFinishPass_legality (s : State) (slice pid : Nat) :
    (s.runFinishPass slice pid).legality = s.legality := by
  simp only [State.runFinishPass]
  (repeat' split) <;> simp
@[simp] theorem State.runAvg_legality (s : State) (slice pid : Nat) : (s.runAvg slice pid).legality = s.legality := by
  simp only [State.runAvg]
  (repeat' split) <;> simp
@[simp] theorem State.beginExit_legality (s : State) (slice pid : Nat) :
    (s.beginExit slice pid).legality = s.legality := by
  simp only [State.beginExit]
  (repeat' split) <;> simp
@[simp] theorem execLegComplete_legality (slice : Fin 64) (pid : Fin 256) (s : State) :
    outcomeLegality (execLegComplete slice pid s) = some s.legality := by
  unfold execLegComplete
  split <;> simp
@[simp] theorem State.residualsPend_legality (s : State) (slice pid tensor : Nat) :
    (s.residualsPend slice pid tensor).legality = s.legality := by rfl
@[simp] theorem State.announceTake_legality (s : State) (slice pid : Nat) :
    (s.announceTake slice pid).legality = s.legality := by
  simp only [State.announceTake]
  (repeat' split) <;> simp
@[simp] theorem State.beginTakes_legality (s : State) (slice pid : Nat) :
    (s.beginTakes slice pid).legality = s.legality := by simp [State.beginTakes]
@[simp] theorem State.enterLeg_legality (s : State) (slice pid l i : Nat) :
    (s.enterLeg slice pid l i).legality = s.legality := by
  unfold State.enterLeg
  split <;> simp
@[simp] theorem State.fire_legality (s : State) (slice pid : Nat) : (s.fire slice pid).legality = s.legality := by
  simp only [State.fire]
  (repeat' split) <;> simp
@[simp] theorem execWaypointFire_legality (slice : Fin 64) (pid : Fin 256) (s : State) :
    outcomeLegality (execWaypointFire slice pid s) = some s.legality := by
  unfold execWaypointFire
  split <;> simp
@[simp] theorem execArmEpoch_legality (slice : Fin 64) (pid : Fin 256) (s : State) :
    outcomeLegality (execArmEpoch slice pid s) = some s.legality := by
  unfold execArmEpoch
  split <;> simp
@[simp] theorem execTimeTriggerOpen_legality (slice : Fin 64) (pid : Fin 256) (s : State) :
    outcomeLegality (execTimeTriggerOpen slice pid s) = some s.legality := by
  unfold execTimeTriggerOpen
  split <;> simp
@[simp] theorem execLegTimeout_legality (slice : Fin 64) (pid : Fin 256) (s : State) :
    outcomeLegality (execLegTimeout slice pid s) = some s.legality := by
  unfold execLegTimeout
  split <;> simp
@[simp] theorem State.standingIn_legality (s : State) (g : Nat) (b : Bytes) :
    (s.standingIn g b).legality = s.legality := by rfl
@[simp] theorem execWaypointReady_legality (g : Fin 64) (frame : Bytes) (s0 : State) :
    outcomeLegality (execWaypointReady g frame s0) = some s0.legality := by
  simp only [execWaypointReady]
  (repeat' split) <;> simp
@[simp] theorem State.sendReadies_legality (s : State) (slice : Nat) : (s.sendReadies slice).legality = s.legality := by
  unfold State.sendReadies
  split
  · rfl
  · refine State.legality_foldl _ (fun s e => ?_) _ _
    dsimp only
    split
    · split
      · rfl
      · refine State.legality_foldl _ (fun s r => ?_) _ _
        simp
    · rfl
@[simp] theorem State.sendNaks_legality (s : State) (slice : Nat) :
    (s.sendNaks slice).legality = s.legality := by simp [State.sendNaks]
@[simp] theorem execAbortSignal_legality (g : Fin 64) (frame : Bytes) (s0 : State) :
    outcomeLegality (execAbortSignal g frame s0) = some s0.legality := by
  simp only [execAbortSignal]
  (repeat' split) <;> simp
@[simp] theorem cmdPassageArm_legality (r : Req) (s : State) :
    (cmdPassageArm r s).state.legality = s.legality := by simp [cmdPassageArm]
@[simp] theorem cmdPassageDoorbell_legality (r : Req) (s : State) :
    (cmdPassageDoorbell r s).state.legality = s.legality := by simp [cmdPassageDoorbell]
@[simp] theorem cmdPassagePark_legality (r : Req) (s : State) :
    (cmdPassagePark r s).state.legality = s.legality := by simp [cmdPassagePark]
@[simp] theorem State.resumePassage_legality (s : State) (slice pid : Nat) :
    (s.resumePassage slice pid).legality = s.legality := by simp [State.resumePassage]
@[simp] theorem cmdPassageResume_legality (r : Req) (s : State) :
    (cmdPassageResume r s).state.legality = s.legality := by simp [cmdPassageResume]
@[simp] theorem cmdPassageAbort_legality (r : Req) (s : State) :
    (cmdPassageAbort r s).state.legality = s.legality := by simp [cmdPassageAbort]
@[simp] theorem State.unloadPassage_legality (s : State) (slice pid : Nat) :
    (s.unloadPassage slice pid).legality = s.legality := by
  unfold State.unloadPassage
  split <;> simp
@[simp] theorem cmdPassageUnload_legality (r : Req) (s : State) :
    (cmdPassageUnload r s).state.legality = s.legality := by simp [cmdPassageUnload]
@[simp] theorem cmdPassageQuery_legality (r : Req) (s : State) :
    (cmdPassageQuery r s).state.legality = s.legality := by simp [cmdPassageQuery]
@[simp] theorem execStateTransferEnd_legality (slice : Fin 64) (tensor : Nat) (done : Nat) (s : State) :
    outcomeLegality (execStateTransferEnd slice tensor done s) = some s.legality := by
  unfold execStateTransferEnd
  split <;> simp

/-! ### Fabric memory (09) -/

@[simp] theorem State.updQueue_legality (s : State) (q : Nat) (f : Queue → Queue) :
    (s.updQueue q f).legality = s.legality := by
  unfold State.updQueue
  split <;> simp
@[simp] theorem State.fmEvent_legality (s : State) (i : Nat) : (s.fmEvent i).legality = s.legality := by rfl
@[simp] theorem State.queueError_legality (s : State) (q : Nat) :
    (s.queueError q).legality = s.legality := by simp [State.queueError]
@[simp] theorem State.fmSliceErr_legality (s : State) (n k : Nat) : (s.fmSliceErr n k).legality = s.legality := by rfl
@[simp] theorem State.updReq_legality (s : State) (ref : Nat) (f : FReq → FReq) :
    (s.updReq ref f).legality = s.legality := by rfl
@[simp] theorem State.startReqs_legality (s : State) (q : Nat) : (s.startReqs q).legality = s.legality := by
  refine State.legality_foldl _ (fun s ref => ?_) _ _
  dsimp only
  split
  · rfl
  · simp
@[simp] theorem State.countRate_legality (s : State) : (s.countRate).legality = s.legality := by rfl
@[simp] theorem State.countStatus_legality (s : State) (n status : Nat) :
    (s.countStatus n status).legality = s.legality := by
  unfold State.countStatus
  split <;> simp
@[simp] theorem State.counterFail_legality (s : State) (q n status : Nat) :
    (s.counterFail q n status).legality = s.legality := by simp [State.counterFail]
@[simp] theorem State.addCounter_legality (s : State) (x : Queue) (r : FReq) :
    (s.addCounter x r).legality = s.legality := by simp [State.addCounter]
@[simp] theorem State.respond_legality (s : State) (r : FReq) (status : Nat) (data : Bytes) :
    (s.respond r status data).legality = s.legality := by simp [State.respond]
@[simp] theorem State.finishReq_legality (s : State) (r : FReq) (status : Nat) (data : Bytes) :
    (s.finishReq r status data).legality = s.legality := by simp [State.finishReq]
@[simp] theorem State.answerRack_legality (s : State) (n dst : Nat) (b : Bytes) :
    (s.answerRack n dst b).legality = s.legality := by
  simp only [State.answerRack]
  (repeat' split) <;> simp
@[simp] theorem State.judgePaths_legality (s : State) : (s.judgePaths).legality = s.legality := by rfl
@[simp] theorem State.loseSession_legality (s : State) (p : Nat) : (s.loseSession p).legality = s.legality := by rfl
@[simp] theorem State.countRefusal_legality (s : State) (n status : Nat) :
    (s.countRefusal n status).legality = s.legality := by
  unfold State.countRefusal
  split <;> simp
@[simp] theorem State.fmIn_legality (s : State) (p vc : Nat) (b : Bytes) : (s.fmIn p vc b).legality = s.legality := by
  simp only [State.fmIn]
  (repeat' split) <;> simp
@[simp] theorem execFmReq_legality (p : Fin 256) (vc : Fin 8) (frame : Bytes) (s : State) :
    outcomeLegality (execFmReq p vc frame s) = some s.legality := by simp [execFmReq]
@[simp] theorem State.releaseFm_legality (s : State) : (s.releaseFm).legality = s.legality := by simp [State.releaseFm]
@[simp] theorem State.freeStanding_legality (s : State) (g n : Nat) :
    (s.freeStanding g n).legality = s.legality := by rfl
@[simp] theorem State.fmGlobalIn_legality (s : State) (g vc : Nat) (b : Bytes) :
    (s.fmGlobalIn g vc b).legality = s.legality := by simp [State.fmGlobalIn]
@[simp] theorem State.strayRsp_legality (s : State) (b : Bytes) : (s.strayRsp b).legality = s.legality := by
  simp only [State.strayRsp]
  (repeat' split) <;> simp
@[simp] theorem State.fmRspIn_legality (s : State) (b : Bytes) : (s.fmRspIn b).legality = s.legality := by
  simp only [State.fmRspIn]
  (repeat' split) <;> simp
@[simp] theorem execFmReqGlobal_legality (g : Fin 64) (vc : Fin 8) (frame : Bytes) (s : State) :
    outcomeLegality (execFmReqGlobal g vc frame s) = some s.legality := by simp [execFmReqGlobal]
@[simp] theorem execFmRsp_legality (g : Fin 64) (vc : Fin 8) (frame : Bytes) (s : State) :
    outcomeLegality (execFmRsp g vc frame s) = some s.legality := by simp [execFmRsp]
@[simp] theorem State.releaseFmG_legality (s : State) :
    (s.releaseFmG).legality = s.legality := by simp [State.releaseFmG]
@[simp] theorem execRelay_legality (qp : Fin 262144) (reqId : Nat) (s : State) :
    outcomeLegality (execRelay qp reqId s) = some s.legality := by
  simp only [execRelay]
  (repeat' split) <;> simp
@[simp] theorem execFmRouteTimeout_legality (qp : Fin 262144) (reqId : Nat) (s : State) :
    outcomeLegality (execFmRouteTimeout qp reqId s) = some s.legality := by
  unfold execFmRouteTimeout
  split <;> simp
@[simp] theorem execFmPathFault_legality (qp : Fin 262144) (reqId : Nat) (s : State) :
    outcomeLegality (execFmPathFault qp reqId s) = some s.legality := by
  simp only [execFmPathFault]
  (repeat' split) <;> simp
@[simp] theorem execPathProbe_legality (s : State) : outcomeLegality (execPathProbe s) = some s.legality := by rfl
@[simp] theorem execQpDrained_legality (qp : Fin 262144) (s : State) :
    outcomeLegality (execQpDrained qp s) = some s.legality := by simp [execQpDrained]
@[simp] theorem cmdQpCreate_legality (r : Req) (s : State) :
    (cmdQpCreate r s).state.legality = s.legality := by simp [cmdQpCreate]
@[simp] theorem cmdQpDestroy_legality (r : Req) (s : State) :
    (cmdQpDestroy r s).state.legality = s.legality := by simp [cmdQpDestroy]
@[simp] theorem cmdQpQuery_legality (r : Req) (s : State) :
    (cmdQpQuery r s).state.legality = s.legality := by simp [cmdQpQuery]

/-! ### Terminated ports (06) -/

@[simp] theorem State.failPort_legality (s : State) (p : Nat) : (s.failPort p).legality = s.legality := by rfl
@[simp] theorem State.linkFault_legality (s : State) (p : Nat) :
    (s.linkFault p).legality = s.legality := by simp [State.linkFault]
@[simp] theorem State.retrain_legality (s : State) (p : Nat) :
    (s.retrain p).legality = s.legality := by simp [State.retrain]
@[simp] theorem execSignalDetect_legality (p : Fin 256) (s : State) :
    outcomeLegality (execSignalDetect p s) = some s.legality := by simp [execSignalDetect]
@[simp] theorem execEqualiserConverged_legality (p : Fin 256) (s : State) :
    outcomeLegality (execEqualiserConverged p s) = some s.legality := by simp [execEqualiserConverged]
@[simp] theorem execSyncLockAcquired_legality (p : Fin 256) (lane : Fin 4) (decoded : Bool) (s : State) :
    outcomeLegality (execSyncLockAcquired p lane decoded s) = some s.legality := by simp [execSyncLockAcquired]
@[simp] theorem State.creditAcked_legality (s : State) (tag : Option (Nat × Nat × Nat × Nat)) (n : Nat) :
    (s.creditAcked tag n).legality = s.legality := by
  unfold State.creditAcked
  split <;> simp
@[simp] theorem State.ackIn_legality (s : State) (p a : Nat) :
    (s.ackIn p a).legality = s.legality := by simp [State.ackIn]
@[simp] theorem State.headerIn_legality (s : State) (p : Nat) (f : Bytes) :
    (s.headerIn p f).legality = s.legality := by simp [State.headerIn]
@[simp] theorem State.startRetry_legality (s : State) (p cause : Nat) :
    (s.startRetry p cause).legality = s.legality := by simp [State.startRetry]
@[simp] theorem State.discardFlit_legality (s : State) (p cause : Nat) :
    (s.discardFlit p cause).legality = s.legality := by simp [State.discardFlit]
@[simp] theorem State.resendFrames_legality (s : State) (p : Nat) :
    (s.resendFrames p).legality = s.legality := by simp [State.resendFrames]
@[simp] theorem State.newSession_legality (s : State) (p : Nat) :
    (s.newSession p).legality = s.legality := by simp [State.newSession]
@[simp] theorem State.keptSession_legality (s : State) (p : Nat) :
    (s.keptSession p).legality = s.legality := by simp [State.keptSession]
@[simp] theorem State.tryActive_legality (s : State) (p : Nat) :
    (s.tryActive p).legality = s.legality := by simp [State.tryActive]
@[simp] theorem State.negotiate_legality (s : State) (p : Nat) (f : Bytes) :
    (s.negotiate p f).legality = s.legality := by
  simp only [State.negotiate]
  (repeat' split) <;> simp
@[simp] theorem execTrainFlit_legality (p : Fin 256) (flit : Bytes) (s : State) :
    outcomeLegality (execTrainFlit p flit s) = some s.legality := by
  simp only [execTrainFlit]
  (repeat' split) <;> simp
@[simp] theorem execTrainingTimeout_legality (p : Fin 256) (s : State) :
    outcomeLegality (execTrainingTimeout p s) = some s.legality := by simp [execTrainingTimeout]
@[simp] theorem execFailedPortRetry_legality (p : Fin 256) (s : State) :
    outcomeLegality (execFailedPortRetry p s) = some s.legality := by simp [execFailedPortRetry]
@[simp] theorem State.dropOpen_legality (s : State) (p vc : Nat) : (s.dropOpen p vc).legality = s.legality := by
  unfold State.dropOpen
  split <;> simp
@[simp] theorem State.assemble_legality (s : State) (p : Nat) (f : Bytes) : (s.assemble p f).legality = s.legality := by
  simp only [State.assemble]
  (repeat' split) <;> simp
@[simp] theorem State.frameFlit_legality (s : State) (p : Nat) (f : Bytes) :
    (s.frameFlit p f).legality = s.legality := by simp [State.frameFlit]
@[simp] theorem execFlitReceived_legality (p : Fin 256) (flit : Bytes) (s : State) :
    outcomeLegality (execFlitReceived p flit s) = some s.legality := by simp [execFlitReceived]
@[simp] theorem execCodewordUncorrectable_legality (p : Fin 256) (flits : Nat) (s : State) :
    outcomeLegality (execCodewordUncorrectable p flits s) = some s.legality := by simp [execCodewordUncorrectable]
@[simp] theorem execRetryReq_legality (p : Fin 256) (flit : Bytes) (s : State) :
    outcomeLegality (execRetryReq p flit s) = some s.legality := by
  simp only [execRetryReq]
  (repeat' split) <;> simp
@[simp] theorem execRetryReqRepeat_legality (p : Fin 256) (s : State) :
    outcomeLegality (execRetryReqRepeat p s) = some s.legality := by
  unfold execRetryReqRepeat
  split <;> simp
@[simp] theorem execSyncLoss_legality (p : Fin 256) (lane : Fin 4) (s : State) :
    outcomeLegality (execSyncLoss p lane s) = some s.legality := by simp [execSyncLoss]
@[simp] theorem execNoGoodCrcTimeout_legality (p : Fin 256) (s : State) :
    outcomeLegality (execNoGoodCrcTimeout p s) = some s.legality := by simp [execNoGoodCrcTimeout]
@[simp] theorem execSignalLoss_legality (p : Fin 256) (s : State) :
    outcomeLegality (execSignalLoss p s) = some s.legality := by simp [execSignalLoss]
@[simp] theorem execSessionHoldExpiry_legality (p : Fin 256) (s : State) :
    outcomeLegality (execSessionHoldExpiry p s) = some s.legality := by simp [execSessionHoldExpiry]
@[simp] theorem execFecDegraded_legality (p : Fin 256) (above : Bool) (s : State) :
    outcomeLegality (execFecDegraded p above s) = some s.legality := by simp [execFecDegraded]
@[simp] theorem execHailSend_legality (p : Fin 256) (s : State) :
    outcomeLegality (execHailSend p s) = some s.legality := by simp [execHailSend]
@[simp] theorem execHail_legality (p : Fin 256) (flit : Bytes) (s : State) :
    outcomeLegality (execHail p flit s) = some s.legality := by
  simp only [execHail]
  (repeat' split) <;> simp
@[simp] theorem execSync_legality (s : State) : outcomeLegality (execSync s) = some s.legality := by rfl
@[simp] theorem execDelayReq_legality (p : Fin 256) (flit : Bytes) (s : State) :
    outcomeLegality (execDelayReq p flit s) = some s.legality := by simp [execDelayReq]
@[simp] theorem execNak_legality (p : Fin 256) (frame : Bytes) (s : State) :
    outcomeLegality (execNak p frame s) = some s.legality := by simp [execNak]
@[simp] theorem State.putFlit_legality (s : State) (p ftype vc : Nat) (sof eof : Bool) (seq last : Nat) (pay : Bytes) :
    (s.putFlit p ftype vc sof eof seq last pay).legality = s.legality := by rfl
@[simp] theorem State.sendTrain_legality (s : State) (p : Nat) :
    (s.sendTrain p).legality = s.legality := by simp [State.sendTrain]
@[simp] theorem State.countWaits_legality (s : State) (p : Nat) :
    (s.countWaits p).legality = s.legality := by simp [State.countWaits]
@[simp] theorem State.feed_legality (s : State) (p : Nat) : (s.feed p).legality = s.legality := by
  unfold State.feed
  split
  · rfl
  · split
    · rfl
    · split
      · rfl
      · rename_i h
        simpa using State.nextFrame_legality h
@[simp] theorem State.sendFrameFlit_legality (s : State) (p : Nat) (f : TxFrame) :
    (s.sendFrameFlit p f).legality = s.legality := by simp [State.sendFrameFlit]
@[simp] theorem State.sendReplay_legality (s : State) (p q : Nat) : (s.sendReplay p q).legality = s.legality := by
  unfold State.sendReplay
  split <;> simp
@[simp] theorem State.sendLocal_legality (s : State) (p : Nat) (b : Bytes) :
    (s.sendLocal p b).legality = s.legality := by rfl
@[simp] theorem State.sendActive_legality (s0 : State) (p : Nat) : (s0.sendActive p).legality = s0.legality := by
  simp only [State.sendActive]
  (repeat' split) <;> simp
@[simp] theorem State.sendPair_legality (s : State) (p : Nat) : (s.sendPair p).legality = s.legality := by rfl
@[simp] theorem execFlitSlot_legality (p : Fin 256) (s : State) :
    outcomeLegality (execFlitSlot p s) = some s.legality := by
  simp only [execFlitSlot]
  (repeat' split) <;> simp

/-! ### Slice resets (10) -/

@[simp] theorem State.freeQueues_legality (s : State) (n : Nat) :
    (s.freeQueues n).legality = s.legality := by simp [State.freeQueues]
@[simp] theorem State.dropObjects_legality (s : State) (n : Nat) : (s.dropObjects n).legality = s.legality := by rfl
@[simp] theorem State.releasePlots_legality (s : State) (n : Nat) :
    (s.releasePlots n).legality = s.legality := by simp [State.releasePlots]
@[simp] theorem State.resetPlots_legality (s : State) (n : Nat) :
    (s.resetPlots n).1.legality = s.legality := by simp [State.resetPlots]
@[simp] theorem State.runReset_legality (s : State) (e : Exec) : (s.runReset e).legality = s.legality := by
  unfold State.runReset
  split <;> simp
@[simp] theorem State.settle_legality (s : State) : (s.settle).legality = s.legality := by simp [State.settle]
@[simp] theorem cmdSliceReset_legality (r : Req) (s : State) :
    (cmdSliceReset r s).state.legality = s.legality := by simp [cmdSliceReset]
@[simp] theorem execChartCommitComplete_legality (slice : Fin 64) (s : State) :
    outcomeLegality (execChartCommitComplete slice s) = some s.legality := by simp [execChartCommitComplete]
@[simp] theorem execMirrorAcquiring_legality (out : Fin 1024) (ident : Fin 1024) (s : State) :
    outcomeLegality (execMirrorAcquiring out ident s) = some s.legality := by simp [execMirrorAcquiring]
@[simp] theorem execMirrorParked_legality (m : Fin 2048) (s : State) :
    outcomeLegality (execMirrorParked m s) = some s.legality := by simp [execMirrorParked]
@[simp] theorem execIdentityCheck_legality (out : Fin 1024) (ident : Fin 1024) (s : State) :
    outcomeLegality (execIdentityCheck out ident s) = some s.legality := by simp [execIdentityCheck]
@[simp] theorem execMirrorNotFollowing_legality (m : Fin 2048) (s : State) :
    outcomeLegality (execMirrorNotFollowing m s) = some s.legality := by simp [execMirrorNotFollowing]
@[simp] theorem execLatchReadback_legality (m : Fin 2048) (x y : Nat) (s : State) :
    outcomeLegality (execLatchReadback m x y s) = some s.legality := by simp [execLatchReadback]
@[simp] theorem execDriverOvercurrent_legality (m : Fin 2048) (s : State) :
    outcomeLegality (execDriverOvercurrent m s) = some s.legality := by simp [execDriverOvercurrent]
@[simp] theorem execHvSupplyLost_legality (b : Bool) (s : State) :
    outcomeLegality (execHvSupplyLost b s) = some s.legality := by simp [execHvSupplyLost]
@[simp] theorem execOpenPath_legality (k : Fin 104) (s : State) :
    outcomeLegality (execOpenPath k s) = some s.legality := by simp [execOpenPath]

/-! ### Lasers (05) -/

@[simp] theorem State.relight_legality (s : State) (t : Nat) : (s.relight t).legality = s.legality := by
  unfold State.relight
  split <;> simp
@[simp] theorem execPathClosed_legality (k : Fin 104) (s : State) :
    outcomeLegality (execPathClosed k s) = some s.legality := by
  unfold execPathClosed
  split <;> simp
@[simp] theorem State.portFail_legality (s : State) (t : Nat) : (s.portFail t).legality = s.legality := by rfl
@[simp] theorem State.laserFail_legality (s : State) (l : Nat) : (s.laserFail l).legality = s.legality := by
  simp only [State.laserFail]
  (repeat' split) <;> simp
@[simp] theorem execWavelengthError_legality (l : Fin 72) (measChannel : Fin 64) (freqErr : Int) (s : State) :
    outcomeLegality (execWavelengthError l measChannel freqErr s) = some s.legality := by
  simp only [execWavelengthError]
  (repeat' split) <;> simp
@[simp] theorem execRetuneLockTimeout_legality (g : Fin 64) (s : State) :
    outcomeLegality (execRetuneLockTimeout g s) = some s.legality := by
  unfold execRetuneLockTimeout
  split <;> simp
@[simp] theorem State.relocked_legality (s : State) (t : Nat) (thermal : Bool) :
    (s.relocked t thermal).legality = s.legality := by simp [State.relocked]
@[simp] theorem execRelockAttemptEnd_legality (l : Fin 72) (ok : Bool) (thermal : Bool) (s : State) :
    outcomeLegality (execRelockAttemptEnd l ok thermal s) = some s.legality := by
  simp only [execRelockAttemptEnd]
  (repeat' split) <;> simp
@[simp] theorem execSpareTakeoverDone_legality (group : Fin 8) (s : State) :
    outcomeLegality (execSpareTakeoverDone group s) = some s.legality := by
  unfold execSpareTakeoverDone
  split <;> simp
@[simp] theorem execGateFault_legality (l : Fin 72) (s : State) :
    outcomeLegality (execGateFault l s) = some s.legality := by simp [execGateFault]
@[simp] theorem State.foreignLight_legality (s : State) (t rack : Nat) :
    (s.foreignLight t rack).legality = s.legality := by simp [State.foreignLight]
@[simp] theorem execForeignPilot_legality (g : Fin 64) (rack : Fin 64) (s : State) :
    outcomeLegality (execForeignPilot g rack s) = some s.legality := by simp [execForeignPilot]
@[simp] theorem State.foreignReport_legality (s : State) (t : Nat) :
    (s.foreignReport t).legality = s.legality := by simp [State.foreignReport]
@[simp] theorem State.cablePort_legality (s : State) (t : Nat) (heard : Option Nat) :
    (s.cablePort t heard).legality = s.legality := by
  unfold State.cablePort
  split <;> simp
@[simp] theorem State.enterReady_legality (s : State) : (s.enterReady).legality = s.legality := by rfl
@[simp] theorem execCablingCheckFrame_legality (heard : List (Nat × Nat)) (s : State) :
    outcomeLegality (execCablingCheckFrame heard s) = some s.legality := by simp [execCablingCheckFrame]
@[simp] theorem execRingHeaterUpdate_legality (errs : List Int) (s : State) :
    outcomeLegality (execRingHeaterUpdate errs s) = some s.legality := by simp [execRingHeaterUpdate]
@[simp] theorem State.gfBack_legality (s : State) (g : Nat) :
    (s.gfBack g).legality = s.legality := by simp [State.gfBack]
@[simp] theorem execGfControllerLost_legality (gf : Fin 8) (s : State) :
    outcomeLegality (execGfControllerLost gf s) = some s.legality := by simp [execGfControllerLost]
@[simp] theorem State.laserRelease_legality (s : State) (l : Nat) : (s.laserRelease l).legality = s.legality := by rfl
@[simp] theorem lasAct_legality (acc : State × Nat) (e : Nat × Nat × Nat × List Nat) :
    (lasAct acc e).1.legality = acc.1.legality := by
  simp only [lasAct]
  (repeat' split) <;> simp
@[simp] theorem cmdLaserSet_legality (r : Req) (s : State) :
    (cmdLaserSet r s).state.legality = s.legality := by simp [cmdLaserSet]
@[simp] theorem State.releaseLasers_legality (s : State) :
    (s.releaseLasers).legality = s.legality := by simp [State.releaseLasers]

/-! ### Colour plane (05) -/

@[simp] theorem State.darkStanding_legality (s : State) :
    (s.darkStanding).legality = s.legality := by simp [State.darkStanding]
@[simp] theorem State.compassDark_legality (s : State) :
    (s.compassDark).legality = s.legality := by simp [State.compassDark]
@[simp] theorem State.compassClock_legality (s : State) :
    (s.compassClock).legality = s.legality := by simp [State.compassClock]
@[simp] theorem execHoldoverMarginStep_legality (s : State) :
    outcomeLegality (execHoldoverMarginStep s) = some s.legality := by simp [execHoldoverMarginStep]
@[simp] theorem execColourSequencerFault_legality (s : State) :
    outcomeLegality (execColourSequencerFault s) = some s.legality := by simp [execColourSequencerFault]
@[simp] theorem State.queueAcks_legality (s : State) (n dst : Nat) :
    (s.queueAcks n dst).legality = s.legality := by simp [State.queueAcks]
@[simp] theorem State.sendItem_legality (acc : State × List Bytes) (t dst : Nat) (i : StItem) :
    (State.sendItem acc t dst i).1.legality = acc.1.legality := by
  simp only [State.sendItem]
  (repeat' split) <;> simp
@[simp] theorem State.sendSlot_legality (s : State) (n k t dst : Nat) :
    (s.sendSlot n k t dst).legality = s.legality := by simp [State.sendSlot]
@[simp] theorem State.slotPort_legality (s : State) (n k u t : Nat) : (s.slotPort n k u t).legality = s.legality := by
  unfold State.slotPort
  split <;> simp
@[simp] theorem State.breakPaths_legality (s : State) (n : Nat) :
    (s.breakPaths n).legality = s.legality := by simp [State.breakPaths]
@[simp] theorem State.idleTakes_legality (s : State) (n : Nat) :
    (s.idleTakes n).legality = s.legality := by simp [State.idleTakes]
@[simp] theorem State.slotSlice_legality (s : State) (n k : Nat) :
    (s.slotSlice n k).legality = s.legality := by simp [State.slotSlice]
@[simp] theorem execCompassSlot_legality (s : State) :
    outcomeLegality (execCompassSlot s) = some s.legality := by simp [execCompassSlot]
@[simp] theorem State.headerMismatch_legality (s : State) (t src : Nat) :
    (s.headerMismatch t src).legality = s.legality := by
  unfold State.headerMismatch
  split <;> simp
@[simp] theorem State.hailIn_legality (s : State) (t n : Nat) (h : BHdr) (flit : Bytes) :
    (s.hailIn t n h flit).legality = s.legality := by simp [State.hailIn]
@[simp] theorem State.standingHeader_legality (s : State) (t : Nat) (h : BHdr) (flit : Bytes) :
    (s.standingHeader t h flit).legality = s.legality := by simp [State.standingHeader]
@[simp] theorem State.legHeader_legality (s : State) (t : Nat) (h : BHdr) :
    (s.legHeader t h).legality = s.legality := by
  unfold State.legHeader
  split <;> simp
@[simp] theorem State.preambleFail_legality (s : State) (t : Nat) : (s.preambleFail t).legality = s.legality := by
  unfold State.preambleFail
  split <;> simp
@[simp] theorem execBurstHeader_legality (g : Fin 64) (header : Option Bytes) (hailFlit : Bytes) (s : State) :
    outcomeLegality (execBurstHeader g header hailFlit s) = some s.legality := by
  unfold execBurstHeader
  split <;> simp
@[simp] theorem State.ackStanding_legality (s : State) (t rack n : Nat) :
    (s.ackStanding t rack n).legality = s.legality := by simp [State.ackStanding]
@[simp] theorem execAckRecord_legality (g : Fin 64) (frame : Bytes) (s : State) :
    outcomeLegality (execAckRecord g frame s) = some s.legality := by
  simp only [execAckRecord]
  (repeat' split) <;> simp
@[simp] theorem execNakRecord_legality (g : Fin 64) (frame : Bytes) (s0 : State) :
    outcomeLegality (execNakRecord g frame s0) = some s0.legality := by
  simp only [execNakRecord]
  (repeat' split) <;> simp
@[simp] theorem execPreambleRequest_legality (g : Fin 64) (frame : Bytes) (s0 : State) :
    outcomeLegality (execPreambleRequest g frame s0) = some s0.legality := by
  simp only [execPreambleRequest]
  (repeat' split) <;> simp
@[simp] theorem execForeignLight_legality (g : Fin 64) (frame : Bytes) (s : State) :
    outcomeLegality (execForeignLight g frame s) = some s.legality := by simp [execForeignLight]
@[simp] theorem execCredit_legality (g : Fin 64) (frame : Bytes) (s : State) :
    outcomeLegality (execCredit g frame s) = some s.legality := by simp [execCredit]

/-! ### Calibration (12) -/

@[simp] theorem State.sxtEvent_legality (s : State) (i : Nat) : (s.sxtEvent i).legality = s.legality := by rfl
@[simp] theorem execCalTemperatureTrigger_legality (region : Fin 32) (temp : Int) (s : State) :
    outcomeLegality (execCalTemperatureTrigger region temp s) = some s.legality := by simp [execCalTemperatureTrigger]
@[simp] theorem execCalRerun_legality (region : Fin 32) (s : State) :
    outcomeLegality (execCalRerun region s) = some s.legality := by
  unfold execCalRerun
  split <;> simp
@[simp] theorem State.endTake_legality (s : State) (k : Take) :
    (s.endTake k).legality = s.legality := by simp [State.endTake]
@[simp] theorem execDarkPass_legality (l : Fin 72) (cut : Bool) (s : State) :
    outcomeLegality (execDarkPass l cut s) = some s.legality := by
  simp only [execDarkPass]
  (repeat' split) <;> simp
@[simp] theorem execCalDeadline_legality (l : Fin 72) (s : State) :
    outcomeLegality (execCalDeadline l s) = some s.legality := by
  unfold execCalDeadline
  split <;> simp
@[simp] theorem State.acceptTable_legality (s : State) (r t : Nat) (temp : Int) :
    (s.acceptTable r t temp).legality = s.legality := by rfl
@[simp] theorem State.countRun_legality (s : State) (r acc rej : Nat) :
    (s.countRun r acc rej).legality = s.legality := by
  unfold State.countRun
  refine (State.legality_foldl _ (fun s e => ?_) _ _).trans (by simp)
  split <;> simp
@[simp] theorem execCalRunJudged_legality (region : Fin 32) (tables : List (Nat × Bool)) (temp : Int) (moved : Nat)
    (s : State) :
    outcomeLegality (execCalRunJudged region tables temp moved s) = some s.legality := by simp [execCalRunJudged]
@[simp] theorem execCorrectionCommit_legality (region : Fin 32) (table : Fin 16) (s : State) :
    outcomeLegality (execCorrectionCommit region table s) = some s.legality := by
  unfold execCorrectionCommit
  split <;> simp
@[simp] theorem execCalStoreWrite_legality (region : Fin 32) (table : Fin 16) (ok : Bool) (s : State) :
    outcomeLegality (execCalStoreWrite region table ok s) = some s.legality := by
  unfold execCalStoreWrite
  split <;> simp
@[simp] theorem State.seedTables_legality (s : State) :
    (s.seedTables).legality = s.legality := by simp [State.seedTables]
@[simp] theorem State.abandonRuns_legality (s : State) : (s.abandonRuns).legality = s.legality := by rfl
@[simp] theorem State.restartRuns_legality (s : State) : (s.restartRuns).legality = s.legality := by rfl
@[simp] theorem execFeedforwardUpdate_legality (power : Nat) (coolant : Int) (s : State) :
    outcomeLegality (execFeedforwardUpdate power coolant s) = some s.legality := by rfl
@[simp] theorem execTerminatedHeaterUpdate_legality (engine : Fin 4) (errs : List Int) (s : State) :
    outcomeLegality (execTerminatedHeaterUpdate engine errs s) = some s.legality := by
  unfold execTerminatedHeaterUpdate
  dsimp only
  rw [outcomeLegality_next]
  split
  · rfl
  · refine congrArg some ((State.legality_foldl _ (fun s k => ?_) _ _).trans (by simp))
    split <;> simp
@[simp] theorem execPowerPublicationLapse_legality (s : State) :
    outcomeLegality (execPowerPublicationLapse s) = some s.legality := by simp [execPowerPublicationLapse]
@[simp] theorem execRingHold_legality (p : Fin 256) (s : State) :
    outcomeLegality (execRingHold p s) = some s.legality := by simp [execRingHold]
@[simp] theorem cmdCalGet_legality (r : Req) (s : State) : (cmdCalGet r s).state.legality = s.legality := by
  simp only [cmdCalGet]
  (repeat' split) <;> simp
@[simp] theorem cmdCalRun_legality (r : Req) (s : State) :
    (cmdCalRun r s).state.legality = s.legality := by simp [cmdCalRun]
@[simp] theorem cmdCalConfig_legality (r : Req) (s : State) :
    (cmdCalConfig r s).state.legality = s.legality := by simp [cmdCalConfig]
@[simp] theorem cmdCalQuery_legality (r : Req) (s : State) :
    (cmdCalQuery r s).state.legality = s.legality := by simp [cmdCalQuery]

/-! ### Start-up and restarts (14) -/

@[simp] theorem State.bootEvent_legality (s : State) (i : Nat) : (s.bootEvent i).legality = s.legality := by rfl
@[simp] theorem State.takeStraps_legality (s : State) (v : Option Nat) : (s.takeStraps v).legality = s.legality := by
  unfold State.takeStraps
  split <;> simp
@[simp] theorem State.fitQuotas_legality (s : State) : (s.fitQuotas).legality = s.legality := by simp [State.fitQuotas]
@[simp] theorem State.retireParts_legality (s : State) (c : ColdStart) :
    (s.retireParts c).legality = s.legality := by simp [State.retireParts]
@[simp] theorem State.loadFrogs_legality (s : State) (bad : List Nat) :
    (s.loadFrogs bad).legality = s.legality := by simp [State.loadFrogs]
@[simp] theorem State.enterFailed_legality (s : State) : (s.enterFailed).legality = s.legality := by rfl
@[simp] theorem State.beginCheck_legality (s : State) : (s.beginCheck).legality = s.legality := by
  unfold State.beginCheck
  split
  · simp
  · simp [State.legality, Safety.windowsWf, Tbl.mapVal, Function.comp_def]
@[simp] theorem execTimeAcquisitionEnd_legality (s : State) :
    outcomeLegality (execTimeAcquisitionEnd s) = some s.legality := by simp [execTimeAcquisitionEnd]
@[simp] theorem State.endLock_legality (s : State) : (s.endLock).legality = s.legality := by
  simp only [State.endLock]
  (repeat' split) <;> simp
@[simp] theorem State.endSession_legality (s : State) (id : Nat) : (s.endSession id).legality = s.legality := by
  unfold State.endSession
  split <;> simp
@[simp] theorem State.endSessions_legality (s : State) :
    (s.endSessions).legality = s.legality := by simp [State.endSessions]
@[simp] theorem State.parkForAct_legality (s : State) : (s.parkForAct).legality = s.legality := by rfl
@[simp] theorem State.unparkForAct_legality (s : State) :
    (s.unparkForAct).legality = s.legality := by simp [State.unparkForAct]
@[simp] theorem State.abandonAct_legality (s : State) (arg : Nat) :
    (s.abandonAct arg).legality = s.legality := by simp [State.abandonAct]
@[simp] theorem State.beginPause_legality (s : State) (m : Mod) (p : Pause) :
    (s.beginPause m p).legality = s.legality := by simp [State.beginPause]
@[simp] theorem State.unplanned_legality (s : State) (cause core : Nat) :
    (s.unplanned cause core).legality = s.legality := by simp [State.unplanned]
@[simp] theorem execWarmRestart_legality (cause : RestartCause) (core : Fin 32) (s : State) :
    outcomeLegality (execWarmRestart cause core s) = some s.legality := by
  unfold execWarmRestart
  split <;> simp
@[simp] theorem State.losePassages_legality (s : State) :
    (s.losePassages).legality = s.legality := by simp [State.losePassages]
@[simp] theorem State.loseQueues_legality (s : State) : (s.loseQueues).legality = s.legality := by rfl
@[simp] theorem State.loseTable_legality (s : State) (k : Nat) : (s.loseTable k).legality = s.legality := by
  unfold State.loseTable
  split <;> simp
@[simp] theorem State.loseTables_legality (s : State) (bad : List Nat) :
    (s.loseTables bad).legality = s.legality := by simp [State.loseTables]
@[simp] theorem State.loseHandover_legality (s : State) :
    (s.loseHandover).legality = s.legality := by simp [State.loseHandover]
@[simp] theorem State.cutExec_legality (s : State) (e : Exec) :
    (s.cutExec e).legality = s.legality := by simp [State.cutExec]
@[simp] theorem State.resumeAll_legality (s : State) (p : Pause) :
    (s.resumeAll p).legality = s.legality := by simp [State.resumeAll]
@[simp] theorem State.raiseSv_legality (s : State) (sv : Nat) :
    (s.raiseSv sv).legality = s.legality := by simp [State.raiseSv]
@[simp] theorem State.installImage_legality (s : State) (cls : Nat) : (s.installImage cls).legality = s.legality := by
  unfold State.installImage
  split <;> simp

/-! ### Cleosh (14) -/

@[simp] theorem State.updSess_legality (s : State) (id : Nat) (f : Sess → Sess) :
    (s.updSess id f).legality = s.legality := by
  unfold State.updSess
  split <;> simp
@[simp] theorem State.cleoshSend_legality (s : State) (id typ : Nat) (body : Bytes) :
    (s.cleoshSend id typ body).legality = s.legality := by
  unfold State.cleoshSend
  split <;> simp
@[simp] theorem State.cleoshAck_legality (s : State) (id : Nat) : (s.cleoshAck id).legality = s.legality := by
  unfold State.cleoshAck
  split <;> simp
@[simp] theorem State.result_legality (s : State) (id msg status detail w0 w1 : Nat) :
    (s.result id msg status detail w0 w1).legality = s.legality := by simp [State.result]

theorem State.takeMsg_legality {s t : State} {m : CMsg} {typ : Nat} {signed : Bool} {x : Sess}
    (h : s.takeMsg m typ signed = some (x, t)) : t.legality = s.legality := by
  unfold State.takeMsg at h
  repeat' split at h
  all_goals cases h
  all_goals simp

/-- The own part of a Cleosh message is all of it that can touch a fuse or a window. -/
@[simp] theorem State.message_legality (s : State) (m : CMsg) (typ role : Nat) (lock signed : Bool)
    (checks : Sess → State → List MChk) (act : Sess → State → State) (h : ∀ x s, (act x s).legality = s.legality) :
    (s.message m typ role lock signed checks act).legality = s.legality := by
  unfold State.message
  split
  · rfl
  · rename_i x s1 hx
    rw [← State.takeMsg_legality hx]
    split
    · simp
    · exact h x s1

@[simp] theorem State.dropDatagram_legality (s : State) (port : Nat) :
    (s.dropDatagram port).legality = s.legality := by rfl
@[simp] theorem State.sessionHeard_legality (s : State) (id : Nat) : (s.sessionHeard id).legality = s.legality := by
  simp only [State.sessionHeard]
  (repeat' split) <;> simp
@[simp] theorem State.takeSegment_legality (s : State) (port id : Nat) (x : Sess) (b : Bytes) :
    (s.takeSegment port id x b).legality = s.legality := by simp [State.takeSegment]
@[simp] theorem execCleoshDatagram_legality (port : Fin 2) (linkLocal : Bool) (bytes : Bytes) (s : State) :
    outcomeLegality (execCleoshDatagram port linkLocal bytes s) = some s.legality := by
  simp only [execCleoshDatagram]
  (repeat' split) <;> simp
@[simp] theorem execCleoshResend_legality (sess : Nat) (s : State) :
    outcomeLegality (execCleoshResend sess s) = some s.legality := by
  unfold execCleoshResend
  split <;> simp
@[simp] theorem execCleoshAckTimer_legality (sess : Nat) (s : State) :
    outcomeLegality (execCleoshAckTimer sess s) = some s.legality := by
  unfold execCleoshAckTimer
  split <;> simp
@[simp] theorem execHello_legality (port : Fin 2) (addr : Bytes) (keyIndex : Nat) (s : State) :
    outcomeLegality (execHello port addr keyIndex s) = some s.legality := by simp [execHello]
@[simp] theorem State.authFail_legality (s : State) (x : Sess) (m : CMsg) :
    (s.authFail x m).legality = s.legality := by simp [State.authFail]
@[simp] theorem execAuth_legality (m : CMsg) (s : State) : outcomeLegality (execAuth m s) = some s.legality := by
  unfold execAuth
  rw [outcomeLegality_next]
  split
  · rfl
  · rename_i x s1 h
    rw [← State.takeMsg_legality h]
    split <;> simp
@[simp] theorem execAuthTimeout_legality (sess : Nat) (s : State) :
    outcomeLegality (execAuthTimeout sess s) = some s.legality := by
  unfold execAuthTimeout
  split <;> simp
@[simp] theorem execSessionIdle_legality (sess : Nat) (s : State) :
    outcomeLegality (execSessionIdle sess s) = some s.legality := by
  unfold execSessionIdle
  split <;> simp
@[simp] theorem execClose_legality (sess : Nat) (s : State) : outcomeLegality (execClose sess s) = some s.legality := by
  simp only [execClose]
  (repeat' split) <;> simp
@[simp] theorem execStatusReq_legality (m : CMsg) (s : State) :
    outcomeLegality (execStatusReq m s) = some s.legality := by simp [execStatusReq]
@[simp] theorem State.sendBusy_legality (s : State) (id : Nat) (l : Lock) :
    (s.sendBusy id l).legality = s.legality := by simp [State.sendBusy]
@[simp] theorem State.grantLock_legality (s : State) (id : Nat) (x : Sess) :
    (s.grantLock id x).legality = s.legality := by simp [State.grantLock]
@[simp] theorem execLockReq_legality (m : CMsg) (s : State) : outcomeLegality (execLockReq m s) = some s.legality := by
  refine congrArg some (State.message_legality _ _ _ _ _ _ _ _ fun x s => ?_)
  dsimp only
  split
  · simp
  · split
    · simp
    · split
      · split <;> simp
      · simp
@[simp] theorem execLockRelease_legality (m : CMsg) (s : State) :
    outcomeLegality (execLockRelease m s) = some s.legality := by simp [execLockRelease]
@[simp] theorem execLockIdleExpiry_legality (s : State) : outcomeLegality (execLockIdleExpiry s) = some s.legality := by
  unfold execLockIdleExpiry
  split <;> simp
@[simp] theorem execStageBegin_legality (m : CMsg) (s : State) :
    outcomeLegality (execStageBegin m s) = some s.legality := by simp [execStageBegin]
@[simp] theorem execStageBlock_legality (m : CMsg) (s : State) :
    outcomeLegality (execStageBlock m s) = some s.legality := by
  refine congrArg some (State.message_legality _ _ _ _ _ _ _ _ fun x s => ?_)
  dsimp only
  rw [State.result_legality]
  split <;> rfl
@[simp] theorem execActivate_legality (m : CMsg) (s : State) :
    outcomeLegality (execActivate m s) = some s.legality := by simp [execActivate]
@[simp] theorem execActivationP0_legality (s : State) : outcomeLegality (execActivationP0 s) = some s.legality := by
  unfold execActivationP0
  split <;> simp
@[simp] theorem execActivationAbandoned_legality (s : State) :
    outcomeLegality (execActivationAbandoned s) = some s.legality := by
  unfold execActivationAbandoned
  split <;> simp
@[simp] theorem execHealthConfirmed_legality (s : State) :
    outcomeLegality (execHealthConfirmed s) = some s.legality := by simp [execHealthConfirmed]
@[simp] theorem execHealthFallback_legality (failed : Fin 64) (s : State) :
    outcomeLegality (execHealthFallback failed s) = some s.legality := by simp [execHealthFallback]
@[simp] theorem execFallbackParkEnd_legality (s : State) :
    outcomeLegality (execFallbackParkEnd s) = some s.legality := by
  unfold execFallbackParkEnd
  split <;> simp
@[simp] theorem execLoaderCommit_legality (m : CMsg) (s : State) :
    outcomeLegality (execLoaderCommit m s) = some s.legality := by simp [execLoaderCommit]
@[simp] theorem State.putKey_legality (s : State) (slot role usage : Nat) (b : Bytes) :
    (s.putKey slot role usage b).legality = s.legality := by rfl
@[simp] theorem State.dropKey_legality (s : State) (slot : Nat) : (s.dropKey slot).legality = s.legality := by
  unfold State.dropKey
  split <;> simp
@[simp] theorem execEnroll_legality (m : CMsg) (s : State) :
    outcomeLegality (execEnroll m s) = some s.legality := by simp [execEnroll]
@[simp] theorem execRevoke_legality (m : CMsg) (s : State) :
    outcomeLegality (execRevoke m s) = some s.legality := by simp [execRevoke]
@[simp] theorem execClaim_legality (m : CMsg) (s : State) : outcomeLegality (execClaim m s) = some s.legality := by
  unfold execClaim
  dsimp only
  rw [outcomeLegality_next]
  split
  · rfl
  · rename_i x s1 h
    rw [← State.takeMsg_legality h]
    split <;> simp
@[simp] theorem execUnclaim_legality (m : CMsg) (s : State) :
    outcomeLegality (execUnclaim m s) = some s.legality := by simp [execUnclaim]
@[simp] theorem cmdFwQuery_legality (r : Req) (s : State) :
    (cmdFwQuery r s).state.legality = s.legality := by simp [cmdFwQuery]
@[simp] theorem cmdKeyList_legality (r : Req) (s : State) :
    (cmdKeyList r s).state.legality = s.legality := by simp [cmdKeyList]
@[simp] theorem cmdMeasurements_legality (r : Req) (s : State) :
    (cmdMeasurements r s).state.legality = s.legality := by simp [cmdMeasurements]
@[simp] theorem cmdAttest_legality (r : Req) (s : State) :
    (cmdAttest r s).state.legality = s.legality := by simp [cmdAttest]

/-! ### Memory and faults (15) -/

@[simp] theorem State.addCorr_legality (s : State) (mem unit n : Nat) :
    (s.addCorr mem unit n).legality = s.legality := by simp [State.addCorr]
@[simp] theorem execMemRepair_legality (mem : Fin 4) (addr : Nat) (s : State) :
    outcomeLegality (execMemRepair mem addr s) = some s.legality := by simp [execMemRepair]
@[simp] theorem execMemCorrectableClear_legality (mem : Fin 4) (idx : Nat) (s : State) :
    outcomeLegality (execMemCorrectableClear mem idx s) = some s.legality := by simp [execMemCorrectableClear]
@[simp] theorem State.poison_legality (s : State) (mem addr consumer : Nat) :
    (s.poison mem addr consumer).legality = s.legality := by simp [State.poison]
@[simp] theorem State.rangeError_legality (s : State) (slice pid : Nat) (name : String) :
    (s.rangeError slice pid name).legality = s.legality := by
  unfold State.rangeError
  split <;> simp
@[simp] theorem State.loseResidWord_legality (s : State) (slice tensor e : Nat) :
    (s.loseResidWord slice tensor e).legality = s.legality := by
  simp only [State.loseResidWord]
  (repeat' split) <;> simp
@[simp] theorem State.damage_legality (s : State) (slice tensor comp e : Nat) :
    (s.damage slice tensor comp e).legality = s.legality := by
  simp only [State.damage]
  (repeat' split) <;> simp
@[simp] theorem State.consume_legality (s : State) (mem addr consumer slice obj : Nat) :
    (s.consume mem addr consumer slice obj).legality = s.legality := by
  simp only [State.consume]
  (repeat' split) <;> simp
@[simp] theorem execMemUncorrectable_legality (mem : Fin 4) (addr : Nat) (consumer : Fin 14) (slice : Fin 64)
    (obj : Nat) (s : State) :
    outcomeLegality (execMemUncorrectable mem addr consumer slice obj s) = some s.legality := by
  simp [execMemUncorrectable]
@[simp] theorem execScrubPass_legality (mem : Fin 4) (overdue : Bool) (corrected : List (Nat × Nat)) (bad : List Nat)
    (s : State) :
    outcomeLegality (execScrubPass mem overdue corrected bad s) = some s.legality := by simp [execScrubPass]
@[simp] theorem execUnitKnownAnswerTest_legality (u : Fin 48) (pass : Bool) (s : State) :
    outcomeLegality (execUnitKnownAnswerTest u pass s) = some s.legality := by simp [execUnitKnownAnswerTest]
@[simp] theorem execHbmStackFailed_legality (k : Fin 8) (s : State) :
    outcomeLegality (execHbmStackFailed k s) = some s.legality := by simp [execHbmStackFailed]
@[simp] theorem State.overSlice_legality (s : State) (res n : Nat) (oversub : Bool) :
    (s.overSlice res n oversub).legality = s.legality := by simp [State.overSlice]
@[simp] theorem execSaturationInterval_legality (resource : Fin 7) (busy : Nat) (waited : Nat)
    (waits : List (Nat × Nat)) (s : State) :
    outcomeLegality (execSaturationInterval resource busy waited waits s) = some s.legality := by
  simp [execSaturationInterval]
@[simp] theorem execDieLinkLaneFail_legality (die : Fin 4) (lane : Nat) (trainingLost : Bool) (s : State) :
    outcomeLegality (execDieLinkLaneFail die lane trainingLost s) = some s.legality := by simp [execDieLinkLaneFail]
@[simp] theorem State.thermResume_legality (s : State) (temp : Int) :
    (s.thermResume temp).legality = s.legality := by simp [State.thermResume]
@[simp] theorem execThrottleStep_legality (temp : Int) (s : State) :
    outcomeLegality (execThrottleStep temp s) = some s.legality := by simp [execThrottleStep]
@[simp] theorem execThermalStop_legality (temp : Int) (s : State) :
    outcomeLegality (execThermalStop temp s) = some s.legality := by simp [execThermalStop]
@[simp] theorem execSensorLimit_legality (sensor : Fin 16) (reading : Int) (second : Int) (s : State) :
    outcomeLegality (execSensorLimit sensor reading second s) = some s.legality := by
  simp only [execSensorLimit]
  (repeat' split) <;> simp

/-! ### Maintenance (13) -/

@[simp] theorem cmdMaintEnter_legality (r : Req) (s : State) :
    (cmdMaintEnter r s).state.legality = s.legality := by simp [cmdMaintEnter]
@[simp] theorem execMaintDrainDone_legality (s : State) : outcomeLegality (execMaintDrainDone s) = some s.legality := by
  simp only [execMaintDrainDone]
  (repeat' split) <;> simp
@[simp] theorem cmdMaintExit_legality (r : Req) (s : State) :
    (cmdMaintExit r s).state.legality = s.legality := by simp [cmdMaintExit]

/-! ### Commands started from a ring (03) -/

@[simp] theorem cmdIdentify_legality (r : Req) (s : State) :
    (cmdIdentify r s).state.legality = s.legality := by simp [cmdIdentify]
@[simp] theorem cmdNop_legality (r : Req) (s : State) : (cmdNop r s).state.legality = s.legality := by simp [cmdNop]
@[simp] theorem cmdFunctionQuery_legality (r : Req) (s : State) :
    (cmdFunctionQuery r s).state.legality = s.legality := by simp [cmdFunctionQuery]
@[simp] theorem State.seqGap_legality (s : State) (fn : Fin 64) (ring : Fin 16) (h : Held) :
    (s.seqGap fn ring h).legality = s.legality := by simp [State.seqGap]

/-! ### Registers and status pages (03) -/

@[simp] theorem State.readEffect_legality (s : State) (off : Nat) (lo hi : Bool) :
    (s.readEffect off lo hi).legality = s.legality := by
  simp only [State.readEffect]
  (repeat' split) <;> simp
@[simp] theorem execRegisterReadClear_legality (t : RegTarget) (wide : Bool) (s : State) :
    outcomeLegality (execRegisterReadClear t wide s) = some s.legality := by
  unfold execRegisterReadClear
  split <;> simp
@[simp] theorem State.writeSp_legality (s : State) (fn v : Nat) : (s.writeSp fn v).legality = s.legality := by rfl
@[simp] theorem State.writePf_legality (s : State) (off : Nat) (upper : Bool) (v : Nat) :
    (s.writePf off upper v).legality = s.legality := by
  simp only [State.writePf]
  (repeat' split) <;> simp
@[simp] theorem execStatusPageEnable_legality (fn : Fin 64) (value : Nat) (s : State) :
    outcomeLegality (execStatusPageEnable fn value s) = some s.legality := by rfl
@[simp] theorem State.writePage_legality (s : State) (fn : Nat) (fault : Bool) :
    (s.writePage fn fault).legality = s.legality := by simp [State.writePage]
@[simp] theorem execStatusPageRefresh_legality (faulted : List Nat) (s : State) :
    outcomeLegality (execStatusPageRefresh faulted s) = some s.legality := by simp [execStatusPageRefresh]

/-! ### What can write a window: the commands and events that make, change or lose a slice, and fabric-memory operations -/

/-- An outcome keeps what is legal of a state. -/
def OutcomeKeeps (s : State) (o : Host.Outcome State Fault Refusal) : Prop := ∀ t, o = .next t → Keeps s.legality t.legality

theorem outcomeKeeps_next {s t : State} : OutcomeKeeps s (.next t) ↔ Keeps s.legality t.legality :=
  ⟨fun h => h t rfl, fun h _ e => Host.Outcome.next.inj e ▸ h⟩

theorem outcomeKeeps_of_legality {s : State} {o : Host.Outcome State Fault Refusal}
    (h : outcomeLegality o = some s.legality) : OutcomeKeeps s o := by
  rintro t rfl
  rw [Option.some.inj h]
  exact Keeps.rfl

theorem keeps_of_windowsWf {s t : State} (hf : t.fuse = s.fuse) (hw : Safety.windowsWf t = true) :
    Keeps s.legality t.legality := ⟨hf, fun _ => hw⟩

/-- SLICE_CREATE (R320): the new slice has an empty window. -/
theorem cmdSliceCreate_keeps (r : Req) (s : State) : Keeps s.legality (cmdSliceCreate r s).state.legality := by
  refine guarded_keeps s _ _ ⟨rfl, fun hs => List.all_eq_true.mpr fun e he => ?_⟩
  rcases Tbl.mem_put he with rfl | he
  · rfl
  · exact List.all_eq_true.mp hs e he

theorem State.delSlice_keeps (s : State) (n : Nat) :
    Keeps s.legality ({ s with topo := { s.topo with slice := s.topo.slice.del n } } : State).legality :=
  ⟨rfl, fun hs => List.all_eq_true.mpr fun e he => List.all_eq_true.mp hs e (List.mem_filter.mp he).1⟩

/-- SLICE_DELETE (R329): the other slices keep their windows. -/
theorem cmdSliceDelete_keeps (r : Req) (s : State) : Keeps s.legality (cmdSliceDelete r s).state.legality := by
  refine guarded_keeps s _ _ (Keeps.trans ?_ (State.delSlice_keeps _ r.slice))
  simp

/-- FM_WINDOW_SET (R279, R280): a window that shrinks loses its last bytes. -/
theorem cmdFmWindowSet_keeps (r : Req) (s : State) : Keeps s.legality (cmdFmWindowSet r s).state.legality :=
  guarded_keeps s _ _ (s.updSlice_keeps _ _ fun _ hx => Memory.wf_filter _ hx)

/-- A fabric-memory operation writes its window byte by byte (R281, R282). -/
theorem State.fmExec_keeps (s : State) (o : FOp) : Keeps s.legality (s.fmExec o).1.legality := by
  have hput : ∀ (a : Nat) (b : Bytes) (p : Nat → Bool), Keeps s.legality (s.updSlice o.slice (fun y => { y with
      window := Memory.write y.window a b, windowBad := y.windowBad.filter p })).legality :=
    fun a b p => s.updSlice_keeps _ _ fun y hy => Memory.wf_write _ a b hy
  unfold State.fmExec
  split
  · exact Keeps.rfl
  · dsimp only
    (repeat' split) <;> simp [hput]

/-- During a thermal stop the operation is not executed (R466). -/
theorem State.fmExec_unless_keeps (s : State) (o : FOp) (c : Bool) :
    Keeps s.legality (if c then (s, 0x0602, []) else s.fmExec o).1.legality := by
  split
  · exact Keeps.rfl
  · exact s.fmExec_keeps o

theorem execFmOperationComplete_keeps (ref : Nat) (s : State) : OutcomeKeeps s (execFmOperationComplete ref s) := by
  unfold execFmOperationComplete
  rw [outcomeKeeps_next]
  split
  · exact Keeps.rfl
  · split
    · exact Keeps.rfl
    · dsimp only
      split
      · rw [State.finishReq_legality]
        exact State.fmExec_unless_keeps _ _ _
      · rw [State.answerRack_legality]
        exact State.fmExec_unless_keeps _ _ _

/-! #### Cold starts and configuration stores (R417, R439) -/

/-- What a cold start loses (R417): slices are restored with empty windows. -/
theorem State.wiped_keeps (s : State) : Keeps s.legality s.wiped.legality :=
  keeps_of_windowsWf rfl (by
    simp [State.wiped, Safety.windowsWf, Tbl.mapVal, Slice.restored, Slice.new, Memory.wf])

theorem State.takeConfig_keeps (s : State) : Keeps s.legality s.takeConfig.legality := by
  unfold State.takeConfig
  dsimp only
  split
  · exact Keeps.rfl
  · split
    · simp
    · split
      · simp
      · rw [State.logAdd_legality]
        exact keeps_of_windowsWf rfl rfl

theorem State.startMain_keeps (s : State) (c : ColdStart) : Keeps s.legality (s.startMain c).legality := by
  have h := (s.retireParts c).takeConfig_keeps
  unfold State.startMain
  dsimp only
  split <;> simpa using h

theorem State.coldStart_keeps (s : State) (c : ColdStart) : Keeps s.legality (s.coldStart c).legality := by
  refine s.wiped_keeps.trans ?_
  unfold State.coldStart
  dsimp only
  split
  · simp
  · split
    · simp
    · refine Keeps.trans ?_ (State.startMain_keeps _ c)
      simp

theorem execColdStart_keeps (c : ColdStart) (s : State) : OutcomeKeeps s (execColdStart c s) :=
  outcomeKeeps_next.mpr (s.coldStart_keeps c)

theorem execModResetN_keeps (n : Nat) (c : ColdStart) (s : State) : OutcomeKeeps s (execModResetN n c s) := by
  unfold execModResetN
  rw [outcomeKeeps_next]
  split
  · exact s.coldStart_keeps c
  · exact Keeps.rfl

theorem execInputLoss_keeps (how : InputLoss) (s : State) : OutcomeKeeps s (execInputLoss how s) :=
  outcomeKeeps_next.mpr s.wiped_keeps

theorem State.endPause_keeps (s : State) (p : Pause) : Keeps s.legality (s.endPause p).legality := by
  unfold State.endPause
  dsimp only
  split
  · split
    · split <;> simp
    · simp
  · rw [State.unparkForAct_legality, State.logAdd_legality, State.bootEvent_legality]
    exact State.takeConfig_keeps _
  · simpa using s.loseHandover.takeConfig_keeps
  · simp
  · exact Keeps.rfl

theorem execWarmRestartDone_keeps (bad : List Nat) (ok : Bool) (s : State) :
    OutcomeKeeps s (execWarmRestartDone bad ok s) := by
  unfold execWarmRestartDone
  rw [outcomeKeeps_next]
  split
  · exact Keeps.rfl
  · rename_i p _
    split
    · simp
    · dsimp only
      have h := fun s1 : State => (s1.resumeAll p).endPause_keeps p
      simp only [State.resumeAll_legality] at h
      rw [State.settle_legality, State.legality_foldl _ (fun s e => State.cutExec_legality s e)]
      refine Keeps.trans ?_ (h _)
      simp

/-! #### Cleosh messages that restart the module (R428, R437) -/

theorem State.message_keeps (s : State) (m : CMsg) (typ role : Nat) (lock signed : Bool)
    (checks : Sess → State → List MChk) (act : Sess → State → State) (h : ∀ x s, Keeps s.legality (act x s).legality) :
    Keeps s.legality (s.message m typ role lock signed checks act).legality := by
  unfold State.message
  split
  · exact Keeps.rfl
  · rename_i x s1 hx
    rw [← State.takeMsg_legality hx]
    split
    · simp
    · exact h x s1

theorem execRestart_keeps (m : CMsg) (s : State) : OutcomeKeeps s (execRestart m s) := by
  refine outcomeKeeps_next.mpr (State.message_keeps _ _ _ _ _ _ _ _ fun x s => ?_)
  dsimp only
  split
  · simpa using (s.result m.sess m.msgId 0 0 0 0).wiped_keeps
  · simp

theorem execStageEnd_keeps (m : CMsg) (s : State) : OutcomeKeeps s (execStageEnd m s) := by
  refine outcomeKeeps_next.mpr (State.message_keeps _ _ _ _ _ _ _ _ fun x s => ?_)
  dsimp only
  split
  · exact Keeps.rfl
  · split
    · simp
    · split
      · simp
      · split
        · simp
        · split
          · refine Keeps.trans ?_ (State.wiped_keeps _)
            simp
          · simp

/-! #### Commands started from a ring (R95, R110) -/

theorem runCmd_keeps (op : Nat) (r : Req) (s : State) : Keeps s.legality (runCmd op r s).state.legality := by
  unfold runCmd
  split <;> simp [cmdSliceCreate_keeps, cmdSliceDelete_keeps, cmdFmWindowSet_keeps]

theorem State.startCmd_keeps (s : State) (fn : Fin 64) (ring : Fin 16) (h : Held) :
    Keeps s.legality (s.startCmd fn ring h).legality := by
  unfold State.startCmd
  dsimp only
  split
  · simpa using State.runReq_keeps (s.updRing fn ring Ring.stepFetch) _ _ _ _ _ (runCmd_keeps _ _)
  · simp
  · simp

theorem State.startHeld_keeps (s : State) (fn : Fin 64) (ring : Fin 16) : Keeps s.legality (s.startHeld fn ring).legality := by
  unfold State.startHeld
  split
  · split
    · simp
    · exact s.startCmd_keeps fn ring _
  · exact Keeps.rfl

theorem execCommandFetch_keeps (fn : Fin 64) (ring : Fin 16) (entry block : Option Bytes) (data : Bytes) (dma : Dma)
    (s : State) : OutcomeKeeps s (execCommandFetch fn ring entry block data dma s) := by
  unfold execCommandFetch
  rw [outcomeKeeps_next]
  dsimp only
  split
  · exact Keeps.rfl
  · split
    · split
      · exact s.startHeld_keeps fn ring
      · exact Keeps.rfl
    · split
      · exact Keeps.rfl
      · split
        · simp
        · split
          · simp
          · split
            · simp
            · exact s.startCmd_keeps fn ring _

theorem State.writeStep_keeps (s : State) (fn : Fin 64) (ring : Fin 16) (v : Nat) :
    Keeps s.legality (s.writeStep fn ring v).legality := by
  unfold State.writeStep
  split
  · exact Keeps.rfl
  · split
    · simp
    · exact s.startHeld_keeps fn ring

theorem State.writeCfgRun_keeps (s : State) (fn : Fin 64) (ring : Fin 16) (v : Nat) :
    Keeps s.legality (s.writeCfgRun fn ring v).legality := by
  unfold State.writeCfgRun
  dsimp only
  split
  · simpa using (s.writeCfg fn ring v).startHeld_keeps fn ring
  · simp

theorem execHifRingStepDb_keeps (fn : Fin 64) (ring : Fin 16) (v : Nat) (s : State) :
    OutcomeKeeps s (execHifRingStepDb fn ring v s) := outcomeKeeps_next.mpr (s.writeStep_keeps fn ring v)

theorem execStepModeClear_keeps (fn : Fin 64) (ring : Fin 16) (v : Nat) (s : State) :
    OutcomeKeeps s (execStepModeClear fn ring v s) := outcomeKeeps_next.mpr (s.writeCfgRun_keeps fn ring v)

/-! #### Register writes, which can start a held command (R82, R110) -/

theorem State.writeRing_keeps (s : State) (fn : Fin 64) (k : Fin 16) (o : Nat) (wide upper : Bool) (v : Nat) :
    Keeps s.legality (s.writeRing fn k o wide upper v).legality := by
  unfold State.writeRing
  dsimp only
  split
  case h_3 => split <;> simp [State.writeCfgRun_keeps]
  case h_6 => split <;> simp [State.writeStep_keeps]
  all_goals simp

theorem State.writeFnWord_keeps (s : State) (fn : Fin 64) (off : Nat) (wide upper : Bool) (v : Nat) :
    Keeps s.legality (s.writeFnWord fn off wide upper v).legality := by
  unfold State.writeFnWord
  split
  · exact s.writeRing_keeps ..
  · split <;> simp

theorem execRegisterWrite_keeps (t : RegTarget) (wide : Bool) (v : Nat) (s : State) :
    OutcomeKeeps s (execRegisterWrite t wide v s) := by
  unfold execRegisterWrite
  rw [outcomeKeeps_next]
  cases t with
  | pf off =>
    dsimp only
    split
    · simp
    · split
      · exact s.writeFnWord_keeps ..
      · simp
  | vf n off =>
    dsimp only
    split
    · simp
    · split
      · exact s.writeFnWord_keeps ..
      · exact Keeps.rfl
  | bar2 n off => exact Keeps.rfl
  | sriov => simp

/-! ### Every command -/

/-- Every command keeps the fuses, and keeps canonical windows canonical: most touch neither, the others are those above. -/
theorem exec_keeps (i : Instr) (s : State) : OutcomeKeeps s (exec i s) := by
  cases i with
  | sliceCreate r => exact outcomeKeeps_next.mpr (s.hostRow_keeps _ r _ fun s => cmdSliceCreate_keeps r s)
  | sliceDelete r => exact outcomeKeeps_next.mpr (s.hostRow_keeps _ r _ fun s => cmdSliceDelete_keeps r s)
  | fmWindowSet r => exact outcomeKeeps_next.mpr (s.hostRow_keeps _ r _ fun s => cmdFmWindowSet_keeps r s)
  | commandFetch fn ring entry block data dma => exact execCommandFetch_keeps fn ring entry block data dma s
  | hifRingStepDb fn ring v => exact execHifRingStepDb_keeps fn ring v s
  | stepModeClear fn ring v => exact execStepModeClear_keeps fn ring v s
  | registerWrite t wide v => exact execRegisterWrite_keeps t wide v s
  | coldStart c => exact execColdStart_keeps c s
  | modResetN n c => exact execModResetN_keeps n c s
  | warmRestartDone bad ok => exact execWarmRestartDone_keeps bad ok s
  | inputLoss how => exact execInputLoss_keeps how s
  | stageEnd m => exact execStageEnd_keeps m s
  | restart m => exact execRestart_keeps m s
  | fmOperationComplete ref => exact execFmOperationComplete_keeps ref s
  | _ =>
    exact outcomeKeeps_of_legality (by simp [exec,
      execIdentify, execNop, execFunctionQuery, execSliceAssign, execSliceQuery, execSliceReset, execPortAdmit,
      execStandingSet, execChartLoad, execChartQuery, execChartCommit, execChartRelease, execPassageLoad,
      execPassageArm, execPassageDoorbell, execPassagePark, execPassageResume, execPassageAbort,
      execPassageUnload, execPassageQuery, execQpCreate, execQpDestroy, execQpQuery, execOptBind, execOptUnbind,
      execOptStateLoad, execOptStateDump, execProgLoad, execProgUnload, execResidualClear, execCalGet,
      execCalRun, execCalConfig, execCalQuery, execTimeGet, execTimeStatus, execTimeConfig, execTriggerSet,
      execCtrSelect, execCtrSnapshot, execTraceConfig, execTraceArm, execTraceStop, execTraceQuery, execLogRead,
      execLogNonce, execLogClear, execFwQuery, execAttest, execKeyList, execMeasurements, execMaintEnter,
      execMaintExit, execMirrorSet, execLaserSet, execBreakSet, execCoreResume])

/-- With no command waiting a step is one tick; otherwise it is the command at the front. -/
theorem step_keeps (s : State) : OutcomeKeeps s (step s) := by
  unfold step
  split
  · exact outcomeKeeps_next.mpr (by simp)
  · rename_i c rest _
    intro t h
    simpa using exec_keeps c { s with pending := rest } t h

end Machine
end Sys2Proof

namespace Sys2Proof.Proofs

open Sys2Proof.Machine

/-- Settles O59: no step writes a fuse, and the few that write a window keep its canonical form (R1, R279). -/
theorem legalKept : Obligations.LegalKept := by
  intro s t hs h
  obtain ⟨hvariant, hwf⟩ := hs
  obtain ⟨hfuse, hwindows⟩ := keeps_legality_iff.mp (step_keeps s t h)
  exact ⟨⟨hfuse ▸ hvariant, hwindows hwf⟩, hfuse⟩

end Sys2Proof.Proofs
end

section
/-! SUPPORT. Register accesses: bits, arrays of registers, the words read and what a read clears; and statement O7. -/

namespace Sys2Proof

/-! ### Bits and fields -/

theorem bit_eq_testBit (v i : Nat) : bit v i = v.testBit i := by
  rw [bit, Nat.testBit_eq_decide_div_mod_eq, beq_eq_decide]

/-- A RW1C register loses exactly the bits written as 1 (R15). -/
theorem Machine.bit_w1c (cur v i : Nat) : bit (Machine.w1c cur v) i = (bit cur i && !bit v i) := by
  have h : (cur ^^^ (cur &&& v)).testBit i = (cur.testBit i ^^ (cur.testBit i && v.testBit i)) := by
    rw [Nat.testBit_xor, Nat.testBit_and]
  rw [bit_eq_testBit, bit_eq_testBit, bit_eq_testBit]
  refine Eq.trans h ?_
  cases cur.testBit i <;> cases v.testBit i <;> rfl

namespace Machine

/-! ### Arrays of registers -/

theorem arr_eq_none {base stride n off : Nat} (h : off < base ∨ base + stride * n ≤ off) : arr base stride n off = none := by
  unfold arr
  rw [if_neg]
  simp only [decide_eq_true_eq]
  omega

theorem arr_entry {base stride n k r : Nat} (hk : k < n) (hr : r < stride) :
    arr base stride n (base + (stride * k + r)) = some k := by
  have hlt : stride * k + r < stride * n := by nlinarith
  unfold arr
  rw [if_pos (by simp only [decide_eq_true_eq]; omega), Nat.add_sub_cancel_left,
    Nat.mul_add_div (by omega), Nat.div_eq_of_lt hr, Nat.add_zero]

/-! ### Accesses of the PF's BAR0 (R15, R78, R79) -/

/-- An aligned 64-bit write outside the function block. -/
theorem exec_registerWrite_pf {off : Nat} (v : Nat) (s : State) (ha : off % 8 = 0) (ho : off < 0x10000 ∨ 0x20000 ≤ off) :
    exec (.registerWrite (.pf off) true v) s = .next (s.writePf off false v) := by
  have hbase : off / 8 * 8 = off := by omega
  have hout : ¬(0x10000 ≤ off ∧ off < 0x20000) := by omega
  show execRegisterWrite (.pf off) true v s = _
  simp [execRegisterWrite, aligned, ha, hbase, hout]

/-- An aligned 64-bit write inside the PF's function block. -/
theorem exec_registerWrite_fnBlock {off : Nat} (v : Nat) (s : State) (ha : off % 8 = 0) (hlo : 0x10000 ≤ off)
    (hhi : off < 0x20000) : exec (.registerWrite (.pf off) true v) s = .next (s.writeFnWord 0 (off - 0x10000) true false v) := by
  have hbase : off / 8 * 8 = off := by omega
  show execRegisterWrite (.pf off) true v s = _
  simp [execRegisterWrite, aligned, ha, hbase, hlo, hhi]

/-- A write of register `o` of ring `k` of a function block (R81). -/
theorem State.writeFnWord_ring (s : State) (fn : Fin 64) (k : Fin 16) {o : Nat} (ho : o < 0x40) (wide upper : Bool) (v : Nat) :
    s.writeFnWord fn (0x100 + (0x40 * k + o)) wide upper v = s.writeRing fn k o wide upper v := by
  have hreg : (0x100 + (0x40 * k.val + o) - 0x100) % 0x40 = o := by omega
  have hmod : k.val % 16 = k := Nat.mod_eq_of_lt k.isLt
  simp only [State.writeFnWord, arr_entry k.isLt ho, hreg, hmod]

/-- An aligned 64-bit write of register `o` of ring `k` of the PF. -/
theorem exec_registerWrite_ring (k : Fin 16) {o : Nat} (v : Nat) (s : State) (ho : o < 0x40) (ha : o % 8 = 0) :
    exec (.registerWrite (.pf (0x10100 + o + 0x40 * k)) true v) s = .next (s.writeRing 0 k o true false v) := by
  have hk := k.isLt
  have hoff : 0x10100 + o + 0x40 * k.val - 0x10000 = 0x100 + (0x40 * k + o) := by omega
  rw [exec_registerWrite_fnBlock v s (by omega) (by omega) (by omega), hoff, State.writeFnWord_ring s 0 k ho]

/-- An aligned 64-bit read. -/
theorem exec_registerRead_pf {off : Nat} (s : State) (ha : off % 8 = 0) :
    exec (.registerReadClear (.pf off) true) s
      = .next ((s.readEffect off true true).answer (s.pfWord off % 2 ^ 64)) := by
  have hbase : off / 8 * 8 = off := by omega
  show execRegisterReadClear (.pf off) true s = _
  simp [execRegisterReadClear, aligned, ha, hbase, half]

end Machine
end Sys2Proof

namespace Sys2Proof.Machine

theorem merge_wide {v : Nat} (cur : Nat) (hv : v < 2 ^ 64) : merge cur v true false = v := Nat.mod_eq_of_lt hv

/-! ### Registers read as their fields -/

/-- TRP_MIRROR clears nothing (R140). -/
theorem State.readEffect_mirror (s : State) {m : Nat} (h : m < 2048) :
    s.readEffect (0x101000 + 8 * m) true true = s := by
  unfold State.readEffect
  simp (disch := omega) only [arr_eq_none]

theorem State.pfWord_mirror (s : State) {m : Nat} (h : m < 2048) : s.pfWord (0x101000 + 8 * m) = s.mirrorWord m := by
  have hentry : arr 0x101000 8 2048 (0x101000 + 8 * m) = some m := arr_entry (r := 0) h (by decide)
  simp (disch := omega) only [State.pfWord, if_neg, if_pos, State.trpWord, hentry, arr_eq_none]

theorem MirSt.code_lt (x : MirSt) : x.code < 8 := by cases x <;> decide

/-- A global port whose error counts have been read (R171). -/
def GPort.clearErrs (g : GPort) : GPort := { g with blanks := 0, relockFails := 0, preambleFails := 0, uncorrectable := 0 }

/-- COL_PORT_ERR is an RC register (R171). -/
theorem State.readEffect_colPortErr (s : State) {p : Nat} (h : p < 64) :
    s.readEffect (0x902000 + 8 * p) true true = s.updGp p GPort.clearErrs := by
  have hentry : arr 0x902000 8 64 (0x902000 + 8 * p) = some p := arr_entry (r := 0) h (by decide)
  unfold State.readEffect
  simp (disch := omega) only [arr_eq_none, hentry]
  rfl

theorem State.pfWord_colPortErr (s : State) {p : Nat} (h : p < 64) : s.pfWord (0x902000 + 8 * p) = (s.gp p).errWord := by
  have hentry : arr 0x902000 8 64 (0x902000 + 8 * p) = some p := arr_entry (r := 0) h (by decide)
  simp (disch := omega) only [State.pfWord, if_neg, if_pos, State.colWord, hentry, arr_eq_none]

@[simp] theorem State.gp_updGp (s : State) (t : Nat) (f : GPort → GPort) : (s.updGp t f).gp t = f (s.gp t) :=
  Tbl.get_put _ _ _ _

theorem State.gp_updGp_ne (s : State) {t u : Nat} (f : GPort → GPort) (h : u ≠ t) : (s.updGp t f).gp u = s.gp u :=
  Tbl.get_put_ne _ _ _ h

/-- FMQ_QP_CNT of a queue in use is an RC register (R302). -/
theorem State.readEffect_qpCnt (s : State) {q : Nat} (h : q < 262144) (hst : (s.queue q).st ≠ 0) :
    s.readEffect (0x1400008 + 16 * q) true true = s.updQueue q (fun x => { x with opsRc := 0, errRc := 0 }) := by
  have hoff : 0x1400008 + 16 * q = 0x1400000 + (16 * q + 8) := by omega
  have hentry : arr 0x1400000 16 262144 (0x1400000 + (16 * q + 8)) = some q := arr_entry h (by decide)
  have hreg : (0x1400000 + (16 * q + 8)) % 16 ≠ 0 := by omega
  rw [hoff]
  unfold State.readEffect
  simp (disch := omega) only [arr_eq_none, hentry]
  simp [hreg, hst]

theorem State.pfWord_qpCnt (s : State) {q : Nat} (h : q < 262144) (hst : (s.queue q).st ≠ 0) :
    s.pfWord (0x1400008 + 16 * q) = fld 0 32 (s.queue q).opsRc + fld 32 16 (min (s.queue q).errRc 65535) := by
  have hoff : 0x1400008 + 16 * q = 0x1400000 + (16 * q + 8) := by omega
  have hentry : arr 0x1400000 16 262144 (0x1400000 + (16 * q + 8)) = some q := arr_entry h (by decide)
  have hreg : (0x1400000 + (16 * q + 8)) % 16 / 8 = 1 := by omega
  rw [hoff]
  simp (disch := omega) only [State.pfWord, if_neg, if_pos, State.fmqWord, hentry, arr_eq_none, hreg]
  simp [State.qpWord, hst]

/-- A queue that is not FREE is changed. -/
theorem State.updQueue_of_used (s : State) {q : Nat} (f : Queue → Queue) (hst : (s.queue q).st ≠ 0) :
    s.updQueue q f = { s with fm := { s.fm with queue := s.fm.queue.put q (f (s.queue q)) } } := by
  unfold State.updQueue
  split
  · rename_i x hx
    rw [State.queue, Tbl.get, hx, Option.getD_some]
  · rename_i hx
    exact absurd (by rw [State.queue, Tbl.get, hx]; rfl) hst

/-! ### Statements about one kind of register -/

/-- HIF_SP_ADDR takes ENABLE and ADDR (R81, R90). -/
theorem statusPageEnable_write (fn : Fin 64) (v : Nat) (s : State) : ∃ t, exec (.statusPageEnable fn v) s = .next t
    ∧ t.fnb fn = { s.fnb fn with spEnable := bit v 0, spAddr := bits v 12 52 }
    ∧ t = { s with hif := { s.hif with fn := t.hif.fn } } ∧ ∀ f, f ≠ fn.val → t.fnb f = s.fnb f :=
  ⟨s.writeSp fn v, rfl, State.fnb_updFn s _ _, rfl, fun _ h => State.fnb_updFn_ne s _ h⟩

/-- The doorbells and HIF_RING_CFG of a ring of the PF act as their rows do (R81, R82). -/
theorem ringRegisters_act (k : Fin 16) (v : Nat) (s : State) (hv : v < 2 ^ 64) :
    exec (.registerWrite (.pf (0x10118 + 0x40 * k)) true v) s = exec (.hifRingCmdDb 0 k v) s
      ∧ exec (.registerWrite (.pf (0x10120 + 0x40 * k)) true v) s = exec (.hifRingCplDb 0 k v) s
      ∧ exec (.registerWrite (.pf (0x10128 + 0x40 * k)) true v) s = exec (.hifRingStepDb 0 k v) s
      ∧ exec (.registerWrite (.pf (0x10138 + 0x40 * k)) true v) s = exec (.hifRingCtrlResume 0 k v) s
      ∧ exec (.registerWrite (.pf (0x10110 + 0x40 * k)) true v) s = exec (.stepModeClear 0 k v) s := by
  refine ⟨(exec_registerWrite_ring (o := 0x18) k v s (by decide) (by decide)).trans ?_,
    (exec_registerWrite_ring (o := 0x20) k v s (by decide) (by decide)).trans ?_,
    (exec_registerWrite_ring (o := 0x28) k v s (by decide) (by decide)).trans ?_,
    (exec_registerWrite_ring (o := 0x38) k v s (by decide) (by decide)).trans ?_,
    (exec_registerWrite_ring (o := 0x10) k v s (by decide) (by decide)).trans ?_⟩
  all_goals
    simp only [State.writeRing, merge_wide _ hv, Bool.false_eq_true, if_false]
    rfl

/-- MODULE_STATE and AST_NOW_S are read-only (R80, R357). -/
theorem readOnly_write (v : Nat) (s : State) : exec (.registerWrite (.pf 0x10) true v) s = .next s
    ∧ exec (.registerWrite (.pf 0x2300008) true v) s = .next s :=
  ⟨exec_registerWrite_pf v s (by decide) (by decide), exec_registerWrite_pf v s (by decide) (by decide)⟩

/-- MODULE_STATE (R80). -/
theorem moduleState_read (s : State) :
    exec (.registerReadClear (.pf 0x10) true) s = .next { s with out := s.out ++ [.readValue s.mod.code] } := by
  rw [exec_registerRead_pf s (by decide)]
  cases h : s.mod <;> simp [State.answer, State.emit, State.pfWord, State.hifWord, State.readEffect, arr, h, Mod.code]

/-- TRP_MIRROR shows the state, fault, slice and partner of a mirror (R140). -/
theorem mirror_read (m : Nat) (s : State) (hm : m < 2048) : ∃ v, exec (.registerReadClear (.pf (0x101000 + 8 * m)) true) s
      = .next { s with out := s.out ++ [.readValue v] }
    ∧ bits v 0 3 = (s.mirror m).st.code ∧ bits v 3 3 = (s.mirror m).fault % 8 ∧ bits v 8 6 = s.mirrorSlice m % 64
    ∧ bits v 32 16 = (s.mirror m).partner % 65536 := by
  refine ⟨s.mirrorWord m % 2 ^ 64, ?_, ?_⟩
  · rw [exec_registerRead_pf s (by omega), State.readEffect_mirror s hm, State.pfWord_mirror s hm]
    rfl
  · have hc := (s.mirror m).st.code_lt
    simp only [bits, State.mirrorWord, fld]
    omega

/-- COL_PORT_ERR returns its counts and clears them (R15, R171). -/
theorem colPortErr_read (p : Nat) (s : State) (hp : p < 64) :
    ∃ t v, exec (.registerReadClear (.pf (0x902000 + 8 * p)) true) s = .next t
      ∧ t.out = s.out ++ [.readValue v] ∧ bits v 0 16 = (s.gp p).blanks % 65536 ∧ bits v 16 8 = (s.gp p).relockFails % 256
      ∧ bits v 24 8 = (s.gp p).preambleFails % 256 ∧ bits v 32 32 = (s.gp p).uncorrectable % 2 ^ 32
      ∧ t.gp p = { s.gp p with blanks := 0, relockFails := 0, preambleFails := 0, uncorrectable := 0 }
      ∧ (∀ q, q ≠ p → t.gp q = s.gp q) ∧ t = { s with col := { s.col with port := t.col.port }, out := t.out } := by
  have hfields : bits ((s.gp p).errWord % 2 ^ 64) 0 16 = (s.gp p).blanks % 65536
      ∧ bits ((s.gp p).errWord % 2 ^ 64) 16 8 = (s.gp p).relockFails % 256
      ∧ bits ((s.gp p).errWord % 2 ^ 64) 24 8 = (s.gp p).preambleFails % 256
      ∧ bits ((s.gp p).errWord % 2 ^ 64) 32 32 = (s.gp p).uncorrectable % 2 ^ 32 := by
    simp only [bits, GPort.errWord, fld]
    omega
  obtain ⟨hb, hr, hf, hu⟩ := hfields
  have hread := exec_registerRead_pf (off := 0x902000 + 8 * p) s (by omega)
  rw [State.readEffect_colPortErr s hp, State.pfWord_colPortErr s hp] at hread
  exact ⟨_, _, hread, rfl, hb, hr, hf, hu, State.gp_updGp s p GPort.clearErrs,
    fun _ h => State.gp_updGp_ne s GPort.clearErrs h, rfl⟩

/-- FMQ_QP_CNT of a queue in use returns its counts and clears them (R15, R302). -/
theorem qpCnt_read (q : Nat) (s : State) (hq : q < 262144) (hst : (s.queue q).st ≠ 0) : ∃ t v,
    exec (.registerReadClear (.pf (0x1400008 + 16 * q)) true) s = .next t ∧ t.out = s.out ++ [.readValue v]
      ∧ bits v 0 32 = (s.queue q).opsRc % 2 ^ 32 ∧ bits v 32 16 = min (s.queue q).errRc 65535
      ∧ t.queue q = { s.queue q with opsRc := 0, errRc := 0 }
      ∧ t = { s with fm := { s.fm with queue := t.fm.queue }, out := t.out } := by
  have hfields : ∀ a b, bits ((fld 0 32 a + fld 32 16 (min b 65535)) % 2 ^ 64) 0 32 = a % 2 ^ 32
      ∧ bits ((fld 0 32 a + fld 32 16 (min b 65535)) % 2 ^ 64) 32 16 = min b 65535 := by
    intro a b
    simp only [bits, fld]
    omega
  obtain ⟨ho, he⟩ := hfields (s.queue q).opsRc (s.queue q).errRc
  have hread := exec_registerRead_pf (off := 0x1400008 + 16 * q) s (by omega)
  rw [State.readEffect_qpCnt s hq hst, State.pfWord_qpCnt s hq hst, State.updQueue_of_used s _ hst] at hread
  exact ⟨_, _, hread, rfl, ho, he, Tbl.get_put _ _ _ _, rfl⟩

/-- AST_NOW_S latches AST_NOW_NS (R357): the read is the row AST_NOW_S_READ. -/
theorem astNowS_read (s : State) : exec (.registerReadClear (.pf 0x2300008) true) s = exec .astNowSRead s := by
  have hword : s.pfWord 0x2300008 % 2 ^ 64 = s.secs % 2 ^ 48 := by
    change fld 0 48 s.secs % 2 ^ 64 = _
    simp only [fld]
    omega
  rw [exec_registerRead_pf s (by decide), hword]
  rfl

theorem astNowSRead_latches (s : State) : ∃ t, exec .astNowSRead s = .next t ∧ t.ast.latchNs = s.ns % 1000000000
    ∧ t.ast.latchFrac = s.time16 % 65536 ∧ t.out = s.out ++ [.readValue (s.secs % 2 ^ 48)]
    ∧ t = { s with ast := { s.ast with latchNs := t.ast.latchNs, latchFrac := t.ast.latchFrac }, out := t.out } :=
  ⟨_, rfl, rfl, rfl, rfl, rfl⟩

end Sys2Proof.Machine

namespace Sys2Proof.Proofs

open Sys2Proof.Machine

/-- Settles O7, register by register; the event registers are RW1C by `bit_w1c`. -/
theorem registerAccess : Obligations.RegisterAccess := by
  refine ⟨⟨fun v s => ?_, statusPageEnable_write, ringRegisters_act, readOnly_write⟩,
    moduleState_read, mirror_read, colPortErr_read, qpCnt_read, astNowS_read, astNowSRead_latches⟩
  exact ⟨⟨_, exec_registerWrite_pf v s (by decide) (by decide), rfl, bit_w1c _ v⟩,
    ⟨_, exec_registerWrite_pf v s (by decide) (by decide), rfl, bit_w1c _ v⟩,
    ⟨_, exec_registerWrite_pf v s (by decide) (by decide), rfl, bit_w1c _ v⟩,
    ⟨_, exec_registerWrite_pf v s (by decide) (by decide), rfl, bit_w1c _ v⟩,
    ⟨_, exec_registerWrite_pf v s (by decide) (by decide), rfl, bit_w1c _ v⟩,
    ⟨_, exec_registerWrite_pf v s (by decide) (by decide), rfl, bit_w1c _ v⟩⟩

end Sys2Proof.Proofs
end

section
/-! SUPPORT. The thermal loops (R31, R368 to R370): repetitions in which each round writes a cell of its own, the heater
table, the release of held ports; and statement O45. -/

namespace Sys2Proof

theorem bit_setBit_self (v i : Nat) : bit (setBit v i) i = true := by
  unfold setBit
  split
  · assumption
  · rename_i h
    have hclear : v / 2 ^ i % 2 = 0 := by simpa [bit] using h
    have hquot : (v + 2 ^ i) / 2 ^ i = v / 2 ^ i + 1 := Nat.add_div_right v (Nat.two_pow_pos i)
    simp only [bit, hquot, beq_iff_eq]
    omega

/-! ### Repetitions in which each round writes a cell of its own -/

/-- Round `i` of `g` changes the cell `key i` by `f i` and leaves the other cells alone. -/
structure ActsOn {σ β : Type} (cell : σ → Nat → β) (key : Nat → Nat) (f : Nat → β → β) (g : σ → Nat → σ) : Prop where
  own : ∀ s i, cell (g s i) (key i) = f i (cell s (key i))
  other : ∀ s i j, j ≠ key i → cell (g s i) j = cell s j

section
variable {σ β : Type} {cell : σ → Nat → β} {key : Nat → Nat} {f : Nat → β → β} {g : σ → Nat → σ}

theorem ActsOn.foldl_of_forall_ne (h : ActsOn cell key f g) {l : List Nat} {j : Nat} (hj : ∀ i ∈ l, j ≠ key i) (s : σ) :
    cell (l.foldl g s) j = cell s j :=
  List.foldlRecOn l g (motive := fun t => cell t j = cell s j) rfl (fun t ht i hi => (h.other t i j (hj i hi)).trans ht)

theorem ActsOn.foldl_of_mem (h : ActsOn cell key f g) (hkey : Function.Injective key) {l : List Nat} (hl : l.Nodup)
    {i : Nat} (hi : i ∈ l) (s : σ) : cell (l.foldl g s) (key i) = f i (cell s (key i)) := by
  induction l generalizing s with
  | nil => cases hi
  | cons k l ih =>
    obtain ⟨hk, hl⟩ := List.nodup_cons.mp hl
    rcases List.mem_cons.mp hi with rfl | hi
    · have hlater : ∀ j ∈ l, key i ≠ key j := fun j hj heq => hk (hkey heq ▸ hj)
      rw [List.foldl_cons, h.foldl_of_forall_ne hlater, h.own]
    · have hne : key i ≠ key k := fun heq => hk (hkey heq ▸ hi)
      rw [List.foldl_cons, ih hl hi, h.other _ _ _ hne]

end

theorem Tbl.upd_actsOn {α : Type} (d : α) (key : Nat → Nat) (f : Nat → α → α) :
    ActsOn (fun (t : Tbl α) k => t.get k d) key f (fun t i => t.upd (key i) d (f i)) where
  own t i := Tbl.get_upd t (key i) d (f i)
  other t i _ hj := Tbl.get_upd_ne t d d (f i) hj

theorem Tbl.get_putAll_range {α : Type} (t : Tbl α) (d : α) (f : Nat → α) {n k : Nat} (hk : k < n) :
    (t.putAll (List.range n) f).get k d = f k :=
  have hput : ActsOn (fun (t : Tbl α) k => t.get k d) id (fun i _ => f i) (fun t i => t.put i (f i)) :=
    ⟨fun t i => Tbl.get_put t i (f i) d, fun t i _ hj => Tbl.get_put_ne t (f i) d hj⟩
  hput.foldl_of_mem Function.injective_id List.nodup_range (List.mem_range.mpr hk) t

namespace Machine

/-! ### Time, log and ports -/

/-- Advancing to the next multiple reaches exactly that instant, since it lies ahead. -/
theorem State.ns_advanceTo_nextMultiple (s : State) {p : Nat} (hp : 0 < p) :
    (s.advanceTo (s.nextMultiple p)).ns = (s.ns / p + 1) * p := by
  have hahead : s.ns < (s.ns / p + 1) * p := by
    rw [Nat.mul_comm]
    exact Nat.lt_mul_div_succ s.ns hp
  have hraw : s.ast.raw < (s.ns / p + 1) * p * unitsPerNs := (Nat.div_lt_iff_lt_mul (by decide)).mp hahead
  change max s.ast.raw ((s.ns / p + 1) * p * unitsPerNs) / unitsPerNs = _
  rw [max_eq_right hraw.le, Nat.mul_div_cancel _ (by decide)]

@[simp] theorem Log.record_created (g : Log) (e : LogEntry) : (g.record e).created = g.created := by
  unfold Log.record
  split <;> rfl

@[simp] theorem Log.enqueue_created (g : Log) (second : Nat) (e : LogEntry) : (g.enqueue second e).created = g.created := by
  unfold Log.enqueue
  extract_lets n
  split <;> rfl

/-- An entry above DEBUG is created in every module state (R408). -/
theorem State.logAdd_created (s : State) {sev : Nat} (hsev : sev ≠ 0) (slice event agent : Nat) (args : List Nat) :
    (s.logAdd sev slice event agent args).log.created = s.log.created + 1 := by
  simp only [State.logAdd, beq_false_of_ne hsev, Bool.false_and, Bool.false_eq_true, if_false]
  split_ifs <;> simp

@[simp] theorem State.lp_updLp (s : State) (p : Nat) (f : LPort → LPort) : (s.updLp p f).lp p = f (s.lp p) :=
  Tbl.get_upd _ _ _ _

theorem State.lp_updLp_ne (s : State) {p q : Nat} (f : LPort → LPort) (h : q ≠ p) : (s.updLp p f).lp q = s.lp q :=
  Tbl.get_upd_ne _ _ _ _ h

@[simp] theorem State.region_updRegion (s : State) (r : Nat) (f : Region → Region) : (s.updRegion r f).region r = f (s.region r) :=
  Tbl.get_upd _ _ _ _

theorem State.calStart_running (s : State) (r : Nat) : ((s.calStart r).region r).running = true := by
  rw [State.calStart, State.region_updRegion]
  split
  · assumption
  · rfl

/-! ### The heater table of the engines (SXT_TRING) -/

/-- The 256 heaters of engine `e`. -/
def heaters (t : Tbl (Nat × Int × Int)) (e : Nat) : Fin 256 → Nat × Int × Int := fun i => t.get (256 * e + i) (0, 0, 0)

/-- Every heater `i` of engine `e` changes by `f e i`. -/
def updHeaters (f : Nat → Nat → Nat × Int × Int → Nat × Int × Int) (t : Tbl (Nat × Int × Int)) (e : Nat) :
    Tbl (Nat × Int × Int) :=
  (List.range 256).foldl (fun t i => t.upd (256 * e + i) (0, 0, 0) (f e i)) t

theorem updHeaters_actsOn (f : Nat → Nat → Nat × Int × Int → Nat × Int × Int) :
    ActsOn heaters id (fun e c i => f e i (c i)) (updHeaters f) where
  own t e := funext fun i =>
    (Tbl.upd_actsOn _ (256 * e + ·) (f e)).foldl_of_mem (add_right_injective _) List.nodup_range (List.mem_range.mpr i.isLt) t
  other t e j hj := funext fun i =>
    (Tbl.upd_actsOn _ (256 * e + ·) (f e)).foldl_of_forall_ne (fun k hk => by
      have hi := i.isLt
      have hk := List.mem_range.mp hk
      simp only [id] at hj
      omega) t

theorem get_updHeaters (f : Nat → Nat → Nat × Int × Int → Nat × Int × Int) (t : Tbl (Nat × Int × Int)) (e : Nat) {i : Nat}
    (hi : i < 256) : (updHeaters f t e).get (256 * e + i) (0, 0, 0) = f e i (t.get (256 * e + i) (0, 0, 0)) :=
  congrFun ((updHeaters_actsOn f).own t e) ⟨i, hi⟩

/-! ### The power publication (R31, R368) -/

/-- A new prediction for every heater of a region. -/
def predictHeaters (f : Nat → Nat → Int) : Nat → Nat → Nat × Int × Int → Nat × Int × Int := fun e i x => (x.1, x.2.1, f e i)

/-- The engines of the variant whose controllers run. -/
def State.runningEngines (s : State) : List Nat := (List.range s.fuse.ioDies).filter s.gfRuns

theorem State.mem_runningEngines (s : State) (e : Nat) : e ∈ s.runningEngines ↔ e < s.fuse.ioDies ∧ s.gfRuns e = true := by
  simp [State.runningEngines]

theorem heaters_of_running (s : State) (f : Nat → Nat → Int) (t : Tbl (Nat × Int × Int)) {e i : Nat} (he : e < s.fuse.ioDies)
    (hi : i < 256) (hrun : s.gfRuns e = true) :
    (s.runningEngines.foldl (updHeaters (predictHeaters f)) t).get (256 * e + i) (0, 0, 0)
      = predictHeaters f e i (t.get (256 * e + i) (0, 0, 0)) :=
  congrFun ((updHeaters_actsOn (predictHeaters f)).foldl_of_mem Function.injective_id (List.nodup_range.filter _)
    ((s.mem_runningEngines e).mpr ⟨he, hrun⟩) t) ⟨i, hi⟩

theorem heaters_of_not_running (s : State) (f : Nat → Nat → Int) (t : Tbl (Nat × Int × Int)) {e i : Nat} (hi : i < 256)
    (hrun : s.gfRuns e = false) :
    (s.runningEngines.foldl (updHeaters (predictHeaters f)) t).get (256 * e + i) (0, 0, 0) = t.get (256 * e + i) (0, 0, 0) := by
  have hout : ∀ k ∈ s.runningEngines, e ≠ k := by
    rintro k hk rfl
    exact Bool.eq_false_iff.mp hrun ((s.mem_runningEngines e).mp hk).2
  exact congrFun ((updHeaters_actsOn (predictHeaters f)).foldl_of_forall_ne hout t) ⟨i, hi⟩

/-- The state at the next step of 10 µs with what is published, before any prediction. -/
def State.publish (power : Nat) (coolant : Int) (s : State) : State :=
  { s.advanceTo (s.nextMultiple 10000) with sxt := { s.sxt with
      power := min power 65535, coolant := satSigned 16 coolant, stale := false
      pf := pfStep s.sxt.pf ((min power 65535 : Nat) / 10) } }

/-- The predictions of the engines and of the colour heaters whose controllers run. -/
def State.predictAll (s : State) : State :=
  { s with sxt := { s.sxt with
      tring := s.runningEngines.foldl (updHeaters (predictHeaters (fun e i => s.predict (1 + e) i))) s.sxt.tring
      cff := if s.gfRuns 5 then s.sxt.cff.putAll (List.range 72) (s.predict 0x0D) else s.sxt.cff } }

theorem exec_feedforwardUpdate (power : Nat) (coolant : Int) (s : State) :
    exec (.feedforwardUpdate power coolant) s = .next (s.publish power coolant).predictAll := rfl

theorem State.tring_predictAll (s : State) {e i : Nat} (he : e < s.fuse.ioDies) (hi : i < 256) :
    (s.predictAll.sxt.tring.get (256 * e + i) (0, 0, 0)).1 = (s.sxt.tring.get (256 * e + i) (0, 0, 0)).1
      ∧ (s.gfRuns e = true → (s.predictAll.sxt.tring.get (256 * e + i) (0, 0, 0)).2.2 = s.predictAll.predict (1 + e) i)
      ∧ (s.gfRuns e = false → s.predictAll.sxt.tring.get (256 * e + i) (0, 0, 0) = s.sxt.tring.get (256 * e + i) (0, 0, 0)) := by
  cases hrun : s.gfRuns e with
  | true =>
    have hget := heaters_of_running s (fun e i => s.predict (1 + e) i) s.sxt.tring he hi hrun
    have hpower := congrArg Prod.fst hget
    have hprediction := congrArg (fun x => x.2.2) hget
    exact ⟨hpower, fun _ => hprediction, nofun⟩
  | false =>
    have hget := heaters_of_not_running s (fun e i => s.predict (1 + e) i) s.sxt.tring hi hrun
    exact ⟨congrArg Prod.fst hget, nofun, fun _ => hget⟩

theorem State.cff_predictAll_of_running (s : State) (hrun : s.gfRuns 5 = true) {h : Nat} (hh : h < 72) :
    s.predictAll.sxt.cff.get h 0 = s.predictAll.predict 0x0D h := by
  simp only [State.predictAll, hrun, if_true]
  exact Tbl.get_putAll_range _ _ _ hh

theorem State.cff_predictAll_of_not_running (s : State) (hrun : s.gfRuns 5 = false) : s.predictAll.sxt.cff = s.sxt.cff := by
  simp [State.predictAll, hrun]

theorem feedforwardUpdate_effect (power : Nat) (coolant : Int) (s : State) :
    ∃ t, exec (.feedforwardUpdate power coolant) s = .next t
      ∧ t.ns = (s.ns / 10000 + 1) * 10000 ∧ t.sxt.power = min power 65535 ∧ t.sxt.coolant = satSigned 16 coolant
      ∧ t.sxt.stale = false ∧ t.sxt.pf = pfStep s.sxt.pf ((min power 65535 : Nat) / 10)
      ∧ (∀ e i, e < s.fuse.ioDies → i < 256 → (t.sxt.tring.get (256 * e + i) (0, 0, 0)).1
            = (s.sxt.tring.get (256 * e + i) (0, 0, 0)).1
          ∧ (s.gfRuns e = true → (t.sxt.tring.get (256 * e + i) (0, 0, 0)).2.2 = t.predict (1 + e) i)
          ∧ (s.gfRuns e = false → t.sxt.tring.get (256 * e + i) (0, 0, 0) = s.sxt.tring.get (256 * e + i) (0, 0, 0)))
      ∧ (s.gfRuns 5 = true → ∀ h, h < 72 → t.sxt.cff.get h 0 = t.predict 0x0D h)
      ∧ (s.gfRuns 5 = false → t.sxt.cff = s.sxt.cff)
      ∧ t = { s with ast := { s.ast with raw := t.ast.raw }
                     sxt := { s.sxt with
                       power := t.sxt.power, coolant := t.sxt.coolant, stale := false, pf := t.sxt.pf
                       tring := t.sxt.tring, cff := t.sxt.cff } } :=
  ⟨_, exec_feedforwardUpdate power coolant s, s.ns_advanceTo_nextMultiple (by decide), rfl, rfl, rfl, rfl,
    fun _ _ he hi => (s.publish power coolant).tring_predictAll he hi,
    fun hrun _ hh => (s.publish power coolant).cff_predictAll_of_running hrun hh,
    fun hrun => (s.publish power coolant).cff_predictAll_of_not_running hrun, rfl⟩

/-! ### The heaters of a terminated engine (R369, R370) -/

/-- Every lane of port `k` of an engine is within 3 GHz, in units of 10 MHz. -/
def lanesWithin (errs : List Int) (k : Nat) : Bool :=
  (List.range 4).all (fun l => decide ((satSigned 16 (errs.getD (4 * k + l) 0)).natAbs ≤ 300))

theorem lanesWithin_iff (errs : List Int) (k : Nat) :
    lanesWithin errs k = true ↔ ∀ l, l < 4 → (satSigned 16 (errs.getD (4 * k + l) 0)).natAbs ≤ 300 := by
  simp [lanesWithin]

/-- A port keeps its hold while a lane is out and 20 µs have not passed. -/
def LPort.release (within : Bool) (now : Nat) (x : LPort) : LPort :=
  { x with ringHold := x.ringHold.filter (fun a => !(within || decide (a + 20000 ≤ now))) }

theorem LPort.release_ringHold_eq_none {within : Bool} {now a : Nat} {x : LPort} (hx : x.ringHold = some a)
    (h : within = true ∨ a + 20000 ≤ now) : (x.release within now).ringHold = none := by
  rcases h with h | h <;> simp [LPort.release, hx, h]

theorem LPort.release_ringHold_eq_some {within : Bool} {now a : Nat} {x : LPort} (hx : x.ringHold = some a)
    (hout : within = false) (h : now < a + 20000) : (x.release within now).ringHold = some a := by
  simp [LPort.release, hx, hout, h]

/-- One port of an engine is judged at a heater update. -/
def State.releaseHold (errs : List Int) (e : Nat) (s : State) (k : Nat) : State :=
  match (s.lp (64 * e + k)).ringHold with
  | some a =>
    if lanesWithin errs k || decide (a + 20000 ≤ s.ns) then s.updLp (64 * e + k) (fun x => { x with ringHold := none }) else s
  | none => s

theorem State.releaseHold_frame (errs : List Int) (e : Nat) (s : State) (k : Nat) :
    s.releaseHold errs e k = { s with lnk := { s.lnk with port := (s.releaseHold errs e k).lnk.port } } := by
  unfold State.releaseHold
  split
  · split <;> rfl
  · rfl

@[simp] theorem State.releaseHold_ns (errs : List Int) (e : Nat) (s : State) (k : Nat) : (s.releaseHold errs e k).ns = s.ns :=
  (congrArg State.ns (s.releaseHold_frame errs e k)).trans rfl

theorem State.lp_releaseHold (errs : List Int) (e : Nat) (s : State) (k : Nat) :
    (s.releaseHold errs e k).lp (64 * e + k) = (s.lp (64 * e + k)).release (lanesWithin errs k) s.ns := by
  unfold State.releaseHold
  split
  · rename_i a ha
    split <;> rename_i hc
    · rw [State.lp_updLp]
      simp only [LPort.release, ha, Option.filter_some, hc, Bool.not_true, Bool.false_eq_true, if_false]
    · have hkeep : (s.lp (64 * e + k)).ringHold.filter (fun a => !(lanesWithin errs k || decide (a + 20000 ≤ s.ns)))
          = (s.lp (64 * e + k)).ringHold := by simp [ha, Option.filter, hc]
      rw [LPort.release, hkeep]
  · rename_i hnone
    have hkeep : (s.lp (64 * e + k)).ringHold.filter (fun a => !(lanesWithin errs k || decide (a + 20000 ≤ s.ns)))
        = (s.lp (64 * e + k)).ringHold := by rw [hnone, Option.filter_none]
    rw [LPort.release, hkeep]

theorem State.lp_releaseHold_ne (errs : List Int) (e : Nat) (s : State) {k p : Nat} (h : p ≠ 64 * e + k) :
    (s.releaseHold errs e k).lp p = s.lp p := by
  unfold State.releaseHold
  split
  · split
    · exact s.lp_updLp_ne _ h
    · rfl
  · rfl

/-- The time stands while ports are judged, so each port is judged at the same instant. -/
theorem State.releaseHold_actsOn (errs : List Int) (e : Nat) :
    ActsOn (fun (s : State) p => (s.ns, s.lp p)) (64 * e + ·) (fun k c => (c.1, c.2.release (lanesWithin errs k) c.1))
      (State.releaseHold errs e) where
  own s k := by simp only [State.releaseHold_ns, State.lp_releaseHold]
  other s k p hp := by simp only [State.releaseHold_ns, State.lp_releaseHold_ne errs e s hp]

/-- All 64 ports of an engine are judged. -/
def State.releaseHolds (errs : List Int) (e : Nat) (s : State) : State := (List.range 64).foldl (State.releaseHold errs e) s

theorem State.releaseHolds_frame (errs : List Int) (e : Nat) (s : State) :
    s.releaseHolds errs e = { s with lnk := { s.lnk with port := (s.releaseHolds errs e).lnk.port } } :=
  List.foldlRecOn (List.range 64) (State.releaseHold errs e)
    (motive := fun t : State => t = { s with lnk := { s.lnk with port := t.lnk.port } }) rfl (fun t ht k _ => by
      rw [State.releaseHold_frame, ht])

@[simp] theorem State.releaseHolds_ast (errs : List Int) (e : Nat) (s : State) : (s.releaseHolds errs e).ast = s.ast :=
  (congrArg State.ast (s.releaseHolds_frame errs e)).trans rfl

@[simp] theorem State.releaseHolds_ns (errs : List Int) (e : Nat) (s : State) : (s.releaseHolds errs e).ns = s.ns := by
  simp only [State.ns, State.releaseHolds_ast]

@[simp] theorem State.releaseHolds_sxt (errs : List Int) (e : Nat) (s : State) : (s.releaseHolds errs e).sxt = s.sxt :=
  (congrArg State.sxt (s.releaseHolds_frame errs e)).trans rfl

theorem State.lp_releaseHolds (errs : List Int) (e : Nat) (s : State) {k : Nat} (hk : k < 64) :
    (s.releaseHolds errs e).lp (64 * e + k) = (s.lp (64 * e + k)).release (lanesWithin errs k) s.ns :=
  (Prod.mk.inj ((State.releaseHold_actsOn errs e).foldl_of_mem (add_right_injective _) List.nodup_range
    (List.mem_range.mpr hk) s)).2

theorem State.lp_releaseHolds_out (errs : List Int) (e : Nat) (s : State) {p : Nat} (hp : p < 64 * e ∨ 64 * (e + 1) ≤ p) :
    (s.releaseHolds errs e).lp p = s.lp p :=
  (Prod.mk.inj ((State.releaseHold_actsOn errs e).foldl_of_forall_ne (fun k hk => by
    have hk := List.mem_range.mp hk
    omega) s)).2

/-- New power and misalignment for every heater of an engine; the prediction stands. -/
def State.reheat (s : State) (errs : List Int) : Nat → Nat → Nat × Int × Int → Nat × Int × Int :=
  fun e i x => (s.tringPower e errs i, satSigned 16 (errs.getD i 0), x.2.2)

/-- The power of a heater does not depend on the time. -/
theorem State.tringPower_ast (s : State) (a : Ast) (e : Nat) (errs : List Int) (i : Nat) :
    { s with ast := a }.tringPower e errs i = s.tringPower e errs i := rfl

@[simp] theorem State.tringPower_advanceTo (s : State) (n e : Nat) (errs : List Int) (i : Nat) :
    (s.advanceTo n).tringPower e errs i = s.tringPower e errs i := s.tringPower_ast _ e errs i

/-- The state at the next step of 10 µs with the heaters of an engine recomputed, before its ports are judged. -/
def State.heat (s : State) (e : Nat) (errs : List Int) : State :=
  { s.advanceTo (s.nextMultiple 10000) with sxt := { s.sxt with tring := updHeaters (s.reheat errs) s.sxt.tring e } }

@[simp] theorem State.heat_ast (s : State) (e : Nat) (errs : List Int) :
    (s.heat e errs).ast = (s.advanceTo (s.nextMultiple 10000)).ast := by rw [State.heat]

@[simp] theorem State.heat_tring (s : State) (e : Nat) (errs : List Int) :
    (s.heat e errs).sxt.tring = updHeaters (s.reheat errs) s.sxt.tring e := by rw [State.heat]

theorem State.heat_frame (s : State) (e : Nat) (errs : List Int) :
    s.heat e errs = { s with ast := { s.ast with raw := (s.heat e errs).ast.raw }
                             sxt := { s.sxt with tring := (s.heat e errs).sxt.tring } } := by
  rw [State.heat_ast, State.heat_tring, State.heat, State.advanceTo]

theorem State.ns_heat (s : State) (e : Nat) (errs : List Int) : (s.heat e errs).ns = (s.ns / 10000 + 1) * 10000 := by
  rw [State.ns, State.heat_ast]
  exact s.ns_advanceTo_nextMultiple (by decide)

theorem State.tring_heat (s : State) (e : Nat) (errs : List Int) {i : Nat} (hi : i < 256) :
    (s.heat e errs).sxt.tring.get (256 * e + i) (0, 0, 0) = s.reheat errs e i (s.sxt.tring.get (256 * e + i) (0, 0, 0)) := by
  rw [State.heat_tring]
  exact get_updHeaters (s.reheat errs) s.sxt.tring e hi

theorem exec_terminatedHeaterUpdate (e : Fin 4) (errs : List Int) (s : State) (hrun : s.gfRuns e = true)
    (he : e.val < s.fuse.ioDies) :
    exec (.terminatedHeaterUpdate e errs) s = .next ((s.heat e errs).releaseHolds errs e) := by
  change execTerminatedHeaterUpdate e errs s = _
  rw [execTerminatedHeaterUpdate, if_neg (by simp [hrun, he])]
  simp only [State.tringPower_advanceTo]
  rfl

theorem terminatedHeaterUpdate_idle (e : Fin 4) (errs : List Int) (s : State)
    (h : s.gfRuns e = false ∨ s.fuse.ioDies ≤ e.val) : exec (.terminatedHeaterUpdate e errs) s = .next s := by
  change execTerminatedHeaterUpdate e errs s = _
  rcases h with h | h <;> simp [execTerminatedHeaterUpdate, h]

theorem terminatedHeaterUpdate_effect (e : Fin 4) (errs : List Int) (s : State) (hrun : s.gfRuns e = true)
    (he : e.val < s.fuse.ioDies) :
    ∃ t, exec (.terminatedHeaterUpdate e errs) s = .next t ∧ t.ns = (s.ns / 10000 + 1) * 10000
      ∧ (∀ i, i < 256 → t.sxt.tring.get (256 * e + i) (0, 0, 0)
          = ({ s with ast := t.ast }.tringPower e errs i, satSigned 16 (errs.getD i 0),
             (s.sxt.tring.get (256 * e + i) (0, 0, 0)).2.2))
      ∧ (∀ k a, k < 64 → (s.lp (64 * e + k)).ringHold = some a →
          ((∀ l, l < 4 → (satSigned 16 (errs.getD (4 * k + l) 0)).natAbs ≤ 300) ∨ a + 20000 ≤ t.ns) →
          (t.lp (64 * e + k)).ringHold = none)
      ∧ (∀ k a l, k < 64 → (s.lp (64 * e + k)).ringHold = some a → l < 4 → 300 < (satSigned 16 (errs.getD (4 * k + l) 0)).natAbs →
          t.ns < a + 20000 → (t.lp (64 * e + k)).ringHold = some a)
      ∧ (∀ p : Nat, (p < 64 * e ∨ 64 * (e + 1) ≤ p) → t.lp p = s.lp p)
      ∧ t = { s with ast := { s.ast with raw := t.ast.raw }, lnk := { s.lnk with port := t.lnk.port }
                     sxt := { s.sxt with tring := t.sxt.tring } } := by
  refine ⟨_, exec_terminatedHeaterUpdate e errs s hrun he, ?_, fun i hi => ?_, fun k a hk ha hend => ?_,
    fun k a l hk ha hl hlane hnow => ?_, fun p hp => (s.heat e errs).lp_releaseHolds_out errs e hp, ?_⟩
  · rw [State.releaseHolds_ns, State.ns_heat]
  · rw [State.releaseHolds_sxt, State.tringPower_ast]
    exact s.tring_heat e errs hi
  · rw [State.lp_releaseHolds errs e _ hk]
    rw [State.releaseHolds_ns] at hend
    exact LPort.release_ringHold_eq_none ha (hend.imp_left (lanesWithin_iff errs k).mpr)
  · rw [State.lp_releaseHolds errs e _ hk]
    rw [State.releaseHolds_ns] at hnow
    have hout : lanesWithin errs k = false :=
      Bool.eq_false_iff.mpr fun hwithin => absurd ((lanesWithin_iff errs k).mp hwithin l hl) (by omega)
    exact LPort.release_ringHold_eq_some ha hout hnow
  · rw [State.releaseHolds_sxt, State.releaseHolds_ast]
    have hheat := s.heat_frame e errs
    generalize s.heat e errs = u at hheat ⊢
    refine (u.releaseHolds_frame errs e).trans ?_
    rw [hheat]

/-! ### A lapse of publication (R31) -/

theorem powerPublicationLapse_stale (s : State) (h : s.sxt.stale = true) : exec .powerPublicationLapse s = .next s := by
  change execPowerPublicationLapse s = _
  rw [execPowerPublicationLapse, if_pos h]

theorem powerPublicationLapse_effect (s : State) (h : s.sxt.stale = false) :
    ∃ t, exec .powerPublicationLapse s = .next t ∧ t.sxt.stale = true ∧ bit t.sxt.events 6 = true
      ∧ t.log.created = s.log.created + 1
      ∧ t = { s with log := t.log, sxt := { s.sxt with stale := true, events := t.sxt.events } } := by
  refine ⟨_, ?_, ?_, ?_, State.logAdd_created (State.sxtEvent { s with sxt := { s.sxt with stale := true } } 6)
    (by decide : sevWarning ≠ 0) 0 (evNamed 9 "FF_STALE") agentNone [], ?_⟩
  · change execPowerPublicationLapse s = _
    rw [execPowerPublicationLapse, h, if_neg Bool.false_ne_true]
  · rw [State.logAdd_sxt]
    rfl
  · rw [State.logAdd_sxt]
    exact bit_setBit_self _ _
  · rw [State.logAdd_sxt]
    exact State.logAdd_frame _ _ _ _ _ _

/-! ### A lane out of its guard band (R360, R370) -/

/-- A port is held from now on, with event 5. -/
def State.hold (s : State) (p : Nat) : State := (s.updLp p (fun x => { x with ringHold := some s.ns })).sxtEvent 5

/-- No NOTICE of a hold of the port stands from the last 60 s. -/
def State.holdNoteDue (s : State) (p : Nat) : Bool :=
  match s.sxt.holdAt.find p with
  | some a => decide (a + 60000000000 ≤ s.ns)
  | none => true

/-- The NOTICE of a hold, where one is due. -/
def State.noteHold (s : State) (p : Nat) : State :=
  if s.holdNoteDue p then ({ s with sxt := { s.sxt with holdAt := s.sxt.holdAt.put p s.ns } }).logAdd sevNotice (s.owner (refP p))
    (evNamed 9 "RING_HOLD") (agentKind 2 p) [refP p] else s

/-- The run of a region, where calibration is not paused. -/
def State.startRun (s : State) (paused : Bool) (r : Nat) : State := if paused then s else s.calStart r

theorem exec_ringHold (p : Fin 256) (s : State) (hlive : s.lpLive p = true) (hfree : (s.lp p).ringHold = none) :
    exec (.ringHold p) s = .next (((s.hold p).noteHold p).startRun s.calPaused (1 + p.val / 64)) := by
  change execRingHold p s = _
  simp only [execRingHold, hlive, hfree, Option.isSome_none, Bool.not_true, Bool.or_self, Bool.false_eq_true, if_false]
  rfl

theorem State.lp_hold (s : State) (p : Nat) : (s.hold p).lp p = { s.lp p with ringHold := some s.ns } := s.lp_updLp p _

theorem State.noteHold_frame (s : State) (p : Nat) :
    s.noteHold p = { s with log := (s.noteHold p).log, sxt := { s.sxt with holdAt := (s.noteHold p).sxt.holdAt } } := by
  unfold State.noteHold
  split
  · rw [State.logAdd_sxt]
    exact State.logAdd_frame _ _ _ _ _ _
  · rfl

theorem State.noteHold_created (s : State) {p : Nat} (h : s.sxt.holdAt.find p = none) :
    (s.noteHold p).log.created = s.log.created + 1 := by
  simp only [State.noteHold, State.holdNoteDue, h, if_true]
  exact State.logAdd_created _ (by decide) _ _ _ _

theorem State.noteHold_recent (s : State) {p a : Nat} (h : s.sxt.holdAt.find p = some a) (hnow : s.ns < a + 60000000000) :
    s.noteHold p = s := by
  simp [State.noteHold, State.holdNoteDue, h, hnow]

theorem State.startRun_frame (s : State) (paused : Bool) (r : Nat) :
    s.startRun paused r = { s with sxt := { s.sxt with region := (s.startRun paused r).sxt.region } } := by
  cases paused <;> rfl

/-- Neither the NOTICE nor the run of the region changes a port. -/
theorem State.lp_noteHold_startRun (s : State) (p : Nat) (paused : Bool) (r q : Nat) :
    ((s.noteHold p).startRun paused r).lp q = s.lp q :=
  calc ((s.noteHold p).startRun paused r).lp q
    _ = (s.noteHold p).lp q := (congrArg (State.lp · q) (State.startRun_frame _ paused r)).trans rfl
    _ = s.lp q := (congrArg (State.lp · q) (s.noteHold_frame p)).trans rfl

theorem State.log_startRun (s : State) (paused : Bool) (r : Nat) : (s.startRun paused r).log = s.log :=
  (congrArg State.log (s.startRun_frame paused r)).trans rfl

theorem ringHold_idle (p : Fin 256) (s : State) (h : s.lpLive p = false ∨ (s.lp p).ringHold.isSome = true) :
    exec (.ringHold p) s = .next s := by
  change execRingHold p s = _
  rcases h with h | h <;> simp [execRingHold, h]

theorem ringHold_effect (p : Fin 256) (s : State) (hlive : s.lpLive p = true) (hfree : (s.lp p).ringHold = none) :
    ∃ t, exec (.ringHold p) s = .next t ∧ t.lp p = { s.lp p with ringHold := some s.ns } ∧ bit t.sxt.events 5 = true
      ∧ (s.calPaused = false → (t.region (1 + p.val / 64)).running = true)
      ∧ (s.sxt.holdAt.find p = none → t.log.created = s.log.created + 1)
      ∧ (∀ a, s.sxt.holdAt.find p = some a → s.ns < a + 60000000000 → t.log = s.log)
      ∧ (∀ q, q ≠ p.val → t.lp q = s.lp q)
      ∧ t = { s with lnk := { s.lnk with port := t.lnk.port }, log := t.log
                     sxt := { s.sxt with region := t.sxt.region, events := t.sxt.events, holdAt := t.sxt.holdAt } } := by
  refine ⟨_, exec_ringHold p s hlive hfree, ?_, ?_, fun hrun => ?_, fun hnone => ?_, fun a ha hnow => ?_, fun q hq => ?_, ?_⟩
  · rw [State.lp_noteHold_startRun, State.lp_hold]
  · rw [State.startRun_frame, State.noteHold_frame]
    exact bit_setBit_self _ _
  · rw [hrun]
    exact State.calStart_running _ _
  · rw [State.log_startRun]
    exact (s.hold p).noteHold_created hnone
  · rw [State.log_startRun, (s.hold p).noteHold_recent ha hnow]
    rfl
  · rw [State.lp_noteHold_startRun]
    exact s.lp_updLp_ne _ hq
  · rw [State.startRun_frame, State.noteHold_frame]
    rfl

end Machine

end Sys2Proof

namespace Sys2Proof.Proofs

open Sys2Proof.Machine

/-- Settles O45, row by row: each row's effect, and the states in which it does nothing. -/
theorem thermalLoops : Obligations.ThermalLoops :=
  ⟨feedforwardUpdate_effect, terminatedHeaterUpdate_effect, terminatedHeaterUpdate_idle, powerPublicationLapse_effect,
    powerPublicationLapse_stale, ringHold_effect, ringHold_idle⟩

end Sys2Proof.Proofs
end

section
/-! SUPPORT. Host commands from their start to their end: which row runs which command, what the start of a command
without a token leaves alone, and how a command that is done, refused or waiting ends; and statement O10. -/

namespace Sys2Proof.Machine

open Safety

/-! ### The rows of the catalogue -/

/-- What the row of a host command answers (R97). -/
abbrev ran (s : State) (op : Nat) (r : Req) (run : Req → State → CmdOut) : Host.Outcome State Fault Refusal :=
  .next (s.hostRow op r run)

/-- Every row of the catalogue is an entry of R102 and starts its command through `State.hostRow`. -/
theorem hostRows_run : ∀ x ∈ hostRows, ∃ i run, catalogue.find x.1 = some i
    ∧ ∀ (r : Req) (s : State), exec (x.2 r) s = ran s x.1 r run := by
  simp only [hostRows, List.forall_mem_cons, List.not_mem_nil, false_implies, implies_true, and_true]
  repeat' apply And.intro
  all_goals exact ⟨_, _, rfl, fun _ _ => rfl⟩

/-! ### The end of a command -/

theorem State.ring_of_hif {s t : State} (h : t.hif = s.hif) (fn k : Nat) : t.ring fn k = s.ring fn k :=
  congrArg (fun x : Hif => x.ring.get (ringKey fn k) Ring.reset) h

/-- The end of a command whose own part has put nothing out and left the host interface alone. -/
theorem State.finish_ends {s t : State} {r : Req} (op st w0 w1 : Nat) (l : Bool) (hhif : t.hif = s.hif) (hout : t.out = s.out)
    (hring : (s.ring r.fn r.ring).st = .running) (hdma : r.dma = .ok) :
    Completed r s (t.finish op r st w0 w1 l) st w0 w1 ∧ Silent s (t.finish op r st w0 w1 l)
      ∧ (t.finish op r st w0 w1 l).hif = { s.hif with ring := (t.finish op r st w0 w1 l).hif.ring }
      ∧ (t.finish op r st w0 w1 l).log = t.log ∧ (Traced s t → Quiet r s (t.finish op r st w0 w1 l)) := by
  have hrings : ∀ f k, t.ring f k = s.ring f k := State.ring_of_hif hhif
  have hon : (t.ring r.fn r.ring).st ≠ .disabled := by simp [hrings, hring]
  have hcompleted := t.finish_completed op r st w0 w1 l hon hdma
  obtain ⟨⟨h1, h2, h3, h4⟩, hsilent, hlog⟩ := t.finish_quiet op r st w0 w1 l hon hdma
  rw [hhif] at h1
  refine ⟨?_, ?_, h1, hlog, fun htraced => ⟨h1, ?_, ?_, ?_⟩⟩
  · simpa only [Completed, hrings] using hcompleted
  · simpa only [Silent, hout] using hsilent
  · rw [h2, hrings]
  · exact fun f k h => (h3 f k h).trans (hrings f k)
  · rw [h4, htraced]

/-! ### Commands without a token -/

/-- The command needs no token (R102). -/
def tokenless (op : Nat) : Bool := ((catalogue.find op).map (·.token)).getD 0 == 0

/-- A trace record adds to the trace, and may set the event of a trace that is full. -/
theorem State.trace_eq (s : State) (k slice : Nat) (body : Bytes) :
    ∃ b, s.trace k slice body = { s with bnc := b } ∧ b = { s.bnc with trace := b.trace, events := b.events } := by
  unfold State.trace State.traceAt
  split
  · exact ⟨_, rfl, rfl⟩
  · exact ⟨s.bnc, rfl, rfl⟩

/-- The start of a command adds to the trace, and uses the nonce where the command needs a token (R100, R401). -/
theorem State.started_spec (s : State) (op : Nat) (r : Req) :
    ∃ b n, s.started op r = { s with bnc := b, log := { s.log with nonce := n } }
      ∧ b = { s.bnc with trace := b.trace, events := b.events } ∧ (tokenless op = true → n = s.log.nonce) := by
  have hbegin : ∃ b, s.begin op r = { s with bnc := b } ∧ b = { s.bnc with trace := b.trace, events := b.events } :=
    s.trace_eq _ _ _
  obtain ⟨b, hbegin, hb⟩ := hbegin
  cases hi : catalogue.find op with
  | none => exact ⟨s.bnc, s.log.nonce, by simp [State.started, hi], rfl, fun _ => rfl⟩
  | some i =>
    by_cases htoken : i.token = 0
    · exact ⟨b, s.log.nonce, by simp [State.started, hi, State.useNonce, htoken, hbegin], hb, fun _ => rfl⟩
    · exact ⟨b, none, by simp [State.started, hi, State.useNonce, htoken, hbegin], hb,
        fun h => absurd (by simpa [tokenless, hi] using h) htoken⟩

/-- The start of a command without a token only adds to the trace. -/
theorem State.started_eq {op : Nat} (h : tokenless op = true) (s : State) (r : Req) :
    ∃ b, s.started op r = { s with bnc := b } ∧ b = { s.bnc with trace := b.trace, events := b.events } := by
  obtain ⟨b, n, hs, hb, hn⟩ := s.started_spec op r
  obtain rfl := hn h
  exact ⟨b, hs, hb⟩

theorem accepts_ring {op : Nat} {r : Req} {s : State} (h : accepts op r s = true) :
    (s.ring r.fn r.ring).st = .running ∧ r.dma = .ok := by
  simp only [accepts, Bool.and_eq_true, beq_iff_eq] at h
  exact ⟨h.1.1.1.2, h.1.1.2⟩

/-- How an accepted command ends whose own part is done, having left the host interface and the outputs alone: with its
completion, and otherwise in the state its own part reached. -/
theorem State.hostRow_completes {s : State} {op : Nat} {r : Req} {run : Req → State → CmdOut} {st w0 w1 : Nat} (t : Bnc → State)
    (hacc : accepts op r s = true) (htok : tokenless op = true)
    (hrun : ∀ b, run r { s with bnc := b } = .done (t b) st w0 w1) (hkept : ∀ b, (t b).hif = s.hif ∧ (t b).out = s.out) :
    ∃ u, ran s op r run = .next u ∧ Completed r s u st w0 w1 ∧ Silent s u
      ∧ ∃ b ring n o, u = { t b with hif := { s.hif with ring := ring }, bnc := n, out := o }
        ∧ ((t b).bnc = b → Quiet r s u) := by
  obtain ⟨b, hstart, hb⟩ := State.started_eq htok s r
  obtain ⟨hring, hdma⟩ := accepts_ring hacc
  obtain ⟨hhif, hout⟩ := hkept b
  obtain ⟨hcompleted, hsilent, hrings, hlog, hquiet⟩ :=
    State.finish_ends op st w0 w1 ((t b).log.created != s.log.created) hhif hout hring hdma
  have hframe := State.finish_frame (t b) op r st w0 w1 ((t b).log.created != s.log.created)
  rw [hlog, hrings] at hframe
  refine ⟨_, congrArg Host.Outcome.next ?_, hcompleted, hsilent, b, _, _, _, hframe, fun hbnc => hquiet ?_⟩
  · rw [State.hostRow_accepted s op r run hacc, hstart, hrun]
  · rw [Traced, hbnc]
    exact hb

/-- The same where the command's own part leaves the trace alone too. -/
theorem State.hostRow_done {s : State} {op : Nat} {r : Req} {run : Req → State → CmdOut} {st w0 w1 : Nat} (t : Bnc → State)
    (hacc : accepts op r s = true) (htok : tokenless op = true)
    (hrun : ∀ b, run r { s with bnc := b } = .done (t b) st w0 w1)
    (hkept : ∀ b, (t b).hif = s.hif ∧ (t b).bnc = b ∧ (t b).out = s.out) :
    ∃ u, ran s op r run = .next u ∧ Completed r s u st w0 w1 ∧ Silent s u ∧ Quiet r s u
      ∧ ∃ b h n o, u = { t b with hif := h, bnc := n, out := o } := by
  obtain ⟨u, hu, hc, hs, b, ring, n, o, hframe, hquiet⟩ :=
    State.hostRow_completes t hacc htok hrun fun b => ⟨(hkept b).1, (hkept b).2.2⟩
  exact ⟨u, hu, hc, hs, hquiet (hkept b).2.1, b, _, n, o, hframe⟩

/-- How an accepted command ends whose own part refuses it. -/
theorem State.hostRow_refused {s : State} {op : Nat} {r : Req} {run : Req → State → CmdOut} {st w0 w1 : Nat}
    (hacc : accepts op r s = true) (htok : tokenless op = true)
    (hrun : ∀ b, run r { s with bnc := b } = .done { s with bnc := b } st w0 w1) :
    ∃ t, ran s op r run = .next t ∧ Completed r s t st w0 w1 ∧ Silent s t ∧ Quiet r s t
      ∧ t = { s with hif := t.hif, bnc := t.bnc, out := t.out } := by
  obtain ⟨u, hu, hc, hs, hq, b, h, n, o, rfl⟩ :=
    State.hostRow_done (fun b => { s with bnc := b }) hacc htok hrun (fun _ => ⟨rfl, rfl, rfl⟩)
  exact ⟨_, hu, hc, hs, hq, rfl⟩

/-- A command is left in execution, waiting in the module (R85). -/
def State.await (s : State) (e : Exec) : State := { s with hif := { s.hif with execs := s.hif.execs ++ [e] } }

/-- How an accepted command ends whose own part leaves it waiting, having left the host interface, the trace and the
outputs alone: in execution on its ring, and otherwise in the state its own part reached. -/
theorem State.hostRow_waits {s : State} {op : Nat} {r : Req} {run : Req → State → CmdOut} {w : Wait} (t : Bnc → State)
    (hacc : accepts op r s = true) (htok : tokenless op = true)
    (hrun : ∀ b, run r { s with bnc := b } = .wait (t b) w)
    (hkept : ∀ b, (t b).hif = s.hif ∧ (t b).bnc = b ∧ (t b).out = s.out) :
    ∃ u, ran s op r run = .next u ∧ Waits op r u w ∧ u.out = s.out
      ∧ (∃ e, u.hif = { s.hif with execs := s.hif.execs ++ [e] }) ∧ Traced s u
      ∧ ∃ b h, u = { t b with hif := h } := by
  obtain ⟨b, hstart, hb⟩ := State.started_eq htok s r
  obtain ⟨hhif, hbnc, hout⟩ := hkept b
  have hrow : ∃ e, s.hostRow op r run = (t b).await e ∧ e.fn = r.fn ∧ e.ring = r.ring ∧ e.tag = r.tag ∧ e.seq = r.seq
      ∧ e.opcode = op ∧ e.wait = w ∧ e.discard = false := by
    rw [State.hostRow_accepted s op r run hacc, hstart, hrun]
    exact ⟨_, rfl, rfl, rfl, rfl, rfl, rfl, rfl, rfl⟩
  obtain ⟨e, hrow, he⟩ := hrow
  refine ⟨_, congrArg Host.Outcome.next hrow, ⟨e, List.mem_append_right _ (List.mem_singleton.mpr rfl), he⟩, hout, ⟨e, ?_⟩, ?_,
    b, _, rfl⟩
  · rw [State.await, hhif]
  · rw [Traced, State.await, hbnc]
    exact hb

/-! ### Commands of virtual functions (R38) -/

/-- A command of a virtual function that names another slice fails check 5 (R38). -/
theorem authChk_otherSlice (s : State) (i : CmdInfo) (op fn slice : Nat) (b : Bytes) (hfn : fn ≠ 0) (hslice : slice ≠ fn) :
    authChk s i op fn slice b = some (0x0402, slice, 0) := by
  simp [authChk, firstFail, chk, hfn, hslice]

theorem firstFail_ne {e : Nat × Nat × Nat} : ∀ {cs : List Chk}, (∀ c ∈ cs, c ≠ some e) → firstFail cs ≠ some e
  | [], _ => nofun
  | none :: cs, h => (firstFail_ne fun c hc => h c (List.mem_cons_of_mem _ hc) : firstFail cs ≠ some e)
  | some _ :: _, h => h _ List.mem_cons_self

theorem chk_ne {ok : Bool} {st st' : Nat} (w0 w1 : Nat) {e : Nat × Nat} (h : st ≠ st') : chk ok st w0 w1 ≠ some (st', e) := by
  unfold chk
  split <;> simp [h]

/-- Checks 6 and 7 fail with codes of their own (R98, R104). -/
theorem stateChk_ne_sliceMismatch (m : Mod) (op : Nat) (b : Bytes) (e : Nat × Nat) : stateChk m op b ≠ some (0x0402, e) := by
  cases m with
  | warmRestart => nofun
  | activating => nofun
  | loaderUpdate => nofun
  | _ => exact chk_ne _ _ (by decide)

/-- The authority check of the physical function never answers SLICE_MISMATCH. -/
theorem authChk_pf_ne (s : State) (i : CmdInfo) (op slice : Nat) (b : Bytes) (e : Nat × Nat) :
    authChk s i op 0 slice b ≠ some (0x0402, e) := by
  refine firstFail_ne fun c hc => ?_
  simp only [List.mem_cons, List.not_mem_nil, or_false] at hc
  rcases hc with rfl | rfl | rfl | rfl | rfl
  · nofun
  · exact chk_ne _ _ (by decide)
  · exact chk_ne _ _ (by decide)
  · exact stateChk_ne_sliceMismatch _ _ _ _
  · refine firstFail_ne fun c hc => ?_
    simp only [List.mem_cons, List.not_mem_nil, or_false] at hc
    rcases hc with rfl | rfl <;> exact chk_ne _ _ (by decide)

/-- A command that fails its authority is not executed: it completes, and only a token command's nonce is used. -/
theorem State.hostRow_unauthorized {s : State} {op : Nat} {r : Req} {i : CmdInfo} {run : Req → State → CmdOut} {st w0 w1 : Nat}
    (hi : catalogue.find op = some i) (hstart : s.canStart r.fn r.ring = true) (hring : (s.ring r.fn r.ring).st = .running)
    (hdma : r.dma = .ok) (hslice : sliceFieldOk r.fn op r.slice = true)
    (hauth : authChk s i op r.fn r.slice r.params = some (st, w0, w1)) :
    ∃ t, ran s op r run = .next t ∧ Completed r s t st w0 w1 ∧ Silent s t ∧ Quiet r s t
      ∧ t = { s with hif := t.hif, bnc := t.bnc, out := t.out, log := { s.log with nonce := t.log.nonce } } := by
  have hrow : s.hostRow op r run = (s.started op r).finish op r st w0 w1 false := by
    simp [State.hostRow, State.started, hi, hstart, hslice, State.runReq, authChk_begin, hauth, firstFail, hdma]
  obtain ⟨b, n, hstarted, hb, -⟩ := s.started_spec op r
  rw [hstarted] at hrow
  obtain ⟨hcompleted, hsilent, -, hlog, hquiet⟩ := State.finish_ends (s := s)
    (t := { s with bnc := b, log := { s.log with nonce := n } }) op st w0 w1 false rfl rfl hring hdma
  refine ⟨_, congrArg Host.Outcome.next hrow, hcompleted, hsilent, hquiet hb, (State.finish_frame _ op r st w0 w1 false).trans ?_⟩
  rw [hlog]

end Sys2Proof.Machine

namespace Sys2Proof.Proofs

open Sys2Proof.Machine

/-- Settles O10: a command of a virtual function that names another slice ends at check 5, and check 5 never fails for the
physical function. -/
theorem vfActsOnItsSlice : Obligations.VfActsOnItsSlice := by
  refine ⟨fun op mk hmem r s hstart hring hdma hfn hlt hslice => ?_, fun i op slice b s w0 w1 => authChk_pf_ne s i op slice b _⟩
  obtain ⟨i, run, hi, hrun⟩ := hostRows_run _ hmem
  have hfn' : (r.fn : Nat) ≠ 0 := fun h => hfn (Fin.ext h)
  have hfield : sliceFieldOk r.fn op r.slice = true := by simp [sliceFieldOk, hlt, hfn']
  obtain ⟨t, ht, h⟩ := State.hostRow_unauthorized (run := run) hi hstart hring hdma hfield
    (authChk_otherSlice s i op r.fn r.slice r.params hfn' hslice)
  exact ⟨t, (hrun r s).trans ht, h⟩

end Sys2Proof.Proofs
end

section
/-! SUPPORT. Passages in their table: a passage changed, the others unchanged, the checks of the passage commands; and
statement O22. -/

namespace Sys2Proof.Machine

open Safety

/-! ### One passage changed -/

section
variable {s : State} {slice pid : Nat} {p : Passage}

theorem State.updPsg_eq (h : s.psg.find (psgKey slice pid) = some p) (f : Passage → Passage) :
    s.updPsg slice pid f = { s with psg := s.psg.put (psgKey slice pid) (f p) } := by
  simp only [State.updPsg, h]

theorem State.updPsg_of_none (h : s.psg.find (psgKey slice pid) = none) (f : Passage → Passage) :
    s.updPsg slice pid f = s := by
  simp only [State.updPsg, h]

theorem State.find_updPsg (h : s.psg.find (psgKey slice pid) = some p) (f : Passage → Passage) :
    (s.updPsg slice pid f).psg.find (psgKey slice pid) = some (f p) := by
  rw [State.updPsg_eq h]
  exact Tbl.find_put _ _ _

end

/-- A change of one passage leaves the rest of the state alone. -/
theorem State.updPsg_frame (s : State) (slice pid : Nat) (f : Passage → Passage) :
    s.updPsg slice pid f = { s with psg := (s.updPsg slice pid f).psg } := by
  unfold State.updPsg
  split <;> rfl

@[simp] theorem OtherPassages.rfl {slice pid : Nat} {s : State} : OtherPassages slice pid s s := fun _ _ => Eq.refl _

theorem OtherPassages.trans {slice pid : Nat} {s t u : State} (h : OtherPassages slice pid s t) (k : OtherPassages slice pid t u) :
    OtherPassages slice pid s u := fun x hx => (k x hx).trans (h x hx)

theorem OtherPassages.of_put {slice pid : Nat} {s t : State} {p : Passage} (h : t.psg = s.psg.put (psgKey slice pid) p) :
    OtherPassages slice pid s t := fun _ hk => by rw [h, Tbl.find_put_ne _ _ hk]

theorem State.updPsg_others (s : State) (slice pid : Nat) (f : Passage → Passage) :
    OtherPassages slice pid s (s.updPsg slice pid f) := by
  unfold State.updPsg
  split
  · exact OtherPassages.rfl
  · exact OtherPassages.of_put rfl

/-! ### Frames held back (R70, R246) -/

/-- Where no frame is held back, nothing is judged again. -/
theorem State.retryAll_of_noHeld {s : State} (h : NoHeld s) : s.retryAll = s := by
  have hnone : s.lnk.port.filter (fun e => e.2.heldq != []) = [] :=
    List.filter_eq_nil_iff.mpr fun e he => by simp [h e he]
  rw [State.retryAll, hnone, List.foldl_nil]

/-! ### Checks of commands -/

@[simp] theorem guarded_nil (s : State) (f : CmdOut) : guarded s [] f = f := rfl

@[simp] theorem guarded_none (s : State) (cs : List Chk) (f : CmdOut) : guarded s (none :: cs) f = guarded s cs f := rfl

@[simp] theorem guarded_some (s : State) (e : Nat × Nat × Nat) (cs : List Chk) (f : CmdOut) :
    guarded s (some e :: cs) f = .done s e.1 e.2.1 e.2.2 := rfl

@[simp] theorem chk_true (st w0 w1 : Nat) : chk true st w0 w1 = none := rfl

@[simp] theorem chk_false (st w0 w1 : Nat) : chk false st w0 w1 = some (st, w0, w1) := rfl

@[simp] theorem sliceChk_of_hasSlice {s : State} {n : Nat} (h : s.hasSlice n = true) : sliceChk s n = none := by
  simp [sliceChk, h]

/-- The checks of a passage command that names a passage judge only its state (R64, R65). -/
theorem guarded_psgChecks {r : Req} {s : State} {p : Passage} {arm bell : Bool} (okIn : PSt → Bool) (cs : List Chk) (f : CmdOut)
    (h : Names r s p) (hcount : (if bell then decide (1 ≤ r.p 18 2) else r.p 18 2 == 0) = true)
    (hseconds : (arm || r.p 24 6 == 0) = true)
    (hns : (if arm then decide (r.p 30 4 < 1000000000) else r.p 30 4 == 0) = true) :
    guarded s (psgChecks r s arm bell okIn ++ cs) f
      = if okIn p.st = true then guarded s cs f else .done s 0x0301 p.st.code 0 := by
  obtain ⟨h16, h17, h20, h34, hslice, hfind⟩ := h
  simp only [psgChecks, ranges, h16, h17, h20, h34, hcount, hseconds, hns, sliceChk_of_hasSlice hslice, hfind, decide_true,
    beq_self_eq_true, if_true, List.cons_append, List.nil_append, guarded_none]
  cases okIn p.st <;> rfl

theorem find_of_names {r : Req} {s : State} {p : Passage} (h : Names r s p) : s.psg.find (psgKey r.slice (r.p 16 1)) = some p := by
  obtain ⟨_, _, _, _, _, hfind⟩ := h
  exact hfind

theorem State.named_eq {r : Req} {s : State} {p : Passage} (h : Names r s p) : s.named r = p := by
  rw [State.named, find_of_names h]
  rfl

/-! ### Loading and unloading (R55, R64) -/

/-- The passage a block that passes every check becomes (R55). -/
def loadedPassage (s : State) (slice : Nat) (b : Bytes) : Passage :=
  Passage.new (phdr b) (planOf s slice b) (placement s slice b).buffers
    (planDigest (phdr b) (s.standingPorts slice) (planOf s slice b))
    (match s.progOf slice (opBase (phdr b).oper - 0x20) with
     | some q => q.scalars
     | none => [])

/-- The residual areas once a block is loaded (R241). -/
def loadedResid (s : State) (slice : Nat) (b : Bytes) : Tbl Resid :=
  match (placement s slice b).newArea with
  | some a => s.skk.resid.put (65536 * slice + (phdr b).tensor) a
  | none => s.skk.resid

/-- WORD1 of a load: legs, buffers placed and MiB of stacked SRAM (R56). -/
def loadedWord (s : State) (slice : Nat) (b : Bytes) : Nat :=
  (planOf s slice b).legs.length + ((planOf s slice b).buffers.filter (fun x => x.elems != 0)).length * 2 ^ 16
    + ceilDiv (placement s slice b).sram (2 ^ 20) * 2 ^ 32

/-- The state once a block is loaded. -/
def State.loadBlock (s : State) (slice : Nat) (b : Bytes) : State :=
  { s with psg := s.psg.put (psgKey slice (phdr b).pid) (loadedPassage s slice b)
           skk := { s.skk with resid := loadedResid s slice b } }

section
variable {r : Req} {s : State} (hrows : ranges (passageRows s r.slice r.params) = none) (hslice : s.hasSlice r.slice = true)
include hrows hslice

theorem cmdPassageLoad_of_checks (hfree : s.psg.find (psgKey r.slice (phdr r.params).pid) = none)
    (hown : ownChk s r.slice r.params = none) (hpre : prereqChk s r.slice r.params = none)
    (hcount : countChk s r.slice (planOf s r.slice r.params).legs.length = none) (hfit : fitChk s r.slice r.params = none) :
    cmdPassageLoad r s = .done (s.loadBlock r.slice r.params) 0 (placement s r.slice r.params).hbm
      (loadedWord s r.slice r.params) := by
  simp only [cmdPassageLoad, hrows, sliceChk_of_hasSlice hslice, hfree, hown, hpre, hcount, hfit, guarded_none, guarded_nil]
  rfl

theorem cmdPassageLoad_of_used {p : Passage} (hused : s.psg.find (psgKey r.slice (phdr r.params).pid) = some p) :
    cmdPassageLoad r s = .done s 0x0301 p.st.code 0 := by
  simp only [cmdPassageLoad, hrows, sliceChk_of_hasSlice hslice, hused, guarded_none, guarded_some]

end

theorem passageLoad_loads (r : Req) (s : State) (hacc : accepts 0x0301 r s = true)
    (hrows : ranges (passageRows s r.slice r.params) = none) (hslice : s.hasSlice r.slice = true)
    (hfree : s.psg.find (psgKey r.slice (r.b 0 1)) = none) (hown : ownChk s r.slice r.params = none)
    (hpre : prereqChk s r.slice r.params = none) (hcount : countChk s r.slice (planOf s r.slice r.params).legs.length = none)
    (hfit : fitChk s r.slice r.params = none) :
    ∃ t p w1, exec (.passageLoad r) s = .next t ∧ Completed r s t 0 (placement s r.slice r.params).hbm w1
      ∧ t.psg.find (psgKey r.slice (r.b 0 1)) = some p ∧ p.st = .loaded ∧ p.tensor = r.b 6 2 ∧ p.elems = r.b 8 8
      ∧ p.wire = r.b 3 1 ∧ p.operator = r.b 4 1 ∧ p.legs = (planOf s r.slice r.params).legs
      ∧ p.groups = (planOf s r.slice r.params).groups
      ∧ p.digest = planDigest (phdr r.params) (s.standingPorts r.slice) (planOf s r.slice r.params)
      ∧ OtherPassages r.slice (r.b 0 1) s t ∧ Silent s t ∧ Quiet r s t
      ∧ t = { s with hif := t.hif, bnc := t.bnc, out := t.out, psg := t.psg, skk := { s.skk with resid := t.skk.resid } } := by
  have hrun : ∀ b, cmdPassageLoad r { s with bnc := b } = .done (State.loadBlock { s with bnc := b } r.slice r.params) 0
      (placement s r.slice r.params).hbm (loadedWord s r.slice r.params) :=
    fun b => cmdPassageLoad_of_checks (s := { s with bnc := b }) hrows hslice hfree hown hpre hcount hfit
  obtain ⟨u, hu, hc, hs, hq, b, h, n, o, rfl⟩ := State.hostRow_done _ hacc rfl hrun (fun _ => ⟨rfl, rfl, rfl⟩)
  exact ⟨_, loadedPassage s r.slice r.params, _, hu, hc, Tbl.find_put _ _ _, rfl, rfl, rfl, rfl, rfl, rfl, rfl, rfl,
    OtherPassages.of_put (p := loadedPassage s r.slice r.params) rfl, hs, hq, rfl⟩

theorem passageLoad_used (r : Req) (p : Passage) (s : State) (hacc : accepts 0x0301 r s = true)
    (hrows : ranges (passageRows s r.slice r.params) = none) (hslice : s.hasSlice r.slice = true)
    (hused : s.psg.find (psgKey r.slice (r.b 0 1)) = some p) :
    ∃ t, exec (.passageLoad r) s = .next t ∧ Completed r s t 0x0301 p.st.code 0 ∧ Silent s t ∧ Quiet r s t
      ∧ t = { s with hif := t.hif, bnc := t.bnc, out := t.out } := by
  exact State.hostRow_refused hacc rfl fun b => cmdPassageLoad_of_used (s := { s with bnc := b }) hrows hslice hused

/-! ### The commands of R64 and R65, by the state of the passage they name -/

/-- The passage that starts over when it is armed with an epoch and the units in service (R54, R64). -/
def Passage.armed (p : Passage) (epoch : Nat) (units : List Nat) : Passage :=
  { p with
    st := .armed, leg := 0, iter := 0, parity := false, bells := 0, parkPend := false, parkedByAct := false
    epoch := epoch, prog := [], acc := [], stripes := [], legDone := false, timeOpen := false
    blanked := none, rdySent := [], heldG := [], optDone := false, dupWarned := false, bytesIn := 0, bytesOut := 0
    units := units, spillNoted := none, residNoted := none }

/-- The epoch of an arm: at once where the field is 0 (R65). -/
def armEpoch (s : State) (r : Req) : Nat :=
  if r.p 24 6 * 1000000000 + r.p 30 4 == 0 then s.ns else r.p 24 6 * 1000000000 + r.p 30 4

/-- The skink units in service (R217). -/
def State.unitsInService (s : State) : List Nat := (List.range 48).filter (fun u => !s.skk.retired.contains u)

section
variable {r : Req} {s : State} {p : Passage} (h : Names r s p)
include h

theorem cmdPassageArm_arms (h18 : r.p 18 2 = 0) (h30 : r.p 30 4 < 1000000000)
    (hst : p.st = .loaded ∨ p.st = .done ∨ p.st = .aborted) (hports : s.failedPort p = none)
    (hlights : p.lights = false ∨ ∀ e ∈ s.passagesOf r.slice, e.1 ≠ r.p 16 1 → e.2.st.live = true → e.2.lights = false) :
    cmdPassageArm r s = .done (s.updPsg r.slice (r.p 16 1) (fun p => p.armed (armEpoch s r) s.unitsInService)) 0 0 0 := by
  have hok : (p.st == .loaded || p.st == .done || p.st == .aborted) = true := by
    simpa [or_assoc] using hst
  simp only [cmdPassageArm, State.named_eq h]
  rw [guarded_psgChecks _ _ _ h (by simp [h18]) rfl (by simp [h30]), if_pos hok]
  have hdark : (s.passagesOf r.slice).find? (fun e => e.1 != r.p 16 1 && e.2.st.live && e.2.lights) = none
      ∨ p.lights = false := by
    refine hlights.symm.imp_left fun hall => List.find?_eq_none.mpr fun e he hyes => ?_
    simp only [Bool.and_eq_true, bne_iff_ne, ne_eq] at hyes
    obtain ⟨⟨hid, hlive⟩, hlit⟩ := hyes
    simp [hall e he hid hlive] at hlit
  rcases hdark with hdark | hdark
  · rw [hdark, hports]
    rfl
  · rw [hdark, hports]
    split <;> rfl

theorem cmdPassageArm_live (h18 : r.p 18 2 = 0) (h30 : r.p 30 4 < 1000000000) (hlive : p.st.live = true) :
    cmdPassageArm r s = .done s 0x0301 p.st.code 0 := by
  have hbad : (p.st == .loaded || p.st == .done || p.st == .aborted) = false := by
    revert hlive
    cases p.st <;> decide
  rw [cmdPassageArm, guarded_psgChecks _ _ _ h (by simp [h18]) rfl (by simp [h30]), hbad]
  rfl

section
variable (h24 : r.p 24 6 = 0) (h30 : r.p 30 4 = 0)
include h24 h30

theorem cmdPassageDoorbell_eq (h18 : 1 ≤ r.p 18 2) :
    cmdPassageDoorbell r s = if p.st.live = true then
        guarded s [chk (decide (p.bells + r.p 18 2 ≤ 65535)) 0x0201 6 (p.bells + r.p 18 2 - 65535)]
          (ok (s.updPsg r.slice (r.p 16 1) (fun p' => { p' with bells := p.bells + r.p 18 2 })) 0 0)
      else .done s 0x0301 p.st.code 0 := by
  rw [cmdPassageDoorbell, State.named_eq h, guarded_psgChecks _ _ _ h (by simp [h18]) (by simp [h24]) (by simp [h30])]

variable (h18 : r.p 18 2 = 0)
include h18

/-- The commands with no field of their own judge only the state of the passage. -/
theorem guarded_psgChecks_plain (okIn : PSt → Bool) (f : CmdOut) :
    guarded s (psgChecks r s false false okIn) f = if okIn p.st = true then f else .done s 0x0301 p.st.code 0 := by
  rw [← List.append_nil (psgChecks r s false false okIn),
    guarded_psgChecks _ _ _ h (by simp [h18]) (by simp [h24]) (by simp [h30]), guarded_nil]

theorem cmdPassagePark_eq :
    cmdPassagePark r s = if p.st.live = true then
        ok (s.updPsg r.slice (r.p 16 1) (fun p => { p with parkPend := p.st != .parked, parkedByAct := false })) 0 0
      else .done s 0x0301 p.st.code 0 :=
  guarded_psgChecks_plain h h24 h30 h18 _ _

theorem cmdPassageResume_eq :
    cmdPassageResume r s = if p.st = .parked then ok (s.resumePassage r.slice (r.p 16 1)) 0 0
      else .done s 0x0301 p.st.code 0 := by
  rw [cmdPassageResume, guarded_psgChecks_plain h h24 h30 h18]
  simp only [beq_iff_eq]

theorem cmdPassageAbort_eq :
    cmdPassageAbort r s = if p.st.live = true then ok (s.abortPassage r.slice (r.p 16 1) 1) 0 0
      else .done s 0x0301 p.st.code 0 :=
  guarded_psgChecks_plain h h24 h30 h18 _ _

theorem cmdPassageUnload_eq :
    cmdPassageUnload r s = if p.st.live = true then .done s 0x0301 p.st.code 0
      else ok (s.unloadPassage r.slice (r.p 16 1)) 0 0 := by
  rw [cmdPassageUnload, guarded_psgChecks_plain h h24 h30 h18]
  cases p.st <;> rfl

theorem cmdPassageQuery_eq :
    cmdPassageQuery r s = ok s (p.st.code + 256 * p.leg + 2 ^ 20 * (p.iter % 2 ^ 44))
      (p.w0 / 65536 / 1000000000 % 2 ^ 32 * 2 ^ 32 + p.w0 / 65536 % 1000000000) := by
  rw [cmdPassageQuery, guarded_psgChecks_plain h h24 h30 h18, State.named_eq h, if_pos rfl]

end
end

/-! ### What the commands do -/

/-- A command that changes one passage and completes. -/
theorem State.hostRow_changesPassage {s : State} {op pid : Nat} {r : Req} {run : Req → State → CmdOut} {p : Passage}
    {f : Passage → Passage} {st w0 w1 : Nat} (hacc : accepts op r s = true) (htok : tokenless op = true)
    (hfind : s.psg.find (psgKey r.slice pid) = some p)
    (hrun : ∀ b, run r { s with bnc := b } = .done (State.updPsg { s with bnc := b } r.slice pid f) st w0 w1) :
    ∃ t, ran s op r run = .next t ∧ Completed r s t st w0 w1 ∧ t.psg.find (psgKey r.slice pid) = some (f p)
      ∧ OtherPassages r.slice pid s t ∧ Silent s t ∧ Quiet r s t
      ∧ t = { s with hif := t.hif, bnc := t.bnc, out := t.out, psg := t.psg } := by
  have hupd : ∀ b, State.updPsg { s with bnc := b } r.slice pid f
      = { s with bnc := b, psg := s.psg.put (psgKey r.slice pid) (f p) } :=
    fun b => State.updPsg_eq (s := { s with bnc := b }) hfind f
  obtain ⟨u, hu, hc, hs, hq, b, h, n, o, rfl⟩ := State.hostRow_done
    (fun b => { s with bnc := b, psg := s.psg.put (psgKey r.slice pid) (f p) }) hacc htok
    (fun b => (hrun b).trans (by rw [hupd])) (fun _ => ⟨rfl, rfl, rfl⟩)
  exact ⟨_, hu, hc, Tbl.find_put _ _ _, OtherPassages.of_put rfl, hs, hq, rfl⟩

/-- The residual areas once a passage is gone: its tensor's goes with the last passage that names it (R241). -/
def unloadedResid (s : State) (slice pid tensor : Nat) : Tbl Resid :=
  if (State.passagesOf { s with psg := s.psg.del (psgKey slice pid) } slice).any (fun e => e.2.tensor == tensor) then s.skk.resid
  else s.skk.resid.del (tensorKey slice tensor)

theorem State.unloadPassage_eq {s : State} {slice pid : Nat} {p : Passage} (hfind : s.psg.find (psgKey slice pid) = some p)
    (hheld : NoHeld s) :
    s.unloadPassage slice pid = { s with psg := s.psg.del (psgKey slice pid)
                                         skk := { s.skk with resid := unloadedResid s slice pid p.tensor } } := by
  simp only [State.unloadPassage, hfind, unloadedResid]
  split
  · exact State.retryAll_of_noHeld hheld
  · exact State.retryAll_of_noHeld hheld

theorem passageUnload_removes (r : Req) (p : Passage) (s : State) (hacc : accepts 0x0307 r s = true) (h : Names r s p)
    (h18 : r.p 18 2 = 0) (h24 : r.p 24 6 = 0) (h30 : r.p 30 4 = 0) (hst : p.st = .loaded ∨ p.st = .done ∨ p.st = .aborted)
    (hheld : NoHeld s) :
    ∃ t, exec (.passageUnload r) s = .next t ∧ Completed r s t 0 0 0
      ∧ t.psg.find (psgKey r.slice (r.p 16 1)) = none ∧ OtherPassages r.slice (r.p 16 1) s t
      ∧ ((∀ e ∈ t.passagesOf r.slice, e.2.tensor ≠ p.tensor) → t.skk.resid.find (tensorKey r.slice p.tensor) = none)
      ∧ Silent s t ∧ Quiet r s t
      ∧ t = { s with hif := t.hif, bnc := t.bnc, out := t.out, psg := t.psg, skk := { s.skk with resid := t.skk.resid } } := by
  have hidle : ¬ p.st.live = true := by rcases hst with hst | hst | hst <;> simp [hst, PSt.live]
  obtain ⟨u, hu, hc, hs, hq, b, x, n, o, rfl⟩ := State.hostRow_done (run := cmdPassageUnload) (st := 0) (w0 := 0) (w1 := 0) (fun b =>
      { s with bnc := b, psg := s.psg.del (psgKey r.slice (r.p 16 1))
               skk := { s.skk with resid := unloadedResid s r.slice (r.p 16 1) p.tensor } }) hacc rfl
    (fun b => by
      rw [cmdPassageUnload_eq (s := { s with bnc := b }) h h24 h30 h18, if_neg hidle,
        State.unloadPassage_eq (s := { s with bnc := b }) (find_of_names h) hheld]
      rfl) (fun _ => ⟨rfl, rfl, rfl⟩)
  refine ⟨_, hu, hc, Tbl.find_del _ _, fun k hk => Tbl.find_del_ne _ hk, fun hnone => ?_, hs, hq, rfl⟩
  have hlast : (State.passagesOf { s with psg := s.psg.del (psgKey r.slice (r.p 16 1)) } r.slice).any
      (fun e => e.2.tensor == p.tensor) = false :=
    List.any_eq_false.mpr fun e he heq => hnone e he (by simpa using heq)
  simp [unloadedResid, hlast]

theorem passageQuery_answers (r : Req) (p : Passage) (s : State) (hacc : accepts 0x0308 r s = true) (h : Names r s p)
    (h18 : r.p 18 2 = 0) (h24 : r.p 24 6 = 0) (h30 : r.p 30 4 = 0) (hleg : p.leg < 4096) :
    ∃ t w0 w1, exec (.passageQuery r) s = .next t ∧ Completed r s t 0 w0 w1
      ∧ bits w0 0 8 = p.st.code ∧ bits w0 8 12 = p.leg ∧ bits w0 20 44 = p.iter % 2 ^ 44
      ∧ bits w1 0 32 = p.w0 / 65536 % 1000000000 ∧ bits w1 32 32 = p.w0 / 65536 / 1000000000 % 2 ^ 32
      ∧ Silent s t ∧ Quiet r s t ∧ t = { s with hif := t.hif, bnc := t.bnc, out := t.out } := by
  obtain ⟨t, ht, hc, hrest⟩ := State.hostRow_refused hacc rfl
    fun b => cmdPassageQuery_eq (s := { s with bnc := b }) h h24 h30 h18
  have hcode : p.st.code < 256 := by cases p.st <;> decide
  refine ⟨t, _, _, ht, hc, ?_, ?_, ?_, ?_, ?_, hrest⟩ <;>
  · simp only [bits]
    omega

theorem passageArm_arms (r : Req) (p : Passage) (s : State) (hacc : accepts 0x0302 r s = true) (h : Names r s p)
    (h18 : r.p 18 2 = 0) (h30 : r.p 30 4 < 1000000000) (hst : p.st = .loaded ∨ p.st = .done ∨ p.st = .aborted)
    (hports : s.failedPort p = none)
    (hlights : p.lights = false ∨ ∀ e ∈ s.passagesOf r.slice, e.1 ≠ r.p 16 1 → e.2.st.live = true → e.2.lights = false) :
    ∃ t q, exec (.passageArm r) s = .next t ∧ Completed r s t 0 0 0
      ∧ t.psg.find (psgKey r.slice (r.p 16 1)) = some q ∧ q.st = .armed ∧ q.leg = 0 ∧ q.iter = 0 ∧ q.bells = 0
      ∧ q.epoch = (if r.p 24 6 = 0 ∧ r.p 30 4 = 0 then s.ns else r.p 24 6 * 1000000000 + r.p 30 4)
      ∧ (∀ u, u ∈ q.units ↔ u < 48 ∧ u ∉ s.skk.retired) ∧ q.legs = p.legs ∧ q.digest = p.digest ∧ q.buffers = p.buffers
      ∧ OtherPassages r.slice (r.p 16 1) s t ∧ Silent s t ∧ Quiet r s t
      ∧ t = { s with hif := t.hif, bnc := t.bnc, out := t.out, psg := t.psg } := by
  obtain ⟨t, ht, hc, hq, hrest⟩ := State.hostRow_changesPassage (f := fun p => p.armed (armEpoch s r) s.unitsInService)
    hacc rfl (find_of_names h) fun b => cmdPassageArm_arms (s := { s with bnc := b }) h h18 h30 hst hports hlights
  have hepoch : armEpoch s r = if r.p 24 6 = 0 ∧ r.p 30 4 = 0 then s.ns else r.p 24 6 * 1000000000 + r.p 30 4 := by
    have hzero : r.p 24 6 * 1000000000 + r.p 30 4 = 0 ↔ r.p 24 6 = 0 ∧ r.p 30 4 = 0 := by omega
    simp only [armEpoch, beq_iff_eq, hzero]
  have hunits : ∀ u, u ∈ s.unitsInService ↔ u < 48 ∧ u ∉ s.skk.retired := fun u => by simp [State.unitsInService]
  exact ⟨t, _, ht, hc, hq, rfl, rfl, rfl, rfl, hepoch, hunits, rfl, rfl, rfl, hrest⟩

theorem passageDoorbell_rings (r : Req) (p : Passage) (s : State) (hacc : accepts 0x0303 r s = true) (h : Names r s p)
    (h18 : 1 ≤ r.p 18 2) (h24 : r.p 24 6 = 0) (h30 : r.p 30 4 = 0) (hlive : p.st.live = true)
    (hcount : p.bells + r.p 18 2 ≤ 65535) :
    ∃ t, exec (.passageDoorbell r) s = .next t ∧ Completed r s t 0 0 0
      ∧ t.psg.find (psgKey r.slice (r.p 16 1)) = some { p with bells := p.bells + r.p 18 2 }
      ∧ OtherPassages r.slice (r.p 16 1) s t ∧ Silent s t ∧ Quiet r s t
      ∧ t = { s with hif := t.hif, bnc := t.bnc, out := t.out, psg := t.psg } :=
  State.hostRow_changesPassage (f := fun p' => { p' with bells := p.bells + r.p 18 2 }) hacc rfl (find_of_names h) fun b => by
    rw [cmdPassageDoorbell_eq (s := { s with bnc := b }) h h24 h30 h18, if_pos hlive, decide_eq_true hcount]
    rfl

theorem passageDoorbell_overflows (r : Req) (p : Passage) (s : State) (hacc : accepts 0x0303 r s = true) (h : Names r s p)
    (h18 : 1 ≤ r.p 18 2) (h24 : r.p 24 6 = 0) (h30 : r.p 30 4 = 0) (hlive : p.st.live = true)
    (hcount : 65535 < p.bells + r.p 18 2) :
    ∃ t, exec (.passageDoorbell r) s = .next t ∧ Completed r s t 0x0201 6 (p.bells + r.p 18 2 - 65535) ∧ Silent s t
      ∧ Quiet r s t ∧ t = { s with hif := t.hif, bnc := t.bnc, out := t.out } :=
  State.hostRow_refused hacc rfl fun b => by
    rw [cmdPassageDoorbell_eq (s := { s with bnc := b }) h h24 h30 h18, if_pos hlive, decide_eq_false (by omega)]
    rfl

theorem passagePark_notes (r : Req) (p : Passage) (s : State) (hacc : accepts 0x0304 r s = true) (h : Names r s p)
    (h18 : r.p 18 2 = 0) (h24 : r.p 24 6 = 0) (h30 : r.p 30 4 = 0) (hlive : p.st.live = true) :
    ∃ t, exec (.passagePark r) s = .next t ∧ Completed r s t 0 0 0
      ∧ t.psg.find (psgKey r.slice (r.p 16 1)) = some { p with parkPend := p.st != .parked, parkedByAct := false }
      ∧ OtherPassages r.slice (r.p 16 1) s t ∧ Silent s t ∧ Quiet r s t
      ∧ t = { s with hif := t.hif, bnc := t.bnc, out := t.out, psg := t.psg } :=
  State.hostRow_changesPassage (f := fun p => { p with parkPend := p.st != .parked, parkedByAct := false }) hacc rfl (find_of_names h)
    fun b => by
      rw [cmdPassagePark_eq (s := { s with bnc := b }) h h24 h30 h18, if_pos hlive]
      rfl

theorem passageUnload_live (r : Req) (p : Passage) (s : State) (hacc : accepts 0x0307 r s = true) (h : Names r s p)
    (h18 : r.p 18 2 = 0) (h24 : r.p 24 6 = 0) (h30 : r.p 30 4 = 0) (hlive : p.st.live = true) :
    ∃ t, exec (.passageUnload r) s = .next t ∧ Completed r s t 0x0301 p.st.code 0 ∧ Silent s t ∧ Quiet r s t
      ∧ t = { s with hif := t.hif, bnc := t.bnc, out := t.out } :=
  State.hostRow_refused hacc rfl fun b => by
    rw [cmdPassageUnload_eq (s := { s with bnc := b }) h h24 h30 h18, if_pos hlive]

/-- In another state than they ask for, arming, a doorbell and a park are refused with the state (R64). -/
theorem passageCommands_wrongState (r : Req) (p : Passage) (s : State) (h : Names r s p) (h24 : r.p 24 6 = 0)
    (h30 : r.p 30 4 = 0) :
    (accepts 0x0302 r s = true → r.p 18 2 = 0 → p.st.live = true → ∃ t, exec (.passageArm r) s = .next t
        ∧ Completed r s t 0x0301 p.st.code 0 ∧ t = { s with hif := t.hif, bnc := t.bnc, out := t.out })
      ∧ (accepts 0x0303 r s = true → 1 ≤ r.p 18 2 → p.st.live = false → ∃ t, exec (.passageDoorbell r) s = .next t
        ∧ Completed r s t 0x0301 p.st.code 0 ∧ t = { s with hif := t.hif, bnc := t.bnc, out := t.out })
      ∧ (accepts 0x0304 r s = true → r.p 18 2 = 0 → p.st.live = false → ∃ t, exec (.passagePark r) s = .next t
        ∧ Completed r s t 0x0301 p.st.code 0 ∧ t = { s with hif := t.hif, bnc := t.bnc, out := t.out }) := by
  refine ⟨fun hacc h18 hlive => ?_, fun hacc h18 hidle => ?_, fun hacc h18 hidle => ?_⟩
  · obtain ⟨t, ht, hc, -, -, hframe⟩ := State.hostRow_refused hacc rfl
      fun b => cmdPassageArm_live (s := { s with bnc := b }) h h18 (by omega) hlive
    exact ⟨t, ht, hc, hframe⟩
  · obtain ⟨t, ht, hc, -, -, hframe⟩ := State.hostRow_refused (run := cmdPassageDoorbell) hacc rfl fun b => by
      rw [cmdPassageDoorbell_eq (s := { s with bnc := b }) h h24 h30 h18, hidle, if_neg Bool.false_ne_true]
    exact ⟨t, ht, hc, hframe⟩
  · obtain ⟨t, ht, hc, -, -, hframe⟩ := State.hostRow_refused (run := cmdPassagePark) hacc rfl fun b => by
      rw [cmdPassagePark_eq (s := { s with bnc := b }) h h24 h30 h18, hidle, if_neg Bool.false_ne_true]
    exact ⟨t, ht, hc, hframe⟩

end Sys2Proof.Machine

namespace Sys2Proof.Proofs

open Sys2Proof.Machine

/-- Settles O22, command by command. -/
theorem passagesLoadedAndArmed : Obligations.PassagesLoadedAndArmed :=
  ⟨⟨passageLoad_loads, passageLoad_used, passageUnload_removes, passageUnload_live, passageQuery_answers⟩,
    passageArm_arms, passageDoorbell_rings, passageDoorbell_overflows, passagePark_notes, passageCommands_wrongState⟩

end Sys2Proof.Proofs
end

section
/-! SUPPORT. Passages that end or go on: global ports blanked, frames queued for other racks, the start of a leg's exit, and
the abort of a passage. -/

namespace Sys2Proof.Machine

open Safety

/-! ### Parts of the colour plane -/

/-- Only global ports and lasers differ. -/
def PortsOnly (s t : State) : Prop := ∃ ports lasers, t = { s with col := { s.col with port := ports, laser := lasers } }

theorem PortsOnly.rfl {s : State} : PortsOnly s s := ⟨_, _, Eq.refl s⟩

theorem PortsOnly.trans {s t u : State} : PortsOnly s t → PortsOnly t u → PortsOnly s u := by
  rintro ⟨_, _, rfl⟩ ⟨_, _, rfl⟩
  exact ⟨_, _, Eq.refl _⟩

theorem PortsOnly.foldl {α : Type} {g : State → α → State} (h : ∀ s x, PortsOnly s (g s x)) (l : List α) (s : State) :
    PortsOnly s (l.foldl g s) :=
  List.foldlRecOn l g (motive := PortsOnly s) PortsOnly.rfl (fun _ ht x _ => ht.trans (h _ x))

theorem State.blankPort_portsOnly (s : State) (t : Nat) : PortsOnly s (s.blankPort t) := by
  simp only [State.blankPort]
  split
  · exact PortsOnly.rfl
  · exact ⟨_, _, rfl⟩

/-- Queuing a frame for every other rack adds that many to the standing queue (R160). -/
theorem State.queueAll_eq (s : State) (slice mask prec : Nat) (b : Bytes) :
    ∃ q, s.queueAll slice mask prec b = { s with col := { s.col with stq := q } }
      ∧ q.length = s.col.stq.length + (s.others mask).length := by
  unfold State.queueAll
  generalize s.others mask = l
  induction l generalizing s with
  | nil => exact ⟨_, rfl, rfl⟩
  | cons r l ih =>
    obtain ⟨q, hq, hlen⟩ := ih (s.queueStanding slice r prec b)
    refine ⟨q, hq, ?_⟩
    rw [hlen, List.length_cons, State.queueStanding, List.length_append, List.length_singleton]
    omega

/-! ### The start of a leg's exit (R60) -/

/-- A passage whose changing transmitters are blanked. -/
def Passage.blankedAt (p : Passage) (now : Nat) : Passage := { p with blanked := some now, rdySent := [] }

/-- The exit of a leg at a colour waypoint blanks ports and notes it; otherwise nothing happens. -/
theorem State.beginExit_eq {s : State} {slice pid : Nat} {p : Passage} (h : s.psg.find (psgKey slice pid) = some p) :
    (s.beginExit slice pid = s ∧ (p.colourAhead = true → p.blanked ≠ none))
      ∨ ∃ ports lasers, s.beginExit slice pid = { s with psg := s.psg.put (psgKey slice pid) (p.blankedAt s.ns)
                                                         col := { s.col with port := ports, laser := lasers } } := by
  simp only [State.beginExit, h]
  split
  · next hexit => exact .inl ⟨rfl, fun hcolour hblank => by simp [hcolour, hblank] at hexit⟩
  · split
    · next htarget => exact .inl ⟨rfl, fun hcolour => by simp [Passage.colourAhead, htarget] at hcolour⟩
    · next l i _ =>
      right
      obtain ⟨ports, lasers, heq⟩ := PortsOnly.foldl (g := fun s t =>
          if (p.offsetNow t).isSome && p.offset l t != p.offsetNow t then s.blankPort t else s)
        (fun s t => by
          split
          · exact s.blankPort_portsOnly t
          · exact PortsOnly.rfl) (List.range 64) s
      rw [heq, State.updPsg_eq (by exact h)]
      exact ⟨_, _, rfl⟩

/-! ### Sums kept by an abort (R247) -/

/-- Only the stored codes, scales and accumulators of a passage differ. -/
def DataOnly (p q : Passage) : Prop := ∃ d sc a, q = { p with data := d, scale := sc, acc := a }

theorem DataOnly.rfl {p : Passage} : DataOnly p p := ⟨_, _, _, Eq.refl p⟩

theorem DataOnly.trans {p q r : Passage} : DataOnly p q → DataOnly q r → DataOnly p r := by
  rintro ⟨_, _, _, rfl⟩ ⟨_, _, _, rfl⟩
  exact ⟨_, _, _, Eq.refl _⟩

theorem DataOnly.foldl {α : Type} {g : Passage → α → Passage} (h : ∀ p x, DataOnly p (g p x)) (l : List α) (p : Passage) :
    DataOnly p (l.foldl g p) :=
  List.foldlRecOn l g (motive := DataOnly p) DataOnly.rfl (fun _ ht x _ => ht.trans (h _ x))

theorem Passage.store_dataOnly (p : Passage) (pid b blk : Nat) (vs : List (Option Nat)) (mode salt : Nat) (pair : Bool) :
    DataOnly p (p.store pid b blk vs mode salt pair).1 := ⟨_, _, _, rfl⟩

theorem Passage.takeAcc_dataOnly (p : Passage) (gi blk : Nat) : DataOnly p (p.takeAcc gi blk).1 := ⟨_, _, _, rfl⟩

theorem Passage.keepPartial_dataOnly (p : Passage) (pid : Nat) : DataOnly p (p.keepPartial pid) :=
  DataOnly.foldl (fun _ _ => DataOnly.foldl (fun p _ => (p.takeAcc_dataOnly _ _).trans (Passage.store_dataOnly _ _ _ _ _ _ _ _)) _ _) _ _

/-! ### Aborts (R66) -/

theorem noHeld_of_mapVal {s t : State} {f : Nat → LPort → LPort} (h : NoHeld s) (ht : t.lnk.port = s.lnk.port.mapVal f)
    (hf : ∀ k x, (f k x).heldq = x.heldq) : NoHeld t := by
  intro e he
  rw [ht] at he
  obtain ⟨x, hx, rfl⟩ := List.mem_map.mp he
  exact (hf _ _).trans (h x hx)

/-- A passage as an abort leaves it: its progress, accumulators and stripes dropped, its buffers kept. -/
def Passage.abortedAs (p : Passage) (pid : Nat) : Passage :=
  { p.keepPartial pid with
    st := .aborted, prog := [], acc := [], stripes := [], ready := [], remote := [], heldG := [], rdySent := []
    blanked := none, legDone := false, parkPend := false, parkedByAct := false }

theorem Passage.abortedAs_keeps (p : Passage) (pid : Nat) :
    (p.abortedAs pid).buffers = p.buffers ∧ (p.abortedAs pid).legs = p.legs ∧ (p.abortedAs pid).digest = p.digest
      ∧ (p.stripes = [] → (p.abortedAs pid).data = p.data ∧ (p.abortedAs pid).scale = p.scale) := by
  obtain ⟨d, sc, a, h⟩ := p.keepPartial_dataOnly pid
  refine ⟨?_, ?_, ?_, fun hs => ?_⟩
  · rw [Passage.abortedAs, h]
  · rw [Passage.abortedAs, h]
  · rw [Passage.abortedAs, h]
  · simp [Passage.abortedAs, Passage.keepPartial, hs]

/-- A frame that carries data of a passage. -/
def TxFrame.carries (f : TxFrame) (slice pid : Nat) : Bool :=
  match f.tag with
  | some g => g.1 == slice && g.2.1 == pid
  | none => false

/-- A terminated port that no longer counts what it sends for a passage: frames not begun are dropped. -/
def LPort.disown (x : LPort) (slice pid : Nat) : LPort :=
  { x with
    txq := (x.txq.filter (fun f => !(f.done == 0 && f.carries slice pid))).map
      (fun f => if f.carries slice pid then { f with tag := none } else f)
    sentq := x.sentq.map (fun f => if f.carries slice pid then { f with tag := none } else f) }

theorem State.optStop_of_idle {s : State} {slice pid : Nat} {p : Passage} (h : s.psg.find (psgKey slice pid) = some p)
    (hpass : s.passRuns slice p = false) : s.optStop slice pid = s := by
  simp [State.optStop, h, hpass]

/-- What an abort does to the state, where no optimizer pass is under way and no frame is held back. -/
theorem State.abortPassage_eq {s : State} {slice pid : Nat} {p : Passage} (cause : Nat)
    (h : s.psg.find (psgKey slice pid) = some p) (hlive : p.st.live = true) (hheld : NoHeld s)
    (hpass : s.passRuns slice p = false) :
    ∃ ports lasers queue link takes, s.abortPassage slice pid cause
      = { s with psg := s.psg.put (psgKey slice pid) (p.abortedAs pid)
                 col := { s.col with port := ports, laser := lasers, stq := queue }
                 lnk := link, sxt := { s.sxt with takes := takes } } := by
  simp only [State.abortPassage, h, hlive, State.optStop_of_idle h hpass, Bool.not_true, Bool.false_eq_true, if_false,
    Option.getD_some]
  obtain ⟨ports, lasers, heq⟩ := PortsOnly.foldl (g := fun s t => if (p.offsetNow t).isSome then s.blankPort t else s)
    (fun s t => by
      split
      · exact s.blankPort_portsOnly t
      · exact PortsOnly.rfl) (List.range 64) s
  rw [heq]
  generalize abortFrame slice pid _ p.leg p.iter cause = frame
  obtain ⟨q, hq, -⟩ := State.queueAll_eq { s with col := { s.col with port := ports, laser := lasers } } slice p.rackMask 1 frame
  rw [hq, State.updPsg_eq (by exact h)]
  rw [State.retryAll_of_noHeld]
  · exact ⟨_, _, _, _, _, rfl⟩
  · exact noHeld_of_mapVal (f := fun _ x => x.disown slice pid) hheld rfl fun _ _ => rfl

/-! ### PASSAGE_RESUME and PASSAGE_ABORT -/

/-- A parked passage that runs again, its timeout not counting the park (R69). -/
def Passage.resumed (p : Passage) (now : Nat) : Passage :=
  { p with st := .running, parkPend := false, parkedByAct := false, enteredAt := p.enteredAt + (now - p.parkedAt) }

theorem State.resumePassage_eq {s : State} {slice pid : Nat} {p : Passage} (h : s.psg.find (psgKey slice pid) = some p) :
    ∃ q ports lasers, s.resumePassage slice pid = { s with psg := q, col := { s.col with port := ports, laser := lasers } }
      ∧ OtherPassages slice pid s { s with psg := q }
      ∧ (q.find (psgKey slice pid) = some (p.resumed s.ns) ∨ q.find (psgKey slice pid) = some ((p.resumed s.ns).blankedAt s.ns)) := by
  have hbegin : s.resumePassage slice pid
      = State.beginExit { s with psg := s.psg.put (psgKey slice pid) (p.resumed s.ns) } slice pid :=
    congrArg (State.beginExit · slice pid) (State.updPsg_eq h (Passage.resumed · s.ns))
  have hother : OtherPassages slice pid s { s with psg := s.psg.put (psgKey slice pid) (p.resumed s.ns) } :=
    OtherPassages.of_put rfl
  rcases State.beginExit_eq (s := { s with psg := s.psg.put (psgKey slice pid) (p.resumed s.ns) }) (Tbl.find_put _ _ _)
    with ⟨hexit, -⟩ | ⟨ports, lasers, hexit⟩
  · exact ⟨_, _, _, hbegin.trans hexit, hother, .inl (Tbl.find_put _ _ _)⟩
  · exact ⟨_, ports, lasers, hbegin.trans hexit, OtherPassages.trans hother (OtherPassages.of_put rfl), .inr (Tbl.find_put _ _ _)⟩

theorem passageResume_runs (r : Req) (p : Passage) (s : State) (hacc : accepts 0x0305 r s = true) (h : Names r s p)
    (h18 : r.p 18 2 = 0) (h24 : r.p 24 6 = 0) (h30 : r.p 30 4 = 0) (hst : p.st = .parked) :
    ∃ t q, exec (.passageResume r) s = .next t ∧ Completed r s t 0 0 0
      ∧ t.psg.find (psgKey r.slice (r.p 16 1)) = some q ∧ q.st = .running ∧ q.parkPend = false ∧ q.leg = p.leg
      ∧ q.iter = p.iter ∧ q.enteredAt = p.enteredAt + (s.ns - p.parkedAt) ∧ q.legDone = p.legDone
      ∧ OtherPassages r.slice (r.p 16 1) s t ∧ Silent s t ∧ Quiet r s t
      ∧ t = { s with hif := t.hif, bnc := t.bnc, out := t.out, psg := t.psg
                     col := { s.col with port := t.col.port, laser := t.col.laser } } := by
  have heq := fun b => State.resumePassage_eq (s := { s with bnc := b }) (find_of_names h)
  obtain ⟨u, hu, hc, hs, hq, b, x, n, o, rfl⟩ := State.hostRow_done (run := cmdPassageResume) (st := 0) (w0 := 0) (w1 := 0)
    (fun b => State.resumePassage { s with bnc := b } r.slice (r.p 16 1)) hacc rfl
    (fun b => by
      rw [cmdPassageResume_eq (s := { s with bnc := b }) h h24 h30 h18, if_pos hst]
      rfl)
    (fun b => by
      obtain ⟨_, _, _, heq, -⟩ := heq b
      rw [heq]
      exact ⟨rfl, rfl, rfl⟩)
  obtain ⟨q, ports, lasers, heq, hothers, hq'⟩ := heq b
  rw [heq] at hu hc hs hq
  rcases hq' with hq' | hq'
  · exact ⟨_, _, hu, hc, hq', rfl, rfl, rfl, rfl, rfl, rfl, hothers, hs, hq, rfl⟩
  · exact ⟨_, _, hu, hc, hq', rfl, rfl, rfl, rfl, rfl, rfl, hothers, hs, hq, rfl⟩

theorem passageResume_refused (r : Req) (p : Passage) (s : State) (hacc : accepts 0x0305 r s = true) (h : Names r s p)
    (h18 : r.p 18 2 = 0) (h24 : r.p 24 6 = 0) (h30 : r.p 30 4 = 0) (hst : p.st ≠ .parked) :
    ∃ t, exec (.passageResume r) s = .next t ∧ Completed r s t 0x0301 p.st.code 0 ∧ Silent s t ∧ Quiet r s t
      ∧ t = { s with hif := t.hif, bnc := t.bnc, out := t.out } :=
  State.hostRow_refused hacc rfl fun b => by
    rw [cmdPassageResume_eq (s := { s with bnc := b }) h h24 h30 h18, if_neg hst]

theorem passageAbort_aborts (r : Req) (p : Passage) (s : State) (hacc : accepts 0x0306 r s = true) (h : Names r s p)
    (h18 : r.p 18 2 = 0) (h24 : r.p 24 6 = 0) (h30 : r.p 30 4 = 0) (hlive : p.st.live = true) (hheld : NoHeld s)
    (hpass : s.passRuns r.slice p = false) :
    ∃ t q, exec (.passageAbort r) s = .next t ∧ Completed r s t 0 0 0
      ∧ t.psg.find (psgKey r.slice (r.p 16 1)) = some q ∧ q.st = .aborted ∧ q.prog = [] ∧ q.acc = [] ∧ q.stripes = []
      ∧ q.buffers = p.buffers ∧ q.legs = p.legs ∧ q.digest = p.digest
      ∧ (p.stripes = [] → q.data = p.data ∧ q.scale = p.scale)
      ∧ OtherPassages r.slice (r.p 16 1) s t ∧ Silent s t ∧ Quiet r s t
      ∧ t = { s with hif := t.hif, bnc := t.bnc, out := t.out, psg := t.psg, lnk := t.lnk
                     col := { s.col with port := t.col.port, laser := t.col.laser, stq := t.col.stq }
                     sxt := { s.sxt with takes := t.sxt.takes } } := by
  have heq := fun b => State.abortPassage_eq (s := { s with bnc := b }) 1 (find_of_names h) hlive hheld hpass
  obtain ⟨u, hu, hc, hs, hq, b, x, n, o, rfl⟩ := State.hostRow_done (run := cmdPassageAbort) (st := 0) (w0 := 0) (w1 := 0)
    (fun b => State.abortPassage { s with bnc := b } r.slice (r.p 16 1) 1) hacc rfl
    (fun b => by
      rw [cmdPassageAbort_eq (s := { s with bnc := b }) h h24 h30 h18, if_pos hlive]
      rfl)
    (fun b => by
      obtain ⟨_, _, _, _, _, heq⟩ := heq b
      rw [heq]
      exact ⟨rfl, rfl, rfl⟩)
  obtain ⟨_, _, _, _, _, heq⟩ := heq b
  rw [heq] at hu hc hs hq
  obtain ⟨hbuf, hlegs, hdigest, hdata⟩ := p.abortedAs_keeps (r.p 16 1)
  exact ⟨_, _, hu, hc, Tbl.find_put _ _ _, rfl, rfl, rfl, rfl, hbuf, hlegs, hdigest, hdata, OtherPassages.of_put rfl, hs, hq,
    rfl⟩

theorem passageAbort_refused (r : Req) (p : Passage) (s : State) (hacc : accepts 0x0306 r s = true) (h : Names r s p)
    (h18 : r.p 18 2 = 0) (h24 : r.p 24 6 = 0) (h30 : r.p 30 4 = 0) (hidle : p.st.live = false) :
    ∃ t, exec (.passageAbort r) s = .next t ∧ Completed r s t 0x0301 p.st.code 0 ∧ Silent s t ∧ Quiet r s t
      ∧ t = { s with hif := t.hif, bnc := t.bnc, out := t.out } :=
  State.hostRow_refused hacc rfl fun b => by
    rw [cmdPassageAbort_eq (s := { s with bnc := b }) h h24 h30 h18, hidle, if_neg Bool.false_ne_true]

end Sys2Proof.Machine
end

section
/-! SUPPORT. Mirrors given new targets, circuits superseded by them, and plots changed in their table. -/

namespace Sys2Proof.Machine

open Safety

/-! ### Mirrors -/

@[simp] theorem State.mirror_updMirror (s : State) (m : Nat) (f : Mirror → Mirror) : (s.updMirror m f).mirror m = f (s.mirror m) :=
  Tbl.get_put _ _ _ _

theorem State.mirror_updMirror_ne (s : State) {m k : Nat} (f : Mirror → Mirror) (h : k ≠ m) :
    (s.updMirror m f).mirror k = s.mirror k :=
  Tbl.get_put_ne _ _ _ h

/-- A mirror given a target (R119). -/
def Mirror.aimed (x : Mirror) (a : Aim) : Mirror :=
  match x.st with
  | .failed => x
  | .dark => x
  | .moving => { x with pending := some a }
  | .acquiring => { x with pending := some a }
  | _ => { x with accepted := some a }

theorem Mirror.aimed_st (x : Mirror) (a : Aim) : (x.aimed a).st = x.st := by
  unfold Mirror.aimed
  split <;> rfl

theorem Mirror.aimed_accepted {x : Mirror} (a : Aim) (h : x.st = .parked ∨ x.st = .settled) :
    (x.aimed a).accepted = some a := by
  rcases h with h | h <;> simp [Mirror.aimed, h]

/-- Only mirrors differ, and each keeps its state. -/
def Retargeted (s t : State) : Prop :=
  (∃ mirrors, t = { s with plane := { s.plane with mirror := mirrors } }) ∧ ∀ m, (t.mirror m).st = (s.mirror m).st

theorem Retargeted.rfl {s : State} : Retargeted s s := ⟨⟨_, Eq.refl s⟩, fun _ => Eq.refl _⟩

theorem Retargeted.trans {s t u : State} : Retargeted s t → Retargeted t u → Retargeted s u := by
  rintro ⟨⟨_, rfl⟩, hst⟩ ⟨⟨_, rfl⟩, htu⟩
  exact ⟨⟨_, Eq.refl _⟩, fun m => (htu m).trans (hst m)⟩

theorem State.updMirror_retargeted (s : State) (m : Nat) {f : Mirror → Mirror} (hf : (f (s.mirror m)).st = (s.mirror m).st) :
    Retargeted s (s.updMirror m f) := by
  refine ⟨⟨_, Eq.refl _⟩, fun k => ?_⟩
  by_cases hk : k = m
  · rw [hk, State.mirror_updMirror, hf]
  · rw [State.mirror_updMirror_ne s f hk]

/-- A target is given by the state of the mirror (R119). -/
theorem State.aim_eq (s : State) (m : Nat) (a : Aim) :
    (s.aim m a = s ∧ (s.mirror m).aimed a = s.mirror m) ∨ s.aim m a = s.updMirror m (Mirror.aimed · a) := by
  cases h : (s.mirror m).st with
  | failed => exact .inl ⟨by simp [State.aim, h], by simp [Mirror.aimed, h]⟩
  | dark => exact .inl ⟨by simp [State.aim, h], by simp [Mirror.aimed, h]⟩
  | _ => exact .inr (by simp [State.aim, State.updMirror, Mirror.aimed, h])

theorem State.aim_spec (s : State) (m : Nat) (a : Aim) : Retargeted s (s.aim m a)
    ∧ (s.aim m a).mirror m = (s.mirror m).aimed a ∧ ∀ k, k ≠ m → (s.aim m a).mirror k = s.mirror k := by
  rcases s.aim_eq m a with ⟨h, hm⟩ | h
  · rw [h]
    exact ⟨Retargeted.rfl, hm.symm, fun _ _ => rfl⟩
  · rw [h]
    exact ⟨s.updMirror_retargeted m (Mirror.aimed_st _ _), s.mirror_updMirror m _, fun k hk => s.mirror_updMirror_ne _ hk⟩

theorem State.aim_retargeted (s : State) (m : Nat) (a : Aim) : Retargeted s (s.aim m a) := (s.aim_spec m a).1

@[simp] theorem State.mirror_aim (s : State) (m : Nat) (a : Aim) : (s.aim m a).mirror m = (s.mirror m).aimed a :=
  (s.aim_spec m a).2.1

theorem State.mirror_aim_ne (s : State) {m k : Nat} (a : Aim) (h : k ≠ m) : (s.aim m a).mirror k = s.mirror k :=
  (s.aim_spec m a).2.2 k h

/-! ### Plots -/

theorem State.find_updPlot (s : State) (id k : Nat) (f : Plot → Plot) :
    (s.updPlot id f).topo.plot.find k = (s.topo.plot.find k).map (fun p => if k == id then f p else p) :=
  Tbl.find_mapVal s.topo.plot (fun k p => if k == id then f p else p) k

theorem State.find_updPlot_self {s : State} {id : Nat} {p : Plot} (h : s.topo.plot.find id = some p) (f : Plot → Plot) :
    (s.updPlot id f).topo.plot.find id = some (f p) := by
  rw [State.find_updPlot, h]
  simp

theorem State.find_updPlot_ne (s : State) {id k : Nat} (f : Plot → Plot) (h : k ≠ id) :
    (s.updPlot id f).topo.plot.find k = s.topo.plot.find k := by
  rw [State.find_updPlot]
  simp [h]

/-- The ends of circuits. -/
def ends (cs : List Circuit) : List (Nat × Nat) := cs.map (fun c => (c.src, c.dst))

theorem targets_of_ends {cs ds : List Circuit} (h : ends cs = ends ds) : targets cs = targets ds := by
  have hends : ∀ cs, targets cs = (ends cs).flatMap
      (fun e => [(posOf e.1, Aim.face (posOf e.2)), (1024 + posOf e.2, Aim.face (posOf e.1))]) := fun cs => by
    rw [ends, List.flatMap_map]
    rfl
  rw [hends, hends, h]

/-- A plot after a mirror's new target: the circuits of a COMMITTING one that it replaces before they were made are
superseded (R119). -/
def Plot.supersede (p : Plot) (x : Nat × Aim) : Plot :=
  if p.st == 2 then
    { p with circuits := p.circuits.map (fun c =>
      if !c.made && !c.failed && ((mir0 c == x.1 && aim0 c != x.2) || (mir1 c == x.1 && aim1 c != x.2))
      then { c with superseded := true } else c) }
  else p

theorem Plot.supersede_of_ne {p : Plot} (x : Nat × Aim) (h : p.st ≠ 2) : p.supersede x = p := by
  simp [Plot.supersede, h]

theorem Plot.supersede_keeps (p : Plot) (x : Nat × Aim) :
    (p.supersede x).st = p.st ∧ ends (p.supersede x).circuits = ends p.circuits := by
  unfold Plot.supersede
  split
  · refine ⟨rfl, ?_⟩
    simp only [ends, List.map_map]
    refine List.map_congr_left fun c _ => ?_
    simp only [Function.comp]
    split <;> rfl
  · exact ⟨rfl, rfl⟩

/-! ### Moves of mirrors -/

/-- One move of a commit or a substitution: circuits superseded, and the mirror given its target (R119). -/
def State.retarget (s : State) (x : Nat × Aim) : State := (s.supersede x.1 x.2).aim x.1 x.2

/-- What a list of moves does: mirrors keep their states, and the plots are superseded in order. -/
theorem State.foldl_retarget_spec (l : List (Nat × Aim)) (s : State) :
    (∃ mirrors plots, l.foldl State.retarget s
        = { s with plane := { s.plane with mirror := mirrors }, topo := { s.topo with plot := plots } }
      ∧ ∀ k, plots.find k = (s.topo.plot.find k).map (fun p => l.foldl Plot.supersede p))
    ∧ (∀ m, ((l.foldl State.retarget s).mirror m).st = (s.mirror m).st)
    ∧ (∀ m, (∀ x ∈ l, x.1 ≠ m) → (l.foldl State.retarget s).mirror m = s.mirror m) := by
  induction l generalizing s with
  | nil => exact ⟨⟨_, _, rfl, fun k => by simp⟩, fun _ => rfl, fun _ _ => rfl⟩
  | cons x l ih =>
    obtain ⟨⟨mirrors, plots, heq, hfind⟩, hst, hother⟩ := ih (s.retarget x)
    obtain ⟨⟨⟨mirrors', haim⟩, hst'⟩, -, hother'⟩ := (s.supersede x.1 x.2).aim_spec x.1 x.2
    have hplot : ∀ k, (s.retarget x).topo.plot.find k = (s.topo.plot.find k).map (Plot.supersede · x) := fun k => by
      rw [State.retarget, haim]
      exact Tbl.find_mapVal s.topo.plot (fun _ p => p.supersede x) k
    refine ⟨⟨mirrors, plots, ?_, fun k => ?_⟩, fun m => (hst m).trans (hst' m), fun m hm => ?_⟩
    · rw [List.foldl_cons, heq, State.retarget, haim]
      rfl
    · rw [hfind, hplot, Option.map_map]
      rfl
    · have hx : m ≠ x.1 := fun h => hm x List.mem_cons_self h.symm
      exact (hother m fun y hy => hm y (List.mem_cons_of_mem _ hy)).trans (hother' m hx)

/-- Where no mirror is moved twice, each has been given the target of its move. -/
theorem State.mirror_foldl_retarget {l : List (Nat × Aim)} (hl : (l.map Prod.fst).Nodup) (s : State) {x : Nat × Aim}
    (hx : x ∈ l) : (l.foldl State.retarget s).mirror x.1 = (s.mirror x.1).aimed x.2 := by
  induction l generalizing s with
  | nil => cases hx
  | cons y l ih =>
    obtain ⟨hy, hl⟩ := List.nodup_cons.mp hl
    rcases List.mem_cons.mp hx with rfl | hx
    · have hlater : ∀ z ∈ l, z.1 ≠ x.1 := fun z hz h => hy (h ▸ List.mem_map_of_mem hz)
      exact ((State.foldl_retarget_spec l _).2.2 x.1 hlater).trans (State.mirror_aim _ _ _)
    · have hne : x.1 ≠ y.1 := fun h => hy (h ▸ List.mem_map_of_mem hx)
      exact (ih hl _ hx).trans (congrArg (Mirror.aimed · x.2) (State.mirror_aim_ne _ _ hne))

theorem Plot.foldl_supersede_keeps (l : List (Nat × Aim)) (p : Plot) :
    (l.foldl Plot.supersede p).st = p.st ∧ ends (l.foldl Plot.supersede p).circuits = ends p.circuits :=
  List.foldlRecOn l Plot.supersede (motive := fun q => q.st = p.st ∧ ends q.circuits = ends p.circuits) ⟨rfl, rfl⟩
    fun q hq x _ => ⟨(q.supersede_keeps x).1.trans hq.1, (q.supersede_keeps x).2.trans hq.2⟩

theorem Plot.foldl_supersede_of_ne (l : List (Nat × Aim)) {p : Plot} (h : p.st ≠ 2) : l.foldl Plot.supersede p = p :=
  List.foldlRecOn l Plot.supersede (motive := fun q => q = p) rfl fun _ hq x _ => by rw [hq, Plot.supersede_of_ne x h]

/-! ### Mirrors sent to park (R50) -/

/-- A mirror of a plot that is being released: one at park drops its targets, any other is sent there. -/
def State.sendToPark (s : State) (x : Nat × Aim) : State :=
  if (s.mirror x.1).st == .parked then s.updMirror x.1 (fun m => { m with accepted := none, pending := none, goal := .park })
  else s.aim x.1 .park

theorem State.sendToPark_retargeted (s : State) (x : Nat × Aim) : Retargeted s (s.sendToPark x) := by
  unfold State.sendToPark
  split
  · exact s.updMirror_retargeted x.1 rfl
  · exact s.aim_retargeted x.1 .park

theorem State.mirror_sendToPark_ne (s : State) {x : Nat × Aim} {m : Nat} (h : m ≠ x.1) :
    (s.sendToPark x).mirror m = s.mirror m := by
  unfold State.sendToPark
  split
  · exact s.mirror_updMirror_ne _ h
  · exact s.mirror_aim_ne _ h

theorem State.foldl_sendToPark_retargeted (l : List (Nat × Aim)) (s : State) : Retargeted s (l.foldl State.sendToPark s) :=
  List.foldlRecOn l State.sendToPark (motive := Retargeted s) Retargeted.rfl
    fun t ht x _ => ht.trans (t.sendToPark_retargeted x)

/-- A settled mirror of the list has accepted park, and keeps it through the rest. -/
theorem State.accepted_foldl_sendToPark {l : List (Nat × Aim)} {s : State} {m : Nat} (hst : (s.mirror m).st = .settled)
    (hm : (∃ x ∈ l, x.1 = m) ∨ (s.mirror m).accepted = some .park) :
    ((l.foldl State.sendToPark s).mirror m).accepted = some .park := by
  induction l generalizing s with
  | nil => simpa using hm
  | cons y l ih =>
    have hst' : ((s.sendToPark y).mirror m).st = .settled := ((s.sendToPark_retargeted y).2 m).trans hst
    refine ih hst' ?_
    by_cases hy : m = y.1
    · right
      have haim : s.sendToPark y = s.aim m .park := by simp [State.sendToPark, ← hy, hst]
      rw [haim, State.mirror_aim, Mirror.aimed_accepted _ (.inr hst)]
    · rw [State.mirror_sendToPark_ne s hy]
      refine hm.imp_left fun ⟨x, hx, hxm⟩ => ⟨x, (List.mem_cons.mp hx).resolve_left fun h => hy (h ▸ hxm.symm), hxm⟩

/-! ### Releases (R50) -/

/-- A plot one of whose mirrors is settled is not at park. -/
theorem State.plotParked_of_settled {s : State} {p : Plot} {x : Nat × Aim} (hx : x ∈ targets p.circuits)
    (hst : (s.mirror x.1).st = .settled) : s.plotParked p = false := by
  obtain ⟨c, hc, hxc⟩ := List.mem_flatMap.mp hx
  refine List.all_eq_false.mpr ⟨c, hc, ?_⟩
  simp only [List.mem_cons, List.not_mem_nil, or_false] at hxc
  rcases hxc with rfl | rfl
  all_goals simp [hst]

theorem State.finishReleases_of_none {s : State}
    (h : ∀ e ∈ s.topo.plot, e.2.releasing = true → s.plotParked e.2 = false) : s.finishReleases = s := by
  have hnone : s.topo.plot.filter (fun e => e.2.releasing && s.plotParked e.2) = [] :=
    List.filter_eq_nil_iff.mpr fun e he => by
      rw [Bool.and_eq_true]
      exact fun ⟨hr, hp⟩ => Bool.false_ne_true ((h e he hr).symm.trans hp)
  rw [State.finishReleases, hnone, List.foldl_nil]

/-- A plot in release. -/
def Plot.release (p : Plot) : Plot := { p with releasing := true }

theorem State.releasePlot_def (s : State) (id : Nat) (p : Plot) :
    s.releasePlot id p = ((targets p.circuits).foldl State.sendToPark (s.updPlot id Plot.release)).finishReleases := rfl

/-- The release of a plot one of whose mirrors is settled: its mirrors are sent to park, and nothing ends yet. -/
theorem State.releasePlot_eq {s : State} {id : Nat} {p : Plot} {x : Nat × Aim}
    (hplots : ∀ e ∈ s.topo.plot, e.2.releasing = false ∧ (e.1 = id → e.2 = p)) (hx : x ∈ targets p.circuits)
    (hst : (s.mirror x.1).st = .settled) :
    (∃ mirrors, s.releasePlot id p = { s with plane := { s.plane with mirror := mirrors }
                                              topo := (s.updPlot id Plot.release).topo })
      ∧ ((s.releasePlot id p).mirror x.1).accepted = some .park := by
  obtain ⟨⟨mirrors, heq⟩, hkept⟩ := State.foldl_sendToPark_retargeted (targets p.circuits) (s.updPlot id Plot.release)
  have hnone : ((targets p.circuits).foldl State.sendToPark (s.updPlot id Plot.release)).finishReleases
      = (targets p.circuits).foldl State.sendToPark (s.updPlot id Plot.release) := by
    refine State.finishReleases_of_none fun e he hr => ?_
    have hplot : e ∈ s.topo.plot.mapVal (fun k p => if k == id then p.release else p) := by
      rw [heq] at he
      exact he
    obtain ⟨y, hy, rfl⟩ := List.mem_map.mp hplot
    obtain ⟨hnot, hp⟩ := hplots y hy
    by_cases hid : y.1 = id
    · refine State.plotParked_of_settled (x := x) ?_ ((hkept x.1).trans hst)
      simpa [hid, hp hid, Plot.release] using hx
    · simp [hid, hnot] at hr
  rw [State.releasePlot_def, hnone]
  exact ⟨⟨mirrors, heq⟩, State.accepted_foldl_sendToPark hst (.inl ⟨x, hx, rfl⟩)⟩

end Sys2Proof.Machine
end

section
/-! SUPPORT. SLICE_RESET of a slice without passages, and the release of an ACTIVE plot that waits for its mirrors; and
statement O23. -/

namespace Sys2Proof.Machine

open Safety

/-! ### Tables with entries dropped by key -/

theorem find_filter_key {α : Type} (t : Tbl α) (p : Nat → Bool) {k : Nat} (h : p k = true) :
    Tbl.find (t.filter (fun e => p e.1)) k = t.find k := by
  induction t with
  | nil => rfl
  | cons e t ih =>
    obtain ⟨j, w⟩ := e
    by_cases hj : j = k
    · subst hj
      simp [h, Tbl.find]
    · cases hp : p j
      · simpa [hp, Tbl.find, hj] using ih
      · simpa [hp, Tbl.find, hj] using ih

/-! ### Step 2 of R328: the plots -/

/-- Discarding PLOTTED plots drops their keys from the table. -/
theorem State.foldl_discard (l : List (Nat × Plot)) (hl : ∀ e ∈ l, e.2.st = 1) (s : State) :
    ∃ plots, l.foldl (fun s e => if e.2.st == 1 then { s with topo := { s.topo with plot := s.topo.plot.del e.1 } }
        else s.releasePlot e.1 e.2) s = { s with topo := { s.topo with plot := plots } }
      ∧ ∀ e ∈ plots, e ∈ s.topo.plot ∧ ∀ x ∈ l, e.1 ≠ x.1 := by
  induction l generalizing s with
  | nil => exact ⟨_, rfl, fun e he => ⟨he, fun _ hx => absurd hx List.not_mem_nil⟩⟩
  | cons y l ih =>
    obtain ⟨plots, heq, hplots⟩ := ih (fun e he => hl e (List.mem_cons_of_mem _ he))
      { s with topo := { s.topo with plot := s.topo.plot.del y.1 } }
    refine ⟨plots, ?_, fun e he => ?_⟩
    · simp only [List.foldl_cons, hl y List.mem_cons_self, beq_self_eq_true, if_true]
      exact heq
    · obtain ⟨hmem, hne⟩ := hplots e he
      obtain ⟨hmem, hy⟩ := List.mem_filter.mp hmem
      refine ⟨hmem, fun x hx => ?_⟩
      rcases List.mem_cons.mp hx with rfl | hx
      · simpa using hy
      · exact hne x hx

/-- Step 2 of a SLICE_RESET of a slice whose plots are all PLOTTED: they go. -/
theorem State.resetPlots_of_plotted {s : State} {n : Nat}
    (h : ∀ e ∈ s.topo.plot, e.2.slice = n → e.2.st = 1 ∧ e.2.releasing = false) :
    ∃ plots, s.resetPlots n = ({ s with topo := { s.topo with plot := plots } }, true) ∧ ∀ e ∈ plots, e.2.slice ≠ n := by
  have hidle : s.plotBusy n = false := List.any_eq_false.mpr fun e he hbusy => by
    rw [Bool.and_eq_true, beq_iff_eq] at hbusy
    obtain ⟨hst, hrel⟩ := h e he hbusy.1
    simp [hst, hrel] at hbusy
  have hst : ∀ e ∈ s.topo.plot.filter (fun e => e.2.slice == n), e.2.st = 1 := fun e he =>
    have ⟨hmem, hn⟩ := List.mem_filter.mp he
    (h e hmem (by simpa using hn)).1
  obtain ⟨plots, heq, hplots⟩ := State.foldl_discard _ hst s
  have hgone : ∀ e ∈ plots, e.2.slice ≠ n := fun e he hn =>
    (hplots e he).2 e (List.mem_filter.mpr ⟨(hplots e he).1, by simpa using hn⟩) rfl
  have hnone : plots.any (fun e => e.2.slice == n) = false :=
    List.any_eq_false.mpr fun e he => by simpa using hgone e he
  refine ⟨plots, ?_, hgone⟩
  have hrelease : s.releasePlots n = { s with topo := { s.topo with plot := plots } } := heq
  simp [State.resetPlots, hidle, hrelease, hnone]

/-! ### Step 3 of R328: the queues -/

theorem State.foldl_orphan (scope : Nat) (qs : List Nat) (s : State) :
    ∃ n, qs.foldl (fun s q => s.orphan scope (fun i => i == q)) s = { s with bnc := n } := by
  induction qs generalizing s with
  | nil => exact ⟨_, rfl⟩
  | cons q qs ih =>
    obtain ⟨n, heq⟩ := ih (s.orphan scope (fun i => i == q))
    exact ⟨n, heq⟩

/-- The FM's state with the queues `qs` freed and none of their requests under way. -/
def Fm.freed (f : Fm) (qs : List Nat) : Fm :=
  { f with queue := f.queue.filter (fun e => !qs.contains e.1), reqs := f.reqs.filter (fun r => !qs.contains r.qp)
           ops := f.ops.filter (fun o => !([] : List Nat).contains o.ref)
           lostRsp := f.lostRsp.filter (fun x => !qs.contains x.1) }

/-- Step 3 where no request of the slice's queues is outstanding: its queues are free. -/
theorem State.freeQueues_of_idle {s : State} {n : Nat}
    (h : ∀ q ∈ s.fm.reqs, ∀ e ∈ s.fm.queue, e.1 = q.qp → e.2.slice ≠ n) :
    ∃ b f, s.freeQueues n = { s with bnc := b, fm := f } ∧ ∀ e ∈ f.queue, e.2.slice = n → e.2.st = 0 := by
  obtain ⟨qs, hqs⟩ : ∃ qs, (s.fm.queue.filter (fun e => e.2.slice == n && e.2.st != 0)).map Prod.fst = qs := ⟨_, rfl⟩
  have hmine : s.fm.reqs.filter (fun r => qs.contains r.qp) = [] := List.filter_eq_nil_iff.mpr fun r hr hmem => by
    rw [List.contains_iff_mem, ← hqs] at hmem
    obtain ⟨e, he, hqp⟩ := List.mem_map.mp hmem
    obtain ⟨hmem, hslice⟩ := List.mem_filter.mp he
    rw [Bool.and_eq_true, beq_iff_eq] at hslice
    exact h r hr e hmem hqp hslice.1
  obtain ⟨b, heq⟩ := State.foldl_orphan 3 qs { s with fm := s.fm.freed qs }
  refine ⟨b, s.fm.freed qs, ?_, fun e he hslice => ?_⟩
  · simp only [State.freeQueues, hqs, hmine, List.map_nil]
    exact heq
  · obtain ⟨hmem, hout⟩ := List.mem_filter.mp he
    by_contra hst
    have hin : e.1 ∈ qs := hqs ▸ List.mem_map_of_mem (List.mem_filter.mpr ⟨hmem, by simp [hslice, hst]⟩)
    simp [hin] at hout

/-! ### SLICE_RESET of a slice without passages -/

/-- With no passage to end, a SLICE_RESET goes straight to its plots. -/
theorem cmdSliceReset_eq {r : Req} {s : State} (hz : r.z 16 = true) (hslice : s.hasSlice r.slice = true)
    (hpassages : s.passagesOf r.slice = []) :
    cmdSliceReset r s = if (s.resetPlots r.slice).2 = true
      then .done (((s.resetPlots r.slice).1.freeQueues r.slice).dropObjects r.slice) 0 0 ((s.resetPlots r.slice).1.queueCount r.slice)
      else .wait (s.resetPlots r.slice).1 (.park r.slice 0) := by
  simp [cmdSliceReset, ranges, hz, sliceChk_of_hasSlice hslice, hpassages, ok]

theorem sliceReset_completes (r : Req) (s : State) (hacc : accepts 0x0104 r s = true) (hz : r.z 16 = true)
    (hslice : s.hasSlice r.slice = true) (hpassages : s.passagesOf r.slice = [])
    (hplots : ∀ e ∈ s.topo.plot, e.2.slice = r.slice → e.2.st = 1 ∧ e.2.releasing = false)
    (hreqs : ∀ q ∈ s.fm.reqs, ∀ e ∈ s.fm.queue, e.1 = q.qp → e.2.slice ≠ r.slice) :
    ∃ t, exec (.sliceReset r) s = .next t ∧ Completed r s t 0 0 (s.queueCount r.slice)
      ∧ (∀ e ∈ t.topo.plot, e.2.slice ≠ r.slice) ∧ (∀ e ∈ t.fm.queue, e.2.slice = r.slice → e.2.st = 0)
      ∧ (∀ e ∈ t.skk.binding, e.1 / 65536 ≠ r.slice) ∧ (∀ e ∈ t.skk.prog, e.1 / 32 ≠ r.slice)
      ∧ (∀ e ∈ t.skk.resid, e.1 / 65536 ≠ r.slice)
      ∧ (∀ k, k / 65536 ≠ r.slice → t.skk.binding.find k = s.skk.binding.find k ∧ t.skk.resid.find k = s.skk.resid.find k)
      ∧ (∀ k, k / 32 ≠ r.slice → t.skk.prog.find k = s.skk.prog.find k) ∧ t.topo.slice = s.topo.slice
      ∧ t = { s with hif := { s.hif with ring := t.hif.ring }, bnc := t.bnc, out := t.out
                     topo := { s.topo with plot := t.topo.plot }, fm := t.fm
                     skk := { s.skk with binding := t.skk.binding, prog := t.skk.prog, resid := t.skk.resid } } := by
  have hreset := fun b => State.resetPlots_of_plotted (s := { s with bnc := b }) hplots
  choose plots hreset hgone using hreset
  have hfree := fun b => State.freeQueues_of_idle (s := { s with bnc := b, topo := { s.topo with plot := plots b } }) hreqs
  choose n f hfree hqueue using hfree
  obtain ⟨u, hu, hc, hs, b, ring, n', o, rfl, -⟩ := State.hostRow_completes (run := cmdSliceReset) (st := 0) (w0 := 0)
    (w1 := s.queueCount r.slice)
    (fun b => State.dropObjects { s with bnc := n b, topo := { s.topo with plot := plots b }, fm := f b } r.slice) hacc rfl
    (fun b => by
      rw [cmdSliceReset_eq (s := { s with bnc := b }) hz hslice hpassages, hreset b, if_pos rfl]
      exact congrArg (fun t => CmdOut.done (State.dropObjects t r.slice) 0 0 (s.queueCount r.slice)) (hfree b))
    (fun b => ⟨rfl, rfl⟩)
  exact ⟨_, hu, hc, hgone b, hqueue b, fun e he => by simpa using (List.mem_filter.mp he).2,
    fun e he => by simpa using (List.mem_filter.mp he).2, fun e he => by simpa using (List.mem_filter.mp he).2,
    fun k hk => ⟨find_filter_key _ (fun j => j / 65536 != r.slice) (by simpa using hk),
      find_filter_key _ (fun j => j / 65536 != r.slice) (by simpa using hk)⟩,
    fun k hk => find_filter_key _ (fun j => j / 32 != r.slice) (by simpa using hk), rfl, rfl⟩

/-- Step 2 of a SLICE_RESET that finds one ACTIVE plot with a mirror not yet at park. -/
theorem State.resetPlots_of_active {s : State} {n id : Nat} {p : Plot} {x : Nat × Aim} (hplot : s.topo.plot = [(id, p)])
    (hslice : p.slice = n) (hst : p.st = 3) (hrel : p.releasing = false) (hx : x ∈ targets p.circuits)
    (hmirror : (s.mirror x.1).st = .settled) :
    ∃ t mirrors, s.resetPlots n = (t, false) ∧ (t.mirror x.1).accepted = some .park
      ∧ t = { s with plane := { s.plane with mirror := mirrors }, topo := { s.topo with plot := [(id, p.release)] } } := by
  have hidle : s.plotBusy n = false := by simp [State.plotBusy, hplot, hst, hrel]
  have hrelease : s.releasePlots n = s.releasePlot id p := by simp [State.releasePlots, hplot, hslice, hst]
  obtain ⟨⟨mirrors, heq⟩, haim⟩ := State.releasePlot_eq (s := s) (id := id) (p := p)
    (fun e he => by simp only [hplot, List.mem_singleton] at he; simp [he, hrel]) hx hmirror
  have hplots : (s.updPlot id Plot.release).topo = { s.topo with plot := [(id, p.release)] } := by
    simp [State.updPlot, State.updPlots, hplot, Tbl.mapVal]
  rw [hplots] at heq
  refine ⟨s.releasePlot id p, mirrors, ?_, haim, heq⟩
  have hstands : (s.releasePlot id p).topo.plot.any (fun e => e.2.slice == n) = true := by simp [heq, Plot.release, hslice]
  simp [State.resetPlots, hidle, hrelease, hstands]

theorem sliceReset_waits (r : Req) (id : Nat) (p : Plot) (x : Nat × Aim) (s : State) (hacc : accepts 0x0104 r s = true)
    (hz : r.z 16 = true) (hslice : s.hasSlice r.slice = true) (hpassages : s.passagesOf r.slice = [])
    (hplot : s.topo.plot = [(id, p)]) (hown : p.slice = r.slice) (hst : p.st = 3) (hrel : p.releasing = false)
    (hx : x ∈ targets p.circuits) (hmirror : (s.mirror x.1).st = .settled) :
    ∃ t, exec (.sliceReset r) s = .next t ∧ Waits 0x0104 r t (.park r.slice 0) ∧ t.out = s.out
      ∧ t.topo.plot = [(id, { p with releasing := true })] ∧ (t.mirror x.1).accepted = some .park
      ∧ (∃ e, t.hif = { s.hif with execs := s.hif.execs ++ [e] }) ∧ Traced s t
      ∧ t = { s with hif := t.hif, bnc := t.bnc, plane := { s.plane with mirror := t.plane.mirror }
                     topo := { s.topo with plot := t.topo.plot } } := by
  have hreset := fun b => State.resetPlots_of_active (s := { s with bnc := b }) hplot hown hst hrel hx hmirror
  choose t mirrors hreset haim hframe using hreset
  obtain ⟨u, hu, hw, hout, hexec, htraced, b, h, rfl⟩ := State.hostRow_waits (run := cmdSliceReset) t hacc rfl
    (fun b => by
      rw [cmdSliceReset_eq (s := { s with bnc := b }) hz hslice hpassages, hreset b, if_neg Bool.false_ne_true])
    (fun b => by
      rw [hframe b]
      exact ⟨rfl, rfl, rfl⟩)
  refine ⟨_, hu, hw, hout, ?_, haim b, hexec, htraced, ?_⟩
  · rw [hframe b]
    rfl
  · rw [hframe b]

theorem sliceReset_refused (r : Req) (s : State) (hacc : accepts 0x0104 r s = true) (hz : r.z 16 = true)
    (hslice : s.hasSlice r.slice = false) :
    ∃ t, exec (.sliceReset r) s = .next t ∧ Completed r s t 0x0302 r.slice 0 ∧ Silent s t ∧ Quiet r s t
      ∧ t = { s with hif := t.hif, bnc := t.bnc, out := t.out } :=
  State.hostRow_refused hacc rfl fun b => by
    have hchk : sliceChk { s with bnc := b } r.slice = some (0x0302, r.slice, 0) := by
      rw [sliceChk]
      exact congrArg (fun ok => chk ok 0x0302 r.slice 0) hslice
    simp only [cmdSliceReset, ranges, hz, hchk]
    rfl

end Sys2Proof.Machine

namespace Sys2Proof.Proofs

open Sys2Proof.Machine

/-- Settles O23: RESUME and ABORT by what they make of the passage, SLICE_RESET by its plots: none busy, one ACTIVE, no slice. -/
theorem resumesAbortsAndSliceResets : Obligations.ResumesAbortsAndSliceResets :=
  ⟨⟨passageResume_runs, passageResume_refused, passageAbort_aborts, passageAbort_refused⟩,
    sliceReset_completes, sliceReset_waits, sliceReset_refused⟩

end Sys2Proof.Proofs
end

section
/-! SUPPORT. Commits of charts (R47 to R50): a plot that starts to commit, probes that yield to it, commits that end; and
statement O16. -/

namespace Sys2Proof.Machine

open Safety

/-! ### Probes that yield (R307) -/

/-- Only mirrors and what discovery keeps of T ports differ, and each mirror keeps its state. -/
def Reprobed (s t : State) : Prop :=
  (∃ mirrors ports, t = { s with plane := { s.plane with mirror := mirrors }, topo := { s.topo with tport := ports } })
    ∧ ∀ m, (t.mirror m).st = (s.mirror m).st

theorem Reprobed.rfl {s : State} : Reprobed s s := ⟨⟨_, _, Eq.refl s⟩, fun _ => Eq.refl _⟩

theorem Reprobed.trans {s t u : State} : Reprobed s t → Reprobed t u → Reprobed s u := by
  rintro ⟨⟨_, _, rfl⟩, hst⟩ ⟨⟨_, _, rfl⟩, htu⟩
  exact ⟨⟨_, _, Eq.refl _⟩, fun m => (htu m).trans (hst m)⟩

theorem Retargeted.reprobed {s t : State} : Retargeted s t → Reprobed s t := by
  rintro ⟨⟨_, rfl⟩, hst⟩
  exact ⟨⟨_, _, Eq.refl _⟩, hst⟩

theorem State.updTp_reprobed (s : State) (t : Nat) (f : TPort → TPort) : Reprobed s (s.updTp t f) :=
  ⟨⟨_, _, Eq.refl _⟩, fun _ => Eq.refl _⟩

theorem State.endProbe_reprobed (s : State) (t : Nat) : Reprobed s (s.endProbe t) := by
  unfold State.endProbe
  split
  · exact Reprobed.rfl
  · exact ((((s.aim_retargeted _ _).trans (State.aim_retargeted _ _ _)).trans (State.aim_retargeted _ _ _)).trans
      (State.aim_retargeted _ _ _)).reprobed.trans (State.updTp_reprobed _ _ _)

theorem State.yieldProbes_reprobed (s : State) (ports : List Nat) : Reprobed s (s.yieldProbes ports) :=
  List.foldlRecOn _ _ (motive := Reprobed s) Reprobed.rfl
    fun t ht x _ => ht.trans ((t.endProbe_reprobed x.1).trans (State.updTp_reprobed _ _ _))

/-! ### The start of a commit -/

theorem State.plotOf_eq {s : State} {slice id : Nat} {p : Plot} (h : s.topo.plot.find id = some p) (hslice : p.slice = slice) :
    s.plotOf slice id = some p := by
  simp [State.plotOf, h, hslice]

section
variable {r : Req} {s : State} {p : Plot} (hid : 1 ≤ r.p 16 2) (hz : r.z 32 = true) (hslice : s.hasSlice r.slice = true)
  (hplot : s.topo.plot.find (r.p 16 2) = some p) (hown : p.slice = r.slice)
include hid hz hslice hplot hown

/-- What a chart command judges first of a plot that is there: that no plot of the slice commits or releases. -/
theorem guarded_plotCmdChecks (cs : List Chk) (f : CmdOut) :
    guarded s (plotCmdChecks r s ++ cs) f = match s.busyPlot r.slice with
      | some b => .done s 0x0601 b.1 0
      | none => guarded s cs f := by
  simp only [plotCmdChecks, ranges, hid, hz, decide_true, if_true, sliceChk_of_hasSlice hslice, State.plotOf_eq hplot hown,
    Option.isSome_some, chk_true, List.cons_append, List.nil_append, guarded_none]
  cases s.busyPlot r.slice <;> rfl

end

/-- The circuits of the ACTIVE plot of a slice. -/
def State.activeCircuits (s : State) (n : Nat) : List Circuit :=
  match s.activePlot n with
  | some o => o.2.circuits
  | none => []

/-- A circuit of a plot as its commit starts: made already where the ACTIVE plot has it (R47, R124). -/
def State.committing (s : State) (old : List Circuit) (c : Circuit) : Circuit :=
  let waits := fun (c : Circuit) => s.hvLost || (decide (refClass c.dst = 0) && s.openAt (posOf c.dst))
  match old.find? (fun d => d.src == c.src && d.dst == c.dst) with
  | some d => { c with made := d.made, failed := d.failed, loss := d.loss, waits := d.waits || waits c }
  | none => { c with waits := waits c }

theorem State.ends_committing (s : State) (old cs : List Circuit) : ends (cs.map (s.committing old)) = ends cs := by
  simp only [ends, List.map_map]
  refine List.map_congr_left fun c _ => ?_
  simp only [Function.comp, State.committing]
  split <;> rfl

/-- A plot COMMITTING with its circuits. -/
def Plot.commit (p : Plot) (cs : List Circuit) : Plot := { p with st := 2, circuits := cs }

/-- The slice's plot `id` starts to commit with circuits `cs` (R47). -/
def State.startCommit (s : State) (old cs : List Circuit) (id : Nat) : State :=
  ((movesOf old cs).foldl State.retarget
    ((s.yieldProbes (cs.flatMap (fun c => [c.src, c.dst]))).updPlot id (Plot.commit · cs))).enterCircuits cs

theorem State.startCommit_spec {s : State} {id : Nat} {p : Plot} (h : s.topo.plot.find id = some p) (old cs : List Circuit) :
    ∃ q mirrors plots ports, s.startCommit old cs id = { s with
        plane := { s.plane with mirror := mirrors }, topo := { s.topo with plot := plots, tport := ports } }
      ∧ plots.find id = some q ∧ q.st = 2 ∧ ends q.circuits = ends cs
      ∧ (((movesOf old cs).map Prod.fst).Nodup → ∀ x ∈ movesOf old cs, (s.mirror x.1).st = .parked →
          ((s.startCommit old cs id).mirror x.1).accepted = some x.2) := by
  obtain ⟨⟨m1, p1, hyield⟩, hyieldst⟩ := s.yieldProbes_reprobed (cs.flatMap (fun c => [c.src, c.dst]))
  have hplot : ((s.yieldProbes (cs.flatMap (fun c => [c.src, c.dst]))).updPlot id (Plot.commit · cs)).topo.plot.find id
      = some (p.commit cs) := State.find_updPlot_self (by rw [hyield]; exact h) _
  obtain ⟨⟨m2, plots, hmove, hfind⟩, -, -⟩ := State.foldl_retarget_spec (movesOf old cs)
    ((s.yieldProbes (cs.flatMap (fun c => [c.src, c.dst]))).updPlot id (Plot.commit · cs))
  obtain ⟨hst, hends⟩ := Plot.foldl_supersede_keeps (movesOf old cs) (p.commit cs)
  refine ⟨(movesOf old cs).foldl Plot.supersede (p.commit cs), m2, plots, (s.startCommit old cs id).topo.tport, ?_, ?_, hst, hends,
    fun hnodup x hx hparked => ?_⟩
  · rw [State.startCommit, hmove, hyield]
    rfl
  · rw [hfind, hplot]
    rfl
  · refine (congrArg Mirror.accepted (State.mirror_foldl_retarget hnodup _ hx)).trans (Mirror.aimed_accepted _ (.inl ?_))
    exact (hyieldst x.1).trans hparked

theorem movesOf_nil (cs : List Circuit) : movesOf [] cs = targets cs := by simp [movesOf, targets]

theorem cmdChartCommit_eq {r : Req} {s : State} {p : Plot} (hplot : s.topo.plot.find (r.p 16 2) = some p) (hown : p.slice = r.slice) :
    cmdChartCommit r s = guarded s (plotCmdChecks r s ++ [chk (p.st == 1) 0x0301 p.st 0,
        match s.activePlot r.slice, s.runningPassage r.slice with
        | some _, some e => some (0x0301, e.2.st.code, 0)
        | _, _ => none])
      (.wait (s.startCommit (s.activeCircuits r.slice) (p.circuits.map (s.committing (s.activeCircuits r.slice))) (r.p 16 2))
        (.commit r.slice (r.p 16 2))) := by
  simp only [cmdChartCommit, State.plotOf_eq hplot hown, Option.getD_some]
  rfl

theorem chartCommit_waits (r : Req) (p : Plot) (s : State) (hacc : accepts 0x0203 r s = true) (hid : 1 ≤ r.p 16 2)
    (hz : r.z 32 = true) (hslice : s.hasSlice r.slice = true) (hplot : s.topo.plot.find (r.p 16 2) = some p)
    (hown : p.slice = r.slice) (hst : p.st = 1) (hbusy : s.busyPlot r.slice = none)
    (hfree : s.activePlot r.slice = none ∨ s.runningPassage r.slice = none) :
    ∃ t q, exec (.chartCommit r) s = .next t ∧ Waits 0x0203 r t (.commit r.slice (r.p 16 2)) ∧ t.out = s.out
      ∧ t.topo.plot.find (r.p 16 2) = some q ∧ q.st = 2
      ∧ q.circuits.map (fun c => (c.src, c.dst)) = p.circuits.map (fun c => (c.src, c.dst))
      ∧ (s.activePlot r.slice = none → ((targets p.circuits).map Prod.fst).Nodup →
          ∀ x ∈ targets p.circuits, (s.mirror x.1).st = .parked → (t.mirror x.1).accepted = some x.2)
      ∧ (∃ e, t.hif = { s.hif with execs := s.hif.execs ++ [e] }) ∧ Traced s t
      ∧ t = { s with hif := t.hif, bnc := t.bnc, plane := { s.plane with mirror := t.plane.mirror }
                     topo := { s.topo with plot := t.topo.plot, tport := t.topo.tport } } := by
  have hends := s.ends_committing (s.activeCircuits r.slice) p.circuits
  obtain ⟨cs, hcs⟩ : ∃ cs, p.circuits.map (s.committing (s.activeCircuits r.slice)) = cs := ⟨_, rfl⟩
  rw [hcs] at hends
  have hspec := fun b => State.startCommit_spec (s := { s with bnc := b }) hplot (s.activeCircuits r.slice) cs
  obtain ⟨u, hu, hw, hout, hexec, htraced, b, h, rfl⟩ := State.hostRow_waits (run := cmdChartCommit)
    (w := .commit r.slice (r.p 16 2))
    (fun b => State.startCommit { s with bnc := b } (s.activeCircuits r.slice) cs (r.p 16 2)) hacc rfl
    (fun b => by
      have hpassage : (match s.activePlot r.slice, s.runningPassage r.slice with
          | some _, some e => some (0x0301, e.2.st.code, 0)
          | _, _ => none : Chk) = none := by
        rcases hfree with h | h <;> rw [h]
        cases s.activePlot r.slice <;> rfl
      rw [cmdChartCommit_eq (s := { s with bnc := b }) hplot hown,
        guarded_plotCmdChecks (s := { s with bnc := b }) hid hz hslice hplot hown, ← hcs]
      have hbusy : State.busyPlot { s with bnc := b } r.slice = none := hbusy
      simp only [hbusy, hst, beq_self_eq_true, chk_true, guarded_none]
      exact congrArg (fun c => guarded { s with bnc := b } [c] _) hpassage)
    (fun b => by
      obtain ⟨_, _, _, _, heq, -⟩ := hspec b
      rw [heq]
      exact ⟨rfl, rfl, rfl⟩)
  obtain ⟨q, mirrors, plots, ports, heq, hfind, hq, hqends, haim⟩ := hspec b
  refine ⟨_, q, hu, hw, hout, ?_, hq, hqends.trans hends, fun hactive hnodup x hx hparked => ?_, hexec, htraced, ?_⟩
  · rw [heq]
    exact hfind
  · have hmoves : movesOf (s.activeCircuits r.slice) cs = targets p.circuits := by
      rw [State.activeCircuits, hactive, movesOf_nil, targets_of_ends hends]
    rw [hmoves] at haim
    exact haim hnodup x hx hparked
  · rw [heq]

theorem chartCommit_busy (r : Req) (b : Nat × Plot) (p : Plot) (s : State) (hacc : accepts 0x0203 r s = true) (hid : 1 ≤ r.p 16 2)
    (hz : r.z 32 = true) (hslice : s.hasSlice r.slice = true) (hplot : s.topo.plot.find (r.p 16 2) = some p)
    (hown : p.slice = r.slice) (hbusy : s.busyPlot r.slice = some b) :
    ∃ t, exec (.chartCommit r) s = .next t ∧ Completed r s t 0x0601 b.1 0 ∧ Silent s t ∧ Quiet r s t
      ∧ t = { s with hif := t.hif, bnc := t.bnc, out := t.out } :=
  State.hostRow_refused hacc rfl fun n => by
    rw [cmdChartCommit_eq (s := { s with bnc := n }) hplot hown,
      guarded_plotCmdChecks (s := { s with bnc := n }) hid hz hslice hplot hown]
    have hbusy : State.busyPlot { s with bnc := n } r.slice = some b := hbusy
    rw [hbusy]

theorem chartCommit_underPassage (r : Req) (o : Nat × Plot) (e : Nat × Passage) (p : Plot) (s : State)
    (hacc : accepts 0x0203 r s = true) (hid : 1 ≤ r.p 16 2) (hz : r.z 32 = true) (hslice : s.hasSlice r.slice = true)
    (hplot : s.topo.plot.find (r.p 16 2) = some p) (hown : p.slice = r.slice) (hst : p.st = 1)
    (hbusy : s.busyPlot r.slice = none) (hactive : s.activePlot r.slice = some o) (hrun : s.runningPassage r.slice = some e) :
    ∃ t, exec (.chartCommit r) s = .next t ∧ Completed r s t 0x0301 e.2.st.code 0 ∧ Silent s t ∧ Quiet r s t
      ∧ t = { s with hif := t.hif, bnc := t.bnc, out := t.out } :=
  State.hostRow_refused hacc rfl fun n => by
    rw [cmdChartCommit_eq (s := { s with bnc := n }) hplot hown,
      guarded_plotCmdChecks (s := { s with bnc := n }) hid hz hslice hplot hown]
    have hbusy : State.busyPlot { s with bnc := n } r.slice = none := hbusy
    have hactive : State.activePlot { s with bnc := n } r.slice = some o := hactive
    have hrun : State.runningPassage { s with bnc := n } r.slice = some e := hrun
    simp only [hbusy, hactive, hrun, hst, beq_self_eq_true, chk_true, guarded_none, guarded_some]

/-! ### The end of a commit -/

/-- A waiting command completes on an enabled ring, host memory answering. -/
theorem State.completeExec_eq {s : State} {e : Exec} (st w0 w1 : Nat) (hkept : e.discard = false) (hdma : e.dma = .ok)
    (hring : (s.ring e.fn e.ring).st ≠ .disabled) :
    ∃ c ring b, s.completeExec e st w0 w1 = { s with
        hif := { s.hif with ring := ring, execs := s.hif.execs.erase e }, bnc := b
        out := s.out ++ [.completion e.fn e.ring (s.ring e.fn e.ring).cplIndex c] }
      ∧ c.tag = e.tag % 2 ^ 32 ∧ c.status = st ∧ c.word0 = w0 % 2 ^ 64 ∧ c.word1 = w1 % 2 ^ 64
      ∧ b = { s.bnc with trace := b.trace, events := b.events } := by
  have hon : (State.ring { s with hif := { s.hif with execs := s.hif.execs.erase e } } e.fn e.ring).st ≠ .disabled := hring
  obtain ⟨u, hu⟩ : ∃ u : State, { s with hif := { s.hif with execs := s.hif.execs.erase e } } = u := ⟨_, rfl⟩
  have hcomplete : u.complete e.fn e.ring e.seq e.tag st w0 w1 e.logged e.dma false
      = (u.updRing e.fn e.ring Ring.stepCpl).emit (.completion e.fn e.ring (u.ring e.fn e.ring).cplIndex
          ⟨e.tag % 2 ^ 32, st, e.seq, (u.ring e.fn e.ring).phase, e.logged, w0 % 2 ^ 64, w1 % 2 ^ 64, time48 u.ns, e.ring⟩) := by
    unfold State.complete
    simp [← hu, hon, hdma]
  obtain ⟨b, htrace, hb⟩ := State.trace_eq ((u.updRing e.fn e.ring Ring.stepCpl).emit
    (.completion e.fn e.ring (u.ring e.fn e.ring).cplIndex
      ⟨e.tag % 2 ^ 32, st, e.seq, (u.ring e.fn e.ring).phase, e.logged, w0 % 2 ^ 64, w1 % 2 ^ 64, time48 u.ns, e.ring⟩))
    7 e.slice (cmdBody e.fn e.ring e.opcode e.tag st e.seq true)
  refine ⟨⟨e.tag % 2 ^ 32, st, e.seq, (u.ring e.fn e.ring).phase, e.logged, w0 % 2 ^ 64, w1 % 2 ^ 64, time48 u.ns, e.ring⟩,
    (u.updRing e.fn e.ring Ring.stepCpl).hif.ring, b, ?_, rfl, rfl, rfl, rfl, ?_⟩
  · simp only [State.completeExec, hkept, hu]
    rw [if_neg Bool.false_ne_true, hcomplete, htrace, ← hu]
    rfl
  · rw [← hu] at hb
    exact hb

/-- Where one command waits for this, it is the one that completes. -/
theorem State.completeWhere_of_one {s : State} {p : Wait → Bool} {e : Exec} (st w0 w1 : Nat)
    (h : s.hif.execs.filter (fun e => p e.wait) = [e]) : s.completeWhere p st w0 w1 = s.completeExec e st w0 w1 := by
  rw [State.completeWhere, h, List.foldl_cons, List.foldl_nil]

/-- Where no position was lost meanwhile, the end of a commit or a release judges none (R337). -/
theorem State.runLost_of_none {s : State} {n : Nat} (h : ∀ x, s.topo.slice.find n = some x → x.lostWait = []) :
    ∃ slices, s.runLost n = { s with topo := { s.topo with slice := slices } } ∧ ∀ k, slices.find k = s.topo.slice.find k := by
  cases hx : s.topo.slice.find n with
  | none => exact ⟨s.topo.slice, by simp [State.runLost, hx], fun _ => rfl⟩
  | some x =>
    have hnone := h x hx
    refine ⟨s.topo.slice.put n x, ?_, fun k => ?_⟩
    · have hsame : { x with lostWait := [] } = x := by rw [← hnone]
      have hempty : (List.range 80).filterMap (fun a => x.lostWait.find? (fun e => e.1 == a)) = [] := by simp [hnone]
      simp only [State.runLost, hx, hempty, List.foldl_nil, State.updSlice, hsame]
    · by_cases hk : k = n
      · rw [hk, Tbl.find_put, hx]
      · rw [Tbl.find_put_ne _ _ hk]

/-- Where nothing is in release and no reset waits, a row that can end one ends nothing. -/
theorem State.settle_of_nothing {s : State} (h : NothingReleasing s) : s.settle = s := by
  obtain ⟨hplots, hexecs⟩ := h
  have hrelease : s.finishReleases = s :=
    State.finishReleases_of_none fun e he hr => absurd ((hplots e he).symm.trans hr) Bool.false_ne_true
  rw [State.settle, hrelease]
  refine List.foldlRecOn s.hif.execs State.runReset (motive := fun t => t = s) rfl fun t ht e he => ?_
  rw [ht, State.runReset]
  split
  · next n a hw => exact absurd hw (hexecs e he n a)
  · rfl

/-- A plot ACTIVE. -/
def Plot.activate (p : Plot) : Plot := { p with st := 3 }

/-- What the end of a commit does to the plots: the ACTIVE one is retired, the committed one ACTIVE (R50). -/
def State.replacePlot (s : State) (n id : Nat) (p : Plot) : State :=
  (match s.activePlot n with
    | some o => ({ s with topo := { s.topo with plot := s.topo.plot.del o.1 } }).endCircuits o.2.circuits
        (fun t => p.circuits.any (fun c => c.src == t || c.dst == t))
    | none => s).updPlot id Plot.activate

theorem State.endCommit_def (s : State) (n id : Nat) (p : Plot) :
    s.endCommit n id p = ((s.replacePlot n id p).completeWhere (fun w => w == .commit n id) (s.commitResult p.circuits).1
      (s.commitResult p.circuits).2.1 (s.commitResult p.circuits).2.2).runLost n := rfl

theorem State.replacePlot_eq {s : State} {n id : Nat} {p : Plot} (hplot : s.topo.plot.find id = some p)
    (hother : ∀ o, s.activePlot n = some o → o.1 ≠ id) :
    ∃ plots ports, s.replacePlot n id p = { s with topo := { s.topo with plot := plots, tport := ports } }
      ∧ plots.find id = some p.activate ∧ (∀ o, s.activePlot n = some o → plots.find o.1 = none)
      ∧ ((∀ e ∈ s.topo.plot, e.2.releasing = false) → ∀ e ∈ plots, e.2.releasing = false) := by
  have hkeeps : ∀ t : Tbl Plot, (∀ e ∈ t, e.2.releasing = false) →
      ∀ e ∈ t.mapVal (fun k q => if k == id then q.activate else q), e.2.releasing = false := fun t ht e he => by
    obtain ⟨y, hy, rfl⟩ := List.mem_map.mp he
    have hy := ht y hy
    dsimp only
    split
    · exact hy
    · exact hy
  cases ho : s.activePlot n with
  | none =>
    refine ⟨s.topo.plot.mapVal (fun k q => if k == id then q.activate else q), s.topo.tport, ?_, ?_, nofun, hkeeps _⟩
    · simp only [State.replacePlot, ho]
      rfl
    · exact State.find_updPlot_self hplot Plot.activate
  | some o =>
    have hne := hother o ho
    refine ⟨(s.topo.plot.del o.1).mapVal (fun k q => if k == id then q.activate else q), (s.replacePlot n id p).topo.tport,
      ?_, ?_, ?_, fun h => hkeeps _ fun e he => h e (List.mem_of_mem_filter he)⟩
    · simp only [State.replacePlot, ho]
      rfl
    · rw [Tbl.find_mapVal (s.topo.plot.del o.1) (fun k q => if k == id then q.activate else q) id, Tbl.find_del_ne _ hne.symm, hplot]
      simp
    · rintro _ ⟨⟩
      rw [Tbl.find_mapVal (s.topo.plot.del o.1) (fun k q => if k == id then q.activate else q) o.1, Tbl.find_del]
      rfl

theorem chartCommitComplete_ends (slice : Fin 64) (id : Nat) (p : Plot) (e : Exec) (s : State) (hidle : NothingReleasing s)
    (hcommitting : s.topo.plot.find? (fun x => x.2.slice == slice.val && x.2.st == 2) = some (id, p))
    (hplot : s.topo.plot.find id = some p)
    (hdone : ∀ c ∈ p.circuits, c.superseded = true ∨ s.countsFailed c = true ∨ s.countsSettled c = true)
    (hother : ∀ o, s.activePlot slice = some o → o.1 ≠ id)
    (hexec : s.hif.execs.filter (fun x => x.wait == .commit slice id) = [e]) (hkept : e.discard = false) (hdma : e.dma = .ok)
    (hring : (s.ring e.fn e.ring).st ≠ .disabled) (hlost : ∀ x, s.topo.slice.find slice = some x → x.lostWait = []) :
    ∃ t c, exec (.chartCommitComplete slice) s = .next t
      ∧ t.out = s.out ++ [.completion e.fn e.ring (s.ring e.fn e.ring).cplIndex c] ∧ c.tag = e.tag % 2 ^ 32
      ∧ c.status = (s.commitResult p.circuits).1 ∧ c.word0 = (s.commitResult p.circuits).2.1 % 2 ^ 64
      ∧ c.word1 = (s.commitResult p.circuits).2.2 % 2 ^ 64
      ∧ t.topo.plot.find id = some { p with st := 3 }
      ∧ (∀ o, s.activePlot slice = some o → t.topo.plot.find o.1 = none)
      ∧ t.hif.execs = s.hif.execs.erase e ∧ (∀ n, t.topo.slice.find n = s.topo.slice.find n) ∧ Traced s t
      ∧ t = { s with hif := { s.hif with ring := t.hif.ring, execs := t.hif.execs }, bnc := t.bnc, out := t.out
                     topo := { s.topo with plot := t.topo.plot, tport := t.topo.tport, slice := t.topo.slice } } := by
  obtain ⟨plots, ports, hreplace, hfind, hretired, hreleasing⟩ := State.replacePlot_eq hplot hother
  obtain ⟨c, ring, b, hcomplete, htag, hst, hw0, hw1, hb⟩ := State.completeExec_eq
    (s := { s with topo := { s.topo with plot := plots, tport := ports } }) (s.commitResult p.circuits).1
    (s.commitResult p.circuits).2.1 (s.commitResult p.circuits).2.2 hkept hdma hring
  obtain ⟨slices, hrun, hslices⟩ := State.runLost_of_none (n := slice) (s := { s with
    topo := { s.topo with plot := plots, tport := ports }, hif := { s.hif with ring := ring, execs := s.hif.execs.erase e }, bnc := b
    out := s.out ++ [.completion e.fn e.ring (s.ring e.fn e.ring).cplIndex c] }) hlost
  have hall : p.circuits.all (fun c => c.superseded || s.countsFailed c || s.countsSettled c) = true :=
    List.all_eq_true.mpr fun c hc => by simpa [or_assoc] using hdone c hc
  have hend : s.chartCommitComplete slice = { s with
      topo := { s.topo with plot := plots, tport := ports, slice := slices }
      hif := { s.hif with ring := ring, execs := s.hif.execs.erase e }, bnc := b
      out := s.out ++ [.completion e.fn e.ring (s.ring e.fn e.ring).cplIndex c] } := by
    simp only [State.chartCommitComplete, hcommitting, hall, if_true]
    rw [State.endCommit_def, hreplace, State.completeWhere_of_one _ _ _ (by exact hexec), hcomplete]
    exact hrun
  have hsettle : (s.chartCommitComplete slice).settle = s.chartCommitComplete slice :=
    State.settle_of_nothing (by
      rw [hend]
      exact ⟨hreleasing hidle.1, fun x hx => hidle.2 x (List.mem_of_mem_erase hx)⟩)
  exact ⟨_, c, congrArg Host.Outcome.next (hsettle.trans hend), rfl, htag, hst, hw0, hw1, hfind, hretired, rfl, hslices, hb, rfl⟩

/-- A CHART_COMMIT_COMPLETE that finds nothing to end, nothing being in release. -/
theorem chartCommitComplete_next_self {slice : Fin 64} {s : State} (hidle : NothingReleasing s)
    (h : s.chartCommitComplete slice = s) : exec (.chartCommitComplete slice) s = .next s :=
  congrArg Host.Outcome.next ((congrArg State.settle h).trans (State.settle_of_nothing hidle))

theorem chartCommitComplete_noCommit (slice : Fin 64) (s : State) (hidle : NothingReleasing s)
    (hnone : ∀ x ∈ s.topo.plot, x.2.slice = slice.val → x.2.st ≠ 2) : exec (.chartCommitComplete slice) s = .next s := by
  have hfind : s.topo.plot.find? (fun e => e.2.slice == slice.val && e.2.st == 2) = none :=
    List.find?_eq_none.mpr fun x hx => by simpa using hnone x hx
  exact chartCommitComplete_next_self hidle (by simp only [State.chartCommitComplete, hfind])

theorem chartCommitComplete_unsettled (slice : Fin 64) (id : Nat) (p : Plot) (c : Circuit) (s : State) (hidle : NothingReleasing s)
    (hcommitting : s.topo.plot.find? (fun x => x.2.slice == slice.val && x.2.st == 2) = some (id, p)) (hc : c ∈ p.circuits)
    (hsuperseded : c.superseded = false) (hfailed : s.countsFailed c = false) (hsettled : s.countsSettled c = false) :
    exec (.chartCommitComplete slice) s = .next s := by
  have hall : p.circuits.all (fun c => c.superseded || s.countsFailed c || s.countsSettled c) = false :=
    List.all_eq_false.mpr ⟨c, hc, by simp [hsuperseded, hfailed, hsettled]⟩
  exact chartCommitComplete_next_self hidle (by
    simp only [State.chartCommitComplete, hcommitting, hall, Bool.false_eq_true, if_false])

end Sys2Proof.Machine

namespace Sys2Proof.Proofs

open Sys2Proof.Machine

/-- Settles O16: a commit starts its plot's moves and waits, or is refused; its end replaces the ACTIVE plot. -/
theorem commitsStartAndEnd : Obligations.CommitsStartAndEnd :=
  ⟨⟨chartCommit_waits, chartCommit_busy, chartCommit_underPassage⟩,
    chartCommitComplete_ends, chartCommitComplete_noCommit, chartCommitComplete_unsettled⟩

end Sys2Proof.Proofs
end

section
/-! SUPPORT. Releases of charts (R48 to R50) and positions that are lost (R331 to R335); and statement O17. -/

namespace Sys2Proof.Machine

open Safety

/-! ### CHART_RELEASE (R48 to R50) -/

/-- Drop a plot. -/
def State.dropPlot (s : State) (id : Nat) : State := { s with topo := { s.topo with plot := s.topo.plot.del id } }

section
variable {r : Req} {s : State} {p : Plot} (hid : 1 ≤ r.p 16 2) (hz : r.z 32 = true) (hslice : s.hasSlice r.slice = true)
  (hplot : s.topo.plot.find (r.p 16 2) = some p) (hown : p.slice = r.slice) (hbusy : s.busyPlot r.slice = none)
include hid hz hslice hplot hown hbusy

/-- A CHART_RELEASE of a plot that is there, no plot of the slice committing or releasing. -/
theorem cmdChartRelease_eq :
    cmdChartRelease r s = guarded s [match s.runningPassage r.slice with
        | some e => chk (p.st != 3) 0x0301 e.2.st.code 0
        | none => none]
      (if p.st = 1 then .done (s.dropPlot (r.p 16 2)) 0 0 0
       else if (s.releasePlot (r.p 16 2) p).topo.plot.has (r.p 16 2)
         then .wait (s.releasePlot (r.p 16 2) p) (.release r.slice (r.p 16 2))
         else .done ((s.releasePlot (r.p 16 2) p).runLost r.slice) 0 0 0) := by
  simp only [cmdChartRelease, State.plotOf_eq hplot hown, Option.getD_some]
  rw [guarded_plotCmdChecks hid hz hslice hplot hown, hbusy]
  simp only [beq_iff_eq]
  rfl

end

theorem chartRelease_discards (r : Req) (p : Plot) (s : State) (hacc : accepts 0x0204 r s = true) (hid : 1 ≤ r.p 16 2)
    (hz : r.z 32 = true) (hslice : s.hasSlice r.slice = true) (hplot : s.topo.plot.find (r.p 16 2) = some p)
    (hown : p.slice = r.slice) (hbusy : s.busyPlot r.slice = none) (hst : p.st = 1) :
    ∃ t, exec (.chartRelease r) s = .next t ∧ Completed r s t 0 0 0 ∧ t.topo.plot.find (r.p 16 2) = none
      ∧ (∀ i, i ≠ r.p 16 2 → t.topo.plot.find i = s.topo.plot.find i) ∧ Silent s t ∧ Quiet r s t
      ∧ t = { s with hif := t.hif, bnc := t.bnc, out := t.out, topo := { s.topo with plot := t.topo.plot } } := by
  obtain ⟨u, hu, hc, hs, hq, b, h, n, o, rfl⟩ := State.hostRow_done (run := cmdChartRelease) (st := 0) (w0 := 0) (w1 := 0)
    (fun b => State.dropPlot { s with bnc := b } (r.p 16 2)) hacc rfl
    (fun b => by
      rw [cmdChartRelease_eq (s := { s with bnc := b }) hid hz hslice hplot hown hbusy, if_pos hst, hst]
      cases State.runningPassage { s with bnc := b } r.slice <;> rfl)
    (fun b => ⟨rfl, rfl, rfl⟩)
  exact ⟨_, hu, hc, Tbl.find_del _ _, fun i hi => Tbl.find_del_ne _ hi, hs, hq, rfl⟩

theorem chartRelease_waits (r : Req) (p : Plot) (x : Nat × Aim) (s : State) (hacc : accepts 0x0204 r s = true)
    (hid : 1 ≤ r.p 16 2) (hz : r.z 32 = true) (hslice : s.hasSlice r.slice = true)
    (hplot : s.topo.plot.find (r.p 16 2) = some p) (hown : p.slice = r.slice)
    (hplots : ∀ e ∈ s.topo.plot, e.2.releasing = false ∧ (e.1 = r.p 16 2 → e.2 = p)) (hbusy : s.busyPlot r.slice = none)
    (hst : p.st = 3) (hrun : s.runningPassage r.slice = none) (hx : x ∈ targets p.circuits)
    (hmirror : (s.mirror x.1).st = .settled) :
    ∃ t, exec (.chartRelease r) s = .next t ∧ Waits 0x0204 r t (.release r.slice (r.p 16 2)) ∧ t.out = s.out
      ∧ t.topo.plot.find (r.p 16 2) = some { p with releasing := true } ∧ (t.mirror x.1).accepted = some .park
      ∧ (∀ i, i ≠ r.p 16 2 → t.topo.plot.find i = s.topo.plot.find i)
      ∧ (∃ e, t.hif = { s.hif with execs := s.hif.execs ++ [e] }) ∧ Traced s t
      ∧ t = { s with hif := t.hif, bnc := t.bnc, plane := { s.plane with mirror := t.plane.mirror }
                     topo := { s.topo with plot := t.topo.plot } } := by
  have hrelease := fun b => State.releasePlot_eq (s := { s with bnc := b }) (id := r.p 16 2) hplots hx hmirror
  have hfind : (s.updPlot (r.p 16 2) Plot.release).topo.plot.find (r.p 16 2) = some p.release :=
    State.find_updPlot_self hplot Plot.release
  obtain ⟨u, hu, hw, hout, hexec, htraced, b, h, rfl⟩ := State.hostRow_waits (run := cmdChartRelease)
    (w := .release r.slice (r.p 16 2)) (fun b => State.releasePlot { s with bnc := b } (r.p 16 2) p) hacc rfl
    (fun b => by
      have hstands : (State.releasePlot { s with bnc := b } (r.p 16 2) p).topo.plot.has (r.p 16 2) = true := by
        obtain ⟨_, heq⟩ := (hrelease b).1
        rw [heq]
        exact congrArg Option.isSome hfind
      have hrun : State.runningPassage { s with bnc := b } r.slice = none := hrun
      rw [cmdChartRelease_eq (s := { s with bnc := b }) hid hz hslice hplot hown hbusy, hrun,
        if_neg (by rw [hst]; decide), if_pos hstands]
      rfl)
    (fun b => by
      obtain ⟨_, heq⟩ := (hrelease b).1
      rw [heq]
      exact ⟨rfl, rfl, rfl⟩)
  obtain ⟨⟨mirrors, heq⟩, haim⟩ := hrelease b
  refine ⟨_, hu, hw, hout, ?_, haim, fun i hi => ?_, hexec, htraced, ?_⟩
  · rw [heq]
    exact hfind
  · rw [heq]
    exact State.find_updPlot_ne _ Plot.release hi
  · rw [heq]
    rfl

theorem chartRelease_underPassage (r : Req) (p : Plot) (e : Nat × Passage) (s : State) (hacc : accepts 0x0204 r s = true)
    (hid : 1 ≤ r.p 16 2) (hz : r.z 32 = true) (hslice : s.hasSlice r.slice = true)
    (hplot : s.topo.plot.find (r.p 16 2) = some p) (hown : p.slice = r.slice) (hbusy : s.busyPlot r.slice = none)
    (hst : p.st = 3) (hrun : s.runningPassage r.slice = some e) :
    ∃ t, exec (.chartRelease r) s = .next t ∧ Completed r s t 0x0301 e.2.st.code 0 ∧ Silent s t ∧ Quiet r s t
      ∧ t = { s with hif := t.hif, bnc := t.bnc, out := t.out } :=
  State.hostRow_refused hacc rfl fun b => by
    have hrun : State.runningPassage { s with bnc := b } r.slice = some e := hrun
    rw [cmdChartRelease_eq (s := { s with bnc := b }) hid hz hslice hplot hown hbusy, hrun, hst]
    rfl

/-! ### POSITION_LOST (R331 to R335) -/

/-- What the ACTIVE plot of a slice is. -/
theorem State.of_activePlot {s : State} {n id : Nat} {p : Plot} (h : s.activePlot n = some (id, p)) : p.slice = n ∧ p.st = 3 := by
  simpa using List.find?_some h

/-- A circuit on its substituted ends (R333). -/
def State.substituted (s : State) (pl : Plot) (a p : Nat) (c : Circuit) : Circuit :=
  if (c.spareOk || pl.form != 4) && (s.moveEnd a p c.src != c.src || s.moveEnd a p c.dst != c.dst) then
    { c with src := s.moveEnd a p c.src, dst := s.moveEnd a p c.dst, origin := 2, made := false, failed := false
             waits := s.hvLost, loss := 0xFFFF }
  else c

/-- A plot in which spare `p` has taken position `a` over (R335). -/
def Plot.replace (x : Plot) (cs : List Circuit) (a p : Nat) : Plot :=
  { x with circuits := cs, members := x.members.map (fun m => if m == a then p else m), spares := x.spares.filter (· != p)
           lost := x.lost.filter (· != a), replaced := x.replaced ++ [a] }

/-- A slice that counts a substitution and raises its alarm (R335). -/
def Slice.substitute (x : Slice) (a p d0 : Nat) : Slice :=
  { x with substitutions := satInc 16 x.substitutions, lastLost := a, lastSpare := p, lastSubS := d0 / 1000000000
           subAlarm := true }

theorem State.substitute_eq {s : State} {id : Nat} {pl : Plot} (a p d0 : Nat) (h : s.topo.plot.find id = some pl) :
    s.substitute id a p d0 = (((((movesOf pl.circuits (pl.circuits.map (s.substituted pl a p))).foldl State.retarget
      (s.updPlot id (Plot.replace · (pl.circuits.map (s.substituted pl a p)) a p))).endCircuits pl.circuits
        (fun t => (pl.circuits.map (s.substituted pl a p)).any (fun c => c.src == t || c.dst == t))).enterCircuits
          (pl.circuits.map (s.substituted pl a p))).updSlice pl.slice (Slice.substitute · a p d0)).logAdd sevWarning pl.slice
            (evNamed 7 "SUBSTITUTION") agentNone [pl.slice, a, p, d0] := by
  simp only [State.substitute, h]
  rfl

theorem State.updSlice_eq {s : State} {n : Nat} {x : Slice} (f : Slice → Slice) (h : s.topo.slice.find n = some x) :
    s.updSlice n f = { s with topo := { s.topo with slice := s.topo.slice.put n (f x) } } := by
  rw [State.updSlice, h]

/-- A log entry that is created only adds to the log, and is counted. -/
theorem State.logAdd_eq (s : State) {sev : Nat} (hsev : sev ≠ 0) (slice event agent : Nat) (args : List Nat) :
    ∃ log, s.logAdd sev slice event agent args = { s with log := log } ∧ log.created = s.log.created + 1 :=
  ⟨_, s.logAdd_frame sev slice event agent args, s.logAdd_created hsev slice event agent args⟩

/-- What a substitution in a plot that does not commit comes to (R333, R335). -/
theorem State.substitute_spec {s : State} {id : Nat} {pl : Plot} {x : Slice} (a p d0 : Nat) (h : s.topo.plot.find id = some pl)
    (hst : pl.st ≠ 2) (hslice : s.topo.slice.find pl.slice = some x) :
    ∃ mirrors plots ports log, s.substitute id a p d0 = { s with
        log := log, plane := { s.plane with mirror := mirrors }
        topo := { s.topo with plot := plots, tport := ports, slice := s.topo.slice.put pl.slice (x.substitute a p d0) } }
      ∧ plots.find id = some (pl.replace (pl.circuits.map (s.substituted pl a p)) a p) ∧ log.created = s.log.created + 1 := by
  obtain ⟨cs, hcs⟩ : ∃ cs, pl.circuits.map (s.substituted pl a p) = cs := ⟨_, rfl⟩
  obtain ⟨⟨mirrors, plots, hmove, hfind⟩, -, -⟩ := State.foldl_retarget_spec (movesOf pl.circuits cs)
    (s.updPlot id (Plot.replace · cs a p))
  obtain ⟨log, hlog, hcreated⟩ := State.logAdd_eq ((((((movesOf pl.circuits cs).foldl State.retarget
      (s.updPlot id (Plot.replace · cs a p))).endCircuits pl.circuits
        (fun t => cs.any (fun c => c.src == t || c.dst == t))).enterCircuits cs).updSlice pl.slice (Slice.substitute · a p d0)))
    (sev := sevWarning) (by decide) pl.slice (evNamed 7 "SUBSTITUTION") agentNone [pl.slice, a, p, d0]
  rw [State.substitute_eq a p d0 h, hcs, hlog]
  rw [hmove] at hcreated ⊢
  rw [State.updSlice_eq (x := x) _ (by exact hslice)] at hcreated ⊢
  refine ⟨mirrors, plots, _, log, rfl, ?_, hcreated⟩
  rw [hfind, State.find_updPlot_self h, Option.map_some, Plot.foldl_supersede_of_ne _ (by exact hst)]

section
variable {s : State} {n id a : Nat} {pl : Plot} (hactive : s.activePlot n = some (id, pl)) (hlinks : s.plotLinks pl a ≠ [])
  (hlost : a ∉ pl.lost)
include hactive hlinks hlost

/-- A lost position whose spare is found is substituted, where no controller is stopped (R332). -/
theorem State.applyLost_of_spare {spare : Nat} (d0 : Nat) (hauto : pl.spareAuto = true)
    (hspare : pl.spares.find? (fun p => s.posFound p (s.plotLinks pl a)) = some spare) (htf : ∀ k, (s.tfc k).st ≠ 4) :
    s.applyLost n a d0 = s.substitute id a spare d0 := by
  have hjudged : (s.plotLinks pl a == [] || pl.lost.contains a) = false := by simp [hlinks, hlost]
  have hmirrors : ∀ ms : List Nat, ms.any (fun m => (s.tfc (tfOf m)).st == 4) = false := fun ms =>
    List.any_eq_false.mpr fun m _ => by simpa using htf (tfOf m)
  simp only [State.applyLost, hactive, hjudged, hauto, if_true, hspare, hmirrors, Bool.false_eq_true, if_false]

/-- A lost position with no spare found is marked (R332). -/
theorem State.applyLost_of_none (d0 : Nat)
    (hnone : pl.spareAuto = false ∨ pl.spares.find? (fun p => s.posFound p (s.plotLinks pl a)) = none) :
    s.applyLost n a d0 = (s.updPlot id (fun x => { x with lost := x.lost ++ [a] })).logAdd sevWarning n
      (evNamed 7 "POSITION_LOST") agentNone [n, a] := by
  have hjudged : (s.plotLinks pl a == [] || pl.lost.contains a) = false := by simp [hlinks, hlost]
  have hspare : (if pl.spareAuto = true then pl.spares.find? (fun p => s.posFound p (s.plotLinks pl a)) else none) = none := by
    rcases hnone with h | h <;> simp [h]
  simp only [State.applyLost, hactive, hjudged, hspare, Bool.false_eq_true, if_false]

end

/-- A loss in a slice with an ACTIVE plot is judged where no plot of it commits or releases. -/
theorem positionLost_judged {slice : Fin 64} {a : Fin 80} {s t : State} {o : Nat × Plot} (hactive : s.activePlot slice = some o)
    (hbusy : s.busyPlot slice = none) (h : s.applyLost slice a s.ns = t) : exec (.positionLost slice a) s = .next t := by
  rw [← h]
  simp only [exec, execPositionLost, hactive, hbusy]
  rfl

theorem positionLost_substitutes (slice : Fin 64) (a : Fin 80) (id spare : Nat) (pl : Plot) (x : Slice) (s : State)
    (hactive : s.activePlot slice = some (id, pl)) (hplot : s.topo.plot.find id = some pl) (hbusy : s.busyPlot slice = none)
    (hlinks : s.plotLinks pl a ≠ []) (hlost : a.val ∉ pl.lost) (hauto : pl.spareAuto = true)
    (hspare : pl.spares.find? (fun p => s.posFound p (s.plotLinks pl a)) = some spare) (htf : ∀ k, (s.tfc k).st ≠ 4)
    (hslice : s.topo.slice.find slice = some x) :
    ∃ t q, exec (.positionLost slice a) s = .next t ∧ t.topo.plot.find id = some q ∧ q.st = 3
      ∧ q.members = pl.members.map (fun m => if m = a.val then spare else m) ∧ q.spares = pl.spares.filter (· != spare)
      ∧ q.replaced = pl.replaced ++ [a.val] ∧ q.circuits.length = pl.circuits.length
      ∧ t.topo.slice.find slice = some { x with
          substitutions := min (x.substitutions + 1) 65535, lastLost := a, lastSpare := spare, lastSubS := s.secs
          subAlarm := true }
      ∧ (∀ n, n ≠ slice.val → t.topo.slice.find n = s.topo.slice.find n) ∧ t.log.created = s.log.created + 1
      ∧ t = { s with log := t.log, plane := { s.plane with mirror := t.plane.mirror }
                     topo := { s.topo with plot := t.topo.plot, tport := t.topo.tport, slice := t.topo.slice } } := by
  obtain ⟨hown, hst⟩ := State.of_activePlot hactive
  obtain ⟨mirrors, plots, ports, log, heq, hfind, hcreated⟩ := State.substitute_spec a spare s.ns hplot (by rw [hst]; decide)
    (hown.symm ▸ hslice)
  have happly := State.applyLost_of_spare hactive hlinks hlost s.ns hauto hspare htf
  rw [hown] at heq
  exact ⟨_, _, positionLost_judged hactive hbusy (happly.trans heq), hfind, hst, by simp [Plot.replace], rfl, rfl, by simp [Plot.replace],
    Tbl.find_put _ _ _, fun n hn => Tbl.find_put_ne _ _ hn, hcreated, rfl⟩

theorem positionLost_marks (slice : Fin 64) (a : Fin 80) (id : Nat) (pl : Plot) (s : State)
    (hactive : s.activePlot slice = some (id, pl)) (hplot : s.topo.plot.find id = some pl) (hbusy : s.busyPlot slice = none)
    (hlinks : s.plotLinks pl a ≠ []) (hlost : a.val ∉ pl.lost)
    (hnone : pl.spareAuto = false ∨ pl.spares.find? (fun p => s.posFound p (s.plotLinks pl a)) = none) :
    ∃ t, exec (.positionLost slice a) s = .next t ∧ t.topo.plot.find id = some { pl with lost := pl.lost ++ [a.val] }
      ∧ t.log.created = s.log.created + 1 ∧ t = { s with log := t.log, topo := { s.topo with plot := t.topo.plot } } := by
  obtain ⟨log, hlog, hcreated⟩ := (s.updPlot id (fun x => { x with lost := x.lost ++ [a.val] })).logAdd_eq (sev := sevWarning)
    (by decide) slice (evNamed 7 "POSITION_LOST") agentNone [slice, a]
  have happly := State.applyLost_of_none hactive hlinks hlost s.ns hnone
  exact ⟨{ s.updPlot id (fun x => { x with lost := x.lost ++ [a.val] }) with log := log },
    positionLost_judged hactive hbusy (happly.trans hlog),
    State.find_updPlot_self hplot (fun x => { x with lost := x.lost ++ [a.val] }), hcreated, rfl⟩

theorem positionLost_waits (slice : Fin 64) (a : Fin 80) (x : Slice) (s : State) (hactive : (s.activePlot slice).isSome = true)
    (hbusy : (s.busyPlot slice).isSome = true) (hslice : s.topo.slice.find slice = some x) :
    ∃ t, exec (.positionLost slice a) s = .next t
      ∧ t.topo.slice.find slice = some { x with lostWait := x.lostWait ++ [(a.val, s.ns)] }
      ∧ t = { s with topo := { s.topo with slice := t.topo.slice } } := by
  obtain ⟨o, ho⟩ := Option.isSome_iff_exists.mp hactive
  have hnext : exec (.positionLost slice a) s
      = .next (s.updSlice slice (fun x => { x with lostWait := x.lostWait ++ [(a.val, s.ns)] })) := by
    simp only [exec, execPositionLost, ho, hbusy, if_true]
  exact ⟨_, hnext.trans (congrArg Host.Outcome.next (State.updSlice_eq _ hslice)), Tbl.find_put _ _ _, rfl⟩

theorem positionLost_noPlot (slice : Fin 64) (a : Fin 80) (s : State) (hnone : s.activePlot slice = none) :
    exec (.positionLost slice a) s = .next s := by
  simp only [exec, execPositionLost, hnone]

end Sys2Proof.Machine

namespace Sys2Proof.Proofs

open Sys2Proof.Machine

/-- Settles O17: a release by the state of its plot; a lost position by the plots of its slice and the spares found. -/
theorem releasesAndLostPositions : Obligations.ReleasesAndLostPositions :=
  ⟨⟨chartRelease_discards, chartRelease_waits, chartRelease_underPassage⟩,
    positionLost_substitutes, positionLost_marks, positionLost_waits, positionLost_noPlot⟩

end Sys2Proof.Proofs
end

section
/-! SUPPORT. The end of a leg and its gates (R59, R60, R62, R69), and the waypoints of a passage that lights no port and
steps no optimizer (R59, R64, R67, R434); and statement O24. -/

namespace Sys2Proof.Machine

open Safety

/-! ### Time brought forward by an event -/

theorem State.le_ns_advanceTo (s : State) (t : Nat) : t ≤ (s.advanceTo t).ns :=
  (Nat.le_div_iff_mul_le (by decide)).mpr (Nat.le_max_right _ _)

/-! ### LEG_COMPLETE (R59, R60, R69) -/

/-- The other racks are signalled where the leg's trigger is remote (R59). -/
def State.signalled (s : State) (slice pid : Nat) (p : Passage) : State :=
  if (p.legAt p.leg).trigger == 3 then
    s.queueAll slice p.rackMask 2 (readyFrame slice pid s.topo.rack p.leg p.iter 1 p.digest)
  else s

theorem State.signalled_eq (s : State) (slice pid : Nat) (p : Passage) :
    ∃ q, s.signalled slice pid p = { s with col := { s.col with stq := q } }
      ∧ q.length = s.col.stq.length + (if (p.legAt p.leg).trigger = 3 then (s.others p.rackMask).length else 0) := by
  unfold State.signalled
  by_cases h : (p.legAt p.leg).trigger = 3
  · simp only [h, beq_self_eq_true, if_true]
    exact s.queueAll_eq slice p.rackMask 2 _
  · simp only [h, beq_false_of_ne h, Bool.false_eq_true, if_false]
    exact ⟨s.col.stq, rfl, rfl⟩

/-- A passage whose leg is done. -/
def Passage.atExit (p : Passage) : Passage := { p with legDone := true }

/-- A passage parked at the end of its leg (R69). -/
def Passage.parked (p : Passage) (now : Nat) : Passage :=
  { p with st := .parked, parkPend := false, legDone := true, parkedAt := now }

theorem State.runFinishPass_of_none {s : State} {slice pid : Nat} {p : Passage} (h : s.psg.find (psgKey slice pid) = some p)
    (hprog : s.opProg slice p = none) : s.runFinishPass slice pid = s := by
  simp only [State.runFinishPass, h, hprog]
  cases s.finishPoint p <;> rfl

theorem State.unstall_of_ne {s : State} {slice pid : Nat} {p : Passage} (h : s.psg.find (psgKey slice pid) = some p)
    (hst : p.st ≠ .stalled) : s.unstall slice pid = s := by
  simp [State.unstall, h, hst]

theorem legComplete_ends (slice : Fin 64) (pid : Fin 256) (p : Passage) (s : State)
    (h : s.psg.find (psgKey slice pid) = some p) (hpaused : s.paused = false) (hst : p.st = .running) (hdone : p.legDone = false)
    (hcomplete : p.legComplete = true) (hprog : s.opProg slice p = none)
    (hcopy : ¬((p.form = 2 ∨ p.form = 3) ∧ p.leg = 0 ∧ (racks p.rackMask).length = 1)) :
    ∃ t q, exec (.legComplete slice pid) s = .next t ∧ t.psg.find (psgKey slice pid) = some q ∧ q.legDone = true
      ∧ q.st = (if (p.legAt p.leg).parkSafe = true ∧ p.parkPend = true then .parked else .running)
      ∧ q.leg = p.leg ∧ q.iter = p.iter ∧ q.data = p.data
      ∧ ((p.legAt p.leg).parkSafe = true → p.parkPend = true → q.parkPend = false ∧ q.parkedAt = s.ns)
      ∧ t.col.stq.length = s.col.stq.length + (if (p.legAt p.leg).trigger = 3 then (s.others p.rackMask).length else 0)
      ∧ OtherPassages slice pid s t
      ∧ t = { s with psg := t.psg, col := { s.col with port := t.col.port, laser := t.col.laser, stq := t.col.stq }
                     sxt := { s.sxt with takes := t.sxt.takes } } := by
  obtain ⟨queue, hsignal, hlen⟩ := s.signalled_eq slice pid p
  have hnext : exec (.legComplete slice pid) s = .next (if (p.legAt p.leg).parkSafe && p.parkPend then
      ((s.signalled slice pid p).updPsg slice pid (Passage.parked · s.ns)).dropTakes slice pid
      else (((s.signalled slice pid p).updPsg slice pid Passage.atExit).beginExit slice pid).unstall slice pid) := by
    have hk1 : ((p.form == 2 || p.form == 3) && p.leg == 0 && (racks p.rackMask).length == 1) = false := by
      simpa [and_assoc] using hcopy
    simp only [exec, execLegComplete, h, hpaused, hst, hdone, hcomplete, hk1, State.runFinishPass_of_none h hprog, beq_self_eq_true,
      Bool.true_or, Bool.not_true, Bool.or_false, Bool.false_eq_true, if_false]
    rfl
  by_cases hpark : (p.legAt p.leg).parkSafe = true ∧ p.parkPend = true
  · obtain ⟨hsafe, hpend⟩ := hpark
    rw [hsafe, hpend, Bool.and_self, if_pos rfl, hsignal, State.updPsg_eq (by exact h)] at hnext
    exact ⟨_, p.parked s.ns, hnext, Tbl.find_put _ _ _, rfl, by simp [Passage.parked, hsafe, hpend], rfl, rfl, rfl,
      fun _ _ => ⟨rfl, rfl⟩, hlen, OtherPassages.of_put rfl, rfl⟩
  · have hpark' : ((p.legAt p.leg).parkSafe && p.parkPend) = false := by simpa using hpark
    rw [hpark', if_neg Bool.false_ne_true, hsignal, State.updPsg_eq (by exact h)] at hnext
    have hrun : p.atExit.st ≠ .stalled := by
      rw [Passage.atExit, hst]
      decide
    rcases State.beginExit_eq (s := { s with col := { s.col with stq := queue }, psg := s.psg.put (psgKey slice pid) p.atExit })
      (Tbl.find_put _ _ _) with ⟨hexit, -⟩ | ⟨ports, lasers, hexit⟩
    · rw [hexit, State.unstall_of_ne (Tbl.find_put _ _ _) hrun] at hnext
      refine ⟨_, p.atExit, hnext, Tbl.find_put _ _ _, rfl, ?_, rfl, rfl, rfl, fun hs hp => absurd ⟨hs, hp⟩ hpark, hlen,
        OtherPassages.of_put rfl, rfl⟩
      rw [if_neg hpark]
      exact hst
    · rw [hexit, State.unstall_of_ne (Tbl.find_put _ _ _) (by exact hrun)] at hnext
      refine ⟨_, p.atExit.blankedAt s.ns, hnext, Tbl.find_put _ _ _, rfl, ?_, rfl, rfl, rfl,
        fun hs hp => absurd ⟨hs, hp⟩ hpark, hlen, OtherPassages.trans (OtherPassages.of_put rfl) (OtherPassages.of_put rfl), rfl⟩
      rw [if_neg hpark]
      exact hst

theorem legComplete_idle (slice : Fin 64) (pid : Fin 256) (p : Passage) (s : State)
    (h : s.psg.find (psgKey slice pid) = some p)
    (hidle : s.paused = true ∨ p.legDone = true ∨ p.legComplete = false ∨ (p.st ≠ .running ∧ p.st ≠ .stalled)) :
    exec (.legComplete slice pid) s = .next s := by
  have hnot : (s.paused || !(p.st == .running || p.st == .stalled) || p.legDone || !p.legComplete) = true := by
    rcases hidle with h | h | h | ⟨h, h'⟩
    · simp [h]
    · simp [h]
    · simp [h]
    · simp [h, h']
  simp only [exec, execLegComplete, h, hnot, if_true]

/-! ### TIME_TRIGGER_OPEN (R59) and LEG_TIMEOUT (R62) -/

theorem timeTriggerOpen_opens (slice : Fin 64) (pid : Fin 256) (p : Passage) (s : State)
    (h : s.psg.find (psgKey slice pid) = some p) (hst : p.st = .running ∨ p.st = .stalled ∨ p.st = .parked)
    (htrigger : (p.legAt p.leg).trigger = 1) (hshut : p.timeOpen = false) :
    ∃ t, exec (.timeTriggerOpen slice pid) s = .next t
      ∧ t.psg.find (psgKey slice pid) = some { p with timeOpen := true } ∧ p.epoch + (p.legAt p.leg).trigArg ≤ t.ns
      ∧ OtherPassages slice pid s t ∧ t = { s with ast := { s.ast with raw := t.ast.raw }, psg := t.psg } := by
  have hlive : (p.st == .running || p.st == .stalled || p.st == .parked) = true := by simpa [or_assoc] using hst
  have hnext : exec (.timeTriggerOpen slice pid) s = .next ((s.advanceTo (p.epoch + (p.legAt p.leg).trigArg)).updPsg slice pid
      (fun p => { p with timeOpen := true })) := by
    simp only [exec, execTimeTriggerOpen, h, hlive, htrigger, hshut, beq_self_eq_true, Bool.not_false, Bool.and_true, if_true]
  rw [State.updPsg_eq (by exact h)] at hnext
  exact ⟨_, hnext, Tbl.find_put _ _ _, s.le_ns_advanceTo _, OtherPassages.of_put rfl, rfl⟩

theorem timeTriggerOpen_noGate (slice : Fin 64) (pid : Fin 256) (p : Passage) (s : State)
    (h : s.psg.find (psgKey slice pid) = some p) (htrigger : (p.legAt p.leg).trigger ≠ 1) :
    exec (.timeTriggerOpen slice pid) s = .next s := by
  simp only [exec, execTimeTriggerOpen, h, beq_false_of_ne htrigger, Bool.and_false, Bool.false_and, Bool.false_eq_true, if_false]

theorem legTimeout_stalls (slice : Fin 64) (pid : Fin 256) (p : Passage) (s : State)
    (h : s.psg.find (psgKey slice pid) = some p) (hst : p.st = .running) (hheld : s.heldByR62 p = true) :
    ∃ t, exec (.legTimeout slice pid) s = .next t ∧ t.psg.find (psgKey slice pid) = some { p with st := .stalled }
      ∧ p.enteredAt + p.timeout * 1000000 ≤ t.ns ∧ t.log.created = s.log.created + 1 ∧ OtherPassages slice pid s t
      ∧ t = { s with ast := { s.ast with raw := t.ast.raw }, log := t.log, psg := t.psg } := by
  have hnext : ∃ l, exec (.legTimeout slice pid) s = .next (((s.advanceTo (p.enteredAt + p.timeout * 1000000)).updPsg slice pid
      (fun p => { p with st := .stalled })).logAdd sevWarning slice (evNamed 1 "LEG_TIMEOUT") (agentPassage slice pid) l) := by
    have hstays : (p.st != .running || !s.heldByR62 p) = false := by simp [hst, hheld]
    simp only [exec, execLegTimeout, h, hstays, Bool.false_eq_true, if_false]
    exact ⟨_, rfl⟩
  obtain ⟨l, hnext⟩ := hnext
  rw [State.updPsg_eq (by exact h)] at hnext
  obtain ⟨log, hlog, hcreated⟩ := State.logAdd_eq { s.advanceTo (p.enteredAt + p.timeout * 1000000) with
    psg := s.psg.put (psgKey slice pid) { p with st := .stalled } } (sev := sevWarning) (by decide) slice
      (evNamed 1 "LEG_TIMEOUT") (agentPassage slice pid) l
  exact ⟨_, hnext.trans (congrArg Host.Outcome.next hlog), Tbl.find_put _ _ _, s.le_ns_advanceTo _, hcreated,
    OtherPassages.of_put rfl, rfl⟩

theorem legTimeout_idle (slice : Fin 64) (pid : Fin 256) (p : Passage) (s : State)
    (h : s.psg.find (psgKey slice pid) = some p) (hidle : p.st ≠ .running ∨ s.heldByR62 p = false) :
    exec (.legTimeout slice pid) s = .next s := by
  have hnot : (p.st != .running || !s.heldByR62 p) = true := by
    rcases hidle with h | h <;> simp [h]
  simp only [exec, execLegTimeout, h, hnot, if_true]

/-! ### Entering a leg (R67) -/

theorem State.beginTakes_of_none {s : State} (h : s.sxt.takes = []) (slice pid : Nat) : s.beginTakes slice pid = s := by
  have hsxt : { s.sxt with takes := [] } = s.sxt := by rw [← h]
  simp [State.beginTakes, h, hsxt]

theorem State.announceTake_of_none {s : State} (h : s.sxt.takes = []) (slice pid : Nat) : s.announceTake slice pid = s := by
  simp only [State.announceTake, h, List.filter_nil, List.foldl_nil]
  split <;> rfl

theorem State.setLegPorts_of_dark {s : State} {slice pid : Nat} {p : Passage} (h : s.psg.find (psgKey slice pid) = some p)
    (hlights : p.lights = false) : s.setLegPorts slice pid = s := by
  simp [State.setLegPorts, h, hlights]

theorem State.optEnter_of_plain {s : State} {slice pid : Nat} {p : Passage} (h : s.psg.find (psgKey slice pid) = some p)
    (hleg : p.optLeg = false) : s.optEnter slice pid = (s, false) := by
  simp [State.optEnter, h, hleg]

theorem Passage.optLeg_of_legAt {p : Passage} (hlt : p.leg < p.legs.length) (h : (p.legAt p.leg).optimizer = false) :
    p.optLeg = false := by
  simpa [Passage.optLeg, Passage.legAt, hlt] using h

section
variable {slice pid : Nat} {p : Passage} {s : State} (h : s.psg.find (psgKey slice pid) = some p) (hlights : p.lights = false)
  (hform : p.form = 0) (hheld : NoHeld s) (hlate : p.heldG = []) (htakes : s.sxt.takes = [])
include h hlights hform hheld hlate htakes

/-- Entering a leg, for a passage that lights no port, steps no optimizer and copies no shard, with no frame held and no
take announced: the passage stands at the leg's start. -/
theorem State.enterLeg_eq {l : Nat} (i : Nat) (hlt : l < p.legs.length) (hopt : (p.legAt l).optimizer = false) :
    ∃ b, s.enterLeg slice pid l i = { s with
        bnc := b, psg := s.psg.put (psgKey slice pid) (p.entered l i s.ns s.time16 (s.scalarsOf slice p)) }
      ∧ b = { s.bnc with trace := b.trace, events := b.events } := by
  obtain ⟨q, hq⟩ : ∃ q, p.entered l i s.ns s.time16 (s.scalarsOf slice p) = q := ⟨_, rfl⟩
  obtain ⟨b, htrace, hb⟩ := State.trace_eq { s with psg := s.psg.put (psgKey slice pid) q } 6 slice
    (leBytes 1 pid ++ leBytes 1 (b2n (if p.st == .armed then false else (p.legAt p.leg).parkSafe)) ++ leBytes 2 l
      ++ leBytes 6 (i % 2 ^ 48))
  have hplain : q.optLeg = false := Passage.optLeg_of_legAt (by rw [← hq]; exact hlt) (by rw [← hq]; exact hopt)
  have hdark : q.lights = false := by
    rw [← hq]
    exact hlights
  have hrest : ∀ u : State, u.psg.find (psgKey slice pid) = some q → u.sxt.takes = [] → NoHeld u →
      (if (u.optEnter slice pid).2 then (u.optEnter slice pid).1.abortPassage slice pid 1
        else (((u.optEnter slice pid).1.setLegPorts slice pid).announceTake slice pid).retryAll) = u := fun u hu ht hn => by
    rw [State.optEnter_of_plain hu hplain, if_neg Bool.false_ne_true, State.setLegPorts_of_dark hu hdark,
      State.announceTake_of_none ht, State.retryAll_of_noHeld hn]
  have hcopy : ((p.form == 2 || p.form == 3) && l == 1 && decide (1 < (racks p.rackMask).length)) = false := by simp [hform]
  refine ⟨b, ?_, hb⟩
  simp only [State.enterLeg, h, State.beginTakes_of_none htakes, hlate, hcopy, Bool.false_eq_true, if_false, List.foldl_nil]
  rw [State.updPsg_eq h, hq, htrace]
  exact hrest _ (Tbl.find_put _ _ _) htakes hheld

end

/-! ### Firing a waypoint (R67) -/

/-- A passage whose doorbell is consumed where its trigger is the doorbell (R59). -/
def Passage.rung (p : Passage) : Passage :=
  { p with bells := if p.st ≠ .armed ∧ (p.legAt p.leg).trigger = 2 then p.bells - 1 else p.bells }

/-- A passage at the end of its last iteration (R67). -/
def Passage.ended (p : Passage) (t16 : Nat) : Passage :=
  { p with st := .done, iter := p.iter + 1, w0 := t16, legDone := false, parkPend := false, parkedByAct := false, prog := []
           ready := [], remote := [], heldG := [] }

theorem State.runAvg_of_form {s : State} {slice pid : Nat} {p : Passage} (h : s.psg.find (psgKey slice pid) = some p)
    (hform : p.form = 0) : s.runAvg slice pid = s := by
  simp [State.runAvg, h, State.finishPoint, hform]

/-- The doorbell is consumed at the start of a waypoint. -/
theorem State.ringBell_eq {s : State} {slice pid : Nat} {p : Passage} (h : s.psg.find (psgKey slice pid) = some p) :
    s.updPsg slice pid (fun q => if p.st != .armed && (p.legAt p.leg).trigger == 2 then { q with bells := q.bells - 1 } else q)
      = { s with psg := s.psg.put (psgKey slice pid) p.rung } := by
  rw [State.updPsg_eq h, Passage.rung]
  by_cases hb : p.st ≠ .armed ∧ (p.legAt p.leg).trigger = 2
  · simp [hb]
  · have hb' : (p.st != .armed && (p.legAt p.leg).trigger == 2) = false := by simpa using hb
    simp [hb, hb']

section
variable {s : State} {slice pid : Nat} {p : Passage} (h : s.psg.find (psgKey slice pid) = some p) (hform : p.form = 0)
include h hform

/-- A waypoint of a passage of plain form with a leg ahead. -/
theorem State.fire_of_target {l i : Nat} (htarget : p.target = some (l, i)) :
    ∃ areas, s.fire slice pid = State.enterLeg { s with
      psg := s.psg.put (psgKey slice pid) p.rung, skk := { s.skk with resid := areas } } slice pid l i := by
  simp only [State.fire, h, htarget]
  rw [State.ringBell_eq h, State.runAvg_of_form (Tbl.find_put _ _ _) (by exact hform), ite_self]
  split
  · exact ⟨s.skk.resid, rfl⟩
  · exact ⟨_, rfl⟩

/-- A waypoint of a passage of plain form with none ahead. -/
theorem State.fire_of_none (htarget : p.target = none) :
    ∃ areas body, s.fire slice pid = (((((State.trace { s with
      psg := s.psg.put (psgKey slice pid) p.rung, skk := { s.skk with resid := areas } } 6 slice body).darkLegPorts
        p).dropTakes slice pid).updPsg slice pid (Passage.ended · s.time16)).retryAll) := by
  simp only [State.fire, h, htarget]
  rw [State.ringBell_eq h, State.runAvg_of_form (Tbl.find_put _ _ _) (by exact hform), ite_self]
  exact ⟨_, _, rfl⟩

end

/-- The waypoint of a passage that lights no port, steps no optimizer and copies no shard enters its leg. -/
theorem State.fire_enters {s : State} {slice pid l i : Nat} {p : Passage} (h : s.psg.find (psgKey slice pid) = some p)
    (htarget : p.target = some (l, i)) (hlights : p.lights = false) (hopt : (p.legAt l).optimizer = false)
    (hlt : l < p.legs.length) (hform : p.form = 0) (hheld : NoHeld s) (hlate : p.heldG = []) (htakes : s.sxt.takes = []) :
    ∃ scalars b psg areas, s.fire slice pid = { s with bnc := b, psg := psg, skk := { s.skk with resid := areas } }
      ∧ psg.find (psgKey slice pid) = some (p.rung.entered l i s.ns s.time16 scalars)
      ∧ OtherPassages slice pid s { s with psg := psg } ∧ b = { s.bnc with trace := b.trace, events := b.events } := by
  obtain ⟨areas, hfire⟩ := State.fire_of_target h hform htarget
  obtain ⟨b, henter, hb⟩ := State.enterLeg_eq (slice := slice) (pid := pid) (p := p.rung)
    (s := { s with psg := s.psg.put (psgKey slice pid) p.rung, skk := { s.skk with resid := areas } }) (Tbl.find_put _ _ _)
    (by exact hlights) hform hheld hlate htakes i hlt hopt
  exact ⟨_, b, _, areas, hfire.trans henter, Tbl.find_put _ _ _,
    OtherPassages.trans (OtherPassages.of_put rfl) (OtherPassages.of_put rfl), hb⟩

theorem State.darkLegPorts_portsOnly (s : State) (p : Passage) : PortsOnly s (s.darkLegPorts p) := by
  unfold State.darkLegPorts
  split
  · exact PortsOnly.rfl
  · refine PortsOnly.foldl (fun s t => ?_) _ _
    split
    · exact (s.blankPort_portsOnly t).trans ⟨_, _, rfl⟩
    · exact PortsOnly.rfl

/-- The waypoint of a passage with no leg ahead ends it. -/
theorem State.fire_ends {s : State} {slice pid : Nat} {p : Passage} (h : s.psg.find (psgKey slice pid) = some p)
    (htarget : p.target = none) (hform : p.form = 0) (hheld : NoHeld s) :
    (s.fire slice pid).psg.find (psgKey slice pid) = some (p.rung.ended s.time16)
      ∧ OtherPassages slice pid s (s.fire slice pid) := by
  obtain ⟨areas, body, hfire⟩ := State.fire_of_none h hform htarget
  obtain ⟨b, htrace, -⟩ := State.trace_eq { s with psg := s.psg.put (psgKey slice pid) p.rung, skk := { s.skk with resid := areas } }
    6 slice body
  rw [htrace] at hfire
  obtain ⟨ports, lasers, hdark⟩ := State.darkLegPorts_portsOnly
    { s with psg := s.psg.put (psgKey slice pid) p.rung, skk := { s.skk with resid := areas }, bnc := b } p
  rw [hdark, State.dropTakes, State.updPsg_eq (Tbl.find_put _ _ _), State.retryAll_of_noHeld (by exact hheld)] at hfire
  rw [hfire]
  exact ⟨Tbl.find_put _ _ _, OtherPassages.trans (OtherPassages.of_put rfl) (OtherPassages.of_put rfl)⟩

/-! ### WAYPOINT_FIRE -/

theorem waypointFire_next {slice : Fin 64} {pid : Fin 256} {p : Passage} {s : State}
    (h : s.psg.find (psgKey slice pid) = some p) (hpaused : s.paused = false)
    (hst : p.st = .running ∨ p.st = .stalled ∨ (p.st = .armed ∧ s.boot.actWait = none)) (hgate : s.gateOpen p = true) :
    exec (.waypointFire slice pid) s = .next ((s.advanceTo (s.retuneFrom p)).fire slice pid) := by
  have hready : (p.st == .running || p.st == .stalled || (p.st == .armed && s.boot.actWait.isNone)) = true := by
    simpa [or_assoc] using hst
  simp only [exec, execWaypointFire, h, hpaused, hready, hgate, Bool.not_true, Bool.or_false, Bool.false_eq_true, if_false]

theorem waypointFire_enters (slice : Fin 64) (pid : Fin 256) (p : Passage) (l i : Nat) (s : State)
    (h : s.psg.find (psgKey slice pid) = some p) (hpaused : s.paused = false)
    (hst : p.st = .running ∨ p.st = .stalled ∨ (p.st = .armed ∧ s.boot.actWait = none)) (hgate : s.gateOpen p = true)
    (htarget : p.target = some (l, i)) (hlights : p.lights = false) (hopt : (p.legAt l).optimizer = false)
    (hlt : l < p.legs.length) (hform : p.form = 0) (hheld : NoHeld s) (hlate : p.heldG = []) (htakes : s.sxt.takes = [])
    (_ : opBase p.operator ≠ 4) :
    ∃ t q, exec (.waypointFire slice pid) s = .next t ∧ t.psg.find (psgKey slice pid) = some q ∧ q.st = .running
      ∧ q.leg = l ∧ q.iter = i ∧ q.parity = p.nextParity ∧ q.prog = [] ∧ q.legDone = false ∧ q.w0 = t.time16
      ∧ q.bells = (if p.st ≠ .armed ∧ (p.legAt p.leg).trigger = 2 then p.bells - 1 else p.bells)
      ∧ q.data = p.data ∧ OtherPassages slice pid s t ∧ Traced s t
      ∧ t = { s with ast := { s.ast with raw := t.ast.raw }, bnc := t.bnc, psg := t.psg
                     skk := { s.skk with resid := t.skk.resid } } := by
  obtain ⟨scalars, b, psg, areas, hfire, hfind, hothers, hb⟩ := State.fire_enters
    (s := s.advanceTo (s.retuneFrom p)) (slice := slice) (pid := pid) h htarget hlights hopt hlt hform hheld hlate htakes
  have hnext := waypointFire_next h hpaused hst hgate
  rw [hfire] at hnext
  exact ⟨_, _, hnext, hfind, rfl, rfl, rfl, rfl, rfl, rfl, rfl, rfl, rfl, hothers, hb, rfl⟩

theorem waypointFire_ends (slice : Fin 64) (pid : Fin 256) (p : Passage) (s : State)
    (h : s.psg.find (psgKey slice pid) = some p) (hpaused : s.paused = false) (hst : p.st = .running ∨ p.st = .stalled)
    (hgate : s.gateOpen p = true) (htarget : p.target = none) (hform : p.form = 0) (hheld : NoHeld s) (_ : s.sxt.takes = [])
    (_ : opBase p.operator ≠ 4) :
    ∃ t q, exec (.waypointFire slice pid) s = .next t ∧ t.psg.find (psgKey slice pid) = some q ∧ q.st = .done
      ∧ q.iter = p.iter + 1 ∧ q.leg = p.leg ∧ q.data = p.data ∧ OtherPassages slice pid s t := by
  obtain ⟨hfind, hothers⟩ := State.fire_ends (s := s.advanceTo (s.retuneFrom p)) (slice := slice) (pid := pid) h htarget hform hheld
  exact ⟨_, _, waypointFire_next h hpaused (hst.imp_right .inl) hgate, hfind, rfl, rfl, rfl, rfl, hothers⟩

theorem waypointFire_shut (slice : Fin 64) (pid : Fin 256) (p : Passage) (s : State)
    (h : s.psg.find (psgKey slice pid) = some p) (hshut : s.paused = true ∨ s.gateOpen p = false) :
    exec (.waypointFire slice pid) s = .next s := by
  have hnot : ∀ ready : Bool, (s.paused || !ready || !s.gateOpen p) = true := fun ready => by
    rcases hshut with h | h <;> simp [h]
  simp only [exec, execWaypointFire, h, hnot, if_true]

/-! ### ARM_EPOCH (R64) -/

theorem armEpoch_next {slice : Fin 64} {pid : Fin 256} {p : Passage} {s : State} (h : s.psg.find (psgKey slice pid) = some p)
    (hpaused : s.paused = false) (hst : p.st = .armed) (hdone : p.legDone = false) :
    ∃ u, u = { s.advanceTo p.epoch with psg := s.psg.put (psgKey slice pid) p.atExit }
      ∧ exec (.armEpoch slice pid) s = .next (if p.colourAhead then u.beginExit slice pid
          else if s.boot.actWait.isSome then u else u.fire slice pid) := by
  refine ⟨_, rfl, ?_⟩
  have hgoes : (s.paused || p.st != .armed || p.legDone) = false := by simp [hpaused, hst, hdone]
  simp only [exec, execArmEpoch, h, hgoes, Bool.false_eq_true, if_false]
  rw [State.updPsg_eq (by exact h)]
  rfl

theorem armEpoch_enters (slice : Fin 64) (pid : Fin 256) (p : Passage) (s : State) (h : s.psg.find (psgKey slice pid) = some p)
    (hpaused : s.paused = false) (hst : p.st = .armed) (hdone : p.legDone = false) (hcolour : p.colourAhead = false)
    (hact : s.boot.actWait = none) (hlegs : 0 < p.legs.length) (hlights : p.lights = false) (hopt : (p.legAt 0).optimizer = false)
    (hform : p.form = 0) (hheld : NoHeld s) (hlate : p.heldG = []) (htakes : s.sxt.takes = []) :
    ∃ t q, exec (.armEpoch slice pid) s = .next t ∧ t.psg.find (psgKey slice pid) = some q ∧ q.st = .running ∧ q.leg = 0
      ∧ q.iter = p.iter ∧ q.parity = false ∧ p.epoch ≤ t.ns ∧ OtherPassages slice pid s t := by
  obtain ⟨u, hu, hnext⟩ := armEpoch_next h hpaused hst hdone
  rw [hcolour, if_neg Bool.false_ne_true, hact, Option.isSome_none, if_neg Bool.false_ne_true, hu] at hnext
  have htarget : p.atExit.target = some (0, p.iter) := by simp [Passage.target, Passage.atExit, hst]
  obtain ⟨scalars, b, psg, areas, hfire, hfind, hothers, -⟩ := State.fire_enters
    (s := { s.advanceTo p.epoch with psg := s.psg.put (psgKey slice pid) p.atExit }) (Tbl.find_put _ _ _) htarget
    (by exact hlights) hopt hlegs hform hheld hlate htakes
  rw [hfire] at hnext
  refine ⟨_, _, hnext, hfind, rfl, rfl, rfl, ?_, s.le_ns_advanceTo p.epoch, OtherPassages.trans (OtherPassages.of_put rfl) hothers⟩
  simp [Passage.entered, Passage.rung, Passage.atExit, Passage.nextParity, hst]

theorem armEpoch_blanks (slice : Fin 64) (pid : Fin 256) (p : Passage) (s : State) (h : s.psg.find (psgKey slice pid) = some p)
    (hpaused : s.paused = false) (hst : p.st = .armed) (hdone : p.legDone = false) (hcolour : p.colourAhead = true) :
    ∃ t q, exec (.armEpoch slice pid) s = .next t ∧ t.psg.find (psgKey slice pid) = some q ∧ q.st = .armed
      ∧ q.legDone = true ∧ (p.blanked = none → q.blanked = some t.ns) ∧ p.epoch ≤ t.ns ∧ OtherPassages slice pid s t := by
  obtain ⟨u, hu, hnext⟩ := armEpoch_next h hpaused hst hdone
  rw [hcolour, if_pos rfl, hu] at hnext
  rcases State.beginExit_eq (s := { s.advanceTo p.epoch with psg := s.psg.put (psgKey slice pid) p.atExit })
    (Tbl.find_put _ _ _) with ⟨hexit, hblank⟩ | ⟨ports, lasers, hexit⟩
  · rw [hexit] at hnext
    exact ⟨_, p.atExit, hnext, Tbl.find_put _ _ _, hst, rfl, fun hnone => absurd hnone (hblank hcolour), s.le_ns_advanceTo p.epoch,
      OtherPassages.of_put rfl⟩
  · rw [hexit] at hnext
    exact ⟨_, p.atExit.blankedAt (s.advanceTo p.epoch).ns, hnext, Tbl.find_put _ _ _, hst, rfl, fun _ => rfl,
      s.le_ns_advanceTo p.epoch, OtherPassages.trans (OtherPassages.of_put rfl) (OtherPassages.of_put rfl)⟩

theorem armEpoch_idle (slice : Fin 64) (pid : Fin 256) (p : Passage) (s : State) (h : s.psg.find (psgKey slice pid) = some p)
    (hidle : s.paused = true ∨ p.st ≠ .armed ∨ p.legDone = true) : exec (.armEpoch slice pid) s = .next s := by
  have hnot : (s.paused || p.st != .armed || p.legDone) = true := by
    rcases hidle with h | h | h <;> simp [h]
  simp only [exec, execArmEpoch, h, hnot, if_true]

end Sys2Proof.Machine

namespace Sys2Proof.Proofs

open Sys2Proof.Machine

/-- Settles O24: the end of a leg, its gates and its timeout, and the waypoints, by whether a leg is ahead and the gate open. -/
theorem legsAndWaypoints : Obligations.LegsAndWaypoints :=
  ⟨⟨legComplete_ends, legComplete_idle, timeTriggerOpen_opens, timeTriggerOpen_noGate, legTimeout_stalls, legTimeout_idle⟩,
    waypointFire_enters, waypointFire_ends, waypointFire_shut, armEpoch_enters, armEpoch_blanks, armEpoch_idle⟩

end Sys2Proof.Proofs
end

section
/-! SUPPORT. Signals of other modules about a passage (R59, R60, R66), and passage data that is refused or held back
(R32, R70, R246). -/

namespace Sys2Proof.Machine

open Safety

/-! ### Signals kept (R59, R60) -/

theorem State.unstall_eq {s : State} {slice pid : Nat} {p : Passage} (h : s.psg.find (psgKey slice pid) = some p) :
    s.unstall slice pid = s ∨ s.unstall slice pid = { s with psg := s.psg.put (psgKey slice pid) { p with st := .running } } := by
  simp only [State.unstall, h]
  split
  · exact .inr (State.updPsg_eq h _)
  · exact .inl rfl

/-- A signal noted in a passage, which may end its stall (R62). -/
theorem State.note_eq {s : State} {slice pid : Nat} {p : Passage} (h : s.psg.find (psgKey slice pid) = some p)
    (f : Passage → Passage) : ∃ psg q, (s.updPsg slice pid f).unstall slice pid = { s with psg := psg }
      ∧ psg.find (psgKey slice pid) = some q ∧ (q = f p ∨ q = { f p with st := .running })
      ∧ OtherPassages slice pid s { s with psg := psg } := by
  rw [State.updPsg_eq h]
  rcases State.unstall_eq (s := { s with psg := s.psg.put (psgKey slice pid) (f p) }) (Tbl.find_put _ _ _) with hu | hu
  · exact ⟨_, f p, hu, Tbl.find_put _ _ _, .inl rfl, OtherPassages.of_put rfl⟩
  · exact ⟨_, _, hu, Tbl.find_put _ _ _, .inr rfl, OtherPassages.trans (OtherPassages.of_put rfl) (OtherPassages.of_put rfl)⟩

/-- A remote trigger kept once (R59). -/
def Passage.hearRemote (p : Passage) (r : Ready) : Passage := if p.remote.contains r then p else { p with remote := p.remote ++ [r] }

theorem Passage.hearRemote_keeps (p : Passage) (r : Ready) : r ∈ (p.hearRemote r).remote
    ∧ (∀ x ∈ p.remote, x ∈ (p.hearRemote r).remote) ∧ (p.hearRemote r).leg = p.leg ∧ (p.hearRemote r).ready = p.ready := by
  unfold Passage.hearRemote
  by_cases h : p.remote.contains r = true
  · rw [if_pos h]
    exact ⟨List.contains_iff_mem.mp h, fun _ hx => hx, rfl, rfl⟩
  · rw [if_neg h]
    exact ⟨List.mem_append_right _ (List.mem_singleton.mpr rfl), fun _ hx => List.mem_append_left _ hx, rfl, rfl⟩

/-- A signal for the colour gate kept once (R60). -/
def Passage.hearReady (p : Passage) (r : Ready) : Passage := if p.ready.contains r then p else { p with ready := p.ready ++ [r] }

theorem Passage.hearReady_keeps (p : Passage) (r : Ready) : r ∈ (p.hearReady r).ready
    ∧ (∀ x ∈ p.ready, x ∈ (p.hearReady r).ready) ∧ (p.hearReady r).leg = p.leg := by
  unfold Passage.hearReady
  by_cases h : p.ready.contains r = true
  · rw [if_pos h]
    exact ⟨List.contains_iff_mem.mp h, fun _ hx => hx, rfl⟩
  · rw [if_neg h]
    exact ⟨List.mem_append_right _ (List.mem_singleton.mpr rfl), fun _ hx => List.mem_append_left _ hx, rfl⟩

/-- A frame taken on a standing port is counted in the stream of its rack (R156). -/
theorem State.rxBytes_standingIn (s : State) (g : Nat) (b : Bytes) :
    ((s.standingIn g b).path g (s.gp g).expectRack).rxBytes = (s.path g (s.gp g).expectRack).rxBytes + b.length :=
  congrArg Path.rxBytes (Tbl.get_upd s.col.path (64 * g + (s.gp g).expectRack) Path.reset
    (fun x => { x with rxBytes := x.rxBytes + b.length, ackDue := true }))

section
variable {g : Fin 64} {frame : Bytes} {p : Passage} {s : State} (hok : s.standingFrameOk g frame = true)
  (hfind : s.psg.find (psgKey (ctlSlice frame) (ctlPid frame)) = some p) (hrack : ctlRack frame ∈ s.others p.rackMask)
include hok hfind hrack

theorem waypointReady_remote (hkind : ctlKind frame = 0x21) (hdigest : be frame 20 4 = p.digest) (huse : byteAt frame 16 = 1) :
    exec (.waypointReady g frame) s = .next (((s.standingIn g frame).updPsg (ctlSlice frame) (ctlPid frame)
      (Passage.hearRemote · ⟨ctlRack frame, ctlLeg frame, ctlIter frame, be frame 20 4⟩)).unstall (ctlSlice frame) (ctlPid frame)) := by
  have hfind' : (s.standingIn g frame).psg.find (psgKey (ctlSlice frame) (ctlPid frame)) = some p := hfind
  have hrack' : ((s.standingIn g frame).others p.rackMask).contains (ctlRack frame) = true := List.contains_iff_mem.mpr hrack
  simp only [exec, execWaypointReady, hok, hkind, hfind', hrack', huse, hdigest, bne_self_eq_false, beq_self_eq_true, Bool.not_true,
    Bool.or_self, Bool.false_and, Bool.false_eq_true, if_true, if_false]
  rfl

theorem waypointReady_gate (hkind : ctlKind frame = 0x21) (hdigest : be frame 20 4 = p.digest) (huse : byteAt frame 16 = 0)
    (hahead : p.leg ≠ ctlLeg frame ∨ p.st = .armed) (hblank : p.blanked = none) :
    exec (.waypointReady g frame) s = .next (((s.standingIn g frame).updPsg (ctlSlice frame) (ctlPid frame)
      (Passage.hearReady · ⟨ctlRack frame, ctlLeg frame, ctlIter frame, be frame 20 4⟩)).unstall (ctlSlice frame) (ctlPid frame)) := by
  have hfind' : (s.standingIn g frame).psg.find (psgKey (ctlSlice frame) (ctlPid frame)) = some p := hfind
  have hrack' : ((s.standingIn g frame).others p.rackMask).contains (ctlRack frame) = true := List.contains_iff_mem.mpr hrack
  have hpassed : (p.st.live && p.st != .armed && p.leg == ctlLeg frame && p.iter % 2 ^ 48 == ctlIter frame) = false := by
    rcases hahead with h | h <;> simp [h]
  have huse' : (0 == 1) = false := rfl
  simp only [exec, execWaypointReady, hok, hkind, hfind', hrack', huse, huse', hdigest, hpassed, hblank, Option.isSome_none,
    bne_self_eq_false, Bool.and_false, Bool.not_true, Bool.or_self, Bool.false_and, Bool.false_or, Bool.false_eq_true, if_true, if_false]
  cases p.target <;> rfl

theorem waypointReady_mismatch (hkind : ctlKind frame = 0x21) (hdigest : be frame 20 4 ≠ p.digest) (hlive : p.st.live = true) :
    exec (.waypointReady g frame) s
      = .next ((s.standingIn g frame).planMismatch (ctlSlice frame) (ctlPid frame) (ctlRack frame)) := by
  have hfind' : (s.standingIn g frame).psg.find (psgKey (ctlSlice frame) (ctlPid frame)) = some p := hfind
  have hrack' : ((s.standingIn g frame).others p.rackMask).contains (ctlRack frame) = true := List.contains_iff_mem.mpr hrack
  simp only [exec, execWaypointReady, hok, hkind, hfind', hrack', bne_iff_ne.mpr hdigest, hlive, bne_self_eq_false, Bool.not_true,
    Bool.or_self, Bool.and_self, Bool.false_eq_true, if_true, if_false]

theorem abortSignal_next (hkind : ctlKind frame = 0x22) (hlive : p.st.live = true) :
    exec (.abortSignal g frame) s = .next (((s.standingIn g frame).logAdd sevNotice (ctlSlice frame) (evNamed 1 "PASSAGE_ABORTED")
      (agentPassage (ctlSlice frame) (ctlPid frame)) [ctlRack frame, byteAt frame 16]).abortPassage (ctlSlice frame) (ctlPid frame) 3) := by
  have hfind' : (s.standingIn g frame).psg.find (psgKey (ctlSlice frame) (ctlPid frame)) = some p := hfind
  have hrack' : ((s.standingIn g frame).others p.rackMask).contains (ctlRack frame) = true := List.contains_iff_mem.mpr hrack
  simp only [exec, execAbortSignal, hok, hkind, hfind', hrack', hlive, bne_self_eq_false, Bool.not_true, Bool.or_self,
    Bool.false_eq_true, if_true, if_false]

end

theorem waypointReady_triggers (g : Fin 64) (frame : Bytes) (p : Passage) (s : State) (hok : s.standingFrameOk g frame = true)
    (hkind : ctlKind frame = 0x21) (hfind : s.psg.find (psgKey (ctlSlice frame) (ctlPid frame)) = some p)
    (hrack : ctlRack frame ∈ s.others p.rackMask) (hdigest : be frame 20 4 = p.digest) (huse : byteAt frame 16 = 1) :
    ∃ t q, exec (.waypointReady g frame) s = .next t
      ∧ t.psg.find (psgKey (ctlSlice frame) (ctlPid frame)) = some q
      ∧ (⟨ctlRack frame, ctlLeg frame, ctlIter frame, be frame 20 4⟩ : Ready) ∈ q.remote
      ∧ (∀ x ∈ p.remote, x ∈ q.remote) ∧ q.leg = p.leg ∧ q.ready = p.ready
      ∧ (t.path g (s.gp g).expectRack).rxBytes = (s.path g (s.gp g).expectRack).rxBytes + frame.length
      ∧ OtherPassages (ctlSlice frame) (ctlPid frame) s t
      ∧ t = { s with psg := t.psg, col := { s.col with path := t.col.path } } := by
  have hnext := waypointReady_remote hok hfind hrack hkind hdigest huse
  obtain ⟨hnew, hold, hleg, hready⟩ := p.hearRemote_keeps ⟨ctlRack frame, ctlLeg frame, ctlIter frame, be frame 20 4⟩
  obtain ⟨psg, q, heq, hq, hkept, hothers⟩ := State.note_eq (s := s.standingIn g frame) hfind
    (Passage.hearRemote · ⟨ctlRack frame, ctlLeg frame, ctlIter frame, be frame 20 4⟩)
  rw [heq] at hnext
  rcases hkept with rfl | rfl
  all_goals exact ⟨_, _, hnext, hq, hnew, hold, hleg, hready, s.rxBytes_standingIn g frame, hothers, rfl⟩

theorem waypointReady_gates (g : Fin 64) (frame : Bytes) (p : Passage) (s : State) (hok : s.standingFrameOk g frame = true)
    (hkind : ctlKind frame = 0x21) (hfind : s.psg.find (psgKey (ctlSlice frame) (ctlPid frame)) = some p)
    (hrack : ctlRack frame ∈ s.others p.rackMask) (hdigest : be frame 20 4 = p.digest) (huse : byteAt frame 16 = 0)
    (hahead : p.leg ≠ ctlLeg frame ∨ p.st = .armed) (hblank : p.blanked = none) :
    ∃ t q, exec (.waypointReady g frame) s = .next t
      ∧ t.psg.find (psgKey (ctlSlice frame) (ctlPid frame)) = some q
      ∧ (⟨ctlRack frame, ctlLeg frame, ctlIter frame, be frame 20 4⟩ : Ready) ∈ q.ready
      ∧ (∀ x ∈ p.ready, x ∈ q.ready) ∧ q.leg = p.leg ∧ OtherPassages (ctlSlice frame) (ctlPid frame) s t
      ∧ t = { s with psg := t.psg, col := { s.col with path := t.col.path } } := by
  have hnext := waypointReady_gate hok hfind hrack hkind hdigest huse hahead hblank
  obtain ⟨hnew, hold, hleg⟩ := p.hearReady_keeps ⟨ctlRack frame, ctlLeg frame, ctlIter frame, be frame 20 4⟩
  obtain ⟨psg, q, heq, hq, hkept, hothers⟩ := State.note_eq (s := s.standingIn g frame) hfind
    (Passage.hearReady · ⟨ctlRack frame, ctlLeg frame, ctlIter frame, be frame 20 4⟩)
  rw [heq] at hnext
  rcases hkept with rfl | rfl
  all_goals exact ⟨_, _, hnext, hq, hnew, hold, hleg, hothers, rfl⟩

/-! ### Signals that abort (R60, R66) -/

/-- An abort after one log entry: the passage is ABORTED, and the entry is the only one created. -/
theorem State.abort_logged {s : State} {slice pid : Nat} {p : Passage} {sev : Nat} (hsev : sev ≠ 0) (event agent cause : Nat)
    (args : List Nat) (hfind : s.psg.find (psgKey slice pid) = some p) (hlive : p.st.live = true) (hheld : NoHeld s)
    (hpass : s.passRuns slice p = false) {t : State} (ht : t = (s.logAdd sev slice event agent args).abortPassage slice pid cause) :
    t.psg.find (psgKey slice pid) = some (p.abortedAs pid) ∧ t.log.created = s.log.created + 1 ∧ OtherPassages slice pid s t := by
  obtain ⟨log, hlog, hcreated⟩ := s.logAdd_eq hsev slice event agent args
  obtain ⟨ports, lasers, queue, link, takes, heq⟩ := State.abortPassage_eq (s := { s with log := log }) cause hfind hlive hheld hpass
  rw [ht, hlog, heq]
  exact ⟨Tbl.find_put _ _ _, hcreated, OtherPassages.of_put rfl⟩

theorem waypointReady_aborts (g : Fin 64) (frame : Bytes) (p : Passage) (s : State) (hok : s.standingFrameOk g frame = true)
    (hkind : ctlKind frame = 0x21) (hfind : s.psg.find (psgKey (ctlSlice frame) (ctlPid frame)) = some p)
    (hrack : ctlRack frame ∈ s.others p.rackMask) (hdigest : be frame 20 4 ≠ p.digest) (hlive : p.st.live = true)
    (hheld : NoHeld s) (hpass : s.passRuns (ctlSlice frame) p = false) :
    ∃ t q, exec (.waypointReady g frame) s = .next t
      ∧ t.psg.find (psgKey (ctlSlice frame) (ctlPid frame)) = some q ∧ q.st = .aborted
      ∧ t.log.created = s.log.created + 1 ∧ OtherPassages (ctlSlice frame) (ctlPid frame) s t := by
  obtain ⟨hq, hcreated, hothers⟩ := State.abort_logged (s := s.standingIn g frame) (sev := sevError) (by decide) _ _ 2 _
    hfind hlive hheld hpass rfl
  exact ⟨_, _, waypointReady_mismatch hok hfind hrack hkind hdigest hlive, hq, rfl, hcreated, hothers⟩

theorem abortSignal_aborts (g : Fin 64) (frame : Bytes) (p : Passage) (s : State) (hok : s.standingFrameOk g frame = true)
    (hkind : ctlKind frame = 0x22) (hfind : s.psg.find (psgKey (ctlSlice frame) (ctlPid frame)) = some p)
    (hrack : ctlRack frame ∈ s.others p.rackMask) (hlive : p.st.live = true) (hheld : NoHeld s)
    (hpass : s.passRuns (ctlSlice frame) p = false) :
    ∃ t q, exec (.abortSignal g frame) s = .next t
      ∧ t.psg.find (psgKey (ctlSlice frame) (ctlPid frame)) = some q ∧ q.st = .aborted ∧ q.acc = []
      ∧ t.log.created = s.log.created + 1 ∧ OtherPassages (ctlSlice frame) (ctlPid frame) s t := by
  obtain ⟨hq, hcreated, hothers⟩ := State.abort_logged (s := s.standingIn g frame) (sev := sevNotice) (by decide) _ _ 3 _
    hfind hlive hheld hpass rfl
  exact ⟨_, _, abortSignal_next hok hfind hrack hkind hlive, hq, rfl, rfl, hcreated, hothers⟩

theorem signals_outsideBurst (g : Fin 64) (frame : Bytes) (s : State) (hok : s.standingFrameOk g frame = false) :
    exec (.waypointReady g frame) s = .next s ∧ exec (.abortSignal g frame) s = .next s := by
  constructor
  · simp only [exec, execWaypointReady, hok, Bool.not_false, Bool.true_or, Bool.false_eq_true, if_true, if_false]
  · simp only [exec, execAbortSignal, hok, Bool.not_false, Bool.true_or, Bool.false_eq_true, if_true, if_false]

/-! ### Data refused (R70, R196, R207) -/

theorem length_leBytes (n v : Nat) : (leBytes n v).length = n := by
  induction n generalizing v with
  | zero => rfl
  | succ n ih => simp [leBytes, ih]

theorem length_beBytes (n v : Nat) : (beBytes n v).length = n := by rw [beBytes, List.length_reverse, length_leBytes]

/-- A NAK names its kind in byte 0 and its cause in byte 16 (R207). -/
theorem byteAt_nakFrame (slice pid rack leg iter cause fid off : Nat) :
    byteAt (nakFrame slice pid rack leg iter cause fid off) 0 = 0x20
      ∧ byteAt (nakFrame slice pid rack leg iter cause fid off) 16 = cause % 256 := by
  constructor
  · rfl
  · have hlen : (ctlHeader 0x20 slice pid rack leg iter).length = 16 := by simp [ctlHeader, length_beBytes, zeros]
    have hbyte : (nakFrame slice pid rack leg iter cause fid off).getD 16 0 = BitVec.ofNat 8 cause := by
      simp [nakFrame, hlen, beBytes, leBytes]
    rw [byteAt, hbyte, BitVec.toNat_ofNat]

/-- A NAK on a terminated port joins its queue, and is counted (R207). -/
theorem State.nak_spec (s : State) (p : Nat) (b : Bytes) (cause : Nat) :
    ∃ f, byteAt f 0 = 0x20 ∧ byteAt f 16 = cause % 256
      ∧ (s.nak p b cause).lp p = { s.lp p with txq := (s.lp p).txq ++ [⟨6, f, 0, none, 0, 0⟩] }
      ∧ (∀ q, q ≠ p → (s.nak p b cause).lp q = s.lp q)
      ∧ s.nak p b cause = { s with lnk := (s.nak p b cause).lnk, bnc := { s.bnc with ctr := (s.nak p b cause).bnc.ctr } } := by
  obtain ⟨h0, h16⟩ := byteAt_nakFrame (bits (byteAt b 1) 0 6) (if byteAt b 0 == 0x01 then byteAt b 2 else 0) s.topo.rack
    (if byteAt b 0 == 0x01 then be b 4 2 % 4096 else 0) 0 cause (frameIdOf b) (be b 8 8)
  exact ⟨_, h0, h16, s.lp_updLp p _, fun q hq => s.lp_updLp_ne _ hq, rfl⟩

/-- Credit freed on a virtual channel raises its limit (R196, R197). -/
theorem State.ownLimit_freeCredit {s : State} {p vc : Nat} (flits : Nat) (h : vc < (s.lp p).ownLimit.length) :
    ((s.freeCredit p vc flits).lp p).ownLimit.getD vc 0 = ((s.lp p).ownLimit.getD vc 0 + flits) % 65536 := by
  rw [State.freeCredit, State.lp_updLp]
  simp [List.getD_eq_getElem?_getD, h]

theorem State.lp_freeCredit_ne (s : State) {p q : Nat} (vc flits : Nat) (h : q ≠ p) : (s.freeCredit p vc flits).lp q = s.lp q :=
  s.lp_updLp_ne _ h

/-- A DATA frame on a live port, neither in a pause nor in a thermal stop (R32, R70, R466). -/
theorem dataFrame_next {p : Fin 256} {vc : Fin 8} {frame : Bytes} {s : State} (hlive : s.lpLive p = true)
    (hpaused : s.paused = false) (hstop : s.mem.thermStop = false) :
    exec (.dataFrame p vc frame) s = .next (if (s.dataOn p vc frame).2 then (s.dataOn p vc frame).1.freeCredit p vc (flitsOf frame.length)
      else (s.dataOn p vc frame).1) := by
  simp only [exec, execDataFrame, hlive, hpaused, hstop, Bool.not_true, Bool.or_self, Bool.false_eq_true, if_false]

theorem dataFrame_refuses (p : Fin 256) (vc : Fin 8) (frame : Bytes) (c : Nat) (s : State) (hlive : s.lpLive p = true)
    (hpaused : s.paused = false) (hstop : s.mem.thermStop = false) (hjudge : s.judgeData (refP p) (some vc) frame = .refuse c)
    (hlen : (s.lp p).ownLimit.length = 8) :
    ∃ t f, exec (.dataFrame p vc frame) s = .next t ∧ (t.lp p).txq = (s.lp p).txq ++ [⟨6, f, 0, none, 0, 0⟩]
      ∧ byteAt f 0 = 0x20 ∧ byteAt f 16 = c % 256
      ∧ (t.lp p).ownLimit.getD vc 0 = ((s.lp p).ownLimit.getD vc 0 + flitsOf frame.length) % 65536
      ∧ (∀ x, s.psg.find (psgKey (dhdr frame).slice (dhdr frame).pid) = some x →
          t.psg.find (psgKey (dhdr frame).slice (dhdr frame).pid) = some { x with refused := x.refused + 1 })
      ∧ OtherPassages (dhdr frame).slice (dhdr frame).pid s t ∧ (∀ q, q ≠ p.val → t.lp q = s.lp q)
      ∧ t = { s with psg := t.psg, lnk := t.lnk, bnc := { s.bnc with ctr := t.bnc.ctr } } := by
  have hon : s.dataOn p vc frame = ((s.countRefused frame).nak p frame c, true) := by simp only [State.dataOn, hjudge]
  have hnext := dataFrame_next (vc := vc) (frame := frame) hlive hpaused hstop
  rw [hon, if_pos rfl] at hnext
  have hcount : s.countRefused frame = { s with psg := (s.countRefused frame).psg } := s.updPsg_frame _ _ _
  have hlp : ∀ q, (s.countRefused frame).lp q = s.lp q := fun q => by
    rw [hcount]
    rfl
  obtain ⟨f, h0, h16, hself, hother, hframe⟩ := (s.countRefused frame).nak_spec p frame c
  obtain ⟨u, hu⟩ : ∃ u, (s.countRefused frame).nak p frame c = u := ⟨_, rfl⟩
  rw [hu] at hnext hself hother hframe
  rw [hlp] at hself
  have hpsg : u.psg = (s.countRefused frame).psg := by rw [hframe]
  refine ⟨_, f, hnext, ?_, h0, h16, ?_, fun x hx => ?_, fun k hk => ?_, fun q hq => ?_, ?_⟩
  · rw [State.freeCredit, State.lp_updLp, hself]
  · rw [State.ownLimit_freeCredit _ (by rw [hself, hlen]; exact vc.isLt), hself]
  · exact (congrArg (Tbl.find · _) hpsg).trans (State.find_updPsg hx _)
  · exact (congrArg (Tbl.find · k) hpsg).trans (s.updPsg_others _ _ _ k hk)
  · rw [State.lp_freeCredit_ne _ _ _ hq, hother q hq, hlp]
  · rw [hcount] at hframe
    rw [State.freeCredit, State.updLp, hframe]

theorem dataFrame_holds (p : Fin 256) (vc : Fin 8) (frame : Bytes) (s : State) (hlive : s.lpLive p = true)
    (hhold : s.paused = true ∨ s.mem.thermStop = true ∨ s.judgeData (refP p) (some vc) frame = .hold) :
    ∃ t, exec (.dataFrame p vc frame) s = .next t
      ∧ t.lp p = { s.lp p with heldq := (s.lp p).heldq ++ [(vc.val, frame, flitsOf frame.length)] }
      ∧ (∀ q, q ≠ p.val → t.lp q = s.lp q) ∧ t = { s with lnk := t.lnk } := by
  refine ⟨s.updLp p (fun x => { x with heldq := x.heldq ++ [(vc.val, frame, flitsOf frame.length)] }), ?_, s.lp_updLp p _,
    fun q hq => s.lp_updLp_ne _ hq, rfl⟩
  by_cases hwait : (s.paused || s.mem.thermStop) = true
  · simp only [exec, execDataFrame, hlive, hwait, Bool.not_true, Bool.false_eq_true, if_false, if_true]
  · obtain ⟨hpaused, hstop⟩ := Bool.or_eq_false_iff.mp (Bool.eq_false_iff.mpr hwait)
    have hjudge : s.judgeData (refP p) (some vc) frame = .hold := by simpa [hpaused, hstop] using hhold
    rw [dataFrame_next hlive hpaused hstop]
    simp only [State.dataOn, hjudge, Bool.false_eq_true, if_false]

theorem dataFrame_dead (p : Fin 256) (vc : Fin 8) (frame : Bytes) (s : State) (hdead : s.lpLive p = false) :
    exec (.dataFrame p vc frame) s = .next s := by
  simp only [exec, execDataFrame, hdead, Bool.not_false, if_true]

/-! ### Leg frames outside their burst or ahead of their leg (R153, R496) -/

theorem globalLegFrame_discards (g : Fin 64) (vc : Fin 8) (seq : Fin 65536) (frame : Bytes) (x : Passage) (s : State)
    (hburst : (s.gp g).burst = none) (hfind : s.psg.find (psgKey (dhdr frame).slice (dhdr frame).pid) = some x) :
    ∃ t, exec (.globalLegFrame g vc seq frame) s = .next t
      ∧ t.psg.find (psgKey (dhdr frame).slice (dhdr frame).pid) = some { x with refused := x.refused + 1 }
      ∧ OtherPassages (dhdr frame).slice (dhdr frame).pid s t ∧ t = { s with psg := t.psg } := by
  have hnext : exec (.globalLegFrame g vc seq frame) s = .next (s.countRefused frame) := by
    simp only [exec, execGlobalLegFrame, hburst]
  rw [State.countRefused, State.updPsg_eq hfind] at hnext
  exact ⟨_, hnext, Tbl.find_put _ _ _, OtherPassages.of_put rfl, rfl⟩

/-- A leg frame in the burst of its passage. -/
theorem globalLegFrame_next {g : Fin 64} {vc : Fin 8} {seq : Fin 65536} {frame : Bytes} {a b : Nat} {s : State}
    (hburst : (s.gp g).burst = some ((dhdr frame).slice, (dhdr frame).pid, a, b)) :
    exec (.globalLegFrame g vc seq frame) s = .next (s.legOn g seq frame) := by
  simp only [exec, execGlobalLegFrame, hburst, beq_self_eq_true, Bool.and_self, if_true]

theorem globalLegFrame_keeps (g : Fin 64) (vc : Fin 8) (seq : Fin 65536) (frame : Bytes) (a b : Nat) (x : Passage) (s : State)
    (hburst : (s.gp g).burst = some ((dhdr frame).slice, (dhdr frame).pid, a, b))
    (hjudge : s.judgeData (refG g) none frame = .hold)
    (hfind : s.psg.find (psgKey (dhdr frame).slice (dhdr frame).pid) = some x) :
    ∃ t, exec (.globalLegFrame g vc seq frame) s = .next t
      ∧ t.psg.find (psgKey (dhdr frame).slice (dhdr frame).pid) = some { x with heldG := x.heldG ++ [(g.val, seq.val, frame)] }
      ∧ OtherPassages (dhdr frame).slice (dhdr frame).pid s t ∧ t = { s with psg := t.psg } := by
  have hnext := globalLegFrame_next (vc := vc) (seq := seq) hburst
  simp only [State.legOn, hjudge, State.updPsg_eq hfind] at hnext
  exact ⟨_, hnext, Tbl.find_put _ _ _, OtherPassages.of_put rfl, rfl⟩

/-! ### STRIPE_FREED (R246) -/

theorem State.retryHeld_of_noHeld {s : State} (h : NoHeld s) (p : Nat) : s.retryHeld p = s := by
  have hnone : (s.lp p).heldq = [] := by
    rw [State.lp, Tbl.get]
    cases hp : s.lnk.port.find p with
    | none => rfl
    | some x => exact h _ (Tbl.mem_of_find hp)
  simp [State.retryHeld, hnone]

theorem State.foldl_retryHeld {s : State} (h : NoHeld s) (ps : List Nat) : ps.foldl (fun s p => s.retryHeld p) s = s :=
  List.foldlRecOn ps _ (motive := fun t => t = s) rfl fun t ht p _ => by
    rw [ht]
    exact State.retryHeld_of_noHeld h p

theorem stripeFreed_frees (slice : Fin 64) (s : State) (hheld : NoHeld s) : ∃ t, exec (.stripeFreed slice) s = .next t
    ∧ (∀ e, e ∈ t.skk.held ↔ e ∈ s.skk.held ∧ e.2 ≠ slice.val) ∧ t = { s with skk := { s.skk with held := t.skk.held } } :=
  ⟨_, congrArg Host.Outcome.next (State.foldl_retryHeld (s := { s with
    skk := { s.skk with held := s.skk.held.filter (fun e => e.2 != slice.val) } }) hheld _), fun e => by simp, rfl⟩

end Sys2Proof.Machine
end

section
/-! SUPPORT. Passage data that is taken (R70, R225 to R246, R496): what the arrival of a block leaves of a passage, from the
stripes it opens to the sums it emits; and statement O25. -/

namespace Sys2Proof.Machine

open Safety

/-! ### Only the skink engine -/

/-- Only the skink engine differs. -/
def SkkOnly (s t : State) : Prop := ∃ k, t = { s with skk := k }

theorem SkkOnly.rfl {s : State} : SkkOnly s s := ⟨_, Eq.refl s⟩

theorem SkkOnly.trans {s t u : State} : SkkOnly s t → SkkOnly t u → SkkOnly s u := by
  rintro ⟨_, rfl⟩ ⟨_, rfl⟩
  exact ⟨_, Eq.refl _⟩

theorem SkkOnly.foldl {α : Type} {g : State → α → State} (h : ∀ s x, SkkOnly s (g s x)) (l : List α) (s : State) :
    SkkOnly s (l.foldl g s) :=
  List.foldlRecOn l g (motive := SkkOnly s) SkkOnly.rfl (fun _ ht x _ => ht.trans (h _ x))

theorem State.skkEvent_skkOnly (s : State) (i : Nat) : SkkOnly s (s.skkEvent i) := ⟨_, rfl⟩

theorem State.countNum_skkOnly (s : State) (slice nan inf sat : Nat) : SkkOnly s (s.countNum slice nan inf sat) := by
  have hevent : ∀ (t : State) (c : Prop) [Decidable c] (i : Nat), SkkOnly t (if c then t else t.skkEvent i) := fun t c _ i => by
    split
    · exact SkkOnly.rfl
    · exact t.skkEvent_skkOnly i
  unfold State.countNum
  split
  · exact SkkOnly.rfl
  · exact SkkOnly.trans ⟨_, rfl⟩ ((hevent _ _ _).trans (hevent _ _ _))

theorem State.absorb_skkOnly (s : State) (slice : Nat) (p : Passage) (blk : Nat) (vs : List (Option Nat)) :
    SkkOnly s (s.absorb slice p blk vs).1 := by
  unfold State.absorb
  split
  · exact SkkOnly.rfl
  · exact SkkOnly.foldl (fun _ _ => ⟨_, rfl⟩) _ _

theorem State.recordResid_skkOnly (s : State) (slice tensor pid e : Nat) (x q : FV) :
    SkkOnly s (s.recordResid slice tensor pid e x q) := by
  unfold State.recordResid
  split
  · exact SkkOnly.rfl
  · split
    · exact SkkOnly.rfl
    · exact iteInduction (fun _ => ⟨_, rfl⟩) (fun _ => ⟨_, rfl⟩)

theorem State.residBlock_skkOnly (s : State) (slice pid : Nat) (p : Passage) (b blk : Nat) (vs : List (Option Nat)) (pair : Bool) :
    SkkOnly s (s.residBlock slice pid p b blk vs pair) := by
  unfold State.residBlock
  split
  · exact SkkOnly.rfl
  · refine SkkOnly.foldl (fun s kv => ?_) _ _
    split
    · exact s.recordResid_skkOnly _ _ _ _ _ _
    · exact SkkOnly.rfl

/-! ### What the arrival of data leaves of a passage -/

/-- Where a passage stands, the bytes taken, and its streams: what the arrival of a block leaves alone. -/
def Passage.standing (p : Passage) : PSt × Nat × Nat × Tbl RxStream := (p.st, p.leg, p.bytesIn, p.rx)

theorem DataOnly.standing {p q : Passage} (h : DataOnly p q) : q.standing = p.standing := by
  obtain ⟨_, _, _, rfl⟩ := h
  rfl

theorem Passage.of_standing {p : Passage} {st : PSt} {leg n : Nat} {rx : Tbl RxStream} (h : p.standing = (st, leg, n, rx)) :
    p.st = st ∧ p.leg = leg ∧ p.bytesIn = n ∧ p.rx = rx := by
  simpa [Passage.standing] using h

/-- Other passages and the links stay, and the passage stands where it stood. -/
def Working (slice pid : Nat) (s t : State) : Prop :=
  OtherPassages slice pid s t
    ∧ (t.psg.find (psgKey slice pid)).map Passage.standing = (s.psg.find (psgKey slice pid)).map Passage.standing
    ∧ t.lnk = s.lnk

section
variable {slice pid : Nat} {s t u : State}

theorem Working.rfl : Working slice pid s s := ⟨OtherPassages.rfl, Eq.refl _, Eq.refl _⟩

theorem Working.trans (h : Working slice pid s t) (k : Working slice pid t u) : Working slice pid s u :=
  ⟨OtherPassages.trans h.1 k.1, k.2.1.trans h.2.1, k.2.2.trans h.2.2⟩

theorem Working.same (h : Working slice pid s t) (hpsg : u.psg = t.psg) (hlnk : u.lnk = t.lnk) : Working slice pid s u :=
  h.trans ⟨fun _ _ => by rw [hpsg], by rw [hpsg], hlnk⟩

theorem Working.skk (h : Working slice pid s t) (k : SkkOnly t u) : Working slice pid s u := by
  obtain ⟨_, rfl⟩ := k
  exact h.same (Eq.refl _) (Eq.refl _)

theorem Working.find {p : Passage} (h : Working slice pid s t) (hp : s.psg.find (psgKey slice pid) = some p) :
    ∃ q, t.psg.find (psgKey slice pid) = some q ∧ q.standing = p.standing := by
  have hq := h.2.1
  rw [hp] at hq
  exact Option.map_eq_some_iff.mp hq

theorem Working.updPsg {f : Passage → Passage} (h : Working slice pid s t) (hf : ∀ x, (f x).standing = x.standing) :
    Working slice pid s (t.updPsg slice pid f) := by
  cases hx : t.psg.find (psgKey slice pid) with
  | none => rwa [State.updPsg_of_none hx]
  | some x =>
    rw [State.updPsg_eq hx]
    refine h.trans ⟨OtherPassages.of_put (Eq.refl _), ?_, Eq.refl _⟩
    rw [Tbl.find_put, hx]
    exact congrArg some (hf x)

theorem Working.put {p q : Passage} (h : Working slice pid s t) (hp : s.psg.find (psgKey slice pid) = some p)
    (hq : q.standing = p.standing) : Working slice pid s (t.updPsg slice pid (fun _ => q)) := by
  obtain ⟨x, hx, hst⟩ := h.find hp
  rw [State.updPsg_eq hx]
  refine h.trans ⟨OtherPassages.of_put (Eq.refl _), ?_, Eq.refl _⟩
  rw [Tbl.find_put, hx]
  exact congrArg some (hq.trans hst.symm)

end

/-! ### Blocks that arrive (R225 to R246) -/

theorem Passage.runFinish_dataOnly (p : Passage) (q : Prog) (pid blk : Nat) (vs : List (Option Nat)) (count : Nat) :
    DataOnly p (p.runFinish q pid blk vs count).1 :=
  DataOnly.foldl (fun p t => by
    dsimp only
    split
    · exact Passage.store_dataOnly _ _ _ _ _ _ _ _
    · exact DataOnly.rfl) _ _

theorem State.emitDone_working (s : State) (slice pid gi blk : Nat) : Working slice pid s (s.emitDone slice pid gi blk) := by
  unfold State.emitDone
  split
  · exact Working.rfl
  · next p hp =>
    split
    · exact Working.rfl
    · have hput : ∀ (q : Passage) (vs : List (Option Nat)) (inf sat : Nat), q.standing = p.standing → Working slice pid s
          (((s.absorb slice (p.takeAcc gi blk).1 blk vs).1.updPsg slice pid (fun _ => q)).countNum slice 0 inf sat) :=
        fun q vs inf sat hq => ((Working.rfl.skk (s.absorb_skkOnly _ _ _ _)).put hp hq).skk (State.countNum_skkOnly _ _ _ _ _)
      have hdone : ∀ q : Passage, DataOnly p q → ∀ stripes (c : Bool),
          (if c = true then { q with stripes := stripes } else q).standing = p.standing := fun q hq stripes c => by
        cases c <;> exact hq.standing
      refine iteInduction (motive := Working slice pid s)
        (fun _ => Working.skk (hput _ _ _ _ ?_) (State.residBlock_skkOnly _ _ _ _ _ _ _ _))
        (fun _ => hput _ _ _ _ ?_)
      all_goals
        refine hdone _ (DataOnly.trans ?_ (Passage.store_dataOnly _ _ _ _ _ _ _ _)) _ _
        split
        · split
          · exact (p.takeAcc_dataOnly gi blk).trans (Passage.runFinish_dataOnly _ _ _ _ _ _)
          · exact p.takeAcc_dataOnly gi blk
        · split
          · exact p.takeAcc_dataOnly gi blk
          · exact p.takeAcc_dataOnly gi blk

theorem State.arriveBlock_working (s : State) (slice pid gi k blk : Nat) (vs : List (Option Nat)) :
    Working slice pid s (s.arriveBlock slice pid gi k blk vs) := by
  unfold State.arriveBlock
  split
  · exact Working.rfl
  · next p hp =>
    have hstep : ∀ (q q' : Passage) (n : Nat), q.standing = p.standing → q'.standing = p.standing → Working slice pid s
        (((s.updPsg slice pid (fun _ => q)).countNum slice n 0 0).updPsg slice pid (fun _ => q')) := fun q q' n hq hq' =>
      ((Working.rfl.put hp hq).skk (State.countNum_skkOnly _ _ _ _ _)).put hp hq'
    dsimp only
    split
    · refine (hstep _ _ _ ?_ ?_).skk (State.countNum_skkOnly _ _ _ _ _)
      · rfl
      · exact (Passage.store_dataOnly _ _ _ _ _ _ _ _).standing.trans rfl
    · split
      · refine (hstep _ _ _ ?_ ?_).trans (State.emitDone_working _ _ _ _ _)
        · rfl
        · rfl
      · refine ((hstep _ _ _ ?_ ?_).skk (State.absorb_skkOnly _ _ _ _ _)).put hp ?_
        · rfl
        · rfl
        · exact ((Passage.takeAcc_dataOnly _ _ _).trans (Passage.store_dataOnly _ _ _ _ _ _ _ _)).standing.trans rfl

/-! ### Stripes that open (R246) -/

theorem State.openStripe_working (s : State) (slice pid gi blk : Nat) : Working slice pid s (s.openStripe slice pid gi blk).1 := by
  unfold State.openStripe
  split
  · exact Working.rfl
  · next p hp =>
    dsimp only
    split
    · exact Working.rfl
    · split
      · exact Working.rfl
      · have hopen : ∀ key w k, Working slice pid s
            { s.updPsg slice pid (fun p => { p with stripes := p.stripes.put key w }) with skk := k } := fun key w k =>
          (Working.rfl.updPsg (f := fun p => { p with stripes := p.stripes.put key w }) fun _ => rfl).skk ⟨k, rfl⟩
        split
        · exact hopen _ _ _
        · split
          · exact hopen _ _ _
          · refine ((hopen _ _ _).updPsg ?_).same (State.logAdd_psg _ _ _ _ _ _) (State.logAdd_lnk _ _ _ _ _ _)
            exact fun _ => rfl

theorem State.openFor_working (s : State) (port : Nat) (b : Bytes) :
    ∀ t, s.openFor port b = some t → Working (dhdr b).slice (dhdr b).pid s t := by
  unfold State.openFor
  dsimp only
  refine List.foldlRecOn _ _ (motive := fun acc => ∀ t, acc = some t → Working (dhdr b).slice (dhdr b).pid s t)
    (fun t ht => Option.some.inj ht ▸ Working.rfl) fun acc hacc blk _ t ht => ?_
  cases acc with
  | none => cases ht
  | some u =>
    have hu := hacc u rfl
    dsimp only at ht
    split at ht
    · cases ht
    · split at ht
      · exact Option.some.inj ht ▸ hu
      · split at ht
        · exact Option.some.inj ht ▸ hu
        · split at ht
          · exact Option.some.inj ht ▸ hu.trans (State.openStripe_working _ _ _ _ _)
          · cases ht

/-! ### Frames that are taken (R70) -/

theorem State.takeBlock_working (s : State) (port : Nat) (h : DHdr) (b : Bytes) (blk : Nat) :
    Working h.slice h.pid s (s.takeBlock port h b blk).1 := by
  unfold State.takeBlock
  split
  · exact Working.rfl
  · split
    · exact Working.rfl
    · dsimp only
      split
      · exact Working.rfl
      · exact State.arriveBlock_working _ _ _ _ _ _ _

/-- The blocks of a frame taken in order, duplicates counted. -/
def State.takeBlocks (s : State) (port : Nat) (b : Bytes) : State × Nat :=
  (dhdr b).blocks.foldl (fun (acc : State × Nat) blk =>
    let x := acc.1.takeBlock port (dhdr b) b blk
    (x.1, acc.2 + b2n x.2)) (s, 0)

theorem State.takeBlocks_working (s : State) (port : Nat) (b : Bytes) :
    Working (dhdr b).slice (dhdr b).pid s (s.takeBlocks port b).1 :=
  List.foldlRecOn _ _ (motive := fun acc => Working (dhdr b).slice (dhdr b).pid s acc.1) Working.rfl
    fun (acc : State × Nat) hacc _ _ => hacc.trans (acc.1.takeBlock_working port (dhdr b) b _)

/-- A passage that counts a frame of `n` blocks, `d` of them duplicates. -/
def Passage.countFrame (p : Passage) (port bytes n d : Nat) : Passage :=
  let p := { p with bytesIn := p.bytesIn + bytes, duplicates := p.duplicates + d }
  match p.receivers port with
  | [] => p
  | (gi, k) :: _ =>
    let x := p.progOf gi k
    if d == n then p else { p with prog := p.prog.put (progKey gi k) { x with acked := x.acked + bytes } }

theorem Passage.standing_countFrame (p : Passage) (port bytes n d : Nat) :
    (p.countFrame port bytes n d).standing = (p.st, p.leg, p.bytesIn + bytes, p.rx) := by
  unfold Passage.countFrame
  dsimp only
  split
  · rfl
  · split
    · rfl
    · rfl

/-- Duplicates of a frame are counted on its link, with one WARNING and one NAK of a passage's leg (R207). -/
def State.noteDuplicates (s : State) (port : Nat) (b : Bytes) (d : Nat) : State :=
  if d == 0 then s
  else
    let s2 := if refClass port == 2 then s.lcount "DUPLICATE_BLOCKS" (refIndex port) d else s
    match s2.psg.find (psgKey (dhdr b).slice (dhdr b).pid) with
    | some p =>
      if p.dupWarned then s2
      else
        let s3 := (s2.updPsg (dhdr b).slice (dhdr b).pid (fun p => { p with dupWarned := true })).logAdd sevWarning (dhdr b).slice
          (evNamed 4 "DUPLICATE_BLOCK") (agentPassage (dhdr b).slice (dhdr b).pid) [(dhdr b).leg, port]
        if refClass port == 2 then s3.nak (refIndex port) b 8 else s3
    | none => s2

theorem State.takeFrame_def (s : State) (port : Nat) (b : Bytes) :
    s.takeFrame port b = ((s.takeBlocks port b).1.updPsg (dhdr b).slice (dhdr b).pid
      (fun p => p.countFrame port (dhdr b).bytes (dhdr b).blocks.length (s.takeBlocks port b).2)).noteDuplicates port b
        (s.takeBlocks port b).2 := rfl

theorem State.ownLimit_nak (s : State) (p : Nat) (b : Bytes) (cause k : Nat) :
    ((s.nak p b cause).lp k).ownLimit = (s.lp k).ownLimit := by
  obtain ⟨f, -, -, hself, hother, -⟩ := s.nak_spec p b cause
  by_cases hk : k = p
  · rw [hk, hself]
  · rw [hother k hk]

/-- Duplicates leave where the passage stands, and the credit of every port. -/
theorem State.noteDuplicates_spec (s : State) (port : Nat) (b : Bytes) (d : Nat) :
    ∃ u, Working (dhdr b).slice (dhdr b).pid s u ∧ (s.noteDuplicates port b d).psg = u.psg
      ∧ ∀ k, ((s.noteDuplicates port b d).lp k).ownLimit = (u.lp k).ownLimit := by
  have hcount : ∀ c : Bool, Working (dhdr b).slice (dhdr b).pid s
      (if c = true then s.lcount "DUPLICATE_BLOCKS" (refIndex port) d else s) := fun c => by
    cases c
    · exact Working.rfl
    · exact Working.rfl.same rfl rfl
  have hwarn : ∀ u, Working (dhdr b).slice (dhdr b).pid s u → Working (dhdr b).slice (dhdr b).pid s
      ((u.updPsg (dhdr b).slice (dhdr b).pid (fun p => { p with dupWarned := true })).logAdd sevWarning (dhdr b).slice
        (evNamed 4 "DUPLICATE_BLOCK") (agentPassage (dhdr b).slice (dhdr b).pid) [(dhdr b).leg, port]) := fun u hu =>
    (hu.updPsg (f := fun p => { p with dupWarned := true }) fun _ => rfl).same (State.logAdd_psg _ _ _ _ _ _)
      (State.logAdd_lnk _ _ _ _ _ _)
  unfold State.noteDuplicates
  split
  · exact ⟨_, Working.rfl, rfl, fun _ => rfl⟩
  · dsimp only
    split
    · split
      · exact ⟨_, hcount _, rfl, fun _ => rfl⟩
      · split
        · exact ⟨_, hwarn _ (hcount true), rfl, State.ownLimit_nak _ _ _ _⟩
        · exact ⟨_, hwarn _ (hcount false), rfl, fun _ => rfl⟩
    · exact ⟨_, hcount _, rfl, fun _ => rfl⟩

/-- A frame that is taken counts its bytes in its passage, which stays where it stands (R70). -/
theorem State.takeFrame_spec {s : State} {b : Bytes} {x : Passage} (port : Nat)
    (hx : s.psg.find (psgKey (dhdr b).slice (dhdr b).pid) = some x) :
    OtherPassages (dhdr b).slice (dhdr b).pid s (s.takeFrame port b)
      ∧ (∃ q, (s.takeFrame port b).psg.find (psgKey (dhdr b).slice (dhdr b).pid) = some q
          ∧ q.standing = (x.st, x.leg, x.bytesIn + (dhdr b).bytes, x.rx))
      ∧ ∀ k, ((s.takeFrame port b).lp k).ownLimit = (s.lp k).ownLimit := by
  have htake := s.takeBlocks_working port b
  obtain ⟨y, hy, hst⟩ := htake.find hx
  have hcount := State.updPsg_eq hy (fun p => p.countFrame port (dhdr b).bytes (dhdr b).blocks.length (s.takeBlocks port b).2)
  obtain ⟨u, hnote, hpsg, hlimit⟩ := State.noteDuplicates_spec { (s.takeBlocks port b).1 with
    psg := (s.takeBlocks port b).1.psg.put (psgKey (dhdr b).slice (dhdr b).pid)
      (y.countFrame port (dhdr b).bytes (dhdr b).blocks.length (s.takeBlocks port b).2) } port b (s.takeBlocks port b).2
  obtain ⟨q, hq, hqst⟩ := hnote.find (Tbl.find_put _ _ _)
  obtain ⟨hothers, -, hlnk⟩ := hnote
  rw [State.takeFrame_def, hcount]
  refine ⟨fun k hk => ?_, ⟨q, ?_, ?_⟩, fun k => ?_⟩
  · rw [hpsg, hothers k hk, Tbl.find_put_ne _ _ hk, htake.1 k hk]
  · rw [hpsg, hq]
  · obtain ⟨h1, h2, h3, h4⟩ := Passage.of_standing hst
    rw [hqst, Passage.standing_countFrame, h1, h2, h3, h4]
  · rw [hlimit, State.lp, hlnk]
    exact congrArg (fun l : Lnk => (l.port.get k LPort.reset).ownLimit) htake.2.2

/-- The same of a frame whose stripes have just been opened. -/
theorem State.openAndTake_spec {s s1 : State} {b : Bytes} {x : Passage} {port : Nat} (hopen : s.openFor port b = some s1)
    (hx : s.psg.find (psgKey (dhdr b).slice (dhdr b).pid) = some x) :
    OtherPassages (dhdr b).slice (dhdr b).pid s (s1.takeFrame port b)
      ∧ (∃ q, (s1.takeFrame port b).psg.find (psgKey (dhdr b).slice (dhdr b).pid) = some q
          ∧ q.standing = (x.st, x.leg, x.bytesIn + (dhdr b).bytes, x.rx))
      ∧ ∀ k, ((s1.takeFrame port b).lp k).ownLimit = (s.lp k).ownLimit := by
  have hwork := s.openFor_working port b s1 hopen
  obtain ⟨y, hy, hyst⟩ := hwork.find hx
  obtain ⟨h1, h2, h3, h4⟩ := Passage.of_standing hyst
  obtain ⟨hothers, ⟨q, hq, hqst⟩, hlimit⟩ := State.takeFrame_spec port hy
  refine ⟨OtherPassages.trans hwork.1 hothers, ⟨q, hq, ?_⟩, fun k => (hlimit k).trans ?_⟩
  · rw [hqst, h1, h2, h3, h4]
  · exact congrArg (fun l : Lnk => (l.port.get k LPort.reset).ownLimit) hwork.2.2

theorem dataFrame_takes (p : Fin 256) (vc : Fin 8) (frame : Bytes) (x : Passage) (s s1 : State) (hlive : s.lpLive p = true)
    (hpaused : s.paused = false) (hstop : s.mem.thermStop = false) (hjudge : s.judgeData (refP p) (some vc) frame = .accept)
    (hopen : s.openFor (refP p) frame = some s1) (hx : s.psg.find (psgKey (dhdr frame).slice (dhdr frame).pid) = some x)
    (hlen : (s.lp p).ownLimit.length = 8) :
    ∃ t q, exec (.dataFrame p vc frame) s = .next t
      ∧ t.psg.find (psgKey (dhdr frame).slice (dhdr frame).pid) = some q
      ∧ q.bytesIn = x.bytesIn + (dhdr frame).bytes ∧ q.st = x.st ∧ q.leg = x.leg
      ∧ (t.lp p).ownLimit.getD vc 0 = ((s.lp p).ownLimit.getD vc 0 + flitsOf frame.length) % 65536
      ∧ OtherPassages (dhdr frame).slice (dhdr frame).pid s t := by
  have hon : s.dataOn p vc frame = (s1.takeFrame (refP p) frame, true) := by simp only [State.dataOn, hjudge, hopen]
  have hnext := dataFrame_next (vc := vc) (frame := frame) hlive hpaused hstop
  rw [hon, if_pos rfl] at hnext
  obtain ⟨hothers, ⟨q, hq, hqst⟩, hlimit⟩ := State.openAndTake_spec hopen hx
  obtain ⟨hst, hleg, hbytes, -⟩ := Passage.of_standing hqst
  refine ⟨_, q, hnext, hq, hbytes, hst, hleg, ?_, hothers⟩
  rw [State.ownLimit_freeCredit _ (by rw [hlimit, hlen]; exact vc.isLt), hlimit]

theorem State.ackLeg_psg (s : State) (t : Nat) (h : DHdr) : (s.ackLeg t h).psg = s.psg := by
  unfold State.ackLeg
  split
  · rfl
  · rfl

theorem globalLegFrame_takes (g : Fin 64) (vc : Fin 8) (seq : Fin 65536) (frame : Bytes) (a b : Nat) (x : Passage) (s s1 : State)
    (hburst : (s.gp g).burst = some ((dhdr frame).slice, (dhdr frame).pid, a, b))
    (hjudge : s.judgeData (refG g) none frame = .accept) (hstop : s.mem.thermStop = false)
    (hopen : s.openFor (refG g) frame = some s1)
    (hx : s.psg.find (psgKey (dhdr frame).slice (dhdr frame).pid) = some x) :
    ∃ t q, exec (.globalLegFrame g vc seq frame) s = .next t
      ∧ t.psg.find (psgKey (dhdr frame).slice (dhdr frame).pid) = some q
      ∧ q.bytesIn = x.bytesIn + (dhdr frame).bytes ∧ q.st = x.st ∧ q.leg = x.leg
      ∧ q.rx.get g RxStream.start = (x.rx.get g RxStream.start).take
          (extendSeq (x.rx.get g RxStream.start).next seq) (flitsOf frame.length)
      ∧ OtherPassages (dhdr frame).slice (dhdr frame).pid s t := by
  have hnext := globalLegFrame_next (vc := vc) (seq := seq) hburst
  simp only [State.legOn, hjudge, hstop, Bool.false_eq_true, if_false, hopen] at hnext
  obtain ⟨hothers, ⟨q, hq, hqst⟩, -⟩ := State.openAndTake_spec hopen hx
  obtain ⟨hst, hleg, hbytes, hrx⟩ := Passage.of_standing hqst
  rw [State.updPsg_eq hq] at hnext
  refine ⟨_, q.streamIn g seq (flitsOf frame.length), hnext, ?_, hbytes, hst, hleg, ?_, fun k hk => ?_⟩
  · rw [State.ackLeg_psg]
    exact Tbl.find_put _ _ _
  · rw [Passage.streamIn, Tbl.get_upd, hrx]
  · rw [State.ackLeg_psg]
    exact (Tbl.find_put_ne _ _ hk).trans (hothers k hk)

end Sys2Proof.Machine

namespace Sys2Proof.Proofs

open Sys2Proof.Machine

/-- Settles O25: signals by their kind and digest; frames by the verdict on them, refused, held back or taken. -/
theorem signalsAndData : Obligations.SignalsAndData :=
  ⟨⟨waypointReady_triggers, waypointReady_gates, waypointReady_aborts, abortSignal_aborts, signals_outsideBurst⟩,
    dataFrame_refuses, dataFrame_holds, dataFrame_takes, dataFrame_dead, globalLegFrame_discards, globalLegFrame_keeps,
    globalLegFrame_takes, stripeFreed_frees⟩

end Sys2Proof.Proofs
end

section
/-! SUPPORT. The registers of a ring (R81 to R89, R110): what a doorbell or configuration write does to its ring and leaves
alone; and statements O3 and O4. -/

namespace Sys2Proof.Safety

open Sys2Proof.Machine

/-! ### One ring and its function block -/

section
variable {fn : Nat} {k : Fin 16} {s t : State}

@[simp] theorem OnlyRing.rfl : OnlyRing fn k s s := ⟨Eq.refl s, fun _ _ _ => Eq.refl _, fun _ _ => Eq.refl _⟩

theorem OnlyRing.updRing (h : OnlyRing fn k s t) (f : Ring → Ring) : OnlyRing fn k s (t.updRing fn k f) := by
  obtain ⟨hframe, hring, hfn⟩ := h
  refine ⟨?_, fun g j hne => (State.ring_updRing_ne t f hne).trans (hring g j hne), hfn⟩
  rw [hframe]
  rfl

theorem OnlyRing.fnErr (h : OnlyRing fn k s t) (i : Nat) : OnlyRing fn k s (t.fnErr fn i) := by
  obtain ⟨hframe, hring, hfn⟩ := h
  refine ⟨?_, hring, fun g hne => (State.fnb_updFn_ne t _ hne).trans (hfn g hne)⟩
  rw [hframe]
  rfl

end

end Sys2Proof.Safety

namespace Sys2Proof.Machine

open Safety

/-! ### Errors of a ring (R87, R89) -/

theorem Ring.toError_of_live {r : Ring} (h : r.st = .running ∨ r.st = .stepHeld) :
    r.toError = { r with st := .error, held := none } := by
  unfold Ring.toError
  rcases h with h | h <;> rw [h]

/-- Only the state of a ring and the command it holds can change when it stops. -/
theorem Ring.toError_frame (r : Ring) : r.toError = { r with st := r.toError.st, held := r.toError.held } := by
  unfold Ring.toError
  split <;> rfl

/-- An error bit of the function is set, and the ring stops where it is RUNNING or STEP_HELD. -/
def State.ringFault (s : State) (fn k i : Nat) : State := (s.fnErr fn i).updRing fn k Ring.toError

@[simp] theorem State.ring_ringFault (s : State) (fn k i : Nat) : (s.ringFault fn k i).ring fn k = (s.ring fn k).toError :=
  State.ring_updRing _ _ _ _

theorem State.bit_err_fnErr (s : State) (fn i : Nat) : bit ((s.fnErr fn i).fnb fn).err i = true := by
  rw [State.fnb_fnErr]
  exact bit_setBit_self _ _

theorem State.bit_err_ringFault (s : State) (fn k i : Nat) : bit ((s.ringFault fn k i).fnb fn).err i = true :=
  s.bit_err_fnErr fn i

theorem State.ringFault_onlyRing (s : State) (fn : Nat) (k : Fin 16) (i : Nat) : OnlyRing fn k s (s.ringFault fn k i) :=
  (OnlyRing.rfl.fnErr i).updRing _

/-- A doorbell that is refused (R84, R89): what it would have written stands, DB_RANGE is set and the ring stops. -/
theorem State.doorbell_refused (s : State) (fn : Nat) (k : Fin 16) {α : Type} (field : Ring → α)
    (hfield : ∀ r st held, field { r with st := st, held := held } = field r) :
    field ((s.ringFault fn k 2).ring fn k) = field (s.ring fn k) ∧ bit ((s.ringFault fn k 2).fnb fn).err 2 = true
      ∧ ((s.ring fn k).st = .running ∨ (s.ring fn k).st = .stepHeld → ((s.ringFault fn k 2).ring fn k).st = .error)
      ∧ OnlyRing fn k s (s.ringFault fn k 2) := by
  refine ⟨?_, s.bit_err_ringFault fn k 2, fun hlive => ?_, s.ringFault_onlyRing fn k 2⟩
  · rw [State.ring_ringFault, Ring.toError_frame, hfield]
  · rw [State.ring_ringFault, Ring.toError_of_live hlive]

/-! ### Doorbells (R84, R89) -/

theorem hifRingCmdDb_moves (fn : Fin 64) (k : Fin 16) (v : Nat) (s : State) (h : v % 2 ^ 16 < 2 ^ (s.ring fn k).log2) :
    ∃ t, exec (.hifRingCmdDb fn k v) s = .next t ∧ t.ring fn k = { s.ring fn k with tail := v % 2 ^ 16 }
      ∧ t.fnb fn = s.fnb fn ∧ OnlyRing fn k s t := by
  refine ⟨_, congrArg Host.Outcome.next ?_, State.ring_updRing s fn k (fun r => { r with tail := v % 2 ^ 16 }), rfl,
    OnlyRing.rfl.updRing _⟩
  exact if_pos (decide_eq_true h)

theorem hifRingCmdDb_refused (fn : Fin 64) (k : Fin 16) (v : Nat) (s : State) (h : 2 ^ (s.ring fn k).log2 ≤ v % 2 ^ 16) :
    ∃ t, exec (.hifRingCmdDb fn k v) s = .next t ∧ (t.ring fn k).tail = (s.ring fn k).tail ∧ bit (t.fnb fn).err 2 = true
      ∧ ((s.ring fn k).st = .running ∨ (s.ring fn k).st = .stepHeld → (t.ring fn k).st = .error) ∧ OnlyRing fn k s t := by
  refine ⟨s.ringFault fn k 2, congrArg Host.Outcome.next ?_, s.doorbell_refused fn k Ring.tail fun _ _ _ => rfl⟩
  exact if_neg fun hlt => absurd (of_decide_eq_true hlt) (Nat.not_lt.mpr h)

/-- The index up to which the completions written have been released (R84). -/
def Ring.released (r : Ring) : Nat := (r.cplIndex + r.size - r.unread) % r.size

section
variable {r : Ring} {h : Nat}

theorem Ring.size_pos (r : Ring) : 0 < r.size := Nat.two_pow_pos _

/-- Judged modulo the size, a full ring has released as much as an empty one. -/
theorem Ring.released_eq (hunread : r.unread ≤ r.size) : (r.cplIndex + r.size - r.unread % r.size) % r.size = r.released := by
  rcases Nat.lt_or_eq_of_le hunread with hlt | heq
  · rw [Nat.mod_eq_of_lt hlt, Ring.released]
  · rw [Ring.released, heq, Nat.mod_self, Nat.sub_zero, Nat.add_sub_cancel, Nat.add_mod_right]

/-- Going `n` on from an index below the size and back again. -/
theorem add_mod_sub_mod {a n N : Nat} (ha : a < N) (hn : n < N) : ((a + n) % N + N - a) % N = n := by
  rcases Nat.lt_or_ge (a + n) N with hlt | hge
  · rw [Nat.mod_eq_of_lt hlt, show a + n + N - a = n + N by omega, Nat.add_mod_right, Nat.mod_eq_of_lt hn]
  · rw [Nat.mod_eq_sub_mod hge, Nat.mod_eq_of_lt (by omega : a + n - N < N), show a + n - N + N - a = n by omega,
      Nat.mod_eq_of_lt hn]

theorem sub_mod_add_mod {a h N : Nat} (ha : a < N) (hh : h < N) : (a + (h + N - a) % N) % N = h := by
  rcases Nat.lt_or_ge h a with hlt | hge
  · rw [Nat.mod_eq_of_lt (by omega : h + N - a < N), show a + (h + N - a) = h + N by omega, Nat.add_mod_right,
      Nat.mod_eq_of_lt hh]
  · rw [show h + N - a = h - a + N by omega, Nat.add_mod_right, Nat.mod_eq_of_lt (by omega : h - a < N),
      show a + (h - a) = h by omega, Nat.mod_eq_of_lt hh]

theorem Ring.released_lt (r : Ring) : r.released < r.size := Nat.mod_lt _ r.size_pos

theorem Ring.head_eq (r : Ring) (n : Nat) :
    (r.cplIndex + r.size - r.unread + n) % r.size = (r.released + n) % r.size := by
  rw [Ring.released, Nat.mod_add_mod]

theorem Ring.headReleases_eq_some {n : Nat} (hn : n ≤ r.unread) (hsize : n < r.size) (hunread : r.unread ≤ r.size)
    (hh : h = (r.cplIndex + r.size - r.unread + n) % r.size) : r.headReleases h = some n := by
  rw [Ring.head_eq] at hh
  have hlt : h < r.size := hh ▸ Nat.mod_lt _ r.size_pos
  simp only [Ring.headReleases, hlt, decide_true, if_true, Ring.released_eq hunread]
  rw [hh, add_mod_sub_mod r.released_lt hsize, if_pos hn]

theorem Ring.headReleases_eq_none (hunread : r.unread ≤ r.size)
    (hh : ∀ n, n ≤ r.unread → h ≠ (r.cplIndex + r.size - r.unread + n) % r.size) : r.headReleases h = none := by
  unfold Ring.headReleases
  split
  · rename_i hlt
    simp only [Ring.released_eq hunread]
    refine if_neg fun hle => hh _ hle ?_
    rw [Ring.head_eq, sub_mod_add_mod r.released_lt (of_decide_eq_true hlt)]
  · rfl

end

theorem hifRingCplDb_releases (fn : Fin 64) (k : Fin 16) (v n : Nat) (s : State) (hn : n ≤ (s.ring fn k).unread)
    (hsize : n < 2 ^ (s.ring fn k).log2) (hunread : (s.ring fn k).unread ≤ 2 ^ (s.ring fn k).log2)
    (hv : v % 2 ^ 16
      = ((s.ring fn k).cplIndex + 2 ^ (s.ring fn k).log2 - (s.ring fn k).unread + n) % 2 ^ (s.ring fn k).log2) :
    ∃ t, exec (.hifRingCplDb fn k v) s = .next t ∧ t.ring fn k = { s.ring fn k with unread := (s.ring fn k).unread - n }
      ∧ t.fnb fn = s.fnb fn ∧ OnlyRing fn k s t := by
  refine ⟨_, congrArg Host.Outcome.next ?_, State.ring_updRing s fn k (fun r => { r with unread := r.unread - n }), rfl,
    OnlyRing.rfl.updRing _⟩
  rw [State.writeHead, Ring.headReleases_eq_some hn hsize hunread hv]

theorem hifRingCplDb_refused (fn : Fin 64) (k : Fin 16) (v : Nat) (s : State)
    (hunread : (s.ring fn k).unread ≤ 2 ^ (s.ring fn k).log2)
    (hv : ∀ n, n ≤ (s.ring fn k).unread → v % 2 ^ 16
      ≠ ((s.ring fn k).cplIndex + 2 ^ (s.ring fn k).log2 - (s.ring fn k).unread + n) % 2 ^ (s.ring fn k).log2) :
    ∃ t, exec (.hifRingCplDb fn k v) s = .next t ∧ (t.ring fn k).unread = (s.ring fn k).unread
      ∧ bit (t.fnb fn).err 2 = true
      ∧ ((s.ring fn k).st = .running ∨ (s.ring fn k).st = .stepHeld → (t.ring fn k).st = .error) ∧ OnlyRing fn k s t := by
  refine ⟨s.ringFault fn k 2, congrArg Host.Outcome.next ?_, s.doorbell_refused fn k Ring.unread fun _ _ _ => rfl⟩
  rw [State.writeHead, Ring.headReleases_eq_none hunread hv]
  rfl

/-! ### STEP, RESUME and the end of a drain (R87, R110) -/

theorem exec_hifRingStepDb {fn : Fin 64} {k : Fin 16} {v : Nat} {s : State} (hv : bit v 0 = true) :
    exec (.hifRingStepDb fn k v) s = .next (if (s.ring fn k).held.isNone then s.fnErr fn 6 else s.startHeld fn k) := by
  change Host.Outcome.next (s.writeStep fn k v) = _
  rw [State.writeStep, hv]
  rfl

theorem hifRingStepDb_empty (fn : Fin 64) (k : Fin 16) (v : Nat) (s : State) (hv : bit v 0 = true)
    (hheld : (s.ring fn k).held = none) :
    ∃ t, exec (.hifRingStepDb fn k v) s = .next t ∧ bit (t.fnb fn).err 6 = true ∧ t.ring fn k = s.ring fn k
      ∧ OnlyRing fn k s t :=
  ⟨s.fnErr fn 6, by rw [exec_hifRingStepDb hv, hheld]; rfl, s.bit_err_fnErr fn 6, rfl, OnlyRing.rfl.fnErr 6⟩

theorem hifRingStepDb_zero (fn : Fin 64) (k : Fin 16) (v : Nat) (s : State) (hv : bit v 0 = false) :
    exec (.hifRingStepDb fn k v) s = .next s := by
  change Host.Outcome.next (s.writeStep fn k v) = _
  rw [State.writeStep, hv]
  rfl

theorem hifRingStepDb_paused (fn : Fin 64) (k : Fin 16) (v : Nat) (s : State) (hv : bit v 0 = true)
    (hheld : (s.ring fn k).held.isSome = true) (hpaused : s.ringsPaused = true) :
    ∃ t, exec (.hifRingStepDb fn k v) s = .next t ∧ t.ring fn k = { s.ring fn k with stepPending := true }
      ∧ OnlyRing fn k s t := by
  obtain ⟨h, hh⟩ := Option.isSome_iff_exists.mp hheld
  refine ⟨_, ?_, State.ring_updRing s fn k (fun r => { r with stepPending := true }), OnlyRing.rfl.updRing _⟩
  rw [exec_hifRingStepDb hv, hh, State.startHeld, hh]
  simp only [hpaused]
  rfl

theorem hifRingCtrlResume_resumes (fn : Fin 64) (k : Fin 16) (v : Nat) (s : State) (hv : bit v 0 = true)
    (hst : (s.ring fn k).st = .error) :
    ∃ t, exec (.hifRingCtrlResume fn k v) s = .next t
      ∧ t.ring fn k = { s.ring fn k with st := if (s.ring fn k).stepMode then .stepHeld else .running }
      ∧ t.fnb fn = s.fnb fn ∧ OnlyRing fn k s t := by
  refine ⟨_, congrArg Host.Outcome.next ?_, State.ring_updRing s fn k (fun r => { r with st := r.goState }), rfl,
    OnlyRing.rfl.updRing _⟩
  rw [State.writeResume, hv, hst]
  rfl

theorem hifRingCtrlResume_idle (fn : Fin 64) (k : Fin 16) (v : Nat) (s : State) (hst : (s.ring fn k).st ≠ .error) :
    exec (.hifRingCtrlResume fn k v) s = .next s :=
  congrArg Host.Outcome.next (if_neg (by simp [hst]))

theorem ringDrainDone_disables (fn : Fin 64) (k : Fin 16) (s : State) (hst : (s.ring fn k).st = .draining)
    (hexec : s.ringExec fn k = none) :
    ∃ t, exec (.ringDrainDone fn k) s = .next t ∧ t.ring fn k = { s.ring fn k with st := .disabled }
      ∧ t.fnb fn = s.fnb fn ∧ OnlyRing fn k s t :=
  ⟨_, congrArg Host.Outcome.next (if_pos (by simp [hst, hexec])),
    State.ring_updRing s fn k (fun r => { r with st := .disabled }), rfl, OnlyRing.rfl.updRing _⟩

/-! ### Writes of HIF_RING_CFG (R82, R87, R110) -/

/-- A change of a ring depends on nothing but what it makes of that ring. -/
theorem State.updRing_congr (s : State) {fn k : Nat} {f g : Ring → Ring} (h : f (s.ring fn k) = g (s.ring fn k)) :
    s.updRing fn k f = s.updRing fn k g := by
  unfold State.ring at h
  simp only [State.updRing, Tbl.upd, h]

/-- The ring after STEP_MODE is written to one that is enabled (R110). -/
def Ring.setStepMode (r : Ring) (v : Nat) : Ring :=
  { r with
    stepMode := bit v 9
    st := match r.st with
      | .running => if bit v 9 then .stepHeld else .running
      | .stepHeld => if bit v 9 then .stepHeld else .running
      | x => x }

/-- The ring that is disabled while it runs (R87). -/
def Ring.drain (r : Ring) : Ring := { r with st := .draining, held := none, stepPending := false }

/-- CFG_WHILE_ENABLED of a write that changes LOG2_ENTRIES of an enabled ring (R82). -/
def State.cfgErr (s : State) (fn k v : Nat) : State := if bits v 0 5 == (s.ring fn k).log2 then s else s.fnErr fn 1

theorem State.cfgErr_onlyRing (s : State) (fn : Nat) (k : Fin 16) (v : Nat) : OnlyRing fn k s (s.cfgErr fn k v) := by
  unfold State.cfgErr
  split
  · exact OnlyRing.rfl
  · exact OnlyRing.rfl.fnErr 1

@[simp] theorem State.ring_cfgErr (s : State) (fn k v g j : Nat) : (s.cfgErr fn k v).ring g j = s.ring g j := by
  unfold State.cfgErr
  split <;> rfl

theorem State.bit_err_cfgErr (s : State) (fn k v : Nat) :
    bit ((s.cfgErr fn k v).fnb fn).err 1 = true ∨ bits v 0 5 = (s.ring fn k).log2 := by
  unfold State.cfgErr
  split
  · rename_i h
    exact .inr (beq_iff_eq.mp h)
  · exact .inl (s.bit_err_fnErr fn 1)

section
variable {fn k v : Nat} {s : State}

theorem State.writeCfg_of_disabled (hst : (s.ring fn k).st = .disabled) (hv : bit v 8 = true) :
    s.writeCfg fn k v
      = if 4 ≤ bits v 0 5 ∧ bits v 0 5 ≤ 16 then
          (s.updRing fn k (fun r => { r with log2 := bits v 0 5, stepMode := bit v 9 })).updRing fn k (fun r => { r with
            st := r.goState, fetch := 0, expectSeq := 0, cplIndex := 0, phase := true, unread := 0
            held := none, stepPending := false })
        else (s.updRing fn k (fun r => { r with log2 := bits v 0 5, stepMode := bit v 9 })).fnErr fn 1 := by
  simp only [State.writeCfg, State.cfgDisabled, hst, hv, beq_self_eq_true, if_true, Bool.not_true, Bool.false_eq_true, if_false,
    decide_eq_true_eq]

theorem State.writeCfg_of_draining (hst : (s.ring fn k).st = .draining) :
    s.writeCfg fn k v
      = if bit v 8 then ((s.cfgErr fn k v).updRing fn k (fun r => { r with stepMode := bit v 9 })).fnErr fn 1
        else (s.cfgErr fn k v).updRing fn k (fun r => { r with stepMode := bit v 9 }) := by
  simp only [State.writeCfg, State.cfgEnabled, hst]
  rfl

theorem State.writeCfg_of_enabled (hst : (s.ring fn k).st ≠ .disabled) (hdrain : (s.ring fn k).st ≠ .draining) :
    s.writeCfg fn k v
      = if bit v 8 then (s.cfgErr fn k v).updRing fn k (fun r => r.setStepMode v)
        else ((s.cfgErr fn k v).updRing fn k (fun r => r.setStepMode v)).updRing fn k Ring.drain := by
  simp only [State.writeCfg, State.cfgEnabled, beq_false_of_ne hst, beq_false_of_ne hdrain, Bool.false_eq_true, if_false]
  rfl

end

theorem ringEnable_starts (fn : Fin 64) (k : Fin 16) (v : Nat) (s : State) (hst : (s.ring fn k).st = .disabled)
    (hv : bit v 8 = true) (hlo : 4 ≤ bits v 0 5) (hhi : bits v 0 5 ≤ 16) :
    ∃ t, exec (.ringEnable fn k v) s = .next t
      ∧ t.ring fn k = { s.ring fn k with
          log2 := bits v 0 5, stepMode := bit v 9, st := if bit v 9 then .stepHeld else .running
          fetch := 0, expectSeq := 0, cplIndex := 0, phase := true, unread := 0, held := none, stepPending := false }
      ∧ t.fnb fn = s.fnb fn ∧ OnlyRing fn k s t := by
  refine ⟨_, congrArg Host.Outcome.next ((State.writeCfg_of_disabled hst hv).trans (if_pos ⟨hlo, hhi⟩)), ?_, rfl,
    (OnlyRing.rfl.updRing _).updRing _⟩
  rw [State.ring_updRing, State.ring_updRing]
  rfl

theorem ringEnable_badSize (fn : Fin 64) (k : Fin 16) (v : Nat) (s : State) (hst : (s.ring fn k).st = .disabled)
    (hv : bit v 8 = true) (hsize : bits v 0 5 < 4 ∨ 16 < bits v 0 5) :
    ∃ t, exec (.ringEnable fn k v) s = .next t ∧ (t.ring fn k).st = .disabled ∧ bit (t.fnb fn).err 1 = true
      ∧ OnlyRing fn k s t := by
  refine ⟨_, congrArg Host.Outcome.next ((State.writeCfg_of_disabled hst hv).trans (if_neg (by omega))), ?_,
    State.bit_err_fnErr _ fn 1, (OnlyRing.rfl.updRing _).fnErr 1⟩
  rw [State.ring_fnErr, State.ring_updRing]
  exact hst

theorem ringEnable_draining (fn : Fin 64) (k : Fin 16) (v : Nat) (s : State) (hst : (s.ring fn k).st = .draining)
    (hv : bit v 8 = true) :
    ∃ t, exec (.ringEnable fn k v) s = .next t ∧ (t.ring fn k).st = .draining ∧ bit (t.fnb fn).err 1 = true
      ∧ OnlyRing fn k s t := by
  refine ⟨_, congrArg Host.Outcome.next ((State.writeCfg_of_draining hst).trans (if_pos hv)), ?_,
    State.bit_err_fnErr _ fn 1, ((s.cfgErr_onlyRing fn k v).updRing _).fnErr 1⟩
  rw [State.ring_fnErr, State.ring_updRing, State.ring_cfgErr]
  exact hst

theorem ringDisable_drains (fn : Fin 64) (k : Fin 16) (v : Nat) (s : State) (hst : (s.ring fn k).st ≠ .disabled)
    (hv : bit v 8 = false) :
    ∃ t, exec (.ringDisable fn k v) s = .next t ∧ (t.ring fn k).st = .draining
      ∧ ((s.ring fn k).st ≠ .draining → (t.ring fn k).held = none)
      ∧ (t.ring fn k).log2 = (s.ring fn k).log2 ∧ OnlyRing fn k s t := by
  have hoff : ¬ bit v 8 = true := by simp [hv]
  by_cases hdrain : (s.ring fn k).st = .draining
  · refine ⟨_, congrArg Host.Outcome.next ((State.writeCfg_of_draining hdrain).trans (if_neg hoff)), ?_,
      fun h => absurd hdrain h, ?_, (s.cfgErr_onlyRing fn k v).updRing _⟩
    · rw [State.ring_updRing, State.ring_cfgErr]
      exact hdrain
    · rw [State.ring_updRing, State.ring_cfgErr]
  · refine ⟨_, congrArg Host.Outcome.next ((State.writeCfg_of_enabled hst hdrain).trans (if_neg hoff)), ?_, fun _ => ?_, ?_,
      ((s.cfgErr_onlyRing fn k v).updRing _).updRing _⟩
    all_goals
      rw [State.ring_updRing, State.ring_updRing, State.ring_cfgErr]
      rfl

theorem Ring.setStepMode_running {r : Ring} {v : Nat} (hst : r.st = .running) (hv : bit v 9 = true) :
    r.setStepMode v = { r with st := .stepHeld, stepMode := true } := by
  simp only [Ring.setStepMode, hst, hv, if_true]

theorem Ring.setStepMode_stepHeld {r : Ring} {v : Nat} (hst : r.st = .stepHeld) (hv : bit v 9 = false) :
    r.setStepMode v = { r with st := .running, stepMode := false } := by
  simp only [Ring.setStepMode, hst, hv, Bool.false_eq_true, if_false]

theorem stepModeSet_holds (fn : Fin 64) (k : Fin 16) (v : Nat) (s : State) (hst : (s.ring fn k).st = .running)
    (hv : bit v 8 = true) (hstep : bit v 9 = true) :
    ∃ t, exec (.stepModeSet fn k v) s = .next t
      ∧ t.ring fn k = { s.ring fn k with st := .stepHeld, stepMode := true } ∧ OnlyRing fn k s t
      ∧ (bit (t.fnb fn).err 1 = true ∨ bits v 0 5 = (s.ring fn k).log2) := by
  refine ⟨_, congrArg Host.Outcome.next ((State.writeCfg_of_enabled (by simp [hst]) (by simp [hst])).trans (if_pos hv)), ?_,
    (s.cfgErr_onlyRing fn k v).updRing _, s.bit_err_cfgErr fn k v⟩
  rw [State.ring_updRing, State.ring_cfgErr, Ring.setStepMode_running hst hstep]

/-! ### Clearing STEP_MODE (R110) -/

/-- The write that clears STEP_MODE of a ring in STEP_HELD sets the ring running. -/
theorem State.writeCfg_runs {fn k v : Nat} {s : State} (hst : (s.ring fn k).st = .stepHeld) (hv : bit v 8 = true)
    (hstep : bit v 9 = false) :
    s.writeCfg fn k v = (s.cfgErr fn k v).updRing fn k (fun r => { r with st := .running, stepMode := false }) := by
  rw [State.writeCfg_of_enabled (by simp [hst]) (by simp [hst]), if_pos hv]
  refine State.updRing_congr _ ?_
  rw [State.ring_cfgErr]
  exact Ring.setStepMode_stepHeld hst hstep

theorem State.startHeld_of_none {s : State} {fn : Fin 64} {k : Fin 16} (h : (s.ring fn k).held = none) :
    s.startHeld fn k = s := by
  rw [State.startHeld, h]

theorem stepModeClear_runs (fn : Fin 64) (k : Fin 16) (v : Nat) (s : State) (hst : (s.ring fn k).st = .stepHeld)
    (hv : bit v 8 = true) (hstep : bit v 9 = false) (hheld : (s.ring fn k).held = none) :
    ∃ t, exec (.stepModeClear fn k v) s = .next t
      ∧ t.ring fn k = { s.ring fn k with st := .running, stepMode := false } ∧ OnlyRing fn k s t := by
  have hring : ((s.writeCfg fn k v).ring fn k) = { s.ring fn k with st := .running, stepMode := false } := by
    rw [State.writeCfg_runs hst hv hstep, State.ring_updRing, State.ring_cfgErr]
  have hnone : (s.writeCfg fn k v).startHeld fn k = s.writeCfg fn k v := State.startHeld_of_none (by rw [hring]; exact hheld)
  refine ⟨s.writeCfg fn k v, congrArg Host.Outcome.next ?_, hring, ?_⟩
  · simp only [State.writeCfgRun, hnone, ite_self]
  · rw [State.writeCfg_runs hst hv hstep]
    exact (s.cfgErr_onlyRing fn k v).updRing _

theorem stepModeClear_starts (fn : Fin 64) (k : Fin 16) (v : Nat) (s : State) (hst : (s.ring fn k).st = .stepHeld)
    (hv : bit v 8 = true) (hstep : bit v 9 = false) (hsize : bits v 0 5 = (s.ring fn k).log2) (hrun : s.ringsPaused = false)
    (hheld : (s.ring fn k).held.isSome = true) :
    exec (.stepModeClear fn k v) s
      = exec (.hifRingStepDb fn k 1) (s.updRing fn k (fun x => { x with st := .running, stepMode := false })) := by
  have hcfg : s.writeCfg fn k v = s.updRing fn k (fun x => { x with st := .running, stepMode := false }) := by
    rw [State.writeCfg_runs hst hv hstep, State.cfgErr, if_pos (beq_iff_eq.mpr hsize)]
  have hpaused : ((s.updRing fn k (fun x => { x with st := .running, stepMode := false })).ringsPaused) = false := hrun
  have hnot : (s.ring fn k).held.isNone = false := by simpa using hheld
  rw [exec_hifRingStepDb rfl, State.ring_updRing, hnot]
  refine congrArg Host.Outcome.next ?_
  simp only [State.writeCfgRun, hcfg, State.ring_updRing, hpaused]
  rfl

end Sys2Proof.Machine

namespace Sys2Proof.Proofs

open Sys2Proof.Machine

/-- Settles O3: the doorbells by what they name, then STEP, RESUME and the end of a drain. -/
theorem doorbells : Obligations.Doorbells :=
  ⟨⟨hifRingCmdDb_moves, hifRingCmdDb_refused, hifRingCplDb_releases, hifRingCplDb_refused⟩,
    hifRingStepDb_empty, hifRingStepDb_zero, hifRingStepDb_paused, hifRingCtrlResume_resumes, hifRingCtrlResume_idle,
    ringDrainDone_disables⟩

/-- Settles O4, by the state of the ring and the bits written. -/
theorem ringConfiguration : Obligations.RingConfiguration :=
  ⟨ringEnable_starts, ringEnable_badSize, ringEnable_draining, ringDisable_drains, stepModeSet_holds, stepModeClear_runs,
    stepModeClear_starts⟩

end Sys2Proof.Proofs
end

section
/-! SUPPORT. Fetching and starting commands (R84 to R89, R95 to R97, R110): the completion an end forms, a command of a ring
entry started as its row starts it; and statement O5. -/

namespace Sys2Proof

/-! ### Fields of an entry -/

theorem le_lt (b : Bytes) (i n : Nat) : le b i n < 256 ^ n := by
  induction n generalizing i with
  | zero => exact Nat.one_pos
  | succ n ih =>
    have hbyte : byteAt b i < 256 := (b.getD i 0).isLt
    have hrest := ih (i + 1)
    rw [le, Nat.pow_succ]
    omega

theorem padTo_of_length {n : Nat} {b : Bytes} (h : b.length = n) : padTo n b = b := by
  rw [padTo, ← h, List.take_length, Nat.sub_self]
  exact List.append_nil b

namespace Machine

open Safety

/-! ### Checks that pass -/

theorem firstFail_cons_eq_none {c : Chk} {cs : List Chk} : firstFail (c :: cs) = none ↔ c = none ∧ firstFail cs = none := by
  cases c <;> simp [firstFail]

theorem ranges_cons_eq_none {off : Nat} {ok : Bool} {t : List (Nat × Bool)} :
    ranges ((off, ok) :: t) = none ↔ ok = true ∧ ranges t = none := by
  cases ok <;> simp [ranges]

/-- A header that passes check 3 names a slice in range (R97). -/
theorem sliceFieldOk_of_headerChk {fn : Nat} {e : Bytes} (h : headerChk fn e = none) :
    sliceFieldOk fn (le e 0 2) (le e 8 2) = true := by
  unfold headerChk at h
  simp only at h
  split at h
  · cases h
  · obtain ⟨hrows, -⟩ := firstFail_cons_eq_none.mp h
    obtain ⟨-, hrows⟩ := ranges_cons_eq_none.mp hrows
    exact (ranges_cons_eq_none.mp hrows).1

/-! ### Completions (R86, R99) -/

/-- The completion entry that the end of a command forms (R99). -/
def State.entry (s : State) (fn ring seq tag status w0 w1 : Nat) (logged : Bool) : Cpl :=
  ⟨tag % 2 ^ 32, status, seq, (s.ring fn ring).phase, logged, w0 % 2 ^ 64, w1 % 2 ^ 64, time48 s.ns, ring⟩

section
variable {s : State} {fn ring : Nat} (seq tag status w0 w1 : Nat) (logged : Bool)

/-- On a ring that is not DISABLED, and where its write does not fail, a completion is put out at its ring's index. -/
theorem State.complete_writes {dma : Dma} (hring : (s.ring fn ring).st ≠ .disabled) (hdma : dma ≠ .cplFault) :
    s.complete fn ring seq tag status w0 w1 logged dma false
      = (s.updRing fn ring Ring.stepCpl).emit (.completion fn ring (s.ring fn ring).cplIndex
          (s.entry fn ring seq tag status w0 w1 logged)) := by
  simp only [State.complete, Bool.false_or, beq_false_of_ne hring, beq_false_of_ne hdma, Bool.false_eq_true, if_false]
  rfl

theorem State.complete_disabled (dma : Dma) (hring : (s.ring fn ring).st = .disabled) :
    s.complete fn ring seq tag status w0 w1 logged dma false = s := by
  simp [State.complete, hring]

end

/-! ### The command of a ring entry (R88, R95 to R97) -/

/-- By cases on the opcode: to compare the two sides by `rfl`, the kernel would unfold the product by 2 ^ 30 in the command. -/
theorem runCmd_fmWindowSet {op : Nat} (hop : op = 0x0401) (r : Req) (s : State) : runCmd op r s = cmdFmWindowSet r s := by
  unfold runCmd
  split
  case h_23 => rfl
  case h_61 => exact absurd hop (by assumption)
  all_goals exact absurd hop (by decide)

/-- Every row of the catalogue runs one command, and it is the command of its opcode (R102). -/
theorem hostRows_run_eq : ∀ x ∈ hostRows, ∃ run, (∀ (r : Req) (s : State), exec (x.2 r) s = ran s x.1 r run)
    ∧ runCmd x.1 = run := by
  have hwindow : runCmd 0x0401 = cmdFmWindowSet := funext₂ (runCmd_fmWindowSet rfl)
  simp only [hostRows, List.forall_mem_cons, List.not_mem_nil, false_implies, implies_true, and_true]
  repeat' apply And.intro
  all_goals refine ⟨_, fun _ _ => rfl, ?_⟩
  any_goals with_reducible exact hwindow
  all_goals rfl

theorem hostRows_runCmd (x : Nat × (Req → Instr)) (hx : x ∈ hostRows) (r : Req) (s : State) :
    exec (x.2 r) s = ran s x.1 r (runCmd x.1) := by
  obtain ⟨run, hrow, rfl⟩ := hostRows_run_eq x hx
  exact hrow r s

theorem State.canStart_of {s : State} {fn k : Nat} (hrun : s.ringsPaused = false) (hexec : s.ringExec fn k = none)
    (hfree : (s.ring fn k).unread < (s.ring fn k).size) : s.canStart fn k = true := by
  simp [State.canStart, hrun, hexec, hfree]

/-- Advancing FETCH leaves alone what lets a command start. -/
theorem State.canStart_stepFetch (s : State) (fn k : Nat) : (s.updRing fn k Ring.stepFetch).canStart fn k = s.canStart fn k := by
  unfold State.canStart
  rw [State.ring_updRing]
  rfl

section
variable {x : Nat × (Req → Instr)} {fn : Fin 64} {k : Fin 16} {s : State}

/-- A command that a ring entry names does what its row does, FETCH and EXPECT_SEQ having advanced (R88, R97). -/
theorem State.startCmd_eq_row {h : Held} (hx : x ∈ hostRows) (hop : le h.entry 0 2 = x.1) (hheader : headerChk fn h.entry = none)
    (hdescr : ∀ i, catalogue.find x.1 = some i → descrChk i h.entry = none) (hstart : s.canStart fn k = true) :
    .next (s.startCmd fn k h) = exec (x.2 (h.req fn k)) (s.updRing fn k Ring.stepFetch) := by
  obtain ⟨i, -, hi, -⟩ := hostRows_run x hx
  have hslice : sliceFieldOk fn x.1 (le h.entry 8 2) = true := hop ▸ sliceFieldOk_of_headerChk hheader
  rw [hostRows_runCmd x hx]
  refine congrArg Host.Outcome.next ?_
  have hcan : (s.updRing fn k Ring.stepFetch).canStart (h.req fn k).fn (h.req fn k).ring = true :=
    (s.canStart_stepFetch fn k).trans hstart
  have hfield : sliceFieldOk (h.req fn k).fn x.1 (h.req fn k).slice = true := hslice
  simp only [State.startCmd, State.hostRow, hop, hheader, hi, hdescr i hi, hcan, hfield, Bool.not_true, Bool.false_eq_true,
    if_false]

/-! ### Fetching (R84, R88, R89, R110) -/

section
variable (hpaused : s.ringsPaused = false) (hexec : s.ringExec fn k = none) (hheld : (s.ring fn k).held = none)
  (hst : (s.ring fn k).st = .running ∨ (s.ring fn k).st = .stepHeld) (htail : (s.ring fn k).fetch ≠ (s.ring fn k).tail)
  (hfree : (s.ring fn k).unread < (s.ring fn k).size)
include hpaused hexec hheld hst htail hfree

theorem commandFetch_some {e : Bytes} (block : Option Bytes) (data : Bytes) (dma : Dma) (hlen : e.length = 64) :
    exec (.commandFetch fn k (some e) block data dma) s = .next (
      if byteAt e 3 != (s.ring fn k).expectSeq then s.seqGap fn k ⟨e, block, data, dma⟩
      else if (s.ring fn k).st == .stepHeld || bit (byteAt e 2) 1 then
        s.updRing fn k (fun r => { r with st := .stepHeld, stepMode := true, held := some ⟨e, block, data, dma⟩ })
      else s.startCmd fn k ⟨e, block, data, dma⟩) := by
  have hlive : ((s.ring fn k).st == .running || (s.ring fn k).st == .stepHeld) = true := by simpa using hst
  change execCommandFetch fn k (some e) block data dma s = _
  simp only [execCommandFetch, hpaused, hexec, hheld, hlive, padTo_of_length hlen, beq_false_of_ne htail, Nat.not_le.mpr hfree,
    decide_false, Option.isSome_none, Bool.not_true, Bool.or_self, Bool.false_eq_true, if_false]

theorem commandFetch_fault (data : Bytes) (dma : Dma) :
    exec (.commandFetch fn k none none data dma) s = .next (s.ringFault fn k 4) := by
  have hlive : ((s.ring fn k).st == .running || (s.ring fn k).st == .stepHeld) = true := by simpa using hst
  change execCommandFetch fn k none none data dma s = _
  simp only [execCommandFetch, hpaused, hexec, hheld, hlive, beq_false_of_ne htail, Nat.not_le.mpr hfree,
    decide_false, Option.isSome_none, Bool.not_true, Bool.or_self, Bool.false_eq_true, if_false]
  rfl

end

end

theorem commandFetch_starts (x : Nat × (Req → Instr)) (fn : Fin 64) (k : Fin 16) (e : Bytes) (block : Option Bytes)
    (data : Bytes) (dma : Dma) (s : State) (hx : x ∈ hostRows) (hop : le e 0 2 = x.1) (hlen : e.length = 64)
    (hpaused : s.ringsPaused = false) (hst : (s.ring fn k).st = .running) (hexec : s.ringExec fn k = none)
    (hheld : (s.ring fn k).held = none) (htail : (s.ring fn k).fetch ≠ (s.ring fn k).tail)
    (hfree : (s.ring fn k).unread < (s.ring fn k).size) (hseq : byteAt e 3 = (s.ring fn k).expectSeq)
    (hheader : headerChk fn e = none) (hflag : bit (byteAt e 2) 1 = false)
    (hdescr : ∀ i, catalogue.find x.1 = some i → descrChk i e = none) :
    exec (.commandFetch fn k (some e) block data dma) s
      = exec (x.2 (Held.req ⟨e, block, data, dma⟩ fn k)) (s.updRing fn k Ring.stepFetch) := by
  rw [commandFetch_some hpaused hexec hheld (.inl hst) htail hfree block data dma hlen, if_neg (by simp [hseq]),
    if_neg (by simp [hst, hflag])]
  exact State.startCmd_eq_row hx hop hheader hdescr (State.canStart_of hpaused hexec hfree)

theorem commandFetch_holds (fn : Fin 64) (k : Fin 16) (e : Bytes) (block : Option Bytes) (data : Bytes) (dma : Dma) (s : State)
    (hlen : e.length = 64) (hpaused : s.ringsPaused = false) (hexec : s.ringExec fn k = none)
    (hheld : (s.ring fn k).held = none) (hst : (s.ring fn k).st = .running ∨ (s.ring fn k).st = .stepHeld)
    (hhold : (s.ring fn k).st = .stepHeld ∨ bit (byteAt e 2) 1 = true) (htail : (s.ring fn k).fetch ≠ (s.ring fn k).tail)
    (hfree : (s.ring fn k).unread < (s.ring fn k).size) (hseq : byteAt e 3 = (s.ring fn k).expectSeq) :
    ∃ t, exec (.commandFetch fn k (some e) block data dma) s = .next t
      ∧ t.ring fn k = { s.ring fn k with st := .stepHeld, stepMode := true, held := some ⟨e, block, data, dma⟩ }
      ∧ OnlyRing fn k s t := by
  rw [commandFetch_some hpaused hexec hheld hst htail hfree block data dma hlen, if_neg (by simp [hseq]),
    if_pos (by simpa using hhold)]
  exact ⟨_, rfl, State.ring_updRing s fn k _, OnlyRing.rfl.updRing _⟩

/-- What a command that a check refuses puts out, and its ring then (R86, R98). -/
theorem State.refuseCmd_spec {s : State} {op : Nat} {r : Req} {x : Ring} (status w0 w1 : Nat)
    (hx : s.ring r.fn r.ring = x) (hring : x.st ≠ .disabled) (hdma : r.dma ≠ .cplFault) :
    (s.refuseCmd op r (status, w0, w1)).out
        = s.out ++ [.completion r.fn r.ring x.cplIndex ((s.begin op r).entry r.fn r.ring r.seq r.tag status w0 w1 false)]
      ∧ (s.refuseCmd op r (status, w0, w1)).ring r.fn r.ring = x.stepCpl := by
  have hbegin : (s.begin op r).ring r.fn r.ring = x := (s.ring_trace _ _ _ _ _).trans hx
  have hon : ((s.begin op r).ring r.fn r.ring).st ≠ .disabled := by rwa [hbegin]
  simp only [State.refuseCmd, State.finish, State.trace_out, State.ring_trace, State.complete_writes _ _ _ _ _ _ hon hdma,
    State.ring_emit, State.ring_updRing, hbegin, and_true]
  simp only [State.emit, State.updRing, State.begin, State.trace_out]

@[simp] theorem State.out_ringFault (s : State) (fn k i : Nat) : (s.ringFault fn k i).out = s.out := rfl

theorem State.seqGap_eq (s : State) (fn : Fin 64) (k : Fin 16) (h : Held) :
    s.seqGap fn k h = ((s.updRing fn k Ring.stepFetch).refuseCmd (le h.entry 0 2) (h.req fn k)
      (0x0105, (s.ring fn k).expectSeq, 0)).ringFault fn k 3 := rfl

/-- A command out of sequence completes with SEQ_GAP, counts as fetched, and stops its ring (R88). -/
theorem State.seqGap_spec {s : State} {fn : Fin 64} {k : Fin 16} (h : Held) (hst : (s.ring fn k).st = .running)
    (hdma : h.dma ≠ .cplFault) :
    (∃ c, (s.seqGap fn k h).out = s.out ++ [.completion fn k (s.ring fn k).cplIndex c] ∧ c.status = 0x0105
        ∧ c.word0 = (s.ring fn k).expectSeq % 2 ^ 64 ∧ c.tag = le h.entry 4 4 % 2 ^ 32)
      ∧ (s.seqGap fn k h).ring fn k = { (s.ring fn k).stepFetch.stepCpl with st := .error, held := none } := by
  have hreq : (h.req fn k).dma ≠ .cplFault := by
    unfold Held.req
    simp only
    split
    · simp
    · exact hdma
  have hon : (s.ring fn k).stepFetch.st ≠ .disabled := by simp [Ring.stepFetch, hst]
  obtain ⟨hout, hring⟩ := State.refuseCmd_spec (op := le h.entry 0 2) (r := h.req fn k) 0x0105
    (s.ring fn k).expectSeq 0 (State.ring_updRing s fn k Ring.stepFetch) hon hreq
  rw [State.seqGap_eq, State.out_ringFault, State.ring_ringFault]
  refine ⟨⟨_, hout, rfl, rfl, rfl⟩, ?_⟩
  exact (congrArg Ring.toError hring).trans (Ring.toError_of_live (.inl hst))
theorem commandFetch_seqGap (fn : Fin 64) (k : Fin 16) (e : Bytes) (block : Option Bytes) (data : Bytes) (s : State)
    (hlen : e.length = 64) (hpaused : s.ringsPaused = false) (hexec : s.ringExec fn k = none)
    (hheld : (s.ring fn k).held = none) (hst : (s.ring fn k).st = .running) (htail : (s.ring fn k).fetch ≠ (s.ring fn k).tail)
    (hfree : (s.ring fn k).unread < (s.ring fn k).size) (hseq : byteAt e 3 ≠ (s.ring fn k).expectSeq) :
    ∃ t c, exec (.commandFetch fn k (some e) block data .ok) s = .next t
      ∧ t.out = s.out ++ [.completion fn k (s.ring fn k).cplIndex c] ∧ c.status = 0x0105
      ∧ c.word0 = (s.ring fn k).expectSeq % 2 ^ 64 ∧ c.tag = le e 4 4
      ∧ (t.ring fn k).st = .error ∧ (t.ring fn k).fetch = ((s.ring fn k).fetch + 1) % (s.ring fn k).size
      ∧ (t.ring fn k).expectSeq = ((s.ring fn k).expectSeq + 1) % 256 ∧ bit (t.fnb fn).err 3 = true := by
  obtain ⟨⟨c, hout, hstatus, hword, htag⟩, hring⟩ := s.seqGap_spec ⟨e, block, data, .ok⟩ hst (by simp)
  have hlt : le e 4 4 < 2 ^ 32 := by simpa using le_lt e 4 4
  refine ⟨s.seqGap fn k ⟨e, block, data, .ok⟩, c, ?_, hout, hstatus, hword, htag.trans (Nat.mod_eq_of_lt hlt), ?_, ?_, ?_,
    State.bit_err_ringFault _ fn k 3⟩
  · rw [commandFetch_some hpaused hexec hheld (.inl hst) htail hfree block data .ok hlen, if_pos (by simpa using hseq)]
  all_goals rw [hring, Ring.stepCpl, Ring.stepFetch]

theorem commandFetch_readFails (fn : Fin 64) (k : Fin 16) (data : Bytes) (dma : Dma) (s : State)
    (hpaused : s.ringsPaused = false) (hexec : s.ringExec fn k = none) (hheld : (s.ring fn k).held = none)
    (hst : (s.ring fn k).st = .running) (htail : (s.ring fn k).fetch ≠ (s.ring fn k).tail)
    (hfree : (s.ring fn k).unread < (s.ring fn k).size) :
    ∃ t, exec (.commandFetch fn k none none data dma) s = .next t ∧ (t.ring fn k).st = .error
      ∧ (t.ring fn k).fetch = (s.ring fn k).fetch ∧ bit (t.fnb fn).err 4 = true ∧ OnlyRing fn k s t := by
  refine ⟨_, commandFetch_fault hpaused hexec hheld (.inl hst) htail hfree data dma, ?_, ?_, s.bit_err_ringFault fn k 4,
    s.ringFault_onlyRing fn k 4⟩
  all_goals rw [State.ring_ringFault, Ring.toError_of_live (.inl hst)]

theorem hifRingStepDb_starts (x : Nat × (Req → Instr)) (fn : Fin 64) (k : Fin 16) (v : Nat) (h : Held) (s : State)
    (hx : x ∈ hostRows) (hop : le h.entry 0 2 = x.1) (hv : bit v 0 = true) (hpaused : s.ringsPaused = false)
    (hexec : s.ringExec fn k = none) (hheld : (s.ring fn k).held = some h)
    (hfree : (s.ring fn k).unread < (s.ring fn k).size) (hheader : headerChk fn h.entry = none)
    (hdescr : ∀ i, catalogue.find x.1 = some i → descrChk i h.entry = none) :
    exec (.hifRingStepDb fn k v) s = exec (x.2 (h.req fn k)) (s.updRing fn k Ring.stepFetch) := by
  rw [exec_hifRingStepDb hv, ← State.startCmd_eq_row hx hop hheader hdescr (State.canStart_of hpaused hexec hfree), hheld,
    State.startHeld, hheld]
  simp only [hpaused]
  rfl

end Machine
end Sys2Proof

namespace Sys2Proof.Proofs

open Sys2Proof.Machine

/-- Settles O5: an entry fetched by the state of its ring and its sequence byte, and the command that a STEP write starts. -/
theorem fetching : Obligations.Fetching :=
  ⟨⟨commandFetch_starts, commandFetch_holds, commandFetch_seqGap, commandFetch_readFails⟩, hifRingStepDb_starts⟩

end Sys2Proof.Proofs
end

section
/-! SUPPORT. Commands that end otherwise than by their own part (R79, R89, R97, R98, R101): refused by a check, timed out, or
with a completion that cannot be written, and the two commands of R106; and statements O2, O6, O9 and O11. -/

namespace Sys2Proof

/-! ### Masks -/

theorem maskOf_succ (n : Nat) (f : Nat → Bool) : maskOf (n + 1) f = maskOf n f + if f n then 2 ^ n else 0 := by
  rw [maskOf, List.range_succ, List.foldl_append]
  rfl

theorem maskOf_lt (n : Nat) (f : Nat → Bool) : maskOf n f < 2 ^ n := by
  induction n with
  | zero => exact Nat.one_pos
  | succ n ih =>
    rw [maskOf_succ, Nat.pow_succ]
    split <;> omega

theorem bit_maskOf (n : Nat) (f : Nat → Bool) {i : Nat} (hi : i < n) : bit (maskOf n f) i = f i := by
  rw [bit_eq_testBit]
  induction n with
  | zero => omega
  | succ n ih =>
    have htop : (maskOf n f).testBit n = false := Nat.testBit_lt_two_pow (maskOf_lt n f)
    rcases Nat.lt_succ_iff_lt_or_eq.mp hi with hlt | rfl
    · rw [maskOf_succ]
      split
      · rw [Nat.add_comm, Nat.testBit_two_pow_add_gt hlt, ih hlt]
      · exact ih hlt
    · rw [maskOf_succ]
      split
      · rename_i hf
        rw [Nat.add_comm, Nat.testBit_two_pow_add_eq, htop, hf]
        rfl
      · rename_i hf
        simpa [hf] using htop

namespace Machine

open Safety

/-! ### Accesses that are not aligned (R79) -/

theorem bar0BadAccess_answers (fn : Fin 64) (write : Bool) (s : State) : ∃ t, exec (.bar0BadAccess fn write) s = .next t
    ∧ t.fnb fn = { s.fnb fn with err := setBit (s.fnb fn).err 0 } ∧ t.out = (if write then s.out else s.out ++ [.readValue 0])
    ∧ t = { s with hif := { s.hif with fn := t.hif.fn }, out := t.out } ∧ ∀ f, f ≠ fn.val → t.fnb f = s.fnb f := by
  cases write with
  | true => exact ⟨s.fnErr fn 0, rfl, s.fnb_fnErr fn 0, rfl, rfl, fun _ hne => s.fnb_updFn_ne _ hne⟩
  | false => exact ⟨(s.fnErr fn 0).answer 0, rfl, s.fnb_fnErr fn 0, rfl, rfl, fun _ hne => s.fnb_updFn_ne _ hne⟩

theorem aligned_eq_false {wide : Bool} {off : Nat} (h : off % (if wide then 8 else 4) ≠ 0) : aligned wide off = false := by
  cases wide <;> simpa [aligned] using h

theorem misaligned_pf (off : Nat) (wide : Bool) (v : Nat) (s : State) (h : off % (if wide then 8 else 4) ≠ 0) :
    exec (.registerWrite (.pf off) wide v) s = exec (.bar0BadAccess 0 true) s
      ∧ exec (.registerReadClear (.pf off) wide) s = exec (.bar0BadAccess 0 false) s := by
  constructor
  · change execRegisterWrite (.pf off) wide v s = _
    rw [execRegisterWrite, aligned_eq_false h]
    rfl
  · change execRegisterReadClear (.pf off) wide s = _
    rw [execRegisterReadClear, aligned_eq_false h]
    rfl

theorem misaligned_vf (n : Fin 64) (off : Nat) (wide : Bool) (v : Nat) (s : State) (h : off % (if wide then 8 else 4) ≠ 0) :
    exec (.registerWrite (.vf n off) wide v) s = exec (.bar0BadAccess n true) s
      ∧ exec (.registerReadClear (.vf n off) wide) s = exec (.bar0BadAccess n false) s := by
  constructor
  · change execRegisterWrite (.vf n off) wide v s = _
    rw [execRegisterWrite, aligned_eq_false h]
    rfl
  · change execRegisterReadClear (.vf n off) wide s = _
    rw [execRegisterReadClear, aligned_eq_false h]
    rfl

/-! ### NOP and FUNCTION_QUERY (R106) -/

theorem cmdNop_of_zero {r : Req} {s : State} (hz : r.z 16 = true) : cmdNop r s = .done s 0 s.hif.heartbeat 0 := by
  rw [cmdNop, hz]
  rfl

theorem cmdNop_of_nonzero {r : Req} {s : State} (hz : r.z 16 = false) : cmdNop r s = .done s 0x0101 16 0 := by
  rw [cmdNop, hz]
  rfl

/-- The masks that FUNCTION_QUERY returns (R106). -/
def State.vfMask (s : State) : Nat := maskOf 64 (fun n => decide (1 ≤ n ∧ n ≤ s.hif.numVfs))
def State.sliceMask (s : State) : Nat := maskOf 64 (fun n => decide (1 ≤ n) && s.hasSlice n)

theorem State.bit_vfMask (s : State) {n : Nat} (hn : n < 64) : bit s.vfMask n = true ↔ 1 ≤ n ∧ n ≤ s.hif.numVfs := by
  rw [State.vfMask, bit_maskOf 64 _ hn, decide_eq_true_iff]

theorem State.bit_sliceMask (s : State) {n : Nat} (hn : n < 64) : bit s.sliceMask n = true ↔ 1 ≤ n ∧ s.hasSlice n = true := by
  rw [State.sliceMask, bit_maskOf 64 _ hn, Bool.and_eq_true, decide_eq_true_iff]

theorem cmdFunctionQuery_of_zero {r : Req} {s : State} (hz : r.z 16 = true) :
    cmdFunctionQuery r s = .done s 0 s.vfMask s.sliceMask := by
  rw [cmdFunctionQuery, hz]
  rfl

theorem cmdFunctionQuery_of_nonzero {r : Req} {s : State} (hz : r.z 16 = false) :
    cmdFunctionQuery r s = .done s 0x0101 16 0 := by
  rw [cmdFunctionQuery, hz]
  rfl

theorem functionQuery_answers (r : Req) (s : State) (hacc : accepts 0x0003 r s = true) (hz : r.z 16 = true) :
    ∃ t w0 w1, exec (.functionQuery r) s = .next t ∧ Completed r s t 0 w0 w1
      ∧ (∀ n, n < 64 → (bit w0 n = true ↔ 1 ≤ n ∧ n ≤ s.hif.numVfs) ∧ (bit w1 n = true ↔ 1 ≤ n ∧ s.hasSlice n = true))
      ∧ Silent s t ∧ Quiet r s t ∧ t = { s with hif := t.hif, bnc := t.bnc, out := t.out } := by
  obtain ⟨t, ht, hc, hrest⟩ := State.hostRow_refused (run := cmdFunctionQuery) (w0 := s.vfMask) (w1 := s.sliceMask) hacc rfl
    fun b => cmdFunctionQuery_of_zero (s := { s with bnc := b }) hz
  exact ⟨t, _, _, ht, hc, fun n hn => ⟨s.bit_vfMask hn, s.bit_sliceMask hn⟩, hrest⟩

/-! ### Commands that a check refuses (R97, R98) -/

/-- A command whose SLICE is out of range completes with FIELD_RANGE at offset 8, and nothing else happens. -/
theorem State.hostRow_badSlice {s : State} {op : Nat} {r : Req} {i : CmdInfo} (run : Req → State → CmdOut)
    (hi : catalogue.find op = some i) (hstart : s.canStart r.fn r.ring = true) (hring : (s.ring r.fn r.ring).st = .running)
    (hdma : r.dma = .ok) (hslice : sliceFieldOk r.fn op r.slice = false) :
    ∃ t, ran s op r run = .next t ∧ Completed r s t 0x0101 8 0 ∧ Silent s t ∧ Quiet r s t
      ∧ t = { s with hif := t.hif, bnc := t.bnc, out := t.out } := by
  have hrow : s.hostRow op r run = (s.begin op r).finish op r 0x0101 8 0 false := by
    simp only [State.hostRow, hi, hstart, hslice, Bool.not_true, Bool.not_false, Bool.false_eq_true, if_false, if_true,
      State.refuseCmd]
  have hbegin : ∃ b, s.begin op r = { s with bnc := b } ∧ b = { s.bnc with trace := b.trace, events := b.events } :=
    s.trace_eq _ _ _
  obtain ⟨b, hbegin, hb⟩ := hbegin
  rw [hbegin] at hrow
  obtain ⟨hcompleted, hsilent, -, hlog, hquiet⟩ := State.finish_ends (s := s) (t := { s with bnc := b }) op 0x0101 8 0 false
    rfl rfl hring hdma
  refine ⟨_, congrArg Host.Outcome.next hrow, hcompleted, hsilent, hquiet hb, (State.finish_frame _ op r _ _ _ false).trans ?_⟩
  rw [hlog]

/-- The nonce that a command refused for its authority leaves: a token command has used it (R401). -/
theorem State.nonce_unauthorized {s : State} {op : Nat} {r : Req} {i : CmdInfo} {run : Req → State → CmdOut} {st w0 w1 : Nat}
    (hi : catalogue.find op = some i) (hstart : s.canStart r.fn r.ring = true) (hring : (s.ring r.fn r.ring).st = .running)
    (hdma : r.dma = .ok) (hslice : sliceFieldOk r.fn op r.slice = true)
    (hauth : authChk s i op r.fn r.slice r.params = some (st, w0, w1)) :
    (s.hostRow op r run).log.nonce = if i.token = 0 then s.log.nonce else none := by
  have hrow : s.hostRow op r run = ((s.begin op r).useNonce i).finish op r st w0 w1 false := by
    simp [State.hostRow, hi, hstart, hslice, State.runReq, authChk_begin, hauth, firstFail, hdma]
  have hbegin : (s.begin op r).log = s.log := by rw [State.begin_frame]
  have hon : (((s.begin op r).useNonce i).ring r.fn r.ring).st ≠ .disabled := by
    rw [State.useNonce_frame, State.begin_frame]
    change (s.ring r.fn r.ring).st ≠ .disabled
    simp [hring]
  obtain ⟨-, -, hlog⟩ := State.finish_quiet ((s.begin op r).useNonce i) op r st w0 w1 false hon hdma
  rw [hrow, hlog, State.useNonce]
  simp only [beq_iff_eq]
  split
  · rw [hbegin]
  · rfl

theorem hostRows_badSlice (op : Nat) (mk : Req → Instr) (hmem : (op, mk) ∈ hostRows) (r : Req) (s : State)
    (hstart : s.canStart r.fn r.ring = true) (hring : (s.ring r.fn r.ring).st = .running) (hdma : r.dma = .ok)
    (hslice : sliceFieldOk r.fn op r.slice = false) :
    ∃ t, exec (mk r) s = .next t ∧ Completed r s t 0x0101 8 0 ∧ Silent s t ∧ Quiet r s t
      ∧ t = { s with hif := t.hif, bnc := t.bnc, out := t.out } := by
  obtain ⟨i, run, hi, hrun⟩ := hostRows_run _ hmem
  obtain ⟨t, ht, h⟩ := State.hostRow_badSlice run hi hstart hring hdma hslice
  exact ⟨t, (hrun r s).trans ht, h⟩

theorem hostRows_unauthorized (op : Nat) (mk : Req → Instr) (hmem : (op, mk) ∈ hostRows) (r : Req) (i : CmdInfo)
    (st w0 w1 : Nat) (s : State) (hstart : s.canStart r.fn r.ring = true) (hring : (s.ring r.fn r.ring).st = .running)
    (hdma : r.dma = .ok) (hslice : sliceFieldOk r.fn op r.slice = true) (hi : catalogue.find op = some i)
    (hauth : authChk s i op r.fn r.slice r.params = some (st, w0, w1)) :
    ∃ t, exec (mk r) s = .next t ∧ Completed r s t st w0 w1 ∧ Silent s t ∧ Quiet r s t
      ∧ t = { s with
          hif := t.hif, bnc := t.bnc, out := t.out
          log := { s.log with nonce := if i.token = 0 then s.log.nonce else none } } := by
  obtain ⟨-, run, -, hrun⟩ := hostRows_run _ hmem
  obtain ⟨t, ht, hcompleted, hsilent, hquiet, hframe⟩ :=
    State.hostRow_unauthorized (run := run) hi hstart hring hdma hslice hauth
  have hnonce := State.nonce_unauthorized (run := run) hi hstart hring hdma hslice hauth
  rw [Host.Outcome.next.inj ht] at hnonce
  refine ⟨t, (hrun r s).trans ht, hcompleted, hsilent, hquiet, ?_⟩
  rw [← hnonce]
  exact hframe

/-! ### Timeouts (R101) -/

/-- A command in execution on a ring is in the list of those in execution. -/
theorem State.ringExec_spec {s : State} {fn k : Nat} {e : Exec} (h : s.ringExec fn k = some e) :
    e ∈ s.hif.execs ∧ e.fn = fn ∧ e.ring = k := by
  have hp := List.find?_some h
  simp only [Bool.and_eq_true, beq_iff_eq] at hp
  exact ⟨List.mem_of_find?_eq_some h, hp.1.1, hp.1.2⟩

/-- EFFECT of a timeout: 2 for the commands that continue in the module (R101). -/
def timeoutEffect (op : Nat) : Nat := if [0x0203, 0x0204, 0x0503, 0x0504, 0x0602, 0x0B01].contains op then 2 else 1

/-- A command exceeds its bound, and its WARNING is created (R101). -/
def State.exceed (s : State) (e : Exec) : State :=
  (s.advanceTo (e.s0 + 1000 * e.bound)).logAdd sevWarning e.slice (evNamed 0 "COMMAND_TIMEOUT") (agentKind 0xC e.fn)
    [e.opcode, e.fn, e.ring, e.tag]

/-- What a command in execution still does is done without a completion (R77, R101). -/
def State.discardExec (s : State) (e : Exec) : State :=
  { s with hif := { s.hif with execs := s.hif.execs.map (fun x => if x == e then { x with discard := true } else x) } }

theorem State.mem_discardExec {s : State} {e : Exec} (h : e ∈ s.hif.execs) :
    { e with discard := true } ∈ (s.discardExec e).hif.execs :=
  List.mem_map.mpr ⟨e, h, if_pos (beq_self_eq_true e)⟩

/-- The completion of a command that has exceeded its bound, with its trace record. -/
def State.completeLate (s : State) (e : Exec) : State :=
  (s.complete e.fn e.ring e.seq e.tag 0x0310 (timeoutEffect e.opcode) e.bound true e.dma false).trace 7 e.slice
    (cmdBody e.fn e.ring e.opcode e.tag 0x0310 e.seq true)

theorem exec_commandTimeout {fn : Fin 64} {k : Fin 16} {e : Exec} {s : State} (h : s.ringExec fn k = some e) :
    exec (.commandTimeout fn k) s = .next (((s.exceed e).completeLate e).discardExec e) := by
  change execCommandTimeout fn k s = _
  rw [execCommandTimeout, h]
  rfl

theorem State.exceed_eq (s : State) (e : Exec) :
    ∃ log, s.exceed e = { s with ast := (s.advanceTo (e.s0 + 1000 * e.bound)).ast, log := log }
      ∧ log.created = s.log.created + 1 :=
  State.logAdd_eq (s.advanceTo (e.s0 + 1000 * e.bound)) (by decide) _ _ _ _

theorem timeoutEffect_eq (op : Nat) : (timeoutEffect op % 2 ^ 64 = 1 ∨ timeoutEffect op % 2 ^ 64 = 2)
    ∧ (timeoutEffect op % 2 ^ 64 = 2 → op ∈ [0x0203, 0x0204, 0x0503, 0x0504, 0x0602, 0x0B01]) := by
  unfold timeoutEffect
  split
  · rename_i h
    exact ⟨.inr rfl, fun _ => List.elem_iff.mp h⟩
  · exact ⟨.inl rfl, fun h => absurd h (by decide)⟩

theorem commandTimeout_completes (fn : Fin 64) (k : Fin 16) (e : Exec) (s : State) (hexec : s.ringExec fn k = some e)
    (hdma : e.dma = .ok) (hring : (s.ring fn k).st ≠ .disabled) :
    ∃ t c, exec (.commandTimeout fn k) s = .next t
      ∧ t.out = s.out ++ [.completion fn k (s.ring fn k).cplIndex c] ∧ c.status = 0x0310 ∧ c.tag = e.tag % 2 ^ 32
      ∧ c.word1 = e.bound % 2 ^ 64 ∧ (c.word0 = 1 ∨ c.word0 = 2)
      ∧ (c.word0 = 2 → e.opcode ∈ [0x0203, 0x0204, 0x0503, 0x0504, 0x0602, 0x0B01])
      ∧ t.log.created = s.log.created + 1 ∧ { e with discard := true } ∈ t.hif.execs
      ∧ t = { s with ast := t.ast, bnc := t.bnc, log := t.log, hif := t.hif, out := t.out } := by
  obtain ⟨hmem, hfn, hk⟩ := State.ringExec_spec hexec
  obtain ⟨heffect, hcontinues⟩ := timeoutEffect_eq e.opcode
  obtain ⟨log, hexceed, hcreated⟩ := s.exceed_eq e
  have hcomplete := State.complete_writes (s := s.exceed e) (fn := e.fn) (ring := e.ring) e.seq e.tag 0x0310
    (timeoutEffect e.opcode) e.bound true (dma := e.dma) (by rw [hexceed, hfn, hk]; exact hring) (by simp [hdma])
  have hnext := exec_commandTimeout hexec
  rw [State.completeLate, hcomplete] at hnext
  obtain ⟨b, htrace, -⟩ := State.trace_eq (((s.exceed e).updRing e.fn e.ring Ring.stepCpl).emit
    (.completion e.fn e.ring ((s.exceed e).ring e.fn e.ring).cplIndex
      ((s.exceed e).entry e.fn e.ring e.seq e.tag 0x0310 (timeoutEffect e.opcode) e.bound true))) 7 e.slice
    (cmdBody e.fn e.ring e.opcode e.tag 0x0310 e.seq true)
  rw [htrace, hexceed, hfn, hk] at hnext
  exact ⟨_, _, hnext, rfl, rfl, rfl, rfl, heffect, hcontinues, hcreated, State.mem_discardExec hmem, rfl⟩

theorem commandTimeout_disabled (fn : Fin 64) (k : Fin 16) (e : Exec) (s : State) (hexec : s.ringExec fn k = some e)
    (hring : (s.ring fn k).st = .disabled) :
    ∃ t, exec (.commandTimeout fn k) s = .next t ∧ t.out = s.out ∧ { e with discard := true } ∈ t.hif.execs := by
  obtain ⟨hmem, hfn, hk⟩ := State.ringExec_spec hexec
  obtain ⟨log, hexceed, -⟩ := s.exceed_eq e
  have hcomplete := State.complete_disabled (s := s.exceed e) (fn := e.fn) (ring := e.ring) e.seq e.tag 0x0310
    (timeoutEffect e.opcode) e.bound true e.dma (by rw [hexceed, hfn, hk]; exact hring)
  have hnext := exec_commandTimeout hexec
  rw [State.completeLate, hcomplete] at hnext
  obtain ⟨b, htrace, -⟩ := (s.exceed e).trace_eq 7 e.slice (cmdBody e.fn e.ring e.opcode e.tag 0x0310 e.seq true)
  rw [htrace, hexceed] at hnext
  exact ⟨_, hnext, rfl, State.mem_discardExec hmem⟩

theorem commandTimeout_idle (fn : Fin 64) (k : Fin 16) (s : State) (h : s.ringExec fn k = none) :
    exec (.commandTimeout fn k) s = .next s := by
  change execCommandTimeout fn k s = _
  rw [execCommandTimeout, h]

/-! ### Completions that cannot be written (R89) -/

/-- The ERROR of a completion that is lost. -/
def State.noteLost (s : State) (fn ring seq tag status idx : Nat) : State :=
  s.logAdd sevError 0 (evNamed 0 "COMPLETION_LOST") (agentKind 0xC fn) [tag % 2 ^ 32, status, seq, ring * 2 ^ 16 + idx]

theorem State.complete_lost {s : State} {fn ring : Nat} (seq tag status w0 w1 : Nat) (logged : Bool)
    (hring : (s.ring fn ring).st ≠ .disabled) :
    s.complete fn ring seq tag status w0 w1 logged .cplFault false
      = ((s.updRing fn ring Ring.stepCpl).ringFault fn ring 5).noteLost fn ring seq tag status (s.ring fn ring).cplIndex := by
  simp only [State.complete, Bool.false_or, beq_false_of_ne hring, Bool.false_eq_true, if_false, beq_self_eq_true, if_true]
  rfl

/-- The end of a command whose completion cannot be written. -/
theorem State.finish_lost {s : State} {op : Nat} {r : Req} (st w0 w1 : Nat) (logged : Bool)
    (hring : (s.ring r.fn r.ring).st = .running) (hdma : r.dma = .cplFault) :
    (s.finish op r st w0 w1 logged).out = s.out ∧ bit ((s.finish op r st w0 w1 logged).fnb r.fn).err 5 = true
      ∧ (s.finish op r st w0 w1 logged).ring r.fn r.ring
          = { (s.ring r.fn r.ring).stepCpl with st := .error, held := none }
      ∧ (s.finish op r st w0 w1 logged).log.created = s.log.created + 1 := by
  have hon : (s.ring r.fn r.ring).st ≠ .disabled := by simp [hring]
  obtain ⟨b, htrace, -⟩ := State.trace_eq (s.complete r.fn r.ring r.seq r.tag st w0 w1 logged r.dma false) 7 r.slice
    (cmdBody r.fn r.ring op r.tag st r.seq true)
  obtain ⟨log, hlog, hcreated⟩ := State.logAdd_eq ((s.updRing r.fn r.ring Ring.stepCpl).ringFault r.fn r.ring 5)
    (by decide : sevError ≠ 0) 0 (evNamed 0 "COMPLETION_LOST") (agentKind 0xC r.fn)
    [r.tag % 2 ^ 32, st, r.seq, r.ring * 2 ^ 16 + (s.ring r.fn r.ring).cplIndex]
  rw [State.finish, htrace, hdma, State.complete_lost _ _ _ _ _ _ hon, State.noteLost, hlog]
  refine ⟨rfl, State.bit_err_ringFault _ r.fn r.ring 5, ?_, hcreated⟩
  refine (State.ring_ringFault _ r.fn r.ring 5).trans ?_
  rw [State.ring_updRing]
  exact Ring.toError_of_live (.inl hring)

/-- NOP is done, whatever its reserved bytes hold. -/
theorem cmdNop_done (r : Req) (s : State) : ∃ st w0 w1, cmdNop r s = .done s st w0 w1 := by
  cases hz : r.z 16 with
  | true => exact ⟨_, _, _, cmdNop_of_zero hz⟩
  | false => exact ⟨_, _, _, cmdNop_of_nonzero hz⟩

/-- A NOP that would be accepted but for the write of its completion ends with it. -/
theorem nop_finishes {r : Req} {s : State} (hacc : accepts 0x0002 { r with dma := .ok } s = true) :
    (s.ring r.fn r.ring).st = .running
      ∧ ∃ st w0 w1 l, exec (.nop r) s = .next ((s.started 0x0002 r).finish 0x0002 r st w0 w1 l) := by
  obtain ⟨st, w0, w1, hdone⟩ := cmdNop_done r (s.started 0x0002 r)
  have hi : catalogue.find 0x0002 = some ⟨false, 100, false, 0⟩ := rfl
  simp only [accepts, hi, Bool.and_eq_true, beq_iff_eq] at hacc
  obtain ⟨⟨⟨⟨hstart, hring⟩, -⟩, hslice⟩, hauth, -⟩ := hacc
  refine ⟨hring, st, w0, w1, (s.started 0x0002 r).log.created != s.log.created, congrArg Host.Outcome.next ?_⟩
  simp only [State.started, hi] at hdone ⊢
  simp only [State.hostRow, hi, hstart, hslice, State.runReq, authChk_begin, hauth, blockChk, firstFail, hdone, Bool.not_true,
    Bool.not_false, Bool.false_eq_true, if_false, if_true]

theorem nop_lost (r : Req) (s : State) (hacc : accepts 0x0002 { r with dma := .ok } s = true) (hdma : r.dma = .cplFault) :
    ∃ t, exec (.nop r) s = .next t ∧ t.out = s.out ∧ bit (t.fnb r.fn).err 5 = true ∧ (t.ring r.fn r.ring).st = .error
      ∧ (t.ring r.fn r.ring).cplIndex = (if (s.ring r.fn r.ring).cplIndex + 1 ≥ (s.ring r.fn r.ring).size then 0
          else (s.ring r.fn r.ring).cplIndex + 1)
      ∧ ((t.ring r.fn r.ring).phase = (s.ring r.fn r.ring).phase ↔
          (s.ring r.fn r.ring).cplIndex + 1 < (s.ring r.fn r.ring).size)
      ∧ (t.ring r.fn r.ring).unread = (s.ring r.fn r.ring).unread + 1 ∧ t.log.created = s.log.created + 1 := by
  obtain ⟨hring, st, w0, w1, l, hnext⟩ := nop_finishes hacc
  have hstarted : ∀ f k, (s.started 0x0002 r).ring f k = s.ring f k := State.ring_of_hif (s.started_hif 0x0002 r)
  obtain ⟨hout, herr, hend, hcreated⟩ := State.finish_lost (s := s.started 0x0002 r) (op := 0x0002) st w0 w1 l
    (by rw [hstarted]; exact hring) hdma
  rw [hstarted] at hend
  refine ⟨_, hnext, hout.trans (s.started_out 0x0002 r), herr, ?_, ?_, ?_, ?_, hcreated.trans ?_⟩
  · rw [hend]
  · rw [hend]
    simp only [Ring.stepCpl, decide_eq_true_eq]
  · rw [hend]
    simp only [Ring.stepCpl, decide_eq_true_eq]
    split
    · simp; omega
    · simp; omega
  · rw [hend]
    rfl
  · rw [State.started_frame]

end Machine
end Sys2Proof

namespace Sys2Proof.Proofs

open Sys2Proof.Machine

/-- Settles O2: each command by whether its reserved bytes are 0. -/
theorem nopAndFunctionQuery : Obligations.NopAndFunctionQuery :=
  ⟨⟨rfl, rfl⟩, fun _ s hacc hz => State.hostRow_refused hacc rfl fun b => cmdNop_of_zero (s := { s with bnc := b }) hz,
    functionQuery_answers,
    fun _ s hacc hz => State.hostRow_refused hacc rfl fun b => cmdNop_of_nonzero (s := { s with bnc := b }) hz,
    fun _ s hacc hz => State.hostRow_refused hacc rfl fun b => cmdFunctionQuery_of_nonzero (s := { s with bnc := b }) hz⟩

/-- Settles O6: the access itself, and the register rows that come to it. -/
theorem misalignedAccess : Obligations.MisalignedAccess := ⟨bar0BadAccess_answers, misaligned_pf, misaligned_vf⟩

/-- Settles O9: a command beyond its bound, by its ring; and a completion that is lost. -/
theorem timeoutsAndLostCompletions : Obligations.TimeoutsAndLostCompletions :=
  ⟨⟨commandTimeout_completes, commandTimeout_disabled, commandTimeout_idle⟩, nop_lost⟩

/-- Settles O11: check 3 by the slice field, checks 5 to 7 by the first that fails. -/
theorem checksRefuse : Obligations.ChecksRefuse := ⟨hostRows_badSlice, hostRows_unauthorized⟩

end Sys2Proof.Proofs
end

section
/-! SUPPORT. The status pages, function resets and the host link (R73, R77, R90, R94); and statement O8. -/

namespace Sys2Proof

/-- An entry whose key a filter drops is gone. -/
theorem Tbl.find_filter_dropped {α : Type} (t : Tbl α) (p : Nat → Bool) {k : Nat} (h : p k = false) :
    Tbl.find (t.filter (fun e => p e.1)) k = none := by
  induction t with
  | nil => rfl
  | cons e t ih =>
    obtain ⟨j, v⟩ := e
    by_cases hj : j = k
    · simpa [hj, h] using ih
    · rw [List.filter_cons]
      split
      · simpa [Tbl.find, hj] using ih
      · exact ih

namespace Machine

open Safety

/-! ### Reset of a function (R77) -/

/-- Everything of a function: its block and its rings. -/
def State.fnCell (s : State) (f : Nat) : FnBlock × (Fin 16 → Ring) := (s.fnb f, fun k => s.ring f k)

theorem ringKey_div (f : Nat) (k : Fin 16) : ringKey f k / 16 = f := by
  have := k.isLt
  rw [ringKey]
  omega

/-- The reset of a function resets its block and its rings, and no other function's. -/
theorem State.resetFn_actsOn : ActsOn State.fnCell id (fun _ _ => (FnBlock.reset, fun _ => Ring.reset)) State.resetFn where
  own s f := by
    refine Prod.ext ?_ (funext fun k => ?_)
    · exact congrArg (Option.getD · FnBlock.reset) (Tbl.find_del s.hif.fn f)
    · have hgone := Tbl.find_filter_dropped s.hif.ring (fun j => j / 16 != f) (k := ringKey f k) (by simp [ringKey_div])
      exact congrArg (Option.getD · Ring.reset) hgone
  other s f g hne := by
    refine Prod.ext ?_ (funext fun k => ?_)
    · exact congrArg (Option.getD · FnBlock.reset) (Tbl.find_del_ne s.hif.fn hne)
    · have hkept := find_filter_key s.hif.ring (fun j => j / 16 != f) (k := ringKey g k) (by simpa [ringKey_div] using hne)
      exact congrArg (Option.getD · Ring.reset) hkept

theorem State.resetFn_frame (s : State) (f : Nat) : s.resetFn f = { s with hif := { s.hif with
    fn := (s.resetFn f).hif.fn, ring := (s.resetFn f).hif.ring, execs := (s.resetFn f).hif.execs } } := rfl

/-- Every function reset. -/
def State.resetAll (s : State) : State := (List.range 64).foldl State.resetFn s

theorem State.resetAll_frame (s : State) : s.resetAll = { s with hif := { s.hif with
    fn := s.resetAll.hif.fn, ring := s.resetAll.hif.ring, execs := s.resetAll.hif.execs } } :=
  List.foldlRecOn (List.range 64) State.resetFn
    (motive := fun t : State => t = { s with hif := { s.hif with fn := t.hif.fn, ring := t.hif.ring, execs := t.hif.execs } })
    rfl (fun t ht f _ => by rw [State.resetFn_frame, ht])

theorem State.resetAll_reset (s : State) (f : Fin 64) (k : Fin 16) :
    s.resetAll.fnb f = FnBlock.reset ∧ s.resetAll.ring f k = Ring.reset := by
  have hcell := State.resetFn_actsOn.foldl_of_mem Function.injective_id List.nodup_range (List.mem_range.mpr f.isLt) s
  obtain ⟨hfnb, hring⟩ := Prod.mk.inj hcell
  exact ⟨hfnb, congrFun hring k⟩

/-- The commands of the functions reset go on without a completion (R77). -/
theorem State.execs_foldl_resetFn (l : List Nat) (s : State) : (l.foldl State.resetFn s).hif.execs
    = s.hif.execs.map (fun e => if e.fn ∈ l then { e with discard := true } else e) := by
  induction l generalizing s with
  | nil => simp
  | cons f l ih =>
    rw [List.foldl_cons, ih]
    change (s.hif.execs.map _).map _ = _
    rw [List.map_map]
    refine List.map_congr_left fun e _ => ?_
    by_cases hf : e.fn = f
    · simp [hf]
    · simp [hf]

theorem functionLevelReset_vf (fn : Fin 64) (s : State) (hfn : fn.val ≠ 0) : ∃ t, exec (.functionLevelReset fn) s = .next t
    ∧ t.fnb fn = FnBlock.reset ∧ (∀ k : Fin 16, t.ring fn k = Ring.reset)
    ∧ (∀ (f : Nat) (k : Fin 16), f ≠ fn.val → t.ring f k = s.ring f k ∧ t.fnb f = s.fnb f)
    ∧ t.hif.execs = s.hif.execs.map (fun e => if e.fn = fn.val then { e with discard := true } else e)
    ∧ t = { s with hif := { s.hif with fn := t.hif.fn, ring := t.hif.ring, execs := t.hif.execs } } := by
  obtain ⟨hfnb, hring⟩ := Prod.mk.inj (State.resetFn_actsOn.own s fn)
  refine ⟨s.resetFn fn, congrArg Host.Outcome.next (if_neg (by simpa using hfn)), hfnb, fun k => congrFun hring k,
    fun f k hne => ?_, by simp [State.resetFn], rfl⟩
  obtain ⟨hfnb', hring'⟩ := Prod.mk.inj (State.resetFn_actsOn.other s fn f hne)
  exact ⟨congrFun hring' k, hfnb'⟩

theorem functionLevelReset_pf (s : State) : ∃ t, exec (.functionLevelReset 0) s = .next t
    ∧ (∀ (f : Fin 64) (k : Fin 16), t.fnb f = FnBlock.reset ∧ t.ring f k = Ring.reset)
    ∧ (∀ e ∈ t.hif.execs, e.fn < 64 → e.discard = true)
    ∧ t = { s with hif := { s.hif with fn := t.hif.fn, ring := t.hif.ring, execs := t.hif.execs } } := by
  refine ⟨s.resetAll, rfl, s.resetAll_reset, fun e he hlt => ?_, s.resetAll_frame⟩
  rw [State.resetAll, State.execs_foldl_resetFn] at he
  obtain ⟨x, -, rfl⟩ := List.mem_map.mp he
  split
  · rfl
  · rename_i hout
    rw [if_neg hout] at hlt
    exact absurd (List.mem_range.mpr hlt) hout

/-! ### The PCIe link (R73, R77) -/

theorem pcieLinkDown_resets (s : State) : ∃ t, exec .pcieLinkDown s = .next t ∧ t.hif.linkUp = false
    ∧ (∀ (f : Fin 64) (k : Fin 16), t.fnb f = FnBlock.reset ∧ t.ring f k = Ring.reset)
    ∧ t = { s with hif := { s.hif with linkUp := false, fn := t.hif.fn, ring := t.hif.ring, execs := t.hif.execs } } := by
  have hnext : exec .pcieLinkDown s = .next { s.resetAll with hif := { s.resetAll.hif with linkUp := false } } := rfl
  have hframe := s.resetAll_frame
  have hreset := s.resetAll_reset
  generalize s.resetAll = u at hnext hframe hreset
  exact ⟨_, hnext, rfl, hreset, by rw [hframe]⟩

theorem pcieLinkUp_trains (g : Fin 8) (w : Fin 9) (s : State) (hg : 5 ≤ g.val) (hw : w.val = 1 ∨ w.val = 4 ∨ w.val = 8) :
    exec (.pcieLinkUp g w) s
      = .next { s with hif := { s.hif with linkUp := true, gen := g, width := w, flit := decide (6 ≤ g.val) } } := by
  refine congrArg Host.Outcome.next (if_pos ?_)
  rcases hw with hw | hw | hw <;> simp [hg, hw]

theorem pcieLinkUp_refused (g : Fin 8) (w : Fin 9) (s : State)
    (h : g.val < 5 ∨ (w.val ≠ 1 ∧ w.val ≠ 4 ∧ w.val ≠ 8)) : exec (.pcieLinkUp g w) s = .next s := by
  refine congrArg Host.Outcome.next (if_neg ?_)
  simp only [Bool.and_eq_true, Bool.or_eq_true, decide_eq_true_eq, beq_iff_eq]
  omega

/-! ### The status pages (R90, R94) -/

/-- A page that is enabled takes the next sequence number; a write of it that fails is recorded (R90). -/
def FnBlock.refresh (fault : Bool) (b : FnBlock) : FnBlock :=
  if b.spEnable then { b with spSeq := (b.spSeq + 1) % 2 ^ 64, err := if fault then setBit b.err 7 else b.err } else b

/-- One function's page in its turn. -/
def State.refreshPage (faulted : List Nat) (s : State) (fn : Nat) : State :=
  if (s.fnb fn).spEnable then s.writePage fn (faulted.contains fn) else s

theorem State.refreshPage_def (faulted : List Nat) : State.refreshPage faulted
    = fun s fn => if (s.fnb fn).spEnable then s.writePage fn (faulted.contains fn) else s := rfl

theorem State.fnb_writePage (s : State) (fn : Nat) (fault : Bool) : (s.writePage fn fault).fnb fn
    = { s.fnb fn with
        spSeq := ((s.fnb fn).spSeq + 1) % 2 ^ 64
        err := if fault then setBit (s.fnb fn).err 7 else (s.fnb fn).err } := by
  cases fault with
  | true =>
    refine (State.fnb_fnErr _ fn 7).trans ?_
    rw [State.fnb_updFn]
    rfl
  | false => exact State.fnb_updFn s fn _

theorem State.fnb_writePage_ne (s : State) {fn f : Nat} (fault : Bool) (h : f ≠ fn) : (s.writePage fn fault).fnb f = s.fnb f := by
  cases fault with
  | true => exact (State.fnb_updFn_ne _ _ h).trans (State.fnb_updFn_ne s _ h)
  | false => exact State.fnb_updFn_ne s _ h

theorem State.writePage_frame (s : State) (fn : Nat) (fault : Bool) : s.writePage fn fault
    = { s with hif := { s.hif with fn := (s.writePage fn fault).hif.fn }, out := (s.writePage fn fault).out } := by
  cases fault <;> rfl

/-- The three writes of a page: SEQ_BEGIN, the body, SEQ_END (R90). -/
def State.pageWrites (s : State) (fn : Nat) : List Out :=
  let b := s.fnb fn
  let seq := leBytes 8 ((b.spSeq + 1) % 2 ^ 64)
  [.hostWrite (4096 * b.spAddr) seq, .hostWrite (4096 * b.spAddr + 8) (s.pageBody fn),
    .hostWrite (4096 * b.spAddr + 4088) seq]

theorem State.out_writePage (s : State) (fn : Nat) (fault : Bool) :
    (s.writePage fn fault).out = s.out ++ if fault then [] else s.pageWrites fn := by
  cases fault with
  | true => exact (List.append_nil _).symm
  | false =>
    simp only [State.writePage, State.pageWrites, State.emit, Bool.false_eq_true, if_false, List.append_assoc, List.cons_append,
      List.nil_append]
    rfl

theorem State.refreshPage_actsOn (faulted : List Nat) :
    ActsOn State.fnb id (fun fn => FnBlock.refresh (faulted.contains fn)) (State.refreshPage faulted) where
  own s fn := by
    simp only [State.refreshPage, FnBlock.refresh, id]
    split
    · exact s.fnb_writePage fn _
    · rfl
  other s fn f h := by
    unfold State.refreshPage
    split
    · exact s.fnb_writePage_ne _ h
    · rfl

/-- All pages in their turn. -/
def State.refreshPages (s : State) (faulted : List Nat) : State := (List.range 64).foldl (State.refreshPage faulted) s

/-- The refresh of one page, and so of any number, writes function blocks and puts bytes out. -/
theorem State.foldl_refreshPage_frame (faulted : List Nat) (l : List Nat) (s : State) :
    ∃ fn out, l.foldl (State.refreshPage faulted) s = { s with hif := { s.hif with fn := fn }, out := out } :=
  List.foldlRecOn l (State.refreshPage faulted)
    (motive := fun t : State => ∃ fn out, t = { s with hif := { s.hif with fn := fn }, out := out })
    ⟨_, _, rfl⟩ (fun t ht fn _ => by
      obtain ⟨fns, out, rfl⟩ := ht
      unfold State.refreshPage
      split
      · exact ⟨_, _, State.writePage_frame _ _ _⟩
      · exact ⟨_, _, rfl⟩)

theorem State.fnb_refreshPages (s : State) (faulted : List Nat) {fn : Nat} (h : fn < 64) :
    (s.refreshPages faulted).fnb fn = (s.fnb fn).refresh (faulted.contains fn) :=
  (State.refreshPage_actsOn faulted).foldl_of_mem Function.injective_id List.nodup_range (List.mem_range.mpr h) s

/-- The function blocks of pages that are not enabled stand. -/
theorem State.fnb_refreshPages_off (s : State) (faulted : List Nat) {fn : Nat} (h : (s.fnb fn).spEnable = false) :
    (s.refreshPages faulted).fnb fn = s.fnb fn := by
  rcases Nat.lt_or_ge fn 64 with hlt | hge
  · rw [State.fnb_refreshPages _ _ hlt, FnBlock.refresh, h, if_neg Bool.false_ne_true]
  · exact (State.refreshPage_actsOn faulted).foldl_of_forall_ne
      (fun _ hi => (Nat.lt_of_lt_of_le (List.mem_range.mp hi) hge).ne') s

/-- What has been put out stays put out while pages are written. -/
theorem State.out_refreshPage_subset (faulted : List Nat) (s : State) (fn : Nat) : s.out ⊆ (s.refreshPage faulted fn).out := by
  unfold State.refreshPage
  split
  · rw [State.out_writePage]
    exact List.subset_append_left _ _
  · exact List.Subset.refl _

theorem State.out_foldl_refreshPage_subset (faulted : List Nat) (l : List Nat) (s : State) :
    s.out ⊆ (l.foldl (State.refreshPage faulted) s).out :=
  List.foldlRecOn l (State.refreshPage faulted) (motive := fun t : State => s.out ⊆ t.out) (List.Subset.refl _)
    (fun t ht fn _ => List.Subset.trans ht (State.out_refreshPage_subset faulted t fn))

/-- An enabled page is written, unless its write fails (R90). -/
theorem State.foldl_refreshPage_writes (faulted : List Nat) {fn : Nat} (hok : faulted.contains fn = false) {l : List Nat}
    (hfn : fn ∈ l) (s : State) (hon : (s.fnb fn).spEnable = true) :
    .hostWrite (4096 * (s.fnb fn).spAddr) (leBytes 8 (((s.fnb fn).spSeq + 1) % 2 ^ 64))
        ∈ (l.foldl (State.refreshPage faulted) s).out
      ∧ .hostWrite (4096 * (s.fnb fn).spAddr + 4088) (leBytes 8 (((s.fnb fn).spSeq + 1) % 2 ^ 64))
        ∈ (l.foldl (State.refreshPage faulted) s).out := by
  induction l generalizing s with
  | nil => cases hfn
  | cons i l ih =>
    rw [List.foldl_cons]
    by_cases hi : fn = i
    · subst hi
      have hpage : (s.refreshPage faulted fn).out = s.out ++ s.pageWrites fn := by
        rw [State.refreshPage, if_pos hon, State.out_writePage, hok, if_neg Bool.false_ne_true]
      have hkept : s.pageWrites fn ⊆ (l.foldl (State.refreshPage faulted) (s.refreshPage faulted fn)).out :=
        List.Subset.trans (hpage ▸ List.subset_append_right _ _) (State.out_foldl_refreshPage_subset faulted l _)
      exact ⟨hkept (by simp [State.pageWrites]), hkept (by simp [State.pageWrites])⟩
    · have hsame : (s.refreshPage faulted i).fnb fn = s.fnb fn := (State.refreshPage_actsOn faulted).other s i fn hi
      have hlater := ih ((List.mem_cons.mp hfn).resolve_left hi) (s.refreshPage faulted i) (by rw [hsame]; exact hon)
      rwa [hsame] at hlater

/-- The next multiple of 10 µs, and the heartbeat of the module (R90). -/
def State.beat (s : State) : State :=
  let s1 := s.advanceTo (s.nextMultiple 10000)
  { s1 with hif := { s1.hif with heartbeat := (s1.hif.heartbeat + 1) % 2 ^ 64 } }

/-- Where the recorder is empty, a page shows a free value (R91). -/
def State.drawSeq (s : State) : State := if s.log.entries == [] then { s with free := s.free + 1 } else s

theorem State.drawSeq_eq (s : State) : s.drawSeq = { s with free := s.drawSeq.free } := by
  unfold State.drawSeq
  split <;> rfl

theorem exec_statusPageRefresh (faulted : List Nat) {s : State} (h : s.ringsPaused = false) :
    exec (.statusPageRefresh faulted) s = .next (s.beat.refreshPages faulted).drawSeq := by
  change execStatusPageRefresh faulted s = _
  rw [execStatusPageRefresh, h, if_neg Bool.false_ne_true, State.refreshPages, State.refreshPage_def, State.drawSeq, State.beat]

theorem statusPageRefresh_paused (faulted : List Nat) (s : State) (h : s.ringsPaused = true) :
    exec (.statusPageRefresh faulted) s = .next s := by
  change execStatusPageRefresh faulted s = _
  rw [execStatusPageRefresh, h]
  rfl

theorem statusPageRefresh_writes (faulted : List Nat) (s : State) (h : s.ringsPaused = false) :
    ∃ t, exec (.statusPageRefresh faulted) s = .next t
      ∧ t.hif.heartbeat = (s.hif.heartbeat + 1) % 2 ^ 64 ∧ t.ns = (s.ns / 10000 + 1) * 10000
      ∧ (∀ fn, fn < 64 → (s.fnb fn).spEnable = true → (t.fnb fn).spSeq = ((s.fnb fn).spSeq + 1) % 2 ^ 64
          ∧ (faulted.contains fn = true → bit (t.fnb fn).err 7 = true)
          ∧ (faulted.contains fn = false →
              .hostWrite (4096 * (s.fnb fn).spAddr) (leBytes 8 (((s.fnb fn).spSeq + 1) % 2 ^ 64)) ∈ t.out
              ∧ .hostWrite (4096 * (s.fnb fn).spAddr + 4088) (leBytes 8 (((s.fnb fn).spSeq + 1) % 2 ^ 64)) ∈ t.out))
      ∧ (∀ fn, (s.fnb fn).spEnable = false → t.fnb fn = s.fnb fn)
      ∧ t = { s with ast := { s.ast with raw := t.ast.raw }
                     hif := { s.hif with heartbeat := t.hif.heartbeat, fn := t.hif.fn }, free := t.free, out := t.out } := by
  have hnext := exec_statusPageRefresh faulted h
  rw [State.drawSeq_eq] at hnext
  have hpages := fun fn (hfn : fn < 64) => s.beat.fnb_refreshPages faulted hfn
  have hoff := fun fn => s.beat.fnb_refreshPages_off faulted (fn := fn)
  have hwrites := fun fn (hok : faulted.contains fn = false) (hfn : fn < 64) =>
    State.foldl_refreshPage_writes faulted hok (List.mem_range.mpr hfn) s.beat
  obtain ⟨fns, out, hframe⟩ := State.foldl_refreshPage_frame faulted (List.range 64) s.beat
  simp only [State.refreshPages, hframe] at hnext hpages hoff hwrites
  refine ⟨_, hnext, rfl, s.ns_advanceTo_nextMultiple (by decide), fun fn hfn hon => ⟨?_, fun hbad => ?_, fun hok => ?_⟩,
    hoff, rfl⟩
  · refine (congrArg FnBlock.spSeq (hpages fn hfn)).trans ?_
    rw [FnBlock.refresh, if_pos (by exact hon)]
    rfl
  · refine (congrArg (fun b : FnBlock => bit b.err 7) (hpages fn hfn)).trans ?_
    rw [FnBlock.refresh, if_pos (by exact hon), hbad]
    exact bit_setBit_self _ _
  · exact hwrites fn hok hfn hon

end Machine
end Sys2Proof

namespace Sys2Proof.Proofs

open Sys2Proof.Machine

/-- Settles O8: the pages in a pause and outside one, FLR of a VF and of the PF, and the link. -/
theorem pagesAndHostLink : Obligations.PagesAndHostLink :=
  ⟨⟨statusPageRefresh_paused, statusPageRefresh_writes⟩, functionLevelReset_vf, functionLevelReset_pf, pcieLinkDown_resets,
    pcieLinkUp_trains, pcieLinkUp_refused⟩

end Sys2Proof.Proofs
end

section
/-! SUPPORT. Blocks that commands write to host memory (R105, R443, R445 to R447): fields at their offsets, entries in their
rows, the end of a command that writes a block; and statement O48. -/

namespace Sys2Proof

/-! ### Lengths -/

theorem length_zeros (n : Nat) : (zeros n).length = n := List.length_replicate

theorem length_padTo (n : Nat) (b : Bytes) : (padTo n b).length = n := by
  rw [padTo, List.length_append, List.length_take, length_zeros]
  omega

/-! ### Bytes at an offset -/

theorem byteAt_append_left {a : Bytes} (b : Bytes) {i : Nat} (h : i < a.length) : byteAt (a ++ b) i = byteAt a i := by
  rw [byteAt, byteAt, List.getD_append _ _ _ _ h]

theorem byteAt_append_right {a : Bytes} (b : Bytes) {i : Nat} (h : a.length ≤ i) :
    byteAt (a ++ b) i = byteAt b (i - a.length) := by
  rw [byteAt, byteAt, List.getD_append_right _ _ _ _ h]

theorem byteAt_zeros (n i : Nat) : byteAt (zeros n) i = 0 := by
  rw [byteAt, zeros, List.getD_eq_getElem?_getD, List.getElem?_replicate]
  split <;> rfl

theorem byteAt_leBytes_zero (n v : Nat) : byteAt (leBytes (n + 1) v) 0 = v % 256 := BitVec.toNat_ofNat _ _

/-- Bytes that all read 0 are zero; past the end every byte reads 0. -/
theorem zeroAt_of_byteAt {b : Bytes} {i n : Nat} (h : ∀ j, j < n → byteAt b (i + j) = 0) : zeroAt b i n = true := by
  refine List.all_eq_true.mpr fun x hx => ?_
  obtain ⟨j, hj, rfl⟩ := List.mem_iff_getElem.mp hx
  simp only [bytesAt, List.length_take, List.length_drop, Nat.lt_min] at hj
  have hbyte := h j hj.1
  have hlt : i + j < b.length := by omega
  rw [byteAt, List.getD_eq_getElem _ _ hlt] at hbyte
  rw [beq_iff_eq]
  refine BitVec.eq_of_toNat_eq ?_
  simpa [bytesAt] using hbyte

/-! ### Fields at an offset -/

theorem le_one (b : Bytes) (i : Nat) : le b i 1 = byteAt b i := rfl

theorem le_append_left {a : Bytes} (b : Bytes) {i n : Nat} (h : i + n ≤ a.length) : le (a ++ b) i n = le a i n := by
  induction n generalizing i with
  | zero => rfl
  | succ n ih => rw [le, le, byteAt_append_left b (by omega), ih (by omega)]

theorem le_append_right {a : Bytes} (b : Bytes) {i : Nat} (n : Nat) (h : a.length ≤ i) :
    le (a ++ b) i n = le b (i - a.length) n := by
  induction n generalizing i with
  | zero => rfl
  | succ n ih => rw [le, le, byteAt_append_right b h, ih (by omega), Nat.sub_add_comm h]

theorem le_cons_succ (x : Byte) (b : Bytes) (i n : Nat) : le (x :: b) (i + 1) n = le b i n :=
  le_append_right (a := [x]) b n (Nat.le_add_left 1 i)

theorem le_leBytes (n v : Nat) : le (leBytes n v) 0 n = v % 256 ^ n := by
  induction n generalizing v with
  | zero => rw [le, Nat.pow_zero, Nat.mod_one]
  | succ n ih =>
    rw [le, byteAt_leBytes_zero, leBytes, le_cons_succ, ih, Nat.pow_succ, Nat.mul_comm (256 ^ n), Nat.mod_mul]

theorem byteAt_padTo {n i : Nat} (b : Bytes) (h : i < n) : byteAt (padTo n b) i = byteAt b i := by
  rcases Nat.lt_or_ge i b.length with hlt | hge
  · have htake : i < (b.take n).length := by
      rw [List.length_take]
      omega
    rw [padTo, byteAt_append_left _ htake, byteAt, byteAt, List.getD_eq_getElem _ _ htake, List.getD_eq_getElem _ _ hlt,
      List.getElem_take]
  · have htake : (b.take n).length ≤ i := (List.length_take_le' n b).trans hge
    rw [padTo, byteAt_append_right _ htake, byteAt_zeros, byteAt, List.getD_eq_default _ _ hge]
    rfl

theorem le_padTo {m i n : Nat} (b : Bytes) (h : i + n ≤ m) : le (padTo m b) i n = le b i n := by
  induction n generalizing i with
  | zero => rfl
  | succ n ih => rw [le, le, byteAt_padTo b (by omega), ih (by omega)]

/-- The bytes between two others. -/
theorem take_drop_between {a b c : Bytes} {i n : Nat} (hi : a.length = i) (hn : b.length = n) :
    ((a ++ (b ++ c)).drop i).take n = b := by
  rw [List.drop_left' hi, List.take_left' hn]

/-! ### Entries of one length in a row -/

section
variable {f : Nat → Bytes} {m : Nat} (hf : ∀ n, (f n).length = m)
include hf

theorem length_flatMap_range (k : Nat) : ((List.range k).flatMap f).length = m * k := by
  induction k with
  | zero => rfl
  | succ k ih => rw [List.range_succ, List.flatMap_append, List.length_append, ih, List.flatMap_singleton, hf, Nat.mul_succ]

theorem byteAt_flatMap_range {k n i : Nat} (hn : n < k) (hi : i < m) :
    byteAt ((List.range k).flatMap f) (m * n + i) = byteAt (f n) i := by
  induction k with
  | zero => omega
  | succ k ih =>
    rw [List.range_succ, List.flatMap_append, List.flatMap_singleton]
    have hlen := length_flatMap_range hf k
    rcases Nat.lt_succ_iff_lt_or_eq.mp hn with hlt | rfl
    · have hin : m * n + i < m * k := by nlinarith
      rw [byteAt_append_left _ (hlen.symm ▸ hin), ih hlt]
    · rw [byteAt_append_right _ (by rw [hlen]; omega), hlen, Nat.add_sub_cancel_left]

end

namespace Machine

open Safety

/-! ### A command that writes a block -/

/-- How an accepted command ends whose own part has put something out: with that, then its completion. -/
theorem State.hostRow_emits {s : State} {op : Nat} {r : Req} {run : Req → State → CmdOut} {st w0 w1 : Nat} {o : Out}
    (hacc : accepts op r s = true) (htok : tokenless op = true)
    (hrun : ∀ b, run r { s with bnc := b } = .done (State.emit { s with bnc := b } o) st w0 w1) :
    ∃ t, ran s op r run = .next t ∧ Completed r s t st w0 w1 ∧ (∃ c, t.out = s.out ++ [o, c]) ∧ Quiet r s t
      ∧ t = { s with hif := t.hif, bnc := t.bnc, out := t.out } := by
  obtain ⟨b, hstart, hb⟩ := State.started_eq htok s r
  obtain ⟨hring, hdma⟩ := accepts_ring hacc
  have hrow := State.hostRow_accepted s op r run hacc
  rw [hstart, hrun] at hrow
  obtain ⟨hcompleted, ⟨c, hout⟩, -, hlog, hquiet⟩ := State.finish_ends (s := s.emit o) (t := State.emit { s with bnc := b } o) op
    st w0 w1 ((State.emit { s with bnc := b } o).log.created != s.log.created) rfl rfl hring hdma
  have hframe := State.finish_frame (State.emit { s with bnc := b } o) op r st w0 w1
    ((State.emit { s with bnc := b } o).log.created != s.log.created)
  rw [hlog] at hframe
  refine ⟨_, congrArg Host.Outcome.next hrow, hcompleted, ⟨c, hout.trans ?_⟩, hquiet hb, hframe⟩
  rw [State.emit, List.append_assoc]
  rfl

/-! ### IDENTIFY (R105) -/

theorem Fuse.ioDies_lt (f : Fuse) : f.ioDies < 256 := by
  unfold Fuse.ioDies
  split <;> decide

theorem Fuse.stacks_lt (f : Fuse) : f.stacks < 256 := by
  unfold Fuse.stacks
  split <;> decide

/-- VARIANT, IO_DIES and HBM_STACKS as WORD0 has them (R105). -/
theorem Fuse.le_idBytes (f : Fuse) : le f.idBytes 0 3 = f.variant % 256 + 256 * f.ioDies + 65536 * f.stacks := by
  have hdies := f.ioDies_lt
  have hstacks := f.stacks_lt
  have hword : le f.idBytes 0 3 = f.variant % 256 + 256 * (f.ioDies % 256 + 256 * (f.stacks % 256 + 256 * 0)) := by
    simp [Fuse.idBytes, leBytes, le, byteAt]
  omega

theorem State.length_identity (s : State) (fn : Nat) : (s.identity fn).length = 256 := length_padTo _ _

/-- The fields of the identity block, each at its offset (R105). -/
theorem State.identity_fields (s : State) (fn : Nat) : le (s.identity fn) 16 1 = s.fuse.variant % 256
    ∧ le (s.identity fn) 17 1 = s.fuse.ioDies % 256 ∧ le (s.identity fn) 18 1 = s.fuse.stacks % 256
    ∧ le (s.identity fn) 88 1 = fn % 256 ∧ le (s.identity fn) 89 1 = 16 ∧ le (s.identity fn) 90 1 = 63
    ∧ le (s.identity fn) 92 4 = 1 := by
  refine ⟨?_, ?_, ?_, ?_, ?_, ?_, ?_⟩
  all_goals
    rw [State.identity, le_padTo _ (by decide)]
    simp (disch := simp [partNumber, Fuse.idBytes, length_leBytes, length_padTo, length_zeros]) only
      [le_append_left, le_append_right, partNumber, Fuse.idBytes, List.length_append, length_leBytes, length_padTo, length_zeros]
    exact le_leBytes _ _

theorem cmdIdentify_writes {r : Req} {s : State} (haddr : r.p 16 8 ≠ 0) (halign : r.p 16 8 % 16 = 0) (hz : r.z 24 = true) :
    cmdIdentify r s = .done (s.emit (.hostWrite (r.p 16 8) (s.identity r.fn))) 0
      (s.fuse.variant % 256 + 256 * s.fuse.ioDies + 65536 * s.fuse.stacks) 0 := by
  rw [cmdIdentify, decide_eq_true ⟨haddr, halign⟩, hz, Fuse.le_idBytes]
  rfl

theorem cmdIdentify_refuses {r : Req} {s : State} (h : r.p 16 8 = 0 ∨ r.p 16 8 % 16 ≠ 0) :
    cmdIdentify r s = .done s 0x0101 16 0 := by
  have hbad : ¬(r.p 16 8 ≠ 0 ∧ r.p 16 8 % 16 = 0) := by omega
  rw [cmdIdentify, decide_eq_false hbad]
  rfl

theorem identify_writes (r : Req) (s : State) (hacc : accepts 0x0001 r s = true) (haddr : r.p 16 8 ≠ 0)
    (halign : r.p 16 8 % 16 = 0) (hz : r.z 24 = true) :
    ∃ t b c, exec (.identify r) s = .next t
      ∧ Completed r s t 0 (s.fuse.variant % 256 + 256 * s.fuse.ioDies + 65536 * s.fuse.stacks) 0
      ∧ t.out = s.out ++ [.hostWrite (r.p 16 8) b, c] ∧ b.length = 256
      ∧ le b 16 1 = s.fuse.variant % 256 ∧ le b 17 1 = s.fuse.ioDies ∧ le b 18 1 = s.fuse.stacks
      ∧ le b 88 1 = r.fn ∧ le b 89 1 = 16 ∧ le b 90 1 = 63 ∧ le b 92 4 = 1
      ∧ Quiet r s t ∧ t = { s with hif := t.hif, bnc := t.bnc, out := t.out } := by
  obtain ⟨t, ht, hcompleted, ⟨c, hout⟩, hquiet, hframe⟩ := State.hostRow_emits (run := cmdIdentify) (st := 0)
    (w0 := s.fuse.variant % 256 + 256 * s.fuse.ioDies + 65536 * s.fuse.stacks) (w1 := 0)
    (o := .hostWrite (r.p 16 8) (s.identity r.fn)) hacc rfl
    fun b => cmdIdentify_writes (s := { s with bnc := b }) haddr halign hz
  obtain ⟨hvariant, hdies, hstacks, hfn, hrings, hvfs, hone⟩ := s.identity_fields r.fn
  have hlt : (r.fn : Nat) < 256 := r.fn.isLt.trans (by decide)
  exact ⟨t, s.identity r.fn, c, ht, hcompleted, hout, s.length_identity r.fn, hvariant,
    hdies.trans (Nat.mod_eq_of_lt s.fuse.ioDies_lt), hstacks.trans (Nat.mod_eq_of_lt s.fuse.stacks_lt),
    hfn.trans (Nat.mod_eq_of_lt hlt), hrings, hvfs, hone, hquiet, hframe⟩

theorem identify_refuses (r : Req) (s : State) (hacc : accepts 0x0001 r s = true) (h : r.p 16 8 = 0 ∨ r.p 16 8 % 16 ≠ 0) :
    ∃ t, exec (.identify r) s = .next t ∧ Completed r s t 0x0101 16 0
      ∧ Quiet r s t ∧ t = { s with hif := t.hif, bnc := t.bnc, out := t.out } := by
  obtain ⟨t, ht, hcompleted, -, hquiet, hframe⟩ := State.hostRow_refused (run := cmdIdentify) hacc rfl
    fun b => cmdIdentify_refuses (s := { s with bnc := b }) h
  exact ⟨t, ht, hcompleted, hquiet, hframe⟩

/-! ### FW_QUERY (R446) -/

theorem fwQuery_answers (r : Req) (s : State) (hacc : accepts 0x0A01 r s = true) (hz : r.z 16 = true) :
    ∃ t, exec (.fwQuery r) s = .next t
      ∧ Completed r s t 0 s.boot.image.version
          (s.boot.stateBits + s.boot.cfgVersion % 2 ^ 16 * 2 ^ 16 + s.healthLeft * 2 ^ 32 + s.boot.fusedSv * 2 ^ 48)
      ∧ Silent s t ∧ Quiet r s t ∧ t = { s with hif := t.hif, bnc := t.bnc, out := t.out } :=
  State.hostRow_refused (run := cmdFwQuery) hacc rfl fun b => by
    rw [cmdFwQuery, hz]
    rfl

/-! ### KEY_LIST (R443, R446) -/

theorem guarded_resultRows {r : Req} {s : State} {least : Nat} (haddr : r.b 0 8 % 32 = 0) (hlen : least ≤ r.b 8 4)
    (hzero : zeroAt r.params 12 4 = true) (f : CmdOut) : guarded s [ranges (resultRows r least)] f = f := by
  rw [resultRows, haddr, decide_eq_true hlen, hzero]
  rfl

theorem length_keyEntry (b : Boot) (n : Nat) : (keyEntry b n).length = 96 := by
  unfold keyEntry
  split
  · simp [length_leBytes, length_zeros]
  · simp [length_leBytes, length_zeros, length_padTo]

/-- The entry of a slot names it; then come the fields of its key, or nothing (R443). -/
theorem keyEntry_fields (b : Boot) {n : Nat} (hn : n < 16) : byteAt (keyEntry b n) 0 = n
    ∧ (b.keys.find n = none → ∀ j, byteAt (keyEntry b n) (1 + j) = 0)
    ∧ ∀ k, b.keys.find n = some k → byteAt (keyEntry b n) 1 = 1 ∧ byteAt (keyEntry b n) 2 = k.role % 256
        ∧ byteAt (keyEntry b n) 3 = k.usage % 256 ∧ byteAt (keyEntry b n) 4 = k.param % 256 := by
  have hslot : n % 256 = n := by omega
  unfold keyEntry
  cases hk : b.keys.find n with
  | none =>
    refine ⟨?_, fun _ j => ?_, nofun⟩
    · rw [byteAt_append_left _ (by simp [length_leBytes]), byteAt_leBytes_zero, hslot]
    · rw [byteAt_append_right _ (by simp [length_leBytes]), byteAt_zeros]
  | some k =>
    refine ⟨?_, nofun, fun x hx => ?_⟩
    · simp only [List.append_assoc]
      rw [byteAt_append_left _ (by simp [length_leBytes]), byteAt_leBytes_zero, hslot]
    · obtain rfl := Option.some.inj hx
      simp [leBytes, byteAt]

/-- The 16 entries of KEY_LIST (R446). -/
def State.keyList (s : State) : Bytes := (List.range 16).flatMap (keyEntry s.boot)

theorem keyList_writes (r : Req) (s : State) (hacc : accepts 0x0A03 r s = true) (haddr : r.b 0 8 % 32 = 0)
    (hlen : 1536 ≤ r.b 8 4) (hzero : zeroAt r.params 12 4 = true) :
    ∃ t b, exec (.keyList r) s = .next t ∧ Completed r s t 0 s.boot.keys.length 0 ∧ Writes (r.b 0 8) b s t
      ∧ b.length = 1536
      ∧ (∀ n, n < 16 → byteAt b (96 * n) = n
          ∧ (s.boot.keys.find n = none → zeroAt b (96 * n + 1) 95 = true)
          ∧ ∀ k, s.boot.keys.find n = some k → byteAt b (96 * n + 1) = 1 ∧ byteAt b (96 * n + 2) = k.role % 256
              ∧ byteAt b (96 * n + 3) = k.usage % 256 ∧ byteAt b (96 * n + 4) = k.param % 256)
      ∧ Quiet r s t ∧ t = { s with hif := t.hif, bnc := t.bnc, out := t.out } := by
  obtain ⟨t, ht, hcompleted, hout, hquiet, hframe⟩ := State.hostRow_emits (run := cmdKeyList) (st := 0)
    (w0 := s.boot.keys.length) (w1 := 0) (o := .hostWrite (r.b 0 8) s.keyList) hacc rfl
    fun b => guarded_resultRows (s := { s with bnc := b }) haddr hlen hzero _
  have hbyte : ∀ {n i : Nat}, n < 16 → i < 96 → byteAt s.keyList (96 * n + i) = byteAt (keyEntry s.boot n) i :=
    fun hn hi => byteAt_flatMap_range (length_keyEntry s.boot) hn hi
  refine ⟨t, s.keyList, ht, hcompleted, hout, length_flatMap_range (length_keyEntry s.boot) 16, fun n hn => ?_, hquiet, hframe⟩
  obtain ⟨hslot, hnone, hkey⟩ := keyEntry_fields s.boot hn
  refine ⟨(hbyte (i := 0) hn (by decide)).trans hslot, fun h => zeroAt_of_byteAt fun j hj => ?_, fun k hk => ?_⟩
  · rw [Nat.add_assoc, hbyte hn (by omega), hnone h]
  · rw [hbyte hn (by decide), hbyte hn (by decide), hbyte hn (by decide), hbyte hn (by decide)]
    exact hkey k hk

/-! ### MEASUREMENTS (R445, R446) -/

/-- One entry of MEASUREMENTS: the item, its version and its SHA-256. -/
def State.measureEntry (s : State) (i : Nat) : Bytes :=
  leBytes 1 i ++ zeros 7 ++ leBytes 8 (s.measurement i).1 ++ beBytes 32 (s.measurement i).2

theorem State.length_measureEntry (s : State) (i : Nat) : (s.measureEntry i).length = 48 := by
  simp [State.measureEntry, length_leBytes, length_zeros, length_beBytes]

theorem State.measureEntries_eq (s : State) : s.measureEntries = (List.range 10).flatMap s.measureEntry := rfl

theorem State.length_measureEntries (s : State) : s.measureEntries.length = 480 :=
  length_flatMap_range s.length_measureEntry 10

theorem State.byteAt_measureEntries (s : State) {i : Nat} (hi : i < 10) : byteAt s.measureEntries (48 * i) = i := by
  have hentry := byteAt_flatMap_range s.length_measureEntry (i := 0) hi (by decide)
  rw [Nat.add_zero, ← State.measureEntries_eq] at hentry
  rw [hentry, State.measureEntry, List.append_assoc, List.append_assoc, byteAt_append_left _ (by simp [length_leBytes]),
    byteAt_leBytes_zero]
  omega

/-- The first measurement is the boot ROM's (R445). -/
theorem State.measureEntries_rom (s : State) : (s.measureEntries.drop 16).take 32 = beBytes 32 Config.romMeasure.toNat := by
  have hfirst : s.measureEntries = (leBytes 1 0 ++ zeros 7 ++ leBytes 8 0)
      ++ (beBytes 32 Config.romMeasure.toNat ++ (List.range' 1 9).flatMap s.measureEntry) := by
    rw [State.measureEntries_eq, List.range_eq_range', List.range'_succ, List.flatMap_cons, State.measureEntry]
    simp only [List.append_assoc]
    rfl
  rw [hfirst]
  exact take_drop_between (by decide) (length_beBytes _ _)

theorem measurements_writes (r : Req) (s : State) (hacc : accepts 0x0A04 r s = true) (haddr : r.b 0 8 % 32 = 0)
    (hlen : 480 ≤ r.b 8 4) (hzero : zeroAt r.params 12 4 = true) :
    ∃ t b, exec (.measurements r) s = .next t ∧ Completed r s t 0 10 0 ∧ Writes (r.b 0 8) b s t ∧ b.length = 480
      ∧ (∀ i, i < 10 → byteAt b (48 * i) = i) ∧ (b.drop 16).take 32 = beBytes 32 Config.romMeasure.toNat
      ∧ Quiet r s t ∧ t = { s with hif := t.hif, bnc := t.bnc, out := t.out } := by
  obtain ⟨t, ht, hcompleted, hout, hquiet, hframe⟩ := State.hostRow_emits (run := cmdMeasurements) (st := 0) (w0 := 10) (w1 := 0)
    (o := .hostWrite (r.b 0 8) s.measureEntries) hacc rfl
    fun b => guarded_resultRows (s := { s with bnc := b }) haddr hlen hzero _
  exact ⟨t, s.measureEntries, ht, hcompleted, hout, s.length_measureEntries, fun _ hi => s.byteAt_measureEntries hi,
    s.measureEntries_rom, hquiet, hframe⟩

/-! ### ATTEST (R446, R447) -/

theorem State.length_report (s : State) (nonce : Bytes) : (s.report nonce).length = 16836 := by
  simp only [State.report, List.length_append, length_leBytes, length_padTo, length_zeros, State.length_measureEntries,
    List.length_cons, List.length_nil]

/-- The nonce stands at offset 8 of a report (R447). -/
theorem State.report_nonce (s : State) (nonce : Bytes) : ∃ rest, s.report nonce
    = (leBytes 4 1 ++ leBytes 4 33924) ++ (padTo 32 nonce ++ rest) := by
  rw [State.report]
  simp only [List.append_assoc]
  exact ⟨_, rfl⟩

/-- A report with its signature (R447). -/
def State.attestation (s : State) (nonce : Bytes) : Bytes :=
  s.report nonce ++ padTo 17088 (Config.attestSign (s.report nonce))

theorem attest_writes (r : Req) (s : State) (hacc : accepts 0x0A02 r s = true) (haddr : r.b 32 8 % 32 = 0)
    (hlen : 33924 ≤ r.b 40 4) (hzero : zeroAt r.params 44 4 = true) :
    ∃ t b, exec (.attest r) s = .next t ∧ Completed r s t 0 33924 0 ∧ Writes (r.b 32 8) b s t ∧ b.length = 33924
      ∧ (b.drop 8).take 32 = padTo 32 (r.params.take 32)
      ∧ b.drop 16836 = padTo 17088 (Config.attestSign (b.take 16836))
      ∧ Quiet r s t ∧ t = { s with hif := t.hif, bnc := t.bnc, out := t.out } := by
  obtain ⟨t, ht, hcompleted, hout, hquiet, hframe⟩ := State.hostRow_emits (run := cmdAttest) (st := 0) (w0 := 33924) (w1 := 0)
    (o := .hostWrite (r.b 32 8) (s.attestation (r.params.take 32))) hacc rfl
    fun b => by
      rw [cmdAttest, haddr, decide_eq_true hlen, hzero]
      rfl
  have hreport := s.length_report (r.params.take 32)
  obtain ⟨rest, hnonce⟩ := s.report_nonce (r.params.take 32)
  refine ⟨t, s.attestation (r.params.take 32), ht, hcompleted, hout, ?_, ?_, ?_, hquiet, hframe⟩
  · rw [State.attestation, List.length_append, hreport, length_padTo]
  · rw [State.attestation, hnonce, List.append_assoc, List.append_assoc (padTo 32 _)]
    exact take_drop_between rfl (length_padTo _ _)
  · rw [State.attestation, List.drop_left' hreport, List.take_left' hreport]

end Machine
end Sys2Proof

namespace Sys2Proof.Proofs

open Sys2Proof.Machine

/-- Settles O48, command by command. -/
theorem identityAndTrustQueries : Obligations.IdentityAndTrustQueries :=
  ⟨⟨identify_writes, identify_refuses⟩, fwQuery_answers, attest_writes, keyList_writes, measurements_writes⟩

end Sys2Proof.Proofs
end

section
/-! SUPPORT. Cleosh messages (R426 to R428): the message a row takes from its session, its checks in order and the RESULT that
answers it; what ends a session or the update lock (R428, R429); key slots (R443); and statement O54. -/

namespace Sys2Proof

/-! ### Bits and bytes -/

/-- Setting a bit leaves those that are set. -/
theorem bit_setBit_of_bit {v i : Nat} (j : Nat) (h : bit v i = true) : bit (setBit v j) i = true := by
  unfold setBit
  split
  · exact h
  · next hclear =>
    rcases Nat.lt_trichotomy i j with hlt | rfl | hgt
    · rw [bit_eq_testBit] at h ⊢
      rw [Nat.add_comm, Nat.testBit_two_pow_add_gt hlt, h]
    · exact absurd h hclear
    · obtain ⟨k, rfl⟩ := Nat.exists_eq_add_of_lt hgt
      simp only [bit, beq_iff_eq] at h hclear ⊢
      have hquot : (v + 2 ^ j) / 2 ^ j / 2 = v / 2 ^ j / 2 := by
        rw [Nat.add_div_right v (Nat.two_pow_pos j)]
        omega
      rw [Nat.add_assoc, Nat.add_comm k 1, Nat.pow_add, Nat.pow_add, Nat.pow_one] at h ⊢
      rw [← Nat.div_div_eq_div_mul, ← Nat.div_div_eq_div_mul] at h ⊢
      rw [hquot]
      exact h

theorem be_one (b : Bytes) (i : Nat) : be b i 1 = byteAt b i := by simp [be]

theorem byteAt_drop (b : Bytes) (k i : Nat) : byteAt (b.drop k) i = byteAt b (k + i) := by
  simp [byteAt, List.getD_eq_getElem?_getD]

theorem bytesAt_drop (b : Bytes) (k i n : Nat) : bytesAt (b.drop k) i n = bytesAt b (k + i) n := by
  rw [bytesAt, List.drop_drop, bytesAt]

namespace Machine

open Safety

theorem zeroAt_drop (b : Bytes) (k i n : Nat) : zeroAt (b.drop k) i n = zeroAt b (k + i) n := by
  rw [zeroAt, bytesAt_drop, zeroAt]

/-! ### Checks of a message (R428) -/

theorem firstM_cons_pass {ok : Bool} (h : ok = true) (status detail w0 : Nat) (l : List MChk) :
    firstM (mchk ok status detail w0 :: l) = firstM l := by
  rw [h]
  rfl

theorem firstM_cons_fail {ok : Bool} (h : ok = false) (status detail w0 : Nat) (l : List MChk) :
    firstM (mchk ok status detail w0 :: l) = some (status, detail, w0) := by
  rw [h]
  rfl

/-! ### A session and its table -/

/-- A session whose oldest whole message was taken. -/
def Sess.taken (x : Sess) : Sess := { x with whole := x.whole.tail }

/-- A session that has sent one segment, which acknowledges what was received (R426). -/
def Sess.sent (x : Sess) (d : Bytes) : Sess :=
  { x with txSeq := x.txSeq + 1, txMsg := x.txMsg + 1, unackedRx := 0, unacked := x.unacked ++ [(x.txSeq, d)] }

/-- The state with an entry of the session table put. -/
def State.putSess (s : State) (id : Nat) (x : Sess) : State :=
  { s with boot := { s.boot with sess := s.boot.sess.put id x } }

theorem State.updSess_eq {s : State} {id : Nat} {x : Sess} (h : s.boot.sess.find id = some x) (f : Sess → Sess) :
    s.updSess id f = s.putSess id (f x) := by
  rw [State.updSess, h]
  rfl

theorem State.cleoshSend_eq {s : State} {id : Nat} {x : Sess} (h : s.boot.sess.find id = some x) (typ : Nat) (body : Bytes) :
    s.cleoshSend id typ body
      = (s.putSess id (x.sent (cleoshHeader typ id x.txSeq x.rxSeq x.txMsg 0 body.length 1 ++ body))).emit
          (.cleosh id (cleoshHeader typ id x.txSeq x.rxSeq x.txMsg 0 body.length 1 ++ body)) := by
  simp only [State.cleoshSend, h]
  rw [State.updSess_eq h]
  rfl

/-- A state in which the oldest message of the session was taken, and which has put nothing out since. -/
def Open (m : CMsg) (x : Sess) (s u : State) : Prop := u.boot.sess.find m.sess = some x.taken ∧ u.out = s.out

/-- RESULT goes out in the session of the message, and only the session's counters and window change. -/
theorem State.result_spec {m : CMsg} {x : Sess} {s u : State} (hopen : Open m x s u) (status detail w0 w1 : Nat) :
    ∃ d o, u.result m.sess m.msgId status detail w0 w1 = (u.putSess m.sess (x.taken.sent d)).emit o
      ∧ Resulted m x status detail w0 w1 s (u.result m.sess m.msgId status detail w0 w1) := by
  obtain ⟨hsess, hout⟩ := hopen
  have hsend := State.cleoshSend_eq hsess 0x7F (resultBody m.msgId status detail w0 w1)
  refine ⟨_, _, hsend, ?_⟩
  rw [Resulted, Replied, State.result, hsend, ← hout]
  rfl

/-- The session of the message stays open, with the message taken and the answer sent; the others stand. -/
theorem taken_of_sess {m : CMsg} {x : Sess} {s t : State} {d : Bytes} {y : Sess}
    (h : t.boot.sess = (s.boot.sess.put m.sess y).put m.sess (x.taken.sent d)) : Taken m x s t := by
  refine ⟨⟨x.taken.sent d, ?_, rfl, rfl, rfl, rfl, rfl⟩, fun k hk => ?_⟩
  · rw [h, Tbl.find_put]
  · rw [h, Tbl.find_put_ne _ _ hk, Tbl.find_put_ne _ _ hk]

/-! ### The message a row acts on (R427, R428) -/

theorem State.takeMsg_heard {m : CMsg} {typ : Nat} {x : Sess} {s : State} (h : Heard m typ x s) :
    s.takeMsg m typ false = some (x, s.putSess m.sess x.taken) := by
  obtain ⟨hserved, hsess, hwhole⟩ := h
  simp only [State.takeMsg, hserved, hsess, hwhole, State.updSess_eq hsess]
  simp [Sess.taken]

theorem State.takeMsg_heardSigned {m : CMsg} {typ : Nat} {x : Sess} {s : State} (h : HeardSigned m typ x s) :
    s.takeMsg m typ true = some (x, s.putSess m.sess x.taken) := by
  obtain ⟨hserved, hsess, hwhole⟩ := h
  simp only [State.takeMsg, hserved, hsess, hwhole, State.updSess_eq hsess]
  simp [Sess.taken]

theorem State.putSess_open (m : CMsg) (x : Sess) (s : State) : Open m x s (s.putSess m.sess x.taken) :=
  ⟨Tbl.find_put _ _ _, rfl⟩

section
variable {m : CMsg} {typ role : Nat} {x : Sess} {s : State} {checks : Sess → State → List MChk} {act : Sess → State → State}
  (hheard : HeardSigned m typ x s) (hrole : role ≤ x.role) (hlock : s.holdsLock m.sess = true)
  (hsig : s.signedOk x m typ = true)
include hheard hrole hlock hsig

/-- Role, lock and signature pass; the message's own checks decide. -/
theorem State.message_checks (s1 : State) (hs1 : s1 = s.putSess m.sess x.taken) :
    s.takeMsg m typ true = some (x, s1) ∧ firstM ([mchk (decide (role ≤ x.role)) 0x0403 0 role,
      mchk (!true || s1.holdsLock m.sess) 0x0301 1 0, mchk (!true || s1.signedOk x m typ) 0x0403 4 0] ++ checks x s1)
        = firstM (checks x s1) := by
  subst hs1
  exact ⟨State.takeMsg_heardSigned hheard,
    (firstM_cons_pass (decide_eq_true hrole) _ _ _ _).trans
      ((firstM_cons_pass hlock _ _ _ _).trans (firstM_cons_pass hsig _ _ _ _))⟩

theorem State.message_acts (hchecks : firstM (checks x (s.putSess m.sess x.taken)) = none) :
    s.message m typ role true true checks act = act x (s.putSess m.sess x.taken) := by
  obtain ⟨htake, hfirst⟩ := State.message_checks (checks := checks) hheard hrole hlock hsig _ rfl
  simp only [State.message, htake, hfirst, hchecks]

theorem State.message_refuses {status detail w0 : Nat}
    (hchecks : firstM (checks x (s.putSess m.sess x.taken)) = some (status, detail, w0)) :
    s.message m typ role true true checks act
      = (s.putSess m.sess x.taken).result m.sess m.msgId status detail w0 0 := by
  obtain ⟨htake, hfirst⟩ := State.message_checks (checks := checks) hheard hrole hlock hsig _ rfl
  simp only [State.message, htake, hfirst, hchecks]

end

/-! ### Sessions and the lock end (R428, R429) -/

theorem State.endLock_frame (s : State) : s.endLock = { s with
    log := s.endLock.log
    boot := { s.boot with lock := s.endLock.boot.lock, staging := s.endLock.boot.staging, events := s.endLock.boot.events } } := by
  unfold State.endLock
  split
  · rfl
  · dsimp only
    split
    · rfl
    · rw [State.logAdd_frame]
      rfl

theorem State.endLock_events (s : State) {i : Nat} (h : bit s.boot.events i = true) : bit s.endLock.boot.events i = true := by
  unfold State.endLock
  split
  · exact h
  · dsimp only
    split
    · exact h
    · rw [State.logAdd_boot]
      exact bit_setBit_of_bit 6 h

theorem State.endSession_frame (s : State) (id : Nat) : s.endSession id = { s with
    log := (s.endSession id).log
    boot := { s.boot with
      sess := s.boot.sess.del id, lock := (s.endSession id).boot.lock, staging := (s.endSession id).boot.staging
      events := (s.endSession id).boot.events } } := by
  unfold State.endSession
  split
  · split
    · exact State.endLock_frame _
    · rfl
  · rfl

theorem State.endSession_events (s : State) (id : Nat) {i : Nat} (h : bit s.boot.events i = true) :
    bit (s.endSession id).boot.events i = true := by
  unfold State.endSession
  split
  · split
    · exact State.endLock_events _ h
    · exact h
  · exact h

/-- Sessions ended one after another: their entries leave the table, and no key, output or event goes. -/
theorem State.foldl_endSession_spec (ids : List Nat) (s : State) :
    (ids.foldl State.endSession s).boot.sess = s.boot.sess.filter (fun e => !ids.contains e.1)
      ∧ (ids.foldl State.endSession s).boot.keys = s.boot.keys ∧ (ids.foldl State.endSession s).out = s.out
      ∧ ∀ i, bit s.boot.events i = true → bit (ids.foldl State.endSession s).boot.events i = true := by
  induction ids generalizing s with
  | nil => exact ⟨by simp, rfl, rfl, fun _ h => h⟩
  | cons id ids ih =>
    obtain ⟨hsess, hkeys, hout, hevents⟩ := ih (s.endSession id)
    have hframe := s.endSession_frame id
    refine ⟨?_, hkeys.trans (by rw [hframe]), hout.trans (by rw [hframe]), fun i h => hevents i (s.endSession_events id h)⟩
    rw [List.foldl_cons, hsess, hframe]
    simp only [Tbl.del, List.filter_filter, List.contains_cons, Bool.not_or]
    exact List.filter_congr fun e _ => Bool.and_comm _ _

/-- What a pause leaves of the state at its begin (R420, R434, R440). -/
theorem State.beginPause_spec (s : State) (md : Mod) (p : Pause) :
    (s.beginPause md p).out = s.out ∧ (s.beginPause md p).mod = md ∧ (s.beginPause md p).psg = s.psg
      ∧ (s.beginPause md p).boot.pause = some p ∧ (s.beginPause md p).boot.reserve = s.boot.reserve
      ∧ (s.beginPause md p).boot.sess = [] := by
  unfold State.beginPause State.endSessions
  simp only [State.traceAt_out, State.traceAt_mod, State.traceAt_psg, State.traceAt_boot, State.abandonRuns]
  rw [State.endLock_frame]
  exact ⟨rfl, trivial, rfl, trivial, rfl, rfl⟩

/-! ### Key slots (R443) -/

/-- The key that ENROLL or CLAIM carries, with the time of its enrolment. -/
def State.keyOf (s : State) (role usage : Nat) (b : Bytes) : Key :=
  ⟨role, usage, byteAt b 4, bytesAt b 8 16, bytesAt b 24 48, s.secs % 2 ^ 48⟩

theorem State.putKey_eq (s : State) (slot role usage : Nat) (b : Bytes) : ∃ log, s.putKey slot role usage b = { s with
    log := log
    boot := { s.boot with
      keys := s.boot.keys.put slot (s.keyOf role usage b), events := setBit s.boot.events 8 } } :=
  ⟨_, State.logAdd_frame _ _ _ _ _ _⟩

theorem State.dropKey_of_none {s : State} {n : Nat} (h : s.boot.keys.find n = none) : s.dropKey n = s := by
  rw [State.dropKey, h]

/-- The open sessions of a key. -/
def State.sessionsOf (s : State) (n : Nat) : List Nat :=
  (s.boot.sess.filter (fun e => e.2.key == n && e.2.role != 0)).map Prod.fst

theorem State.mem_sessionsOf {s : State} {n id : Nat} :
    id ∈ s.sessionsOf n ↔ ∃ y, (id, y) ∈ s.boot.sess ∧ y.key = n ∧ y.role ≠ 0 := by
  simp [State.sessionsOf]

theorem State.dropKey_of_some {s : State} {n : Nat} {k : Key} (h : s.boot.keys.find n = some k) :
    (s.dropKey n).boot.sess = s.boot.sess.filter (fun e => !(s.sessionsOf n).contains e.1)
      ∧ (s.dropKey n).boot.keys = s.boot.keys.del n ∧ (s.dropKey n).out = s.out
      ∧ bit (s.dropKey n).boot.events 8 = true := by
  obtain ⟨log, hlog⟩ : ∃ log, ((({ s with boot := { s.boot with keys := s.boot.keys.del n } } : State).bootEvent 8).logAdd
      sevWarning 0 0x0B20 agentNone [n, k.role]) = { s with
        log := log, boot := { s.boot with keys := s.boot.keys.del n, events := setBit s.boot.events 8 } } :=
    ⟨_, State.logAdd_frame _ _ _ _ _ _⟩
  have hdrop : s.dropKey n = (s.sessionsOf n).foldl State.endSession { s with
      log := log, boot := { s.boot with keys := s.boot.keys.del n, events := setBit s.boot.events 8 } } := by
    simp only [State.dropKey, h, hlog, State.sessionsOf, List.foldl_map]
  obtain ⟨hsess, hkeys, hout, hevents⟩ := State.foldl_endSession_spec (s.sessionsOf n) { s with
      log := log, boot := { s.boot with keys := s.boot.keys.del n, events := setBit s.boot.events 8 } }
  rw [hdrop]
  exact ⟨hsess, hkeys, hout, hevents 8 (bit_setBit_self _ 8)⟩

theorem State.dropKey_out (s : State) (n : Nat) : (s.dropKey n).out = s.out := by
  cases h : s.boot.keys.find n with
  | none => rw [State.dropKey_of_none h]
  | some k =>
    obtain ⟨-, -, hout, -⟩ := State.dropKey_of_some h
    exact hout

theorem State.dropKey_actsOn : ActsOn (fun s : State => s.boot.keys.find) id (fun _ _ => none) State.dropKey where
  own s n := by
    cases h : s.boot.keys.find n with
    | none => rw [State.dropKey_of_none h]; exact h
    | some k =>
      obtain ⟨-, hkeys, -, -⟩ := State.dropKey_of_some h
      exact (congrArg (Tbl.find · n) hkeys).trans (Tbl.find_del _ _)
  other s n j hj := by
    cases h : s.boot.keys.find n with
    | none => rw [State.dropKey_of_none h]
    | some k =>
      obtain ⟨-, hkeys, -, -⟩ := State.dropKey_of_some h
      exact (congrArg (Tbl.find · j) hkeys).trans (Tbl.find_del_ne _ hj)

/-! ### LOADER_COMMIT and RESTART (R427, R440) -/

theorem loaderCommit_pauses (m : CMsg) (x : Sess) (cls : Nat) (s : State) (hheard : HeardSigned m 0x41 x s)
    (hexecs : s.hif.execs = []) (hrole : 4 ≤ x.role) (hlock : s.holdsLock m.sess = true) (hsig : s.signedOk x m 0x41 = true)
    (hlen : m.body.length = 1) (hcls : cls = byteAt m.body 0) (hclass : cls = 2 ∨ cls = 3) (hmod : s.mod = .maintenance)
    (hpsg : ∀ e ∈ s.psg, e.2.st ≠ .armed ∧ e.2.st ≠ .running ∧ e.2.st ≠ .stalled) (hreserve : s.boot.reserve.has cls = true) :
    ∃ t, exec (.loaderCommit m) s = .next t ∧ Resulted m x 0 0 0 0 s t ∧ t.mod = .loaderUpdate
      ∧ t.boot.pause = some ⟨4, s.ns, cls, 0⟩ ∧ t.boot.reserve = s.boot.reserve ∧ t.boot.sess = [] ∧ t.psg = s.psg := by
  rw [← be_one] at hcls
  subst hcls
  have hformat : (m.body.length == 1 && (be m.body 0 1 == 2 || be m.body 0 1 == 3)) = true := by simpa [hlen] using hclass
  have hmaint : (s.mod == .maintenance
      && !(s.psg.any (fun e => e.2.st == .armed || e.2.st == .running || e.2.st == .stalled))) = true := by
    simpa [hmod, and_assoc] using hpsg
  have hrow : exec (.loaderCommit m) s = .next (((s.putSess m.sess x.taken).result m.sess m.msgId 0 0 0 0).beginPause
      .loaderUpdate ⟨4, s.ns, be m.body 0 1, 0⟩) := by
    change execLoaderCommit m s = _
    rw [execLoaderCommit, hexecs]
    exact congrArg Host.Outcome.next (State.message_acts hheard hrole hlock hsig ((firstM_cons_pass hformat _ _ _ _).trans
      ((firstM_cons_pass hmaint _ _ _ _).trans (firstM_cons_pass hreserve _ _ _ _))))
  obtain ⟨d, o, hresult, hanswer⟩ := State.result_spec (s.putSess_open m x) 0 0 0 0
  obtain ⟨hout, hloader, hpsg, hpause, hreserve, hsess⟩ := State.beginPause_spec
    ((s.putSess m.sess x.taken).result m.sess m.msgId 0 0 0 0) .loaderUpdate ⟨4, s.ns, be m.body 0 1, 0⟩
  exact ⟨_, hrow, hout.trans hanswer, hloader, hpause, hreserve.trans (by rw [hresult]; rfl), hsess,
    hpsg.trans (by rw [hresult]; rfl)⟩

theorem restart_waits (m : CMsg) (x : Sess) (s : State) (hheard : HeardSigned m 0x42 x s) (hrole : 3 ≤ x.role)
    (hlock : s.holdsLock m.sess = true) (hsig : s.signedOk x m 0x42 = true) (hbody : m.body = [0]) (hmod : s.mod ≠ .failed)
    (hhealth : s.boot.healthPending = false) :
    ∃ t, exec (.restart m) s = .next t ∧ Resulted m x 0 0 0 0 s t ∧ t.boot.restartReq = true ∧ Taken m x s t
      ∧ t = { s with boot := { s.boot with sess := t.boot.sess, restartReq := true }, out := t.out } := by
  have hkind : be m.body 0 1 = 0 := by rw [hbody]; rfl
  obtain ⟨d, o, hresult, hanswer⟩ := State.result_spec (s.putSess_open m x) 0 0 0 0
  rw [hresult] at hanswer
  have hrow : exec (.restart m) s = .next { s with
      boot := { s.boot with sess := (s.boot.sess.put m.sess x.taken).put m.sess (x.taken.sent d), restartReq := true }
      out := s.out ++ [o] } := by
    change execRestart m s = _
    rw [execRestart, hkind]
    refine congrArg Host.Outcome.next ((State.message_acts hheard hrole hlock hsig ?_).trans ?_)
    · refine (firstM_cons_pass (by rw [hbody]; rfl) _ _ _ _).trans
        ((firstM_cons_pass (bne_iff_ne.mpr hmod) _ _ _ _).trans (firstM_cons_pass ?_ _ _ _ _))
      exact congrArg not hhealth
    · rw [hresult]
      rfl
  exact ⟨_, hrow, hanswer, rfl, taken_of_sess rfl, rfl⟩

theorem restart_wipes (m : CMsg) (x : Sess) (s : State) (hheard : HeardSigned m 0x42 x s) (hrole : 3 ≤ x.role)
    (hlock : s.holdsLock m.sess = true) (hsig : s.signedOk x m 0x42 = true) (hbody : m.body = [1]) :
    ∃ t, exec (.restart m) s = .next t ∧ Resulted m x 0 0 0 0 s t ∧ t.mod = .starting ∧ t.psg = [] ∧ t.boot.sess = []
      ∧ t.boot.keys = s.boot.keys ∧ t.col = Col.reset := by
  have hkind : be m.body 0 1 = 1 := by rw [hbody]; rfl
  obtain ⟨d, o, hresult, hanswer⟩ := State.result_spec (s.putSess_open m x) 0 0 0 0
  have hrow : exec (.restart m) s = .next ((s.putSess m.sess x.taken).result m.sess m.msgId 0 0 0 0).wiped := by
    change execRestart m s = _
    rw [execRestart, hkind]
    exact congrArg Host.Outcome.next (State.message_acts hheard hrole hlock hsig
      ((firstM_cons_pass (by rw [hbody]; rfl) _ _ _ _).trans
        ((firstM_cons_pass rfl _ _ _ _).trans (firstM_cons_pass rfl _ _ _ _))))
  refine ⟨_, hrow, hanswer, rfl, rfl, rfl, ?_, rfl⟩
  rw [hresult]
  rfl

/-! ### ENROLL and REVOKE (R443) -/

/-- A key goes into a slot and RESULT answers: the new state, but for its log. -/
theorem State.putKey_result {m : CMsg} {x : Sess} {s u : State} (hopen : Open m x s u) (slot role usage : Nat) (b : Bytes) :
    ∃ d o log, (u.putKey slot role usage b).result m.sess m.msgId 0 0 0 0 = ({ u with
        log := log
        boot := { u.boot with
          sess := u.boot.sess.put m.sess (x.taken.sent d), keys := u.boot.keys.put slot (u.keyOf role usage b)
          events := setBit u.boot.events 8 } } : State).emit o
      ∧ Resulted m x 0 0 0 0 s ((u.putKey slot role usage b).result m.sess m.msgId 0 0 0 0) := by
  obtain ⟨log, hput⟩ := u.putKey_eq slot role usage b
  rw [hput]
  obtain ⟨d, o, hresult, hanswer⟩ := State.result_spec (u := { u with
    log := log
    boot := { u.boot with
      keys := u.boot.keys.put slot (u.keyOf role usage b), events := setBit u.boot.events 8 } }) hopen 0 0 0 0
  exact ⟨d, o, log, hresult, hanswer⟩

theorem enroll_puts (m : CMsg) (x : Sess) (n : Nat) (s : State) (hheard : HeardSigned m 0x50 x s) (hrole : 3 ≤ x.role)
    (hlock : s.holdsLock m.sess = true) (hsig : s.signedOk x m 0x50 = true) (hlen : m.body.length = 72)
    (hn : n = byteAt m.body 0) (hlow : 4 ≤ n) (hhigh : n ≤ 15) (hvalid : byteAt m.body 1 = 1) (hrole1 : 1 ≤ byteAt m.body 2)
    (hrole3 : byteAt m.body 2 ≤ 3) (hown : byteAt m.body 2 ≤ x.role) (husage : byteAt m.body 3 ≤ 3)
    (hparam1 : 1 ≤ byteAt m.body 4) (hparam2 : byteAt m.body 4 ≤ 2) (hzero : zeroAt m.body 5 3 = true)
    (hpub : byteAt m.body 4 = 2 ∨ zeroAt m.body 56 16 = true) :
    ∃ t k, exec (.enroll m) s = .next t ∧ Resulted m x 0 0 0 0 s t ∧ t.boot.keys.find n = some k
      ∧ k.role = byteAt m.body 2 ∧ k.usage = byteAt m.body 3 ∧ k.param = byteAt m.body 4
      ∧ k.pub = bytesAt m.body 24 48 ∧ (∀ j, j ≠ n → t.boot.keys.find j = s.boot.keys.find j)
      ∧ bit t.boot.events 8 = true ∧ Taken m x s t
      ∧ t = { s with
          boot := { s.boot with sess := t.boot.sess, keys := t.boot.keys, events := t.boot.events }
          log := t.log, out := t.out } := by
  subst hn
  have hfields : keyFieldsOk m.body = true := by simp [keyFieldsOk, hvalid, hparam1, hparam2, hzero, hpub]
  have hformat : (m.body.length == 72 && decide (4 ≤ byteAt m.body 0 ∧ byteAt m.body 0 ≤ 15 ∧ 1 ≤ byteAt m.body 2
      ∧ byteAt m.body 2 ≤ 3 ∧ byteAt m.body 3 ≤ 3) && keyFieldsOk m.body) = true := by
    simp [hlen, hlow, hhigh, hrole1, hrole3, husage, hfields]
  obtain ⟨d, o, log, hput, hanswer⟩ := State.putKey_result (s.putSess_open m x) (byteAt m.body 0) (byteAt m.body 2)
    (byteAt m.body 3) m.body
  have hrow : exec (.enroll m) s = .next (((s.putSess m.sess x.taken).putKey (byteAt m.body 0) (byteAt m.body 2)
      (byteAt m.body 3) m.body).result m.sess m.msgId 0 0 0 0) :=
    congrArg Host.Outcome.next (State.message_acts hheard hrole hlock hsig
      ((firstM_cons_pass hformat _ _ _ _).trans (firstM_cons_pass (decide_eq_true hown) _ _ _ _)))
  rw [hput] at hrow hanswer
  exact ⟨_, _, hrow, hanswer, Tbl.find_put _ _ _, rfl, rfl, rfl, rfl, fun j hj => Tbl.find_put_ne _ _ hj, bit_setBit_self _ 8,
    taken_of_sess rfl, rfl⟩

theorem revoke_empties (m : CMsg) (x : Sess) (k : Key) (n : Nat) (s : State) (hheard : HeardSigned m 0x51 x s)
    (hrole : 3 ≤ x.role) (hlock : s.holdsLock m.sess = true) (hsig : s.signedOk x m 0x51 = true) (hlen : m.body.length = 1)
    (hn : n = byteAt m.body 0) (hlow : 4 ≤ n) (hhigh : n ≤ 15) (hown : n ≠ x.key) (hkey : s.boot.keys.find n = some k)
    (hone : ∀ e ∈ s.boot.sess, e.1 = m.sess → e.2 = x) :
    ∃ t, exec (.revoke m) s = .next t ∧ Resulted m x 0 0 0 0 s t ∧ t.boot.keys.find n = none
      ∧ (∀ j, j ≠ n → t.boot.keys.find j = s.boot.keys.find j) ∧ bit t.boot.events 8 = true
      ∧ (∀ id y, s.boot.sess.find id = some y → y.key = n → y.role ≠ 0 → t.boot.sess.find id = none) := by
  rw [← be_one] at hn
  subst hn
  have hformat : (m.body.length == 1 && decide (4 ≤ be m.body 0 1 ∧ be m.body 0 1 ≤ 15)) = true := by simp [hlen, hlow, hhigh]
  have hrow : exec (.revoke m) s
      = .next (((s.putSess m.sess x.taken).dropKey (be m.body 0 1)).result m.sess m.msgId 0 0 0 0) :=
    congrArg Host.Outcome.next (State.message_acts hheard hrole hlock hsig
      ((firstM_cons_pass hformat _ _ _ _).trans (firstM_cons_pass (bne_iff_ne.mpr hown) _ _ _ _)))
  obtain ⟨hsess, hkeys, hout, hevent⟩ := State.dropKey_of_some (s := s.putSess m.sess x.taken) hkey
  have hstays : m.sess ∉ (s.putSess m.sess x.taken).sessionsOf (be m.body 0 1) := by
    rw [State.mem_sessionsOf]
    rintro ⟨y, hmem, hykey, -⟩
    rcases Tbl.mem_put hmem with heq | hold
    · exact hown (hykey.symm.trans (congrArg (·.2.key) heq))
    · exact hown (hykey.symm.trans (congrArg Sess.key (hone _ hold rfl)))
  obtain ⟨d, o, hresult, hanswer⟩ := State.result_spec (s := s)
    (u := (s.putSess m.sess x.taken).dropKey (be m.body 0 1)) ⟨by
      rw [hsess, find_filter_key _ (fun j => !((s.putSess m.sess x.taken).sessionsOf (be m.body 0 1)).contains j)
        (by simpa using hstays)]
      exact Tbl.find_put _ _ _, hout⟩ 0 0 0 0
  rw [hresult] at hrow hanswer
  refine ⟨_, hrow, hanswer, (congrArg (Tbl.find · _) hkeys).trans (Tbl.find_del _ _),
    fun j hj => (congrArg (Tbl.find · j) hkeys).trans (Tbl.find_del_ne _ hj), hevent, fun id y hy hykey hyrole => ?_⟩
  have hother : id ≠ m.sess := by
    rintro rfl
    exact hown (hykey.symm.trans (congrArg Sess.key (hone _ (Tbl.mem_of_find hy) rfl)))
  have hends : id ∈ (s.putSess m.sess x.taken).sessionsOf (be m.body 0 1) :=
    State.mem_sessionsOf.mpr ⟨y, Tbl.mem_of_find ((Tbl.find_put_ne _ _ hother).trans hy), hykey, hyrole⟩
  refine (Tbl.find_put_ne _ _ hother).trans ?_
  rw [hsess]
  exact Tbl.find_filter_dropped _ (fun j => !((s.putSess m.sess x.taken).sessionsOf (be m.body 0 1)).contains j)
    (by simpa using hends)

theorem revoke_refuses (m : CMsg) (x : Sess) (s : State) (hheard : HeardSigned m 0x51 x s) (hrole : 3 ≤ x.role)
    (hlock : s.holdsLock m.sess = true) (hsig : s.signedOk x m 0x51 = true) (hlen : m.body.length = 1)
    (hown : byteAt m.body 0 = x.key) (hlow : 4 ≤ x.key) (hhigh : x.key ≤ 15) :
    ∃ t, exec (.revoke m) s = .next t ∧ Resulted m x 0x0403 0 0 0 s t ∧ t.boot.keys = s.boot.keys := by
  rw [← be_one] at hown
  have hformat : (m.body.length == 1 && decide (4 ≤ be m.body 0 1 ∧ be m.body 0 1 ≤ 15)) = true := by
    simp [hlen, hown, hlow, hhigh]
  have hrow : exec (.revoke m) s = .next ((s.putSess m.sess x.taken).result m.sess m.msgId 0x0403 0 0 0) :=
    congrArg Host.Outcome.next (State.message_refuses hheard hrole hlock hsig
      ((firstM_cons_pass hformat _ _ _ _).trans (firstM_cons_fail (by simpa using hown) _ _ _ _)))
  obtain ⟨d, o, hresult, hanswer⟩ := State.result_spec (s.putSess_open m x) 0x0403 0 0 0
  refine ⟨_, hrow, hanswer, ?_⟩
  rw [hresult]
  rfl

/-! ### CLAIM and UNCLAIM (R444) -/

section
variable {m : CMsg} {x : Sess} {s : State} (hheard : Heard m 0x52 x s) (hlen : m.body.length = 88)
  (hvalid : byteAt m.body 17 = 1) (hparam1 : 1 ≤ byteAt m.body 20) (hparam2 : byteAt m.body 20 ≤ 2)
  (hzero : zeroAt m.body 21 3 = true) (hpub : byteAt m.body 20 = 2 ∨ zeroAt m.body 72 16 = true)
  (hclaimed : s.boot.claimed = false) (hup : s.upMs ≤ 600000) (hbad : s.boot.claimBad < 3)
include hheard hlen hvalid hparam1 hparam2 hzero hpub hclaimed hup hbad

/-- A CLAIM in time on an UNCLAIMED module: the code decides. -/
theorem claim_decides : exec (.claim m) s = .next (
    if (Config.sha256 (m.body.take 16)).toNat != s.fuse.claim then
      ({ s.putSess m.sess x.taken with boot := { (s.putSess m.sess x.taken).boot with
          claimBad := s.boot.claimBad + 1, claimFails := s.boot.claimFails.upd x.port 0 (satInc 16) } } : State).result
        m.sess m.msgId 0x0403 0 0 0
    else (((s.putSess m.sess x.taken).putKey 4 3 3 (m.body.drop 16)).logAdd sevNotice 0 0x0B21 agentNone []).result
        m.sess m.msgId 0 0 0 0) := by
  have hfields : keyFieldsOk (m.body.drop 16) = true := by
    simp [keyFieldsOk, byteAt_drop, zeroAt_drop, hvalid, hparam1, hparam2, hzero, hpub]
  have hformat : (m.body.length == 88 && keyFieldsOk (m.body.drop 16)) = true := by simp [hlen, hfields]
  have hopen : (!s.boot.claimed && decide (s.upMs ≤ 600000) && decide (s.boot.claimBad < 3)) = true := by
    simp [hclaimed, hup, hbad]
  have hfirst : firstM [mchk (m.body.length == 88 && keyFieldsOk (m.body.drop 16)) 0x0101 0 0,
      mchk (!(s.putSess m.sess x.taken).boot.claimed && decide ((s.putSess m.sess x.taken).upMs ≤ 600000)
        && decide ((s.putSess m.sess x.taken).boot.claimBad < 3)) 0x0301 9 0] = none :=
    (firstM_cons_pass hformat _ _ _ _).trans (firstM_cons_pass hopen _ _ _ _)
  change execClaim m s = _
  simp only [execClaim, State.takeMsg_heard hheard, hfirst]
  rfl

theorem claim_enrols (hcode : (Config.sha256 (m.body.take 16)).toNat = s.fuse.claim) :
    ∃ t k, exec (.claim m) s = .next t ∧ Resulted m x 0 0 0 0 s t ∧ t.boot.keys.find 4 = some k ∧ k.role = 3
      ∧ k.usage = 3 ∧ k.pub = bytesAt m.body 40 48 ∧ (∀ j, j ≠ 4 → t.boot.keys.find j = s.boot.keys.find j)
      ∧ Taken m x s t
      ∧ t = { s with
          boot := { s.boot with sess := t.boot.sess, keys := t.boot.keys, events := t.boot.events }
          log := t.log, out := t.out } := by
  have hrow := claim_decides hheard hlen hvalid hparam1 hparam2 hzero hpub hclaimed hup hbad
  rw [if_neg (by simp [hcode])] at hrow
  obtain ⟨log, hput⟩ : ∃ log, ((s.putSess m.sess x.taken).putKey 4 3 3 (m.body.drop 16)).logAdd sevNotice 0 0x0B21 agentNone []
      = { s.putSess m.sess x.taken with
          log := log
          boot := { (s.putSess m.sess x.taken).boot with
            keys := s.boot.keys.put 4 (s.keyOf 3 3 (m.body.drop 16)), events := setBit s.boot.events 8 } } := by
    obtain ⟨log, hput⟩ := (s.putSess m.sess x.taken).putKey_eq 4 3 3 (m.body.drop 16)
    rw [hput]
    exact ⟨_, State.logAdd_frame _ _ _ _ _ _⟩
  obtain ⟨d, o, hresult, hanswer⟩ := State.result_spec (u := { s.putSess m.sess x.taken with
    log := log
    boot := { (s.putSess m.sess x.taken).boot with
      keys := s.boot.keys.put 4 (s.keyOf 3 3 (m.body.drop 16)), events := setBit s.boot.events 8 } })
    (s.putSess_open m x) 0 0 0 0
  rw [hput, hresult] at hrow
  rw [hresult] at hanswer
  exact ⟨_, _, hrow, hanswer, Tbl.find_put _ _ _, rfl, rfl, bytesAt_drop _ 16 24 48, fun j hj => Tbl.find_put_ne _ _ hj,
    taken_of_sess rfl, rfl⟩

theorem claim_counts (hcode : (Config.sha256 (m.body.take 16)).toNat ≠ s.fuse.claim) :
    ∃ t, exec (.claim m) s = .next t ∧ Resulted m x 0x0403 0 0 0 s t ∧ t.boot.claimBad = s.boot.claimBad + 1
      ∧ t.boot.claimFails.get x.port 0 = satInc 16 (s.boot.claimFails.get x.port 0) ∧ t.boot.keys = s.boot.keys := by
  have hrow := claim_decides hheard hlen hvalid hparam1 hparam2 hzero hpub hclaimed hup hbad
  rw [if_pos (bne_iff_ne.mpr hcode)] at hrow
  obtain ⟨d, o, hresult, hanswer⟩ := State.result_spec (u := { s.putSess m.sess x.taken with
    boot := { (s.putSess m.sess x.taken).boot with
      claimBad := s.boot.claimBad + 1, claimFails := s.boot.claimFails.upd x.port 0 (satInc 16) } })
    (s.putSess_open m x) 0x0403 0 0 0
  rw [hresult] at hrow hanswer
  exact ⟨_, hrow, hanswer, rfl, Tbl.get_upd _ _ _ _, rfl⟩

end

theorem unclaim_empties (m : CMsg) (x : Sess) (s : State) (hheard : HeardSigned m 0x53 x s) (hrole : 4 ≤ x.role)
    (hlock : s.holdsLock m.sess = true) (hsig : s.signedOk x m 0x53 = true) (hbody : m.body = []) :
    ∃ t, exec (.unclaim m) s = .next t ∧ Resulted m x 0 0 0 0 s t
      ∧ (∀ n, 4 ≤ n → n < 16 → t.boot.keys.find n = none)
      ∧ (∀ n, (n < 4 ∨ 16 ≤ n) → t.boot.keys.find n = s.boot.keys.find n) := by
  obtain ⟨slots, hslots, hnodup, hmem⟩ : ∃ l, l = (List.range 16).drop 4 ∧ l.Nodup ∧ ∀ n, n ∈ l ↔ 4 ≤ n ∧ n < 16 :=
    ⟨_, rfl, by decide, fun n => by simp [List.range_eq_range', List.drop_range']⟩
  obtain ⟨d, o, hresult, hanswer⟩ := State.result_spec (s.putSess_open m x) 0 0 0 0
  have hrow : exec (.unclaim m) s
      = .next (slots.foldl State.dropKey ((s.putSess m.sess x.taken).result m.sess m.msgId 0 0 0 0)) := by
    rw [hslots]
    exact congrArg Host.Outcome.next (State.message_acts hheard hrole hlock hsig
      (firstM_cons_pass (beq_iff_eq.mpr hbody) _ _ _ _))
  have hkept : ((s.putSess m.sess x.taken).result m.sess m.msgId 0 0 0 0).boot.keys = s.boot.keys := by
    rw [hresult]
    rfl
  refine ⟨_, hrow, ?_, fun n hlow hhigh => ?_, fun n hn => ?_⟩
  · exact (List.foldlRecOn slots State.dropKey (motive := fun t : State =>
      t.out = ((s.putSess m.sess x.taken).result m.sess m.msgId 0 0 0 0).out) rfl
      fun t ht n _ => (State.dropKey_out t n).trans ht).trans hanswer
  · exact State.dropKey_actsOn.foldl_of_mem Function.injective_id hnodup ((hmem n).mpr ⟨hlow, hhigh⟩) _
  · have hne : ∀ i ∈ slots, n ≠ id i := by
      rintro i hi rfl
      have hin := (hmem _).mp hi
      omega
    exact (State.dropKey_actsOn.foldl_of_forall_ne hne _).trans (congrArg (Tbl.find · n) hkept)

end Machine
end Sys2Proof

namespace Sys2Proof.Proofs

open Sys2Proof.Machine

/-- Settles O54, command by command. -/
theorem restartsAndKeys : Obligations.RestartsAndKeys :=
  ⟨⟨loaderCommit_pauses, restart_waits, restart_wipes⟩, enroll_puts, revoke_empties, revoke_refuses,
    fun _ _ _ hheard hlen hvalid hparam1 hparam2 hzero hpub hclaimed hup hbad hcode =>
      claim_enrols hheard hlen hvalid hparam1 hparam2 hzero hpub hclaimed hup hbad hcode,
    fun _ _ _ hheard hlen hvalid hparam1 hparam2 hzero hpub hclaimed hup hbad hcode =>
      claim_counts hheard hlen hvalid hparam1 hparam2 hzero hpub hclaimed hup hbad hcode,
    unclaim_empties⟩

end Sys2Proof.Proofs
end

section
/-! SUPPORT. The transparent plane: mirrors changed one or two at a time, batch slots, the moves of a
circuit and circuits that fail (R119 to R125); and statement O18. -/

namespace Sys2Proof.Machine

open Safety

/-! ### Events of the plane after which nothing is left to end -/

/-- A row that can end a release ends none, where nothing is in release after it and no reset waits. -/
theorem next_settle {t u : State} (h : t = u) (hidle : NothingReleasing u) :
    (Host.Outcome.next t.settle : Host.Outcome State Fault Refusal) = .next u :=
  congrArg Host.Outcome.next ((congrArg State.settle h).trans (State.settle_of_nothing hidle))

theorem nothingReleasing_updCircuits {s : State} (h : NothingReleasing s) (f : Circuit → Circuit) :
    NothingReleasing (s.updCircuits f) := by
  refine ⟨fun e he => ?_, h.2⟩
  obtain ⟨y, hy, rfl⟩ := List.mem_map.mp he
  have hy := h.1 y hy
  dsimp only
  split
  · exact hy
  · exact hy

/-! ### Two mirrors changed -/

/-- Two different mirrors change, the others stand. -/
theorem State.updMirror_two (s : State) {a b : Nat} (hab : a ≠ b) (f g : Mirror → Mirror) :
    ((s.updMirror a f).updMirror b g).mirror a = f (s.mirror a) ∧ ((s.updMirror a f).updMirror b g).mirror b = g (s.mirror b)
      ∧ ∀ m, m ≠ a → m ≠ b → ((s.updMirror a f).updMirror b g).mirror m = s.mirror m := by
  refine ⟨?_, ?_, fun m ha hb => ?_⟩
  · rw [State.mirror_updMirror_ne _ g hab, State.mirror_updMirror]
  · rw [State.mirror_updMirror, State.mirror_updMirror_ne _ f hab.symm]
  · rw [State.mirror_updMirror_ne _ g hb, State.mirror_updMirror_ne _ f ha]

/-- The two mirrors of a circuit differ where its source is a mirror position. -/
theorem mir0_ne_mir1 {c : Circuit} (h : mir0 c < 1024) : mir0 c ≠ mir1 c := by
  have hhigh : 1024 ≤ mir1 c := Nat.le_add_right _ _
  omega

theorem posOf_portAt {p : Nat} (h : p < 1024) : posOf (portAt p) = p := by
  unfold portAt
  split
  · simp only [posOf, refClass, refT, refIndex, beq_iff_eq]
    split <;> omega
  · simp only [posOf, refClass, refI, refIndex, beq_iff_eq]
    split <;> omega

/-! ### Batch slots (R119, R123) -/

/-- A mirror after a batch slot: moving to the target that is due, if there is one and nothing bars it. -/
def State.afterBatch (s : State) (m : Nat) : Mirror :=
  match (s.mirror m).due with
  | none => s.mirror m
  | some a =>
    if s.barred m a then s.mirror m else (s.mirror m).start (s.calVal (0x10 + m / 128) 1 <| 1024 * (m % 128) + ·) a

theorem State.afterBatch_of_due {s : State} {m : Nat} {a : Aim} (hdue : (s.mirror m).due = some a) (hfree : s.barred m a = false) :
    s.afterBatch m = (s.mirror m).start (s.calVal (0x10 + m / 128) 1 <| 1024 * (m % 128) + ·) a := by
  simp only [State.afterBatch, hdue, hfree, Bool.false_eq_true, if_false]

theorem State.afterBatch_of_not_due {s : State} {m : Nat}
    (h : (s.mirror m).due = none ∨ ∃ a, (s.mirror m).due = some a ∧ s.barred m a = true) : s.afterBatch m = s.mirror m := by
  rcases h with hnone | ⟨a, hdue, hbarred⟩
  · simp only [State.afterBatch, hnone]
  · simp only [State.afterBatch, hdue, hbarred, if_true]

theorem State.startMirror_eq (s : State) (m : Nat) :
    (s.startMirror m = s ∧ s.afterBatch m = s.mirror m) ∨ s.startMirror m = s.updMirror m (fun _ => s.afterBatch m) := by
  cases hdue : (s.mirror m).due with
  | none => exact .inl ⟨by simp only [State.startMirror, hdue], State.afterBatch_of_not_due (.inl hdue)⟩
  | some a =>
    cases hfree : s.barred m a with
    | true =>
      exact .inl ⟨by simp only [State.startMirror, hdue, hfree, if_true], State.afterBatch_of_not_due (.inr ⟨a, hdue, hfree⟩)⟩
    | false =>
      rw [State.afterBatch_of_due hdue hfree]
      exact .inr (by simp only [State.startMirror, hdue, hfree, Bool.false_eq_true, if_false, State.updMirror])

theorem State.startMirror_spec (s : State) (m : Nat) :
    (∃ mirrors, s.startMirror m = { s with plane := { s.plane with mirror := mirrors } })
      ∧ (s.startMirror m).mirror m = s.afterBatch m ∧ ∀ k, k ≠ m → (s.startMirror m).mirror k = s.mirror k := by
  rcases s.startMirror_eq m with ⟨h, hm⟩ | h
  · rw [h]
    exact ⟨⟨_, rfl⟩, hm.symm, fun _ _ => rfl⟩
  · rw [h]
    exact ⟨⟨_, rfl⟩, s.mirror_updMirror m _, fun k hk => s.mirror_updMirror_ne _ hk⟩

theorem State.afterBatch_startMirror_ne (s : State) {m k : Nat} (h : k ≠ m) : (s.startMirror m).afterBatch k = s.afterBatch k := by
  obtain ⟨⟨mirrors, heq⟩, -, hother⟩ := s.startMirror_spec m
  have hkept := hother k h
  rw [heq] at hkept ⊢
  simp only [State.afterBatch, hkept]
  rfl

/-- A batch starts each mirror of its list by itself. -/
theorem State.foldl_startMirror_spec {ms : List Nat} (hms : ms.Nodup) (s : State) :
    (∃ mirrors, ms.foldl State.startMirror s = { s with plane := { s.plane with mirror := mirrors } })
      ∧ (∀ m ∈ ms, (ms.foldl State.startMirror s).mirror m = s.afterBatch m)
      ∧ ∀ m, m ∉ ms → (ms.foldl State.startMirror s).mirror m = s.mirror m := by
  induction ms generalizing s with
  | nil => exact ⟨⟨_, rfl⟩, fun m hm => absurd hm List.not_mem_nil, fun _ _ => rfl⟩
  | cons k ms ih =>
    obtain ⟨hk, hms⟩ := List.nodup_cons.mp hms
    obtain ⟨⟨mirrors, heq⟩, hin, hout⟩ := ih hms (s.startMirror k)
    obtain ⟨⟨mirrors', heq'⟩, hself, hother⟩ := s.startMirror_spec k
    refine ⟨⟨mirrors, ?_⟩, fun m hm => ?_, fun m hm => ?_⟩
    · rw [List.foldl_cons, heq, heq']
    · rcases List.mem_cons.mp hm with rfl | hm
      · exact (hout m hk).trans hself
      · have hne : m ≠ k := fun h => hk (h ▸ hm)
        exact (hin m hm).trans (s.afterBatch_startMirror_ne hne)
    · obtain ⟨hne, hm⟩ := not_or.mp (hm ∘ List.mem_cons.mpr)
      exact (hout m hm).trans (hother m hne)

/-- The instant of a controller's next batch: 5 ms after the last one, or now (R123). -/
def State.toBatch (s : State) (tf : Nat) : State :=
  match (s.tfc tf).lastBatch with
  | none => s
  | some t => s.advanceTo (t + 5000000)

theorem State.toBatch_spec (s : State) (tf : Nat) :
    (∃ raw, s.toBatch tf = { s with ast := { s.ast with raw := raw } })
      ∧ ∀ t0, (s.tfc tf).lastBatch = some t0 → t0 + 5000000 ≤ (s.toBatch tf).ns := by
  cases h : (s.tfc tf).lastBatch with
  | none => exact ⟨⟨_, by rw [State.toBatch, h]⟩, nofun⟩
  | some t =>
    rw [State.toBatch, h]
    refine ⟨⟨_, rfl⟩, ?_⟩
    rintro _ ⟨⟩
    exact s.le_ns_advanceTo _

/-- The mirrors of a controller. -/
def mirrorsOfTf (tf : Nat) : List Nat := (List.range 128).map (128 * tf + ·)

theorem nodup_mirrorsOfTf (tf : Nat) : (mirrorsOfTf tf).Nodup :=
  List.nodup_range.map (add_right_injective (128 * tf))

theorem mem_mirrorsOfTf {tf i : Nat} (h : i < 128) : 128 * tf + i ∈ mirrorsOfTf tf :=
  List.mem_map_of_mem (List.mem_range.mpr h)

theorem not_mem_mirrorsOfTf {tf m : Nat} (h : m < 128 * tf ∨ 128 * tf + 128 ≤ m) : m ∉ mirrorsOfTf tf := by
  intro hm
  obtain ⟨i, hi, rfl⟩ := List.mem_map.mp hm
  have hi := List.mem_range.mp hi
  omega

@[simp] theorem State.tfc_updTf (s : State) (k : Nat) (f : Tf → Tf) : (s.updTf k f).tfc k = f (s.tfc k) := Tbl.get_upd _ _ _ _

theorem State.tfc_updTf_ne (s : State) {k j : Nat} (f : Tf → Tf) (h : j ≠ k) : (s.updTf k f).tfc j = s.tfc j :=
  Tbl.get_upd_ne _ _ _ _ h

theorem tfBatchSlot_next {tf : Fin 16} {s : State} (h : (s.tfc tf).st = 2) :
    exec (.tfBatchSlot tf) s = .next ((mirrorsOfTf tf).foldl State.startMirror
      ((s.toBatch tf).updTf tf (fun t => { t with lastBatch := some (s.toBatch tf).ns }))) := by
  have hrun : ((s.tfc tf).st == 2) = true := beq_iff_eq.mpr h
  rw [mirrorsOfTf, List.foldl_map]
  exact congrArg Host.Outcome.next (if_pos hrun)

theorem tfBatchSlot_starts (tf : Fin 16) (s : State) (hrun : (s.tfc tf).st = 2) : ∃ t, exec (.tfBatchSlot tf) s = .next t
    ∧ (∀ i a, i < 128 → (s.mirror (128 * tf + i)).due = some a → s.barred (128 * tf + i) a = false →
        (t.mirror (128 * tf + i)).st = .moving ∧ (t.mirror (128 * tf + i)).goal = a
        ∧ (t.mirror (128 * tf + i)).accepted = none ∧ (t.mirror (128 * tf + i)).pending = none
        ∧ (a = .park → (t.mirror (128 * tf + i)).x = 0 ∧ (t.mirror (128 * tf + i)).y = 0))
    ∧ (∀ i, i < 128 → ((s.mirror (128 * tf + i)).due = none ∨ ∃ a, (s.mirror (128 * tf + i)).due = some a
        ∧ s.barred (128 * tf + i) a = true) → t.mirror (128 * tf + i) = s.mirror (128 * tf + i))
    ∧ (∀ m : Nat, (m < 128 * tf ∨ 128 * tf + 128 ≤ m) → t.mirror m = s.mirror m)
    ∧ t.tfc tf = { s.tfc tf with lastBatch := some t.ns } ∧ (∀ t0, (s.tfc tf).lastBatch = some t0 → t0 + 5000000 ≤ t.ns)
    ∧ (∀ k, k ≠ tf.val → t.tfc k = s.tfc k)
    ∧ t = { s with ast := { s.ast with raw := t.ast.raw }
                   plane := { s.plane with mirror := t.plane.mirror, tf := t.plane.tf } } := by
  obtain ⟨⟨raw, htime⟩, hlater⟩ := s.toBatch_spec tf
  obtain ⟨⟨mirrors, heq⟩, hin, hout⟩ := State.foldl_startMirror_spec (nodup_mirrorsOfTf tf)
    ((s.toBatch tf).updTf tf (fun t => { t with lastBatch := some (s.toBatch tf).ns }))
  have hnext := tfBatchSlot_next hrun
  obtain ⟨t, ht⟩ : ∃ t, (mirrorsOfTf tf).foldl State.startMirror
      ((s.toBatch tf).updTf tf (fun t => { t with lastBatch := some (s.toBatch tf).ns })) = t := ⟨_, rfl⟩
  rw [ht] at hnext heq hin hout
  have hmirror : ∀ i, i < 128 → t.mirror (128 * tf + i) = s.afterBatch (128 * tf + i) := fun i hi => by
    rw [hin _ (mem_mirrorsOfTf hi), htime]
    rfl
  have htfc : ∀ k, t.tfc k = ((s.toBatch tf).updTf tf (fun t => { t with lastBatch := some (s.toBatch tf).ns })).tfc k :=
    fun k => by rw [heq]; rfl
  have hns : t.ns = (s.toBatch tf).ns := by rw [heq]; rfl
  refine ⟨t, hnext, fun i a hi hdue hfree => ?_, fun i hi hkept => ?_, fun m hm => ?_, ?_, fun t0 h0 => ?_, fun k hk => ?_, ?_⟩
  · rw [hmirror i hi, State.afterBatch_of_due hdue hfree]
    refine ⟨rfl, rfl, rfl, rfl, ?_⟩
    rintro rfl
    exact ⟨rfl, rfl⟩
  · rw [hmirror i hi, State.afterBatch_of_not_due hkept]
  · rw [hout m (not_mem_mirrorsOfTf hm), htime]
    rfl
  · rw [htfc, State.tfc_updTf, hns, htime]
    rfl
  · rw [hns]
    exact hlater t0 h0
  · rw [htfc, State.tfc_updTf_ne _ _ hk, htime]
    rfl
  · rw [heq, htime]
    rfl

theorem tfBatchSlot_notRunning (tf : Fin 16) (s : State) (h : (s.tfc tf).st ≠ 2) : exec (.tfBatchSlot tf) s = .next s := by
  have hrun : ((s.tfc tf).st == 2) = false := beq_false_of_ne h
  simp only [exec, execTfBatchSlot, hrun, Bool.false_eq_true, if_false]

/-! ### Circuits that fail (R125, R130) -/

/-- The mirrors of a circuit that fails relax with its fault; the others stand. -/
theorem State.failCircuit_mirrors (s : State) {c : Circuit} (hc : mir0 c < 1024) (fault : Nat) :
    (∀ m, m = mir0 c ∨ m = mir1 c → (s.failCircuit c fault).mirror m = { (s.mirror m).relax with fault := fault })
      ∧ ∀ m, m ≠ mir0 c → m ≠ mir1 c → (s.failCircuit c fault).mirror m = s.mirror m := by
  obtain ⟨h0, h1, hother⟩ := s.updMirror_two (mir0_ne_mir1 hc) (fun x => { x.relax with fault := fault })
    (fun x => { x.relax with fault := fault })
  refine ⟨?_, hother⟩
  rintro m (rfl | rfl)
  · exact h0
  · exact h1

theorem nothingReleasing_failCircuit {s : State} (h : NothingReleasing s) (c : Circuit) (fault : Nat) :
    NothingReleasing (s.failCircuit c fault) :=
  nothingReleasing_updCircuits (s := (s.updMirror (mir0 c) (fun x => { x.relax with fault := fault })).updMirror (mir1 c)
    (fun x => { x.relax with fault := fault })) h _

/-- A mirror that is neither FAILED nor DARK relaxes to park. -/
theorem Mirror.relax_st {x : Mirror} (hfailed : x.st ≠ .failed) (hdark : x.st ≠ .dark) : x.relax.st = .parked := by
  unfold Mirror.relax
  split
  · contradiction
  · contradiction
  · rfl

/-- A circuit whose identity is wrong: it fails with fault 4, event 6 is set and an ERROR recorded (R125, R130). -/
def State.rejectIdentity (s : State) (c : Circuit) (args : List Nat) : State :=
  ((s.failCircuit c 4).trpEvent 6).logAdd sevError (s.owner c.src) (evNamed 2 "WRONG_IDENTITY")
    (agentKind 0 (refIndex c.src)) args

theorem State.rejectIdentity_eq (s : State) (c : Circuit) (args : List Nat) :
    ∃ log, s.rejectIdentity c args = { s with
        log := log, topo := { s.topo with plot := (s.failCircuit c 4).topo.plot }
        plane := { s.plane with mirror := (s.failCircuit c 4).plane.mirror, events := setBit s.plane.events 6 } }
      ∧ log.created = s.log.created + 1 :=
  State.logAdd_eq ((s.failCircuit c 4).trpEvent 6) (by decide) _ _ _ _

/-- What a wrong identity leaves, where nothing is in release. -/
theorem State.rejectIdentity_spec {s : State} {c : Circuit} (hidle : NothingReleasing s) (hc : mir0 c < 1024)
    (hup : ∀ m, m = mir0 c ∨ m = mir1 c → (s.mirror m).st ≠ .failed ∧ (s.mirror m).st ≠ .dark) (args : List Nat) :
    NothingReleasing (s.rejectIdentity c args)
      ∧ (∀ m, m = mir0 c ∨ m = mir1 c → ((s.rejectIdentity c args).mirror m).st = .parked
          ∧ ((s.rejectIdentity c args).mirror m).x = 0 ∧ ((s.rejectIdentity c args).mirror m).y = 0
          ∧ ((s.rejectIdentity c args).mirror m).fault = 4)
      ∧ ∀ m, m ≠ mir0 c → m ≠ mir1 c → (s.rejectIdentity c args).mirror m = s.mirror m := by
  obtain ⟨log, heq, -⟩ := s.rejectIdentity_eq c args
  obtain ⟨hfail, hother⟩ := s.failCircuit_mirrors hc 4
  have hmirror : ∀ m, (s.rejectIdentity c args).mirror m = (s.failCircuit c 4).mirror m := fun m => by
    rw [heq]
    rfl
  refine ⟨?_, fun m hm => ?_, fun m h0 h1 => (hmirror m).trans (hother m h0 h1)⟩
  · rw [heq]
    exact nothingReleasing_failCircuit hidle c 4
  · obtain ⟨hfailed, hdark⟩ := hup m hm
    rw [hmirror, hfail m hm]
    exact ⟨Mirror.relax_st hfailed hdark, rfl, rfl, rfl⟩

/-! ### MIRROR_ACQUIRING (R121, R125) -/

/-- The circuit from position `p` to position `out`, as MIRROR_ACQUIRING takes it. -/
def moveCircuit (p out : Nat) : Circuit := ⟨portAt p, portAt out, 0, 0, false, false, false, false, false, 0xFFFF⟩

theorem mir0_moveCircuit {p : Nat} (h : p < 1024) (out : Nat) : mir0 (moveCircuit p out) = p := posOf_portAt h

theorem mir1_moveCircuit (p : Nat) {out : Nat} (h : out < 1024) : mir1 (moveCircuit p out) = 1024 + out :=
  congrArg (1024 + ·) (posOf_portAt h)

/-- The identity last read at an output. -/
def State.readIdentity (s : State) (out ident : Nat) : State :=
  { s with plane := { s.plane with tapOut := s.plane.tapOut.upd out (0x8000, 0xFFFF) (fun t => (t.1, ident)) } }

/-- A moving mirror becomes ACQUIRING. -/
def Mirror.acquire (x : Mirror) : Mirror := if x.st == .moving then { x with st := .acquiring } else x

theorem Mirror.acquire_of_moving {x : Mirror} (h : x.st = .moving) : x.acquire = { x with st := .acquiring } := by
  simp [Mirror.acquire, h]

theorem State.mirrorAcquiring_eq {out : Fin 1024} {p : Nat} {s : State} (ident : Fin 1024)
    (hgoal1 : (s.mirror (1024 + out)).goal = .face p) (hgoal0 : (s.mirror p).goal = .face out)
    (hst0 : (s.mirror p).st = .moving) (hnone : s.holdCauses (moveCircuit p out) = []) : s.mirrorAcquiring out ident =
    if ident.val == p then ((s.readIdentity out ident).updMirror p Mirror.acquire).updMirror (1024 + out) Mirror.acquire
    else (((s.readIdentity out ident).updMirror p Mirror.acquire).updMirror (1024 + out) Mirror.acquire).rejectIdentity
      (moveCircuit p out) [p, out, ident] := by
  have hnone : s.holdCauses ⟨portAt p, portAt out, 0, 0, false, false, false, false, false, 0xFFFF⟩ = [] := hnone
  simp only [State.mirrorAcquiring, hgoal1, hgoal0, hst0, hnone, bne_self_eq_false, Bool.false_and, Bool.or_false,
    Bool.false_eq_true, if_false]
  rfl

/-- The two mirrors of a move, both moving, once an identity is read. -/
theorem State.acquired_mirrors {s : State} {p : Nat} {out : Fin 1024} (hp : p < 1024) (hst0 : (s.mirror p).st = .moving)
    (hst1 : (s.mirror (1024 + out)).st = .moving) (ident : Nat) {t : State}
    (ht : ((s.readIdentity out ident).updMirror p Mirror.acquire).updMirror (1024 + out) Mirror.acquire = t) :
    t.mirror p = { s.mirror p with st := .acquiring }
      ∧ t.mirror (1024 + out) = { s.mirror (1024 + out) with st := .acquiring }
      ∧ ∀ m, m ≠ p → m ≠ 1024 + out.val → t.mirror m = s.mirror m := by
  obtain ⟨h0, h1, hother⟩ := (s.readIdentity out ident).updMirror_two (a := p) (b := 1024 + out) (by omega) Mirror.acquire
    Mirror.acquire
  rw [ht] at h0 h1 hother
  exact ⟨h0.trans (Mirror.acquire_of_moving hst0), h1.trans (Mirror.acquire_of_moving hst1), hother⟩

theorem mirrorAcquiring_right (out ident : Fin 1024) (p : Nat) (s : State) (hidle : NothingReleasing s) (hp : p < 1024)
    (hgoal1 : (s.mirror (1024 + out)).goal = .face p) (hgoal0 : (s.mirror p).goal = .face out)
    (hst0 : (s.mirror p).st = .moving) (hst1 : (s.mirror (1024 + out)).st = .moving)
    (hnone : s.holdCauses ⟨portAt p, portAt out, 0, 0, false, false, false, false, false, 0xFFFF⟩ = []) (hident : ident.val = p) :
    ∃ t, exec (.mirrorAcquiring out ident) s = .next t ∧ t.mirror p = { s.mirror p with st := .acquiring }
      ∧ t.mirror (1024 + out) = { s.mirror (1024 + out) with st := .acquiring }
      ∧ (∀ m, m ≠ p → m ≠ 1024 + out.val → t.mirror m = s.mirror m)
      ∧ t = { s with plane := { s.plane with mirror := t.plane.mirror, tapOut := t.plane.tapOut } } := by
  obtain ⟨h0, h1, hother⟩ := State.acquired_mirrors hp hst0 hst1 ident rfl
  have heq := State.mirrorAcquiring_eq ident hgoal1 hgoal0 hst0 hnone
  rw [if_pos (beq_iff_eq.mpr hident)] at heq
  exact ⟨_, next_settle heq hidle, h0, h1, hother, rfl⟩

theorem mirrorAcquiring_wrong (out ident : Fin 1024) (p : Nat) (s : State) (hidle : NothingReleasing s) (hp : p < 1024)
    (hgoal1 : (s.mirror (1024 + out)).goal = .face p) (hgoal0 : (s.mirror p).goal = .face out)
    (hst0 : (s.mirror p).st = .moving) (hst1 : (s.mirror (1024 + out)).st = .moving)
    (hnone : s.holdCauses ⟨portAt p, portAt out, 0, 0, false, false, false, false, false, 0xFFFF⟩ = []) (hident : ident.val ≠ p) :
    ∃ t, exec (.mirrorAcquiring out ident) s = .next t
      ∧ (∀ m, m = p ∨ m = 1024 + out.val → (t.mirror m).st = .parked ∧ (t.mirror m).x = 0 ∧ (t.mirror m).y = 0
          ∧ (t.mirror m).fault = 4)
      ∧ (∀ m, m ≠ p → m ≠ 1024 + out.val → t.mirror m = s.mirror m)
      ∧ bit t.plane.events 6 = true ∧ t.log.created = s.log.created + 1
      ∧ t = { s with log := t.log, topo := { s.topo with plot := t.topo.plot }
                     plane := { s.plane with mirror := t.plane.mirror, tapOut := t.plane.tapOut, events := t.plane.events } } := by
  have hm0 : mir0 (moveCircuit p out) = p := mir0_moveCircuit hp out
  have hm1 : mir1 (moveCircuit p out) = 1024 + out := mir1_moveCircuit p out.isLt
  obtain ⟨u, hu⟩ : ∃ u, ((s.readIdentity out ident).updMirror p Mirror.acquire).updMirror (1024 + out) Mirror.acquire = u :=
    ⟨_, rfl⟩
  obtain ⟨h0, h1, hother⟩ := State.acquired_mirrors hp hst0 hst1 ident hu
  have heq := State.mirrorAcquiring_eq ident hgoal1 hgoal0 hst0 hnone
  rw [if_neg (mt beq_iff_eq.mp hident), hu] at heq
  have hidle : NothingReleasing u := hu ▸ hidle
  have hup : ∀ m, m = mir0 (moveCircuit p out) ∨ m = mir1 (moveCircuit p out) →
      (u.mirror m).st ≠ .failed ∧ (u.mirror m).st ≠ .dark := by
    rw [hm0, hm1]
    rintro m (rfl | rfl)
    · simp [h0]
    · simp [h1]
  obtain ⟨hidle', hparked, hkept⟩ := State.rejectIdentity_spec hidle (hm0.symm ▸ hp) hup [p, out, ident]
  obtain ⟨log, hreject, hcreated⟩ := u.rejectIdentity_eq (moveCircuit p out) [p, out, ident]
  rw [hm0, hm1] at hparked hkept
  refine ⟨_, next_settle heq hidle', hparked, fun m hm0 hm1 => (hkept m hm0 hm1).trans (hother m hm0 hm1), ?_, ?_, ?_⟩
  · rw [hreject]
    exact bit_setBit_self _ 6
  · rw [hreject]
    exact hcreated.trans (by rw [← hu]; rfl)
  · rw [hreject, ← hu]
    rfl

/-! ### MIRROR_SETTLED (R121) -/

/-- A mirror whose loop has converged. -/
def Mirror.settle (x : Mirror) : Mirror := { x with st := .settled, fault := 0 }

/-- A circuit between these two mirrors is made, with its measured loss. -/
def Circuit.measure (m0 m1 loss : Nat) (c : Circuit) : Circuit :=
  if mir0 c == m0 && mir1 c == m1 then { c with made := true, waits := false, loss := min loss 0xFFFE } else c

theorem mirrorSettled_next {out : Fin 1024} {p : Nat} {s : State} (loss : Nat) (hgoal1 : (s.mirror (1024 + out)).goal = .face p)
    (hgoal0 : (s.mirror p).goal = .face out) (hst0 : (s.mirror p).st = .acquiring ∨ (s.mirror p).st = .settled)
    (hst1 : (s.mirror (1024 + out)).st = .acquiring ∨ (s.mirror (1024 + out)).st = .settled) :
    exec (.mirrorSettled out loss) s = .next (((s.updMirror p Mirror.settle).updMirror (1024 + out) Mirror.settle).updCircuits
      (Circuit.measure p (1024 + out) loss)) := by
  have hready : ∀ x : Mirror, x.st = .acquiring ∨ x.st = .settled → (x.st == .acquiring || x.st == .settled) = true :=
    fun x hx => by simpa using hx
  simp only [exec, execMirrorSettled, hgoal1, hgoal0, hready _ hst0, hready _ hst1, beq_self_eq_true, Bool.and_self, if_true]
  rfl

theorem State.find_updPlots (s : State) (f : Nat → Plot → Plot) (k : Nat) :
    (s.updPlots f).topo.plot.find k = (s.topo.plot.find k).map (f k) :=
  Tbl.find_mapVal s.topo.plot f k

theorem State.find_updCircuits {s : State} {id : Nat} {pl : Plot} (f : Circuit → Circuit) (h : s.topo.plot.find id = some pl)
    (hst : 2 ≤ pl.st) : (s.updCircuits f).topo.plot.find id = some { pl with circuits := pl.circuits.map f } := by
  rw [State.updCircuits, State.find_updPlots, h, Option.map_some, if_pos (decide_eq_true hst)]

theorem mirrorSettled_settles (out : Fin 1024) (p loss : Nat) (s : State) (hp : p < 1024)
    (hgoal1 : (s.mirror (1024 + out)).goal = .face p) (hgoal0 : (s.mirror p).goal = .face out)
    (hst0 : (s.mirror p).st = .acquiring ∨ (s.mirror p).st = .settled)
    (hst1 : (s.mirror (1024 + out)).st = .acquiring ∨ (s.mirror (1024 + out)).st = .settled) :
    ∃ t, exec (.mirrorSettled out loss) s = .next t ∧ t.mirror p = { s.mirror p with st := .settled, fault := 0 }
      ∧ t.mirror (1024 + out) = { s.mirror (1024 + out) with st := .settled, fault := 0 }
      ∧ (∀ m, m ≠ p → m ≠ 1024 + out.val → t.mirror m = s.mirror m)
      ∧ (∀ id pl, s.topo.plot.find id = some pl → 2 ≤ pl.st → ∃ q, t.topo.plot.find id = some q
          ∧ q.circuits = pl.circuits.map (fun c => if mir0 c = p ∧ mir1 c = 1024 + out.val
              then { c with made := true, waits := false, loss := min loss 65534 } else c))
      ∧ t = { s with topo := { s.topo with plot := t.topo.plot }, plane := { s.plane with mirror := t.plane.mirror } } := by
  obtain ⟨h0, h1, hother⟩ := s.updMirror_two (a := p) (b := 1024 + out) (by omega) Mirror.settle Mirror.settle
  refine ⟨_, mirrorSettled_next loss hgoal1 hgoal0 hst0 hst1, h0, h1, hother, fun id pl hplot hst => ⟨_,
    State.find_updCircuits (s := (s.updMirror p Mirror.settle).updMirror (1024 + out) Mirror.settle) _ hplot hst, ?_⟩, rfl⟩
  refine List.map_congr_left fun c _ => ?_
  simp only [Circuit.measure, Bool.and_eq_true, beq_iff_eq]

/-! ### MIRROR_PARKED (R121) -/

theorem mirrorParked_parks (m : Fin 2048) (s : State) (hidle : NothingReleasing s) (hst : (s.mirror m).st = .moving)
    (hgoal : (s.mirror m).goal = .park) :
    ∃ t, exec (.mirrorParked m) s = .next t ∧ (t.mirror m).st = .parked ∧ (t.mirror m).x = 0 ∧ (t.mirror m).y = 0
      ∧ (t.mirror m).partner = 0xFFFF ∧ (t.mirror m).pending = (s.mirror m).pending
      ∧ (∀ k, k ≠ m.val → t.mirror k = s.mirror k) ∧ OnlyMirrors s t := by
  have heq : s.mirrorParked m = s.updMirror m (fun x => { x.relax with pending := x.pending }) := by
    simp only [State.mirrorParked, hst, hgoal, beq_self_eq_true, Bool.and_self, if_true]
  have hrelax : (s.mirror m).relax.st = .parked := Mirror.relax_st (by simp [hst]) (by simp [hst])
  refine ⟨_, next_settle heq hidle, ?_, ?_, ?_, ?_, ?_, fun k hk => s.mirror_updMirror_ne _ hk, rfl⟩
  all_goals rw [State.mirror_updMirror]
  · exact hrelax
  all_goals rfl

theorem mirrorParked_notParking (m : Fin 2048) (s : State) (hidle : NothingReleasing s)
    (h : (s.mirror m).st ≠ .moving ∨ (s.mirror m).goal ≠ .park) : exec (.mirrorParked m) s = .next s := by
  have hnot : ((s.mirror m).st == .moving && (s.mirror m).goal == .park) = false := by
    rw [Bool.and_eq_false_iff, beq_eq_false_iff_ne, beq_eq_false_iff_ne]
    exact h
  have heq : s.mirrorParked m = s := by simp only [State.mirrorParked, hnot, Bool.false_eq_true, if_false]
  exact next_settle heq hidle

end Sys2Proof.Machine

namespace Sys2Proof.Proofs

open Sys2Proof.Machine

/-- Settles O18: a batch starts what is due on its own mirrors; a move ends by the identity that is read. -/
theorem batchesAndMoves : Obligations.BatchesAndMoves :=
  ⟨⟨tfBatchSlot_starts, tfBatchSlot_notRunning⟩, mirrorAcquiring_right, mirrorAcquiring_wrong, mirrorSettled_settles,
    mirrorParked_parks, mirrorParked_notParking⟩

end Sys2Proof.Proofs
end

section
/-! SUPPORT. Closed loops, identity checks and holds of the transparent plane (R129 to R132, R140): bits set and cleared, causes
that begin and end at the mirrors of circuits; and statement O19. -/

namespace Sys2Proof

/-! ### Bits -/

/-- Adding a bit that is clear leaves the other bits. -/
theorem bit_add_two_pow_ne {v i j : Nat} (hclear : bit v i = false) (hj : j ≠ i) : bit (v + 2 ^ i) j = bit v j := by
  rcases Nat.lt_or_gt_of_ne hj with hlt | hgt
  · rw [bit_eq_testBit, bit_eq_testBit, Nat.add_comm, Nat.testBit_two_pow_add_gt hlt]
  · obtain ⟨k, rfl⟩ := Nat.exists_eq_add_of_lt hgt
    have hquot : (v + 2 ^ i) / 2 ^ i / 2 = v / 2 ^ i / 2 := by
      rw [Nat.add_div_right v (Nat.two_pow_pos i)]
      simp only [bit, beq_eq_false_iff_ne, ne_eq] at hclear
      omega
    have hsplit : ∀ w, bit w (i + k + 1) = bit (w / 2 ^ i / 2) k := fun w => by
      rw [bit, bit, Nat.add_assoc, Nat.add_comm k 1, Nat.pow_add, Nat.pow_add, Nat.pow_one, Nat.div_div_eq_div_mul,
        Nat.div_div_eq_div_mul]
    rw [hsplit, hquot, ← hsplit]

theorem bit_setBit_ne (v : Nat) {i j : Nat} (hj : j ≠ i) : bit (setBit v i) j = bit v j := by
  unfold setBit
  split
  · rfl
  · next hclear => exact bit_add_two_pow_ne (Bool.eq_false_iff.mpr hclear) hj

theorem clrBit_of_clear {v i : Nat} (h : bit v i = false) : clrBit v i = v := by simp [clrBit, h]

/-- A bit that is set was set from a value in which it is clear. -/
theorem exists_clear_of_bit {v i : Nat} (h : bit v i = true) : ∃ w, bit w i = false ∧ v = w + 2 ^ i ∧ clrBit v i = w := by
  have hone : v / 2 ^ i % 2 = 1 := by simpa [bit] using h
  have hle : 2 ^ i ≤ v := Nat.le_of_not_lt fun hlt => by simp [Nat.div_eq_of_lt hlt] at hone
  obtain ⟨w, rfl⟩ := Nat.exists_eq_add_of_le' hle
  rw [Nat.add_div_right w (Nat.two_pow_pos i)] at hone
  refine ⟨w, ?_, rfl, by simp [clrBit, h]⟩
  simp only [bit, beq_eq_false_iff_ne, ne_eq]
  omega

theorem bit_clrBit_self (v i : Nat) : bit (clrBit v i) i = false := by
  cases h : bit v i with
  | false => rw [clrBit_of_clear h, h]
  | true =>
    obtain ⟨w, hw, -, hclr⟩ := exists_clear_of_bit h
    rw [hclr, hw]

theorem bit_clrBit_ne (v : Nat) {i j : Nat} (hj : j ≠ i) : bit (clrBit v i) j = bit v j := by
  cases h : bit v i with
  | false => rw [clrBit_of_clear h]
  | true =>
    obtain ⟨w, hw, hv, hclr⟩ := exists_clear_of_bit h
    rw [hclr, hv, bit_add_two_pow_ne hw hj]

namespace Machine

open Safety

/-! ### LOOP_FRAME (R129) -/

/-- A mirror with both codes corrected, each within its range. -/
def Mirror.correct (m : Nat) (dx dy : Int) (x : Mirror) : Mirror :=
  { x with x := stepCode m false x.x dx, y := stepCode m true x.y dy }

theorem loopFrame_next {out : Fin 1024} {c : Circuit} {s : State} (dx0 dy0 dx1 dy1 : Int) (hto : s.circuitTo out = some c)
    (hclosed : ∀ m, m = mir0 c ∨ m = mir1 c →
      ((s.mirror m).st = .settled ∨ (s.mirror m).st = .acquiring) ∧ (s.tfc (tfOf m)).st = 2) :
    exec (.loopFrame out dx0 dy0 dx1 dy1) s = .next
      (((s.updMirror (mir0 c) (Mirror.correct (mir0 c) dx0 dy0)).updMirror (mir1 c) (Mirror.correct (mir1 c) dx1 dy1)).updTf
        (tfOf (mir0 c)) (fun t => { t with frames := t.frames + 1 })) := by
  have hloop : ∀ m, m = mir0 c ∨ m = mir1 c →
      (((s.mirror m).st == .settled || (s.mirror m).st == .acquiring) && (s.tfc (tfOf m)).st == 2) = true := fun m hm => by
    simpa using hclosed m hm
  simp only [exec, execLoopFrame, hto, hloop _ (.inl rfl), hloop _ (.inr rfl), Bool.and_self, if_true]
  rfl

theorem loopFrame_corrects (out : Fin 1024) (dx0 dy0 dx1 dy1 : Int) (c : Circuit) (s : State) (hto : s.circuitTo out = some c)
    (hc : mir0 c < 1024) (hclosed : ∀ m, m = mir0 c ∨ m = mir1 c →
      ((s.mirror m).st = .settled ∨ (s.mirror m).st = .acquiring) ∧ (s.tfc (tfOf m)).st = 2) :
    ∃ t, exec (.loopFrame out dx0 dy0 dx1 dy1) s = .next t
      ∧ t.mirror (mir0 c) = { s.mirror (mir0 c) with
          x := min (((s.mirror (mir0 c)).x : Int) + dx0).toNat (Config.driveMax (mir0 c) false).toNat
          y := min (((s.mirror (mir0 c)).y : Int) + dy0).toNat (Config.driveMax (mir0 c) true).toNat }
      ∧ t.mirror (mir1 c) = { s.mirror (mir1 c) with
          x := min (((s.mirror (mir1 c)).x : Int) + dx1).toNat (Config.driveMax (mir1 c) false).toNat
          y := min (((s.mirror (mir1 c)).y : Int) + dy1).toNat (Config.driveMax (mir1 c) true).toNat }
      ∧ (∀ m, m ≠ mir0 c → m ≠ mir1 c → t.mirror m = s.mirror m)
      ∧ t = { s with plane := { s.plane with mirror := t.plane.mirror, tf := t.plane.tf } } := by
  obtain ⟨h0, h1, hother⟩ := s.updMirror_two (mir0_ne_mir1 hc) (Mirror.correct (mir0 c) dx0 dy0) (Mirror.correct (mir1 c) dx1 dy1)
  exact ⟨_, loopFrame_next dx0 dy0 dx1 dy1 hto hclosed, h0, h1, hother, rfl⟩

theorem loopFrame_noCircuit (out : Fin 1024) (dx0 dy0 dx1 dy1 : Int) (s : State) (hto : s.circuitTo out = none) :
    exec (.loopFrame out dx0 dy0 dx1 dy1) s = .next s := by
  simp only [exec, execLoopFrame, hto]

/-! ### IDENTITY_CHECK (R130) -/

/-- Both mirrors of a settled circuit are settled (R118). -/
theorem State.settled_of_circuitState {s : State} {c : Circuit} (h : s.circuitState c = 2) :
    ∀ m, m = mir0 c ∨ m = mir1 c → (s.mirror m).st = .settled := by
  have hboth : (s.mirror (mir0 c)).st = .settled ∧ (s.mirror (mir1 c)).st = .settled := by
    by_contra hnot
    have hsettled : ((s.mirror (mir0 c)).st == .settled && (s.mirror (mir1 c)).st == .settled) = false := by simpa using hnot
    simp only [State.circuitState, hsettled] at h
    split_ifs at h <;> omega
  rintro m (rfl | rfl)
  · exact hboth.1
  · exact hboth.2

/-- The counts of wrong identities replaced. -/
def State.setIdentBad (s : State) (bad : Tbl Nat) : State := { s with plane := { s.plane with identBad := bad } }

theorem State.identityCheck_eq {out : Fin 1024} {c : Circuit} {s : State} (ident : Fin 1024) (hto : s.circuitTo out = some c)
    (hst : s.circuitState c = 2) : s.identityCheck out ident =
      if ident.val == posOf c.src then (s.readIdentity out ident).setIdentBad (s.plane.identBad.del out)
      else if s.plane.identBad.has out then
        ((s.readIdentity out ident).setIdentBad (s.plane.identBad.del out)).rejectIdentity c [posOf c.src, out, ident]
      else (s.readIdentity out ident).setIdentBad (s.plane.identBad.put out 1) := by
  simp only [State.identityCheck, hto, hst, bne_self_eq_false, Bool.false_eq_true, if_false]
  rfl

theorem identityCheck_right (out ident : Fin 1024) (c : Circuit) (s : State) (hidle : NothingReleasing s)
    (hto : s.circuitTo out = some c) (hst : s.circuitState c = 2) (hident : ident.val = posOf c.src) :
    ∃ t, exec (.identityCheck out ident) s = .next t ∧ t.plane.identBad.find out = none
      ∧ t = { s with plane := { s.plane with tapOut := t.plane.tapOut, identBad := t.plane.identBad } } := by
  have heq := State.identityCheck_eq ident hto hst
  rw [if_pos (beq_iff_eq.mpr hident)] at heq
  exact ⟨_, next_settle heq hidle, Tbl.find_del _ _, rfl⟩

theorem identityCheck_firstWrong (out ident : Fin 1024) (c : Circuit) (s : State) (hidle : NothingReleasing s)
    (hto : s.circuitTo out = some c) (hst : s.circuitState c = 2) (hident : ident.val ≠ posOf c.src)
    (hfirst : s.plane.identBad.has out = false) :
    ∃ t, exec (.identityCheck out ident) s = .next t ∧ t.plane.identBad.find out = some 1
      ∧ t = { s with plane := { s.plane with tapOut := t.plane.tapOut, identBad := t.plane.identBad } } := by
  have heq := State.identityCheck_eq ident hto hst
  rw [if_neg (mt beq_iff_eq.mp hident), if_neg (Bool.not_eq_true _ ▸ hfirst)] at heq
  exact ⟨_, next_settle heq hidle, Tbl.find_put _ _ _, rfl⟩

theorem identityCheck_secondWrong (out ident : Fin 1024) (c : Circuit) (s : State) (hidle : NothingReleasing s)
    (hto : s.circuitTo out = some c) (hc : mir0 c < 1024) (hst : s.circuitState c = 2) (hident : ident.val ≠ posOf c.src)
    (hsecond : s.plane.identBad.has out = true) :
    ∃ t, exec (.identityCheck out ident) s = .next t
      ∧ (∀ m, m = mir0 c ∨ m = mir1 c → (t.mirror m).st = .parked ∧ (t.mirror m).x = 0 ∧ (t.mirror m).y = 0
          ∧ (t.mirror m).fault = 4)
      ∧ (∀ m, m ≠ mir0 c → m ≠ mir1 c → t.mirror m = s.mirror m) ∧ t.plane.identBad.find out = none
      ∧ bit t.plane.events 6 = true ∧ t.log.created = s.log.created + 1
      ∧ t = { s with log := t.log, topo := { s.topo with plot := t.topo.plot }
                     plane := { s.plane with mirror := t.plane.mirror, tapOut := t.plane.tapOut, identBad := t.plane.identBad
                                             events := t.plane.events } } := by
  have heq := State.identityCheck_eq ident hto hst
  rw [if_neg (mt beq_iff_eq.mp hident), if_pos hsecond] at heq
  have hup : ∀ m, m = mir0 c ∨ m = mir1 c → (s.mirror m).st ≠ .failed ∧ (s.mirror m).st ≠ .dark := fun m hm => by
    simp [State.settled_of_circuitState hst m hm]
  obtain ⟨hidle', hparked, hkept⟩ := State.rejectIdentity_spec
    (s := (s.readIdentity out ident).setIdentBad (s.plane.identBad.del out)) hidle hc hup [posOf c.src, out, ident]
  obtain ⟨log, hreject, hcreated⟩ := State.rejectIdentity_eq
    ((s.readIdentity out ident).setIdentBad (s.plane.identBad.del out)) c [posOf c.src, out, ident]
  refine ⟨_, next_settle heq hidle', hparked, hkept, ?_, ?_, ?_, ?_⟩
  all_goals rw [hreject]
  · exact Tbl.find_del _ _
  · exact bit_setBit_self _ 6
  · exact hcreated
  · rfl

/-! ### Holding the mirrors of circuits (R131, R132) -/

/-- A mirror for which a cause `i` begins or ends. -/
def Mirror.cause (i now : Nat) (on : Bool) (x : Mirror) : Mirror := if on then x.hold i now else x.unhold i

theorem Mirror.hold_of_settled {x : Mirror} (i now : Nat) (h : x.st = .settled) :
    x.hold i now = { x with st := .held, holds := setBit x.holds i, heldAt := now, fault := holdFault i } := by
  simp only [Mirror.hold, h]

theorem setBit_setBit (v i : Nat) : setBit (setBit v i) i = setBit v i := if_pos (bit_setBit_self v i)

theorem clrBit_clrBit (v i : Nat) : clrBit (clrBit v i) i = clrBit v i := clrBit_of_clear (bit_clrBit_self v i)

theorem Mirror.hold_hold (x : Mirror) (i now : Nat) : (x.hold i now).hold i now = x.hold i now := by
  cases h : x.st <;> simp only [Mirror.hold, h, setBit_setBit]

/-- A held mirror whose last cause ends reacquires (R132). -/
theorem Mirror.unhold_of_last {x : Mirror} {i : Nat} (h : x.st = .held ∧ x.holds ≠ 0 ∧ clrBit x.holds i = 0) :
    x.unhold i = { x with st := .acquiring, holds := 0, fault := 0 } := by
  obtain ⟨hst, hsome, hlast⟩ := h
  simp [Mirror.unhold, hst, hsome, hlast]

theorem Mirror.unhold_of_not_last {x : Mirror} {i : Nat} (h : ¬(x.st = .held ∧ x.holds ≠ 0 ∧ clrBit x.holds i = 0)) :
    x.unhold i = { x with holds := clrBit x.holds i } := by
  have hnot : (x.st == .held && x.holds != 0 && clrBit x.holds i == 0) = false := by simpa using h
  simp only [Mirror.unhold, hnot, Bool.false_eq_true, if_false]

theorem Mirror.unhold_unhold (x : Mirror) (i : Nat) : (x.unhold i).unhold i = x.unhold i := by
  by_cases h : x.st = .held ∧ x.holds ≠ 0 ∧ clrBit x.holds i = 0
  · have hzero : clrBit 0 i = 0 := clrBit_of_clear (by simp [bit])
    rw [Mirror.unhold_of_last h, Mirror.unhold_of_not_last (by simp), hzero]
  · rw [Mirror.unhold_of_not_last h, Mirror.unhold_of_not_last (by simp [clrBit_clrBit]), clrBit_clrBit]

/-- A cause that begins or ends twice changes a mirror once. -/
theorem Mirror.cause_cause (i now : Nat) (on : Bool) (x : Mirror) :
    Mirror.cause i now on (Mirror.cause i now on x) = Mirror.cause i now on x := by
  cases on with
  | true => exact x.hold_hold i now
  | false => exact x.unhold_unhold i

/-- The mirrors of circuits, in order. -/
def circuitMirrors (cs : List Circuit) : List Nat := cs.flatMap (fun c => [mir0 c, mir1 c])

theorem mem_circuitMirrors {cs : List Circuit} {m : Nat} : m ∈ circuitMirrors cs ↔ ∃ c ∈ cs, m = mir0 c ∨ m = mir1 c := by
  simp [circuitMirrors]

theorem State.foldl_holdCircuit (cs : List Circuit) (i : Nat) (on : Bool) (s : State) :
    cs.foldl (fun t c => t.holdCircuit c i on) s
      = (circuitMirrors cs).foldl (fun t m => t.updMirror m (Mirror.cause i s.ns on)) s := by
  induction cs generalizing s with
  | nil => rfl
  | cons c cs ih => exact ih (s.holdCircuit c i on)

/-- One change made to the mirrors of a list. -/
theorem State.foldl_updMirror_frame (f : Mirror → Mirror) (ms : List Nat) (s : State) :
    ∃ mirrors, ms.foldl (fun t m => t.updMirror m f) s = { s with plane := { s.plane with mirror := mirrors } } := by
  refine List.foldlRecOn ms _ ⟨s.plane.mirror, rfl⟩ ?_ (motive := fun t =>
    ∃ mirrors : Tbl Mirror, t = { s with plane := { s.plane with mirror := mirrors } })
  rintro _ ⟨_, rfl⟩ m _
  exact ⟨_, rfl⟩

theorem updMirror_actsOn (f : Mirror → Mirror) : ActsOn State.mirror id (fun _ => f) (fun t m => t.updMirror m f) where
  own t m := t.mirror_updMirror m f
  other t _ _ hj := t.mirror_updMirror_ne f hj

theorem State.mirror_foldl_updMirror_of_mem {f : Mirror → Mirror} (hf : ∀ x, f (f x) = f x) {ms : List Nat} {m : Nat}
    (hm : m ∈ ms) (s : State) : (ms.foldl (fun t m => t.updMirror m f) s).mirror m = f (s.mirror m) := by
  induction ms generalizing s with
  | nil => cases hm
  | cons k ms ih =>
    rw [List.foldl_cons]
    by_cases hlater : m ∈ ms
    · rw [ih hlater]
      by_cases hk : m = k
      · rw [hk, State.mirror_updMirror, hf]
      · rw [State.mirror_updMirror_ne s f hk]
    · obtain rfl := (List.mem_cons.mp hm).resolve_right hlater
      rw [(updMirror_actsOn f).foldl_of_forall_ne (fun k hk (heq : m = k) => hlater (heq ▸ hk)), State.mirror_updMirror]

/-- A cause that begins or ends at the circuits that satisfy `p` changes their mirrors, and nothing else. -/
theorem State.holdWhere_spec (s : State) (p : Circuit → Bool) (i : Nat) (on : Bool) :
    (∃ mirrors, s.holdWhere p i on = { s with plane := { s.plane with mirror := mirrors } })
      ∧ (∀ c ∈ s.circuits, p c = true → ∀ m, m = mir0 c ∨ m = mir1 c →
          (s.holdWhere p i on).mirror m = (s.mirror m).cause i s.ns on)
      ∧ ∀ m, (∀ c ∈ s.circuits, p c = true → m ≠ mir0 c ∧ m ≠ mir1 c) → (s.holdWhere p i on).mirror m = s.mirror m := by
  rw [State.holdWhere, State.foldl_holdCircuit]
  refine ⟨State.foldl_updMirror_frame _ _ s, fun c hc hp m hm => ?_, fun m hm => ?_⟩
  · exact State.mirror_foldl_updMirror_of_mem (Mirror.cause_cause i s.ns on)
      (mem_circuitMirrors.mpr ⟨c, List.mem_filter.mpr ⟨hc, hp⟩, hm⟩) s
  · refine (updMirror_actsOn _).foldl_of_forall_ne (fun k hk heq => ?_) s
    obtain ⟨c, hc, hmc⟩ := mem_circuitMirrors.mp hk
    obtain ⟨hc, hp⟩ := List.mem_filter.mp hc
    obtain ⟨h0, h1⟩ := hm c hc hp
    exact hmc.elim (fun h => h0 (heq.trans h)) (fun h => h1 (heq.trans h))

/-! ### Monitor-band light (R131) -/

/-- Power read in the monitor band of an input. -/
def State.readBand (s : State) (t : Nat) (power : Int) : State :=
  { s with plane := { s.plane with tapIn := s.plane.tapIn.upd t (0x8000, 0x8000) (fun x => (x.1, toTwos 16 power)) } }

/-- A value added to a list that does not have it. -/
def addNew (l : List Nat) (v : Nat) : List Nat := if l.contains v then l else l ++ [v]

theorem mem_addNew (l : List Nat) (v : Nat) : v ∈ addNew l v := by
  unfold addNew
  split
  · next h => exact List.contains_iff_mem.mp h
  · exact List.mem_append_right _ (List.mem_singleton_self v)

theorem not_mem_filter_ne (l : List Nat) (v : Nat) : v ∉ l.filter (· != v) := fun h => by
  simpa using List.of_mem_filter h

/-- Monitor-band light on a port: its circuits are held and event 2 is set. -/
def State.holdBand (s : State) (t : Nat) : State :=
  (State.holdWhere { s with plane := { s.plane with band := addNew s.plane.band t } } (fun c => c.src == t) 0 true).trpEvent 2

/-- No WARNING was recorded for the port in the last minute. -/
def State.bandDue (s : State) (t : Nat) : Bool :=
  match s.plane.bandAt.find t with
  | none => true
  | some a => decide (a + 60000000000 ≤ s.ns)

/-- The WARNING of monitor-band light, at most one a minute for each port. -/
def State.warnBand (s : State) (slice t : Nat) (power : Int) : State :=
  if s.bandDue t then
    ({ s with plane := { s.plane with bandAt := s.plane.bandAt.put t s.ns } }).logAdd sevWarning slice
      (evNamed 2 "MONITOR_BAND") (agentKind 0 t) [t, toTwos 64 power]
  else s

theorem State.warnBand_eq (s : State) (slice t : Nat) (power : Int) :
    ∃ log warned, s.warnBand slice t power = { s with log := log, plane := { s.plane with bandAt := warned } }
      ∧ log.created = s.log.created + b2n (s.bandDue t) := by
  cases hdue : s.bandDue t with
  | false => exact ⟨s.log, s.plane.bandAt, by simp only [State.warnBand, hdue, Bool.false_eq_true, if_false], rfl⟩
  | true =>
    obtain ⟨log, hlog, hcreated⟩ := State.logAdd_eq
      { s with plane := { s.plane with bandAt := s.plane.bandAt.put t s.ns } } (sev := sevWarning) (by decide) slice
      (evNamed 2 "MONITOR_BAND") (agentKind 0 t) [t, toTwos 64 power]
    exact ⟨log, _, (if_pos hdue).trans hlog, hcreated⟩

theorem State.holdBand_spec (s : State) (t : Nat) :
    (∃ mirrors, s.holdBand t = { s with plane := { s.plane with
        mirror := mirrors, band := addNew s.plane.band t, events := setBit s.plane.events 2 } })
      ∧ (∀ c ∈ s.circuits, c.src = t → ∀ m, m = mir0 c ∨ m = mir1 c → (s.mirror m).st = .settled →
          ((s.holdBand t).mirror m).st = .held ∧ bit ((s.holdBand t).mirror m).holds 0 = true)
      ∧ ∀ m, (∀ c ∈ s.circuits, c.src = t → m ≠ mir0 c ∧ m ≠ mir1 c) → (s.holdBand t).mirror m = s.mirror m := by
  obtain ⟨⟨mirrors, hframe⟩, hheld, hother⟩ := State.holdWhere_spec
    { s with plane := { s.plane with band := addNew s.plane.band t } } (fun c => c.src == t) 0 true
  refine ⟨⟨mirrors, congrArg (State.trpEvent · 2) hframe⟩, fun c hc hsrc m hm hst => ?_, fun m hm => ?_⟩
  · have hm : (s.holdBand t).mirror m = { s.mirror m with
        st := .held, holds := setBit (s.mirror m).holds 0, heldAt := s.ns, fault := holdFault 0 } :=
      (hheld c hc (beq_iff_eq.mpr hsrc) m hm).trans (Mirror.hold_of_settled 0 s.ns hst)
    rw [hm]
    exact ⟨rfl, bit_setBit_self _ 0⟩
  · exact hother m fun c hc hsrc => hm c hc (beq_iff_eq.mp hsrc)

theorem monitorBandDetect_next {t : Fin 768} {power : Int} {s : State} (hpower : -3000 < power) (hin : s.inCircuit t = true) :
    exec (.monitorBandDetect t power) s = .next (((s.readBand t power).holdBand t).warnBand (s.owner t) t power) := by
  have hlight : (decide (-3000 < power) && s.inCircuit t) = true := by rw [hin, decide_eq_true hpower]; rfl
  exact congrArg Host.Outcome.next (if_pos hlight)

theorem monitorBandDetect_holds (t : Fin 768) (power : Int) (s : State) (hpower : -3000 < power) (hin : s.inCircuit t = true) :
    ∃ u, exec (.monitorBandDetect t power) s = .next u ∧ t.val ∈ u.plane.band ∧ bit u.plane.events 2 = true
      ∧ (∀ c ∈ s.circuits, c.src = t.val → ∀ m, m = mir0 c ∨ m = mir1 c → (s.mirror m).st = .settled →
          (u.mirror m).st = .held ∧ bit (u.mirror m).holds 0 = true)
      ∧ (∀ m, (∀ c ∈ s.circuits, c.src = t.val → m ≠ mir0 c ∧ m ≠ mir1 c) → u.mirror m = s.mirror m)
      ∧ u.log.created = s.log.created + (match s.plane.bandAt.find t with
          | none => 1
          | some a => if a + 60000000000 ≤ s.ns then 1 else 0)
      ∧ u = { s with log := u.log
                     plane := { s.plane with mirror := u.plane.mirror, tapIn := u.plane.tapIn, band := u.plane.band
                                             bandAt := u.plane.bandAt, events := u.plane.events } } := by
  obtain ⟨⟨mirrors, hframe⟩, hheld, hother⟩ := (s.readBand t power).holdBand_spec t
  obtain ⟨log, warned, hwarn, hcreated⟩ := ((s.readBand t power).holdBand t).warnBand_eq (s.owner t) t power
  have hdue : b2n (((s.readBand t power).holdBand t).bandDue t) = (match s.plane.bandAt.find t with
      | none => 1
      | some a => if a + 60000000000 ≤ s.ns then 1 else 0) := by
    have hsame : ((s.readBand t power).holdBand t).bandDue t = s.bandDue t := by rw [hframe]; rfl
    rw [hsame]
    cases h : s.plane.bandAt.find t <;> simp [State.bandDue, h, b2n]
  refine ⟨_, (monitorBandDetect_next hpower hin).trans (congrArg Host.Outcome.next hwarn), ?_, ?_, hheld, hother, ?_, ?_⟩
  · rw [hframe]
    exact mem_addNew _ _
  · rw [hframe]
    exact bit_setBit_self _ 2
  · rw [← hdue]
    exact hcreated.trans (by rw [hframe]; rfl)
  · rw [hframe]
    rfl

theorem monitorBandDetect_reads (t : Fin 768) (power : Int) (s : State) (h : power ≤ -3000 ∨ s.inCircuit t = false) :
    ∃ u, exec (.monitorBandDetect t power) s = .next u ∧ u = { s with plane := { s.plane with tapIn := u.plane.tapIn } } := by
  have hdark : (decide (-3000 < power) && s.inCircuit t) = false := by
    rw [Bool.and_eq_false_iff, decide_eq_false_iff_not, not_lt]
    exact h
  exact ⟨s.readBand t power, congrArg Host.Outcome.next (if_neg (Bool.not_eq_true _ ▸ hdark)), rfl⟩

/-- Monitor-band light on a port is over. -/
def State.clearBand (s : State) (t : Nat) : State :=
  { s with plane := { s.plane with
      band := s.plane.band.filter (· != t), tapIn := s.plane.tapIn.upd t (0x8000, 0x8000) (fun x => (x.1, 0x8000)) } }

theorem monitorBandClear_releases (t : Fin 768) (s : State) (hlit : t.val ∈ s.plane.band) :
    ∃ u, exec (.monitorBandClear t) s = .next u ∧ t.val ∉ u.plane.band
      ∧ (∀ c ∈ s.circuits, c.src = t.val → ∀ m, m = mir0 c ∨ m = mir1 c → (s.mirror m).st = .held →
          (s.mirror m).holds = 1 → (u.mirror m).st = .acquiring ∧ (u.mirror m).holds = 0)
      ∧ u = { s with plane := { s.plane with mirror := u.plane.mirror, tapIn := u.plane.tapIn, band := u.plane.band } } := by
  obtain ⟨⟨mirrors, hframe⟩, hfree, -⟩ := State.holdWhere_spec (s.clearBand t) (fun c => c.src == t.val) 0 false
  have hnext : exec (.monitorBandClear t) s = .next ((s.clearBand t).holdWhere (fun c => c.src == t.val) 0 false) :=
    congrArg Host.Outcome.next (if_pos (List.contains_iff_mem.mpr hlit))
  refine ⟨_, hnext, ?_, fun c hc hsrc m hm hst hholds => ?_, ?_⟩
  · rw [hframe]
    exact not_mem_filter_ne _ _
  · have hlast : (s.mirror m).unhold 0 = { s.mirror m with st := .acquiring, holds := 0, fault := 0 } :=
      Mirror.unhold_of_last ⟨hst, by rw [hholds]; decide, by rw [hholds]; decide⟩
    rw [(hfree c hc (beq_iff_eq.mpr hsrc) m hm).trans hlast]
    exact ⟨rfl, rfl⟩
  · rw [hframe]
    rfl

theorem monitorBandClear_unlit (t : Fin 768) (s : State) (hunlit : t.val ∉ s.plane.band) :
    exec (.monitorBandClear t) s = .next s :=
  congrArg Host.Outcome.next (if_neg (mt List.contains_iff_mem.mp hunlit))

/-! ### Monitor sources and taps (R132, R136) -/

/-- A monitor is lost or back: its circuits are held or released, and a WARNING records a loss. -/
def State.loseMonitor (s : State) (p : Circuit → Bool) (i : Nat) (lost : Bool) : State :=
  if lost then (s.holdWhere p i lost).logAdd sevWarning 0 (evNamed 2 "MONITOR_LOST")
    (agentKind 0xD (if i == 3 then 23 else 22)) [i]
  else s.holdWhere p i lost

theorem State.loseMonitor_spec (s : State) (p : Circuit → Bool) (i : Nat) (lost : Bool) :
    (∃ mirrors log, s.loseMonitor p i lost = { s with log := log, plane := { s.plane with mirror := mirrors } }
        ∧ log.created = s.log.created + (if lost then 1 else 0))
      ∧ ∀ m, (s.loseMonitor p i lost).mirror m = (s.holdWhere p i lost).mirror m := by
  obtain ⟨⟨mirrors, hframe⟩, -⟩ := s.holdWhere_spec p i lost
  unfold State.loseMonitor
  rw [hframe]
  cases lost with
  | false => exact ⟨⟨mirrors, s.log, rfl, rfl⟩, fun _ => rfl⟩
  | true =>
    obtain ⟨log, hlog, hcreated⟩ := State.logAdd_eq { s with plane := { s.plane with mirror := mirrors } } (sev := sevWarning)
      (by decide) 0 (evNamed 2 "MONITOR_LOST") (agentKind 0xD (if i == 3 then 23 else 22)) [i]
    rw [if_pos rfl, hlog]
    exact ⟨⟨mirrors, log, rfl, hcreated⟩, fun _ => rfl⟩

/-- The monitor sources after one is lost or returns. -/
def putBit (v i : Nat) (on : Bool) : Nat := if on then setBit v i else clrBit v i

theorem bit_putBit_self (v i : Nat) (on : Bool) : bit (putBit v i on) i = on := by
  cases on with
  | true => exact bit_setBit_self v i
  | false => exact bit_clrBit_self v i

theorem bit_putBit_ne (v : Nat) {i j : Nat} (on : Bool) (h : j ≠ i) : bit (putBit v i on) j = bit v j := by
  cases on with
  | true => exact bit_setBit_ne v h
  | false => exact bit_clrBit_ne v h

/-- The taps lost after one is lost or returns. -/
def putMember (l : List Nat) (v : Nat) (on : Bool) : List Nat := if on then addNew l v else l.filter (· != v)

theorem mem_putMember (l : List Nat) (v : Nat) (on : Bool) : v ∈ putMember l v on ↔ on = true := by
  cases on with
  | true => exact iff_of_true (mem_addNew l v) rfl
  | false => exact iff_of_false (not_mem_filter_ne l v) Bool.false_ne_true

theorem monitorLoss_source (k : Fin 32) (lost : Bool) (s : State) : ∃ u, exec (.monitorLoss (.source k) lost) s = .next u
    ∧ bit u.plane.srcLost k = lost ∧ (∀ j, j ≠ k.val → bit u.plane.srcLost j = bit s.plane.srcLost j)
    ∧ (lost = true → ∀ c ∈ s.circuits, posOf c.src / 32 = k.val → ∀ m, m = mir0 c ∨ m = mir1 c →
        (s.mirror m).st = .settled → (u.mirror m).st = .held ∧ (u.mirror m).fault = 6)
    ∧ u.log.created = s.log.created + (if lost then 1 else 0)
    ∧ u = { s with log := u.log, plane := { s.plane with mirror := u.plane.mirror, srcLost := u.plane.srcLost } } := by
  obtain ⟨⟨mirrors, log, heq, hcreated⟩, hmirror⟩ := State.loseMonitor_spec
    { s with plane := { s.plane with srcLost := putBit s.plane.srcLost k lost } } (fun c => posOf c.src / 32 == k.val) 1 lost
  obtain ⟨-, hheld, -⟩ := State.holdWhere_spec
    { s with plane := { s.plane with srcLost := putBit s.plane.srcLost k lost } } (fun c => posOf c.src / 32 == k.val) 1 lost
  rw [heq] at hmirror
  refine ⟨_, congrArg Host.Outcome.next heq, bit_putBit_self _ _ lost, fun j hj => bit_putBit_ne _ lost hj,
    fun hlost c hc hsrc m hm hst => ?_, hcreated, rfl⟩
  subst hlost
  have hm := ((hmirror m).trans (hheld c hc (beq_iff_eq.mpr hsrc) m hm)).trans (Mirror.hold_of_settled 1 s.ns hst)
  exact ⟨congrArg Mirror.st hm, congrArg Mirror.fault hm⟩

theorem monitorLoss_tap (p : Fin 1024) (lost : Bool) (s : State) :
    (∃ u, exec (.monitorLoss (.inTap p) lost) s = .next u ∧ (p.val ∈ u.plane.inLost ↔ lost = true)
      ∧ u = { s with log := u.log, plane := { s.plane with mirror := u.plane.mirror, inLost := u.plane.inLost } })
    ∧ ∃ u, exec (.monitorLoss (.outTap p) lost) s = .next u ∧ (p.val ∈ u.plane.outLost ↔ lost = true)
      ∧ u = { s with log := u.log, plane := { s.plane with mirror := u.plane.mirror, outLost := u.plane.outLost } } := by
  obtain ⟨⟨_, _, hin, -⟩, -⟩ := State.loseMonitor_spec
    { s with plane := { s.plane with inLost := putMember s.plane.inLost p lost } } (fun c => posOf c.src == p.val) 2 lost
  obtain ⟨⟨_, _, hout, -⟩, -⟩ := State.loseMonitor_spec
    { s with plane := { s.plane with outLost := putMember s.plane.outLost p lost } } (fun c => posOf c.dst == p.val) 3 lost
  exact ⟨⟨_, congrArg Host.Outcome.next hin, mem_putMember _ _ lost, rfl⟩,
    ⟨_, congrArg Host.Outcome.next hout, mem_putMember _ _ lost, rfl⟩⟩

/-! ### HOLD_LONG (R140) -/

theorem holdLong_reports (out : Fin 1024) (c : Circuit) (s : State) (hto : s.circuitTo out = some c) (hst : s.circuitState c = 3) :
    ∃ u, exec (.holdLong out) s = .next u ∧ bit u.plane.events 3 = true ∧ (s.mirror (mir1 c)).heldAt + 60000000000 ≤ u.ns
      ∧ u = { s with ast := { s.ast with raw := u.ast.raw }, plane := { s.plane with events := u.plane.events } } := by
  have hnext : exec (.holdLong out) s = .next ((s.advanceTo ((s.mirror (mir1 c)).heldAt + 60000000000)).trpEvent 3) := by
    simp only [exec, execHoldLong, hto, hst, beq_self_eq_true, if_true]
  exact ⟨_, hnext, bit_setBit_self _ 3, s.le_ns_advanceTo _, rfl⟩

end Machine
end Sys2Proof

namespace Sys2Proof.Proofs

open Sys2Proof.Machine

/-- Settles O19: loops and identity checks by the circuit at an output; holds by the causes at the mirrors of circuits. -/
theorem loopsIdentityAndHolds : Obligations.LoopsIdentityAndHolds :=
  ⟨⟨loopFrame_corrects, loopFrame_noCircuit, identityCheck_right, identityCheck_firstWrong, identityCheck_secondWrong⟩,
    monitorBandDetect_holds, monitorBandDetect_reads, monitorBandClear_releases, monitorBandClear_unlit, monitorLoss_source,
    monitorLoss_tap, holdLong_reports⟩

end Sys2Proof.Proofs
end

section
/-! SUPPORT. The colour plane in rules: a global port, a laser, a path or a spare group after each update, what an update of
the colour plane leaves alone, and who serves or lights what after it. -/

namespace Sys2Proof.Machine

/-! ### Ports, lasers and paths -/

section
variable (s : State) (t l r : Nat) (f : GPort → GPort) (g : Laser → Laser) (p : Path → Path)

@[simp] theorem State.laser_updLaser : (s.updLaser l g).laser l = g (s.laser l) := Tbl.get_upd _ _ _ _
@[simp] theorem State.path_updPath : (s.updPath t r p).path t r = p (s.path t r) := Tbl.get_upd _ _ _ _

@[simp] theorem State.gp_updLaser : (s.updLaser l g).gp t = s.gp t := rfl
@[simp] theorem State.gp_updPath (u : Nat) : (s.updPath t r p).gp u = s.gp u := rfl
@[simp] theorem State.gp_colEvent (i : Nat) : (s.colEvent i).gp t = s.gp t := rfl
@[simp] theorem State.laser_updGp : (s.updGp t f).laser l = s.laser l := rfl
@[simp] theorem State.laser_colEvent (i : Nat) : (s.colEvent i).laser l = s.laser l := rfl

end

theorem State.laser_updLaser_ne (s : State) {l k : Nat} (g : Laser → Laser) (h : k ≠ l) : (s.updLaser l g).laser k = s.laser k :=
  Tbl.get_upd_ne _ _ _ _ h

section
variable (s : State) (sev slice event agent : Nat) (args : List Nat)

@[simp] theorem State.gp_logAdd (t : Nat) : (s.logAdd sev slice event agent args).gp t = s.gp t := by simp [State.gp]
@[simp] theorem State.laser_logAdd (l : Nat) : (s.logAdd sev slice event agent args).laser l = s.laser l := by simp [State.laser]

end

/-! ### Who serves and who lights a port -/

/-- The port that a laser serves is served by it. -/
theorem State.of_servedBy {s : State} {l p : Nat} (h : s.servedBy l = some p) : p < 64 ∧ (s.gp p).laser = l := by
  unfold State.servedBy at h
  exact ⟨List.mem_range.mp (List.mem_of_find?_eq_some h), by simpa using List.find?_some h⟩

/-- Which port a laser serves depends on the ports' lasers only. -/
theorem State.servedBy_congr {s t : State} (h : ∀ p, (t.gp p).laser = (s.gp p).laser) (l : Nat) : t.servedBy l = s.servedBy l := by
  simp only [State.servedBy, h]

theorem State.servedBy_updGp (s : State) (t l : Nat) {f : GPort → GPort} (h : (f (s.gp t)).laser = (s.gp t).laser) :
    (s.updGp t f).servedBy l = s.servedBy l :=
  State.servedBy_congr (fun p => by
    by_cases hp : p = t
    · rw [hp, State.gp_updGp, h]
    · rw [State.gp_updGp_ne s f hp]) l

theorem idleSpare_of_servedBy {s : State} {l p : Nat} (h : s.servedBy l = some p) : idleSpare s l = false := by
  simp [idleSpare, h]

/-- Which passage lights a port depends on the owners and the passages only. -/
theorem State.legOf_congr {s t : State} (htopo : t.topo = s.topo) (hpsg : t.psg = s.psg) (p : Nat) : t.legOf p = s.legOf p := by
  simp only [State.legOf, State.owner, State.passagesOf, htopo, hpsg]

/-- A port with no leg to light stays dark when its gate may open again (R162). -/
theorem State.relight_dark {s : State} {t : Nat} (h : (s.gp t).role ≠ 1 ∨ s.legOf t = none) :
    s.relight t = s.updGp t (fun x => { x with st := 0 }) := by
  unfold State.relight
  extract_lets x dark
  split
  · rfl
  · next hlit =>
    have hrole : (s.gp t).role = 1 := by
      simp only [Bool.not_eq_true, Bool.or_eq_false_iff, bne_eq_false_iff_eq] at hlit
      exact hlit.1.1
    rw [h.resolve_left (not_not_intro hrole)]

/-! ### A port blanked (R165) -/

/-- A port whose gate is closed: a FAILED, MISCABLED or RELOCKING one stays as it is. -/
def GPort.blank (x : GPort) (now : Nat) : GPort :=
  if x.st == 4 || x.st == 5 || x.st == 3 then x else { x with st := 0, blankAt := now, burst := none }

theorem State.gp_blankPort (s : State) (t : Nat) : (s.blankPort t).gp t = (s.gp t).blank s.ns := by
  simp only [State.blankPort, GPort.blank]
  split
  · rfl
  · rw [State.gp_updLaser, State.gp_updGp]

theorem State.gp_blankPort_ne (s : State) {t u : Nat} (h : u ≠ t) : (s.blankPort t).gp u = s.gp u := by
  simp only [State.blankPort]
  split
  · rfl
  · rw [State.gp_updLaser, State.gp_updGp_ne _ _ h]

end Sys2Proof.Machine
end

section
/-! SUPPORT. Lasers and relocks (R149, R162, R165 to R167, R170): wavelength errors, locks lost at a retune, relock attempts,
takeovers by a spare, and gates that stay lit; and statement O37. -/

namespace Sys2Proof.Machine

open Safety

/-! ### Wavelength errors (R162) -/

/-- The comparator has closed the gate of a locked laser, and its reading stands. -/
def State.strayed (s : State) (l channel : Nat) (e : Int) : State :=
  (s.updLaser l (fun x => { x with
    gate := false, st := if x.st == 5 then 5 else 3, measChannel := channel, measValid := true, freqErr := satSigned 16 e })).colEvent 0

/-- A port whose laser has strayed relocks; a gate that was open counts as blanked. -/
def GPort.stray (p : GPort) (gate : Bool) : GPort :=
  { p with st := 3, attempts := 0, foreignRun := false, blanks := if gate then satInc 16 p.blanks else p.blanks }

theorem wavelengthError_inside (l : Fin 72) (m : Fin 64) (e : Int) (s : State)
    (h : (s.laser l).st ≠ 2 ∧ (s.laser l).st ≠ 5 ∨ m.val = (s.laser l).channel ∧ e.natAbs ≤ 500) :
    exec (.wavelengthError l m e) s = .next s := by
  refine congrArg Host.Outcome.next (if_pos ?_)
  rcases h with ⟨h2, h5⟩ | ⟨hm, he⟩
  · simp [h2, h5]
  · simp [hm, he]

theorem wavelengthError_next {l : Fin 72} {m : Fin 64} {e : Int} {p : Nat} {s : State} (hst : (s.laser l).st = 2)
    (hout : m.val ≠ (s.laser l).channel ∨ 500 < e.natAbs) (hserved : s.servedBy l = some p) (h4 : (s.gp p).st ≠ 4)
    (h5 : (s.gp p).st ≠ 5) (h6 : (s.gp p).st ≠ 6) (hrole : (s.gp p).role ≠ 0) :
    exec (.wavelengthError l m e) s = .next ((s.strayed l m e).updGp p (GPort.stray · (s.laser l).gate)) := by
  have hout' : (m.val != (s.laser l).channel || decide (500 < e.natAbs)) = true := by simpa using hout
  simp only [exec, execWavelengthError, hst, hout', idleSpare_of_servedBy hserved, hserved]
  simp [h4, h5, h6, hrole, State.strayed]
  rfl

theorem wavelengthError_relocks (l : Fin 72) (m : Fin 64) (e : Int) (p : Nat) (s : State) (hst : (s.laser l).st = 2)
    (hout : m.val ≠ (s.laser l).channel ∨ 500 < e.natAbs) (hserved : s.servedBy l = some p) (h4 : (s.gp p).st ≠ 4)
    (h5 : (s.gp p).st ≠ 5) (h6 : (s.gp p).st ≠ 6) (hrole : (s.gp p).role ≠ 0) :
    ∃ t, exec (.wavelengthError l m e) s = .next t ∧ (t.laser l).gate = false ∧ (t.laser l).st = 3
      ∧ (t.laser l).measChannel = m.val ∧ bit t.col.events 0 = true ∧ (t.gp p).st = 3 ∧ (t.gp p).attempts = 0
      ∧ (t.gp p).blanks = (if (s.laser l).gate then satInc 16 (s.gp p).blanks else (s.gp p).blanks)
      ∧ (∀ q, q ≠ p → t.gp q = s.gp q) ∧ (∀ k, k ≠ l.val → t.laser k = s.laser k)
      ∧ t = { s with col := { s.col with port := t.col.port, laser := t.col.laser, events := t.col.events } } := by
  have hlaser : ((s.strayed l m e).updGp p (GPort.stray · (s.laser l).gate)).laser l
      = { s.laser l with gate := false, st := 3, measChannel := m, measValid := true, freqErr := satSigned 16 e } := by
    simp [State.strayed, hst]
  have hport : ((s.strayed l m e).updGp p (GPort.stray · (s.laser l).gate)).gp p = (s.gp p).stray (s.laser l).gate :=
    State.gp_updGp _ _ _
  refine ⟨_, wavelengthError_next hst hout hserved h4 h5 h6 hrole, ?_, ?_, ?_, bit_setBit_self _ 0, ?_, ?_, ?_,
    fun q hq => State.gp_updGp_ne _ _ hq, fun k hk => ?_, rfl⟩
  · rw [hlaser]
  · rw [hlaser]
  · rw [hlaser]
  · rw [hport]; rfl
  · rw [hport]; rfl
  · rw [hport]; rfl
  · rw [State.laser_updGp, State.strayed, State.laser_colEvent, State.laser_updLaser_ne s _ hk]

/-! ### Locks lost at a retune (R149) -/

/-- What a lost lock takes back of its leg touches outputs, the passage and the port's path only. -/
theorem retuneLockTimeout_next {g : Fin 64} {n pid : Nat} {p : Passage} {s : State} (hleg : s.legOf g = some (n, pid, p))
    (hrole : (s.gp g).role = 1) (hst : (s.gp g).st = 2) (htuned : (s.gp g).tunedAt = some p.enteredAt)
    (hnow : s.ns ≤ p.enteredAt + 1000) :
    ∃ u, exec (.retuneLockTimeout g) s = .next ((u.updGp g (fun x => { x with
          st := 3, attempts := 0, foreignRun := false })).updLaser (s.gp g).laser
            (fun l => { l with st := 1, gate := false, measValid := false }))
      ∧ u.ast = (s.advanceTo (p.enteredAt + 1000)).ast ∧ u.col.port = s.col.port ∧ OtherPassages n pid s u := by
  have hlate : ¬ p.enteredAt + 1000 < s.ns := by omega
  simp only [exec, execRetuneLockTimeout, hleg, hrole, hst, htuned, hlate, bne_self_eq_false, decide_false, Bool.or_self,
    Bool.false_eq_true, if_false]
  refine ⟨_, rfl, ?_, ?_, ?_⟩
  · simp
  · simp [State.updPath]
  · exact State.updPsg_others _ _ _ _

theorem retuneLockTimeout_relocks (g : Fin 64) (n pid : Nat) (p : Passage) (s : State) (hleg : s.legOf g = some (n, pid, p))
    (hrole : (s.gp g).role = 1) (hst : (s.gp g).st = 2) (htuned : (s.gp g).tunedAt = some p.enteredAt)
    (hnow : s.ns ≤ p.enteredAt + 1000) :
    ∃ t, exec (.retuneLockTimeout g) s = .next t ∧ (t.gp g).st = 3 ∧ (t.gp g).attempts = 0
      ∧ (t.laser (s.gp g).laser).st = 1 ∧ (t.laser (s.gp g).laser).gate = false ∧ p.enteredAt + 1000 ≤ t.ns
      ∧ (∀ q, q ≠ g.val → t.gp q = s.gp q) ∧ OtherPassages n pid s t := by
  obtain ⟨u, hnext, hast, hport, hothers⟩ := retuneLockTimeout_next hleg hrole hst htuned hnow
  have hgp : ∀ q, u.gp q = s.gp q := fun q => by rw [State.gp, State.gp, hport]
  refine ⟨_, hnext, ?_, ?_, ?_, ?_, ?_, fun q hq => ?_, hothers⟩
  · simp
  · simp
  · simp
  · simp
  · have htime := s.le_ns_advanceTo (p.enteredAt + 1000)
    simpa only [State.ns, State.updLaser_ast, State.updGp_ast, hast] using htime
  · rw [State.gp_updLaser, State.gp_updGp_ne _ _ hq, hgp]

theorem retuneLockTimeout_noLeg (g : Fin 64) (s : State) (h : s.legOf g = none) : exec (.retuneLockTimeout g) s = .next s := by
  simp only [exec, execRetuneLockTimeout, h]

/-! ### A leg port lit again (R60, R162) -/

/-- A leg port that sends from no group puts out the header of its burst alone. -/
theorem State.sendLeg_header {s : State} {n pid t : Nat} {p : Passage} (hfind : s.psg.find (psgKey n pid) = some p)
    (hst : (s.gp t).st = 2) (htake : s.takenPort t = false) (hrole : ∀ gi ∈ p.legGroups, (p.grp gi).role < 3) :
    ∃ path, s.sendLeg n pid t false = { s with
      col := { s.col with path := path }
      out := s.out ++ [.burst t (burstHeader 0 s.topo.hall s.topo.rack t (s.gp t).dest n pid p.leg p.iter 0 p.digest 0) []] } := by
  have hframes : ∀ g : List Bytes × State → Nat → List Bytes × State,
      (∀ acc, ∀ gi ∈ p.legGroups, g acc gi = acc) → p.legGroups.foldl g ([], s) = ([], s) := fun g hg =>
    List.foldlRecOn p.legGroups g (motive := (· = ([], s))) rfl (fun acc hacc gi hgi => (hg acc gi hgi).trans hacc)
  simp only [State.sendLeg, hfind, hst, htake, bne_self_eq_false, Bool.or_self, Bool.false_eq_true, if_false]
  rw [hframes _ (fun acc gi hgi => by simp [Nat.not_le.mpr (hrole gi hgi)])]
  exact ⟨_, rfl⟩

/-- A leg port whose waypoint lies behind it opens its gate with a fresh preamble. -/
theorem State.relight_leg {s : State} {t n pid : Nat} {p : Passage} (hrole : (s.gp t).role = 1)
    (hleg : s.legOf t = some (n, pid, p)) (hblank : p.blanked = none) (htake : s.takenPort t = false)
    (hopen : s.gOpen t = false) :
    s.relight t = ((s.updGp t (fun x => { x with st := 2 })).updLaser (s.gp t).laser
      (fun l => { l with st := 2, gate := true })).sendLeg n pid t false := by
  simp [State.relight, hrole, hleg, hblank, htake, hopen]

/-! ### Relock attempts (R162, R166) -/

/-- A laser locked on a channel, dark. -/
def Laser.lock (l : Laser) (channel : Nat) : Laser :=
  { l with st := 2, gate := false, channel := channel, measChannel := channel, measValid := true, freqErr := 0 }

/-- A laser that is switched off for good. -/
def Laser.fail (l : Laser) : Laser := { l with st := 4, gate := false }

/-- A relock that has succeeded on a port, with its NOTICE, before the gate opens. -/
def State.relock (s : State) (t : Nat) : State :=
  ((s.updLaser (s.gp t).laser (Laser.lock · (s.gp t).channel)).updGp t (fun x => { x with
    attempts := 0, foreignAt := if x.foreignRun then some s.ns else x.foreignAt, foreignRun := false })).logAdd sevNotice
      (s.owner (refG t)) (evNamed 3 "RELOCK") (agentKind 0xE (s.gp t).laser) [t, (s.gp t).channel]

theorem State.relocked_eq (s : State) (t : Nat) (thermal : Bool) :
    s.relocked t thermal = if thermal then ((s.relock t).relight t).calStart (5 + t / 8) else (s.relock t).relight t := rfl

theorem State.laser_relock (s : State) (t : Nat) :
    (s.relock t).laser (s.gp t).laser = (s.laser (s.gp t).laser).lock (s.gp t).channel := by
  simp [State.relock]

theorem State.gp_relock (s : State) (t : Nat) : (s.relock t).gp t = { s.gp t with
    attempts := 0, foreignAt := if (s.gp t).foreignRun then some s.ns else (s.gp t).foreignAt, foreignRun := false } := by
  rw [State.relock, State.gp_logAdd, State.gp_updGp, State.gp_updLaser]

theorem State.legOf_relock (s : State) (t p : Nat) : (s.relock t).legOf p = s.legOf p :=
  State.legOf_congr (State.logAdd_topo ..) (State.logAdd_psg ..) p

theorem State.created_relock (s : State) (t : Nat) : (s.relock t).log.created = s.log.created + 1 :=
  State.logAdd_created _ (by decide) _ _ _ _

theorem relockAttemptEnd_ok {l : Fin 72} {p : Nat} {s : State} (thermal : Bool) (hrun : s.gfRuns 4 = true)
    (hserved : s.servedBy l = some p) (hst : (s.gp p).st = 3) (htake : (s.gp p).takeover = false) :
    exec (.relockAttemptEnd l true thermal) s = .next (s.relocked p thermal) := by
  simp [exec, execRelockAttemptEnd, hrun, idleSpare_of_servedBy hserved, hserved, hst, htake]

theorem relockAttemptEnd_locks (l : Fin 72) (p : Nat) (thermal : Bool) (s : State) (hrun : s.gfRuns 4 = true)
    (hserved : s.servedBy l = some p) (hst : (s.gp p).st = 3) (htake : (s.gp p).takeover = false)
    (hdark : (s.gp p).role ≠ 1 ∨ s.legOf p = none) :
    ∃ t, exec (.relockAttemptEnd l true thermal) s = .next t ∧ (t.laser l).st = 2 ∧ (t.laser l).channel = (s.gp p).channel
      ∧ (t.laser l).freqErr = 0 ∧ (t.laser l).gate = false ∧ (t.gp p).attempts = 0 ∧ (t.gp p).st = 0
      ∧ t.log.created = s.log.created + 1 := by
  obtain ⟨-, hl⟩ := State.of_servedBy hserved
  have hrelight : (s.relock p).relight p = (s.relock p).updGp p (fun x => { x with st := 0 }) :=
    State.relight_dark (by rw [State.gp_relock, State.legOf_relock]; exact hdark)
  have hcol : (s.relocked p thermal).col = ((s.relock p).updGp p (fun x => { x with st := 0 })).col
      ∧ (s.relocked p thermal).log = (s.relock p).log := by
    rw [State.relocked_eq, hrelight]
    cases thermal <;> exact ⟨rfl, rfl⟩
  have hlaser : (s.relocked p thermal).laser l = (s.laser l).lock (s.gp p).channel := by
    rw [← hl, ← State.laser_relock, State.laser, hcol.1]
    rfl
  have hport : (s.relocked p thermal).gp p = { (s.relock p).gp p with st := 0 } := by
    rw [State.gp, hcol.1]
    exact State.gp_updGp _ _ _
  rw [State.gp_relock] at hport
  refine ⟨_, relockAttemptEnd_ok thermal hrun hserved hst htake, ?_⟩
  rw [hlaser, hport, hcol.2]
  exact ⟨rfl, rfl, rfl, rfl, rfl, rfl, s.created_relock p⟩

theorem relockAttemptEnd_lights (l : Fin 72) (p n pid : Nat) (x : Passage) (s : State) (hrun : s.gfRuns 4 = true)
    (hserved : s.servedBy l = some p) (hst : (s.gp p).st = 3) (htake : (s.gp p).takeover = false) (hrole : (s.gp p).role = 1)
    (hleg : s.legOf p = some (n, pid, x)) (hfind : s.psg.find (psgKey n pid) = some x) (hblank : x.blanked = none)
    (htaken : s.takenPort p = false) (hopen : s.gOpen p = false) (hgroups : ∀ gi ∈ x.legGroups, (x.grp gi).role < 3) :
    ∃ t, exec (.relockAttemptEnd l true false) s = .next t ∧ (t.laser l).st = 2 ∧ (t.laser l).gate = true
      ∧ (t.laser l).channel = (s.gp p).channel ∧ (t.gp p).st = 2
      ∧ t.out = s.out ++ [.burst p (burstHeader 0 s.topo.hall s.topo.rack p (s.gp p).dest n pid x.leg x.iter 0 x.digest 0) []] := by
  obtain ⟨-, hl⟩ := State.of_servedBy hserved
  have hport := s.gp_relock p
  have hlit : s.relocked p false = (((s.relock p).updGp p (fun y => { y with st := 2 })).updLaser (s.gp p).laser
      (fun y => { y with st := 2, gate := true })).sendLeg n pid p false := by
    rw [State.relocked_eq, if_neg Bool.false_ne_true, State.relight_leg (by rw [hport]; exact hrole)
      ((s.legOf_relock p p).trans hleg) hblank (by simpa [State.takenPort, State.relock] using htaken)
      (by simpa [State.gOpen, State.relock] using hopen), hport]
  obtain ⟨path, hsend⟩ := State.sendLeg_header (n := n) (pid := pid) (t := p) (p := x)
    (s := ((s.relock p).updGp p (fun y => { y with st := 2 })).updLaser (s.gp p).laser (fun y => { y with st := 2, gate := true }))
    (by simpa [State.relock] using hfind) (by simp) (by simpa [State.takenPort, State.relock] using htaken) hgroups
  refine ⟨_, (relockAttemptEnd_ok false hrun hserved hst htake).trans (congrArg _ (hlit.trans hsend)), ?_⟩
  have hlaser : ((s.relock p).updLaser (s.gp p).laser (fun y => { y with st := 2, gate := true })).laser l
      = { (s.laser l).lock (s.gp p).channel with gate := true } := by
    rw [← hl, State.laser_updLaser, State.laser_relock]
    rfl
  have hlit : ((s.relock p).updGp p (fun y => { y with st := 2 })).gp p = { (s.relock p).gp p with st := 2 } :=
    State.gp_updGp _ _ _
  refine ⟨congrArg Laser.st hlaser, congrArg Laser.gate hlaser, congrArg Laser.channel hlaser, congrArg GPort.st hlit, ?_⟩
  simp [State.relock]

/-- A port on which one more relock attempt has failed. -/
def GPort.missRelock (x : GPort) : GPort := { x with attempts := x.attempts + 1, relockFails := satInc 8 x.relockFails }

/-- What a failed attempt changes, whether or not it is the last. -/
def State.relockFailed (s : State) (l t : Nat) : State :=
  ((s.updGp t GPort.missRelock).colEvent 1).logAdd sevWarning
    (s.owner (refG t)) (evNamed 3 "RELOCK_FAILED") (agentKind 0xE l) [t, (s.gp t).attempts + 1]

theorem relockAttemptEnd_failed {l : Fin 72} {p : Nat} {s : State} (thermal : Bool) (hrun : s.gfRuns 4 = true)
    (hserved : s.servedBy l = some p) (hst : (s.gp p).st = 3) (htake : (s.gp p).takeover = false) :
    exec (.relockAttemptEnd l false thermal) s = .next (if (s.gp p).attempts + 1 < 3 then s.relockFailed l p
      else (s.relockFailed l p).laserFail l) := by
  simp [exec, execRelockAttemptEnd, hrun, idleSpare_of_servedBy hserved, hserved, hst, htake]
  rfl

theorem relockAttemptEnd_counts (l : Fin 72) (p : Nat) (thermal : Bool) (s : State) (hrun : s.gfRuns 4 = true)
    (hserved : s.servedBy l = some p) (hst : (s.gp p).st = 3) (htake : (s.gp p).takeover = false)
    (hmore : (s.gp p).attempts + 1 < 3) :
    ∃ t, exec (.relockAttemptEnd l false thermal) s = .next t
      ∧ t.gp p = { s.gp p with attempts := (s.gp p).attempts + 1, relockFails := satInc 8 (s.gp p).relockFails }
      ∧ (∀ q, q ≠ p → t.gp q = s.gp q) ∧ bit t.col.events 1 = true ∧ t.log.created = s.log.created + 1
      ∧ t = { s with col := { s.col with port := t.col.port, events := t.col.events }, log := t.log } := by
  refine ⟨s.relockFailed l p, ?_, ?_, fun q hq => ?_, ?_, ?_, ?_⟩
  · rw [relockAttemptEnd_failed thermal hrun hserved hst htake, if_pos hmore]
  · rw [State.relockFailed, State.gp_logAdd, State.gp_colEvent, State.gp_updGp, GPort.missRelock]
  · rw [State.relockFailed, State.gp_logAdd, State.gp_colEvent, State.gp_updGp_ne _ _ hq]
  · simp [State.relockFailed, State.colEvent, bit_setBit_self]
  · exact State.logAdd_created _ (by decide) _ _ _ _
  · exact State.logAdd_frame ..

/-! ### Failures and takeovers (R166, R167) -/

/-- A laser is switched off; a spare leaves its group without one. -/
def State.laserDown (s : State) (l : Nat) : State :=
  if 64 ≤ l then
    { s.updLaser l Laser.fail with col := { (s.updLaser l Laser.fail).col with
      group := s.col.group.put (l - 64) (2, (s.grp (l - 64)).2) } }
  else s.updLaser l Laser.fail

/-- The idle spare of the group takes a port over. -/
def GPort.takeOver (x : GPort) : GPort := { x with st := 3, takeover := true }

theorem State.laserFail_none {s : State} {l : Nat} (h : s.servedBy l = none) : s.laserFail l = s.laserDown l := by
  simp [State.laserFail, h, State.laserDown]
  rfl

/-- A laser that fails has its port taken over by the idle spare of the group, or its port fails. -/
theorem State.laserFail_some {s : State} {l p : Nat} (h : s.servedBy l = some p) :
    (s.laserFail l = (s.laserDown l).updGp p GPort.takeOver ∧ l < 64 ∧ (s.grp (p / 8)).1 = 0)
      ∨ s.laserFail l = (s.laserDown l).portFail p := by
  obtain ⟨busy, hbusy⟩ : ∃ b, (List.range 8).any (fun i => ((s.laserDown l).gp (8 * (p / 8) + i)).takeover) = b := ⟨_, rfl⟩
  have hdef : s.laserFail l = if ((s.laserDown l).grp (p / 8)).1 == 0 && !busy && decide (l < 64)
      then (s.laserDown l).updGp p GPort.takeOver else (s.laserDown l).portFail p := by
    rw [← hbusy]
    simp only [State.laserFail, h, State.laserDown, decide_eq_true_eq]
    rfl
  by_cases hidle : (((s.laserDown l).grp (p / 8)).1 == 0 && !busy && decide (l < 64)) = true
  · rw [if_pos hidle] at hdef
    simp only [Bool.and_eq_true, beq_iff_eq, decide_eq_true_eq] at hidle
    obtain ⟨⟨hgroup, -⟩, hown⟩ := hidle
    rw [State.laserDown, if_neg (Nat.not_le.mpr hown)] at hgroup
    exact .inl ⟨hdef, hown, hgroup⟩
  · exact .inr (hdef.trans (if_neg hidle))

theorem State.gp_laserDown (s : State) (l p : Nat) : (s.laserDown l).gp p = s.gp p := by
  unfold State.laserDown
  split <;> rfl

theorem State.laser_laserDown (s : State) (l : Nat) : (s.laserDown l).laser l = (s.laser l).fail := by
  unfold State.laserDown
  split <;> exact s.laser_updLaser l _

theorem State.laserDown_frame (s : State) (l : Nat) :
    s.laserDown l = { s with col := { s.col with laser := (s.laserDown l).col.laser, group := (s.laserDown l).col.group } } := by
  unfold State.laserDown
  split <;> rfl

/-- A port that has failed. -/
def GPort.fail (x : GPort) : GPort := { x with st := 4, takeover := false }

/-- A port that fails keeps its laser's state, shuts its gate, and is reported (R167). -/
theorem State.portFail_spec (s : State) (p : Nat) :
    ((s.portFail p).gp p).st = 4 ∧ bit (s.portFail p).col.events 3 = true ∧ (s.portFail p).log.created = s.log.created + 1
      ∧ (∀ i, bit s.col.events i = true → bit (s.portFail p).col.events i = true)
      ∧ ∀ l, ((s.portFail p).laser l).st = (s.laser l).st
        ∧ ((s.laser l).gate = false → ((s.portFail p).laser l).gate = false) := by
  have hcol : (s.portFail p).col = (((s.updGp p GPort.fail).updLaser (s.gp p).laser
      (fun x => { x with gate := false })).colEvent 3).col := State.logAdd_col ..
  refine ⟨?_, ?_, State.logAdd_created _ (by decide) _ _ _ _, fun i hi => ?_, fun l => ?_⟩
  · have hport : (s.portFail p).gp p = (s.updGp p GPort.fail).gp p := by
      rw [State.gp, hcol]
      rfl
    rw [hport, State.gp_updGp, GPort.fail]
  · rw [hcol]
    exact bit_setBit_self _ 3
  · rw [hcol]
    exact bit_setBit_of_bit 3 hi
  · have hlaser : (s.portFail p).laser l = (s.updLaser (s.gp p).laser (fun x => { x with gate := false })).laser l := by
      rw [State.laser, hcol]
      rfl
    rw [hlaser]
    by_cases hl : l = (s.gp p).laser
    · rw [hl, State.laser_updLaser]
      exact ⟨rfl, fun _ => rfl⟩
    · rw [State.laser_updLaser_ne s _ hl]
      exact ⟨rfl, id⟩

/-- What the failure of a laser comes to, whatever becomes of the port it serves (R166, R167). -/
theorem State.laserFail_spec (s : State) (l : Nat) :
    ((s.laserFail l).laser l).st = 4 ∧ ((s.laserFail l).laser l).gate = false ∧ s.log.created ≤ (s.laserFail l).log.created
      ∧ ∀ i, bit s.col.events i = true → bit (s.laserFail l).col.events i = true := by
  have hdown := s.laser_laserDown l
  have hframe := s.laserDown_frame l
  have hevents : (s.laserDown l).col.events = s.col.events := by rw [hframe]
  have hlog : (s.laserDown l).log = s.log := by rw [hframe]
  have hst : ((s.laserDown l).laser l).st = 4 := congrArg Laser.st hdown
  have hgate : ((s.laserDown l).laser l).gate = false := congrArg Laser.gate hdown
  cases h : s.servedBy l with
  | none =>
    rw [State.laserFail_none h, hevents, hlog]
    exact ⟨hst, hgate, le_rfl, fun _ => id⟩
  | some p =>
    rcases State.laserFail_some h with ⟨hover, -⟩ | hfail
    · rw [hover]
      refine ⟨hst, hgate, hlog.symm ▸ le_rfl, fun i hi => ?_⟩
      exact hevents.symm ▸ hi
    · obtain ⟨-, -, hcreated, hbits, hlasers⟩ := (s.laserDown l).portFail_spec p
      obtain ⟨hkept, hshut⟩ := hlasers l
      rw [hfail, hcreated, hlog, hkept]
      exact ⟨hst, hshut hgate, Nat.le_succ _, fun i hi => hbits i (hevents.symm ▸ hi)⟩

theorem relockAttemptEnd_fails (l : Fin 72) (p : Nat) (thermal : Bool) (s : State) (hrun : s.gfRuns 4 = true)
    (hserved : s.servedBy l = some p) (hst : (s.gp p).st = 3) (htake : (s.gp p).takeover = false) (hlast : 2 ≤ (s.gp p).attempts) :
    ∃ t, exec (.relockAttemptEnd l false thermal) s = .next t ∧ (t.laser l).st = 4 ∧ (t.laser l).gate = false
      ∧ ((t.gp p).st = 3 ∧ (t.gp p).takeover = true ∧ l.val < 64 ∧ (s.grp (p / 8)).1 = 0
          ∨ (t.gp p).st = 4 ∧ bit t.col.events 3 = true) := by
  have hnext := relockAttemptEnd_failed thermal hrun hserved hst htake
  rw [if_neg (by omega)] at hnext
  obtain ⟨hst4, hgate, -⟩ := (s.relockFailed l p).laserFail_spec l
  have hports : ∀ q, (s.relockFailed l p).gp q = (s.updGp p GPort.missRelock).gp q := fun q => by
    rw [State.relockFailed, State.gp_logAdd, State.gp_colEvent]
  have hserves : (s.relockFailed l p).servedBy l = some p :=
    (State.servedBy_congr (fun q => congrArg GPort.laser (hports q)) l).trans ((s.servedBy_updGp p l rfl).trans hserved)
  refine ⟨_, hnext, hst4, hgate, ?_⟩
  rcases State.laserFail_some hserves with ⟨hover, hown, hgroup⟩ | hfail
  · have hport : ((s.relockFailed l p).laserFail l).gp p = ((s.relockFailed l p).gp p).takeOver := by
      rw [hover, State.gp_updGp, State.gp_laserDown]
    refine .inl ⟨?_, ?_, hown, ?_⟩
    · rw [hport]; rfl
    · rw [hport]; rfl
    · rw [State.grp, State.relockFailed, State.logAdd_col] at hgroup
      exact hgroup
  · obtain ⟨hfailed, hevent, -⟩ := ((s.relockFailed l p).laserDown l).portFail_spec p
    rw [hfail]
    exact .inr ⟨hfailed, hevent⟩

theorem relockAttemptEnd_stopped (l : Fin 72) (ok thermal : Bool) (s : State) (h : s.gfRuns 4 = false) :
    exec (.relockAttemptEnd l ok thermal) s = .next s :=
  congrArg Host.Outcome.next (if_pos (by rw [h]; rfl))

/-- A port that a laser has been switched in for. -/
def GPort.serve (x : GPort) (laser : Nat) : GPort := { x with laser := laser, takeover := false, attempts := 0, foreignRun := false }

/-- The spare of a group serves one of its ports, tuned and dark. -/
def State.switchIn (s : State) (g i : Nat) : State :=
  { (s.updGp (8 * g + i) (GPort.serve · (64 + g))).updLaser (64 + g) (Laser.lock · (s.gp (8 * g + i)).channel) with
    col := { ((s.updGp (8 * g + i) (GPort.serve · (64 + g))).updLaser (64 + g) (Laser.lock · (s.gp (8 * g + i)).channel)).col with
      group := s.col.group.put g (1, i, satInc 16 (s.grp g).2.2) } }

/-- A takeover that has ended, with its WARNING, before the gate opens (R166). -/
def State.takenOver (s : State) (g i : Nat) : State :=
  ((s.switchIn g i).colEvent 2).logAdd sevWarning (s.owner (refG (8 * g + i))) (evNamed 3 "SPARE_TAKEOVER")
    (agentKind 0xE (64 + g)) [8 * g + i]

theorem State.gp_takenOver (s : State) (g i : Nat) :
    (s.takenOver g i).gp (8 * g + i) = (s.gp (8 * g + i)).serve (64 + g) := by
  rw [State.takenOver, State.gp_logAdd, State.gp_colEvent]
  exact s.gp_updGp (8 * g + i) (GPort.serve · (64 + g))

theorem State.laser_takenOver (s : State) (g i : Nat) :
    (s.takenOver g i).laser (64 + g) = (s.laser (64 + g)).lock (s.gp (8 * g + i)).channel := by
  rw [State.takenOver, State.laser_logAdd, State.laser_colEvent]
  exact s.laser_updLaser (64 + g) (Laser.lock · (s.gp (8 * g + i)).channel)

theorem spareTakeoverDone_serves (g : Fin 8) (i : Nat) (s : State)
    (hfind : (List.range 8).find? (fun i => (s.gp (8 * g + i)).takeover) = some i) (hrun4 : s.gfRuns 4 = true)
    (hrun5 : s.gfRuns 5 = true) (hdark : (s.gp (8 * g + i)).role ≠ 1 ∨ s.legOf (8 * g + i) = none) :
    ∃ t, exec (.spareTakeoverDone g) s = .next t ∧ (t.gp (8 * g + i)).laser = 64 + g ∧ (t.gp (8 * g + i)).takeover = false
      ∧ (t.laser (64 + g)).st = 2 ∧ (t.laser (64 + g)).channel = (s.gp (8 * g + i)).channel
      ∧ t.grp g = (1, i, satInc 16 (s.grp g).2.2) ∧ bit t.col.events 2 = true ∧ t.log.created = s.log.created + 1 := by
  have hnext : exec (.spareTakeoverDone g) s = .next ((s.takenOver g i).relight (8 * g + i)) := by
    simp only [exec, execSpareTakeoverDone, hfind, hrun4, hrun5, Bool.not_true, Bool.or_self, Bool.false_eq_true, if_false]
    rfl
  have hlegs : (s.takenOver g i).legOf (8 * g + i) = s.legOf (8 * g + i) :=
    State.legOf_congr (State.logAdd_topo ..) (State.logAdd_psg ..) _
  have hrelight := State.relight_dark (s := s.takenOver g i) (t := 8 * g + i) (by rw [State.gp_takenOver, hlegs]; exact hdark)
  have hport := (s.takenOver g i).gp_updGp (8 * g + i) (fun x => { x with st := 0 })
  rw [State.gp_takenOver] at hport
  have hlaser := s.laser_takenOver g i
  have hcol : ((s.takenOver g i).updGp (8 * g + i) (fun x => { x with st := 0 })).grp g = (1, i, satInc 16 (s.grp g).2.2)
      ∧ bit ((s.takenOver g i).updGp (8 * g + i) (fun x => { x with st := 0 })).col.events 2 = true := by
    simp only [State.grp, State.updGp, State.takenOver, State.switchIn, State.logAdd_col, State.colEvent, Tbl.get_put,
      bit_setBit_self, and_self]
  refine ⟨_, hnext.trans (congrArg _ hrelight), congrArg GPort.laser hport, congrArg GPort.takeover hport,
    congrArg Laser.st hlaser, congrArg Laser.channel hlaser, hcol.1, hcol.2, ?_⟩
  exact State.logAdd_created _ (by decide) _ _ _ _

/-! ### Gates that stay lit (R170) -/

theorem gateFault_fails (l : Fin 72) (s : State) (h : (s.laser l).st ≠ 4) : ∃ t, exec (.gateFault l) s = .next t
    ∧ (t.laser l).st = 4 ∧ (t.laser l).gate = false ∧ bit t.col.events 7 = true ∧ s.log.created < t.log.created := by
  obtain ⟨u, hnext, hevents, hcreated⟩ : ∃ u : State, exec (.gateFault l) s = .next (u.laserFail l)
      ∧ u.col.events = setBit s.col.events 7 ∧ u.log.created = s.log.created + 1 :=
    ⟨(s.colEvent 7).logAdd sevCritical _ _ _ _, congrArg Host.Outcome.next (if_neg (by simpa using h)),
      congrArg Col.events (State.logAdd_col ..), State.logAdd_created _ (by decide) _ _ _ _⟩
  obtain ⟨hst, hgate, hlog, hbits⟩ := u.laserFail_spec l
  exact ⟨_, hnext, hst, hgate, hbits 7 (hevents.symm ▸ bit_setBit_self _ 7), by omega⟩

theorem gateFault_failed (l : Fin 72) (s : State) (h : (s.laser l).st = 4) : exec (.gateFault l) s = .next s :=
  congrArg Host.Outcome.next (if_pos (by rw [h]; rfl))

end Sys2Proof.Machine

namespace Sys2Proof.Proofs

open Sys2Proof.Machine

/-- Settles O37: each event by the port that the laser serves, and by what its third failed attempt leaves it. -/
theorem lasersAndRelocks : Obligations.LasersAndRelocks :=
  ⟨wavelengthError_inside, wavelengthError_relocks, retuneLockTimeout_relocks, retuneLockTimeout_noLeg, relockAttemptEnd_locks,
    relockAttemptEnd_lights, relockAttemptEnd_counts, relockAttemptEnd_fails, relockAttemptEnd_stopped, spareTakeoverDone_serves,
    gateFault_fails, gateFault_failed⟩

end Sys2Proof.Proofs
end

section
/-! SUPPORT. The cabling check, the ring heaters, the glass-frog controllers and LASER_SET (R147, R168, R170, R172 to R174,
R417); and statement O38. -/

namespace Sys2Proof.Machine

open Safety

/-! ### One port in a frame of the check (R147) -/

/-- A port found MISCABLED. -/
def GPort.miscable (x : GPort) : GPort := { x with st := 5, role := 0, cabling := 2, expectValid := false }

/-- What one frame of the check makes of a port that is not judged yet: its own tag heard after a loopback delay, or not. -/
def GPort.cable (x : GPort) (rack : Nat) : Option Nat → GPort
  | some d =>
    if d < 50 ∨ 300 < d then x.miscable
    else if x.tagRun + 1 < 3 then { x with tagRun := x.tagRun + 1, failRun := 0, pilotRack := rack, pilotValid := true }
    else { x with
      st := 0, role := 0, cabling := 1, tagRun := 3, failRun := 0, pilotRack := rack, pilotValid := true, expectValid := false }
  | none => if x.failRun + 1 < 16 then { x with failRun := x.failRun + 1, tagRun := 0 } else x.miscable

/-- A port is found MISCABLED, with event 6 and one ERROR, and its gate is shut (R147). -/
def State.miscabled (s : State) (t delay : Nat) : State :=
  (((s.updGp t GPort.miscable).colEvent 6).logAdd sevError (s.owner (refG t)) (evNamed 3 "MISCABLED") (agentKind 3 t)
    [t, delay]).updLaser (s.gp t).laser (fun l => { l with gate := false })

/-- A frame of the check works on one port: its record, its laser's gate, the events and the log. -/
def Cabled (t : Nat) (x : GPort) (s u : State) : Prop :=
  (∃ port laser events log, u = { s with col := { s.col with port := port, laser := laser, events := events }, log := log })
    ∧ u.gp t = x ∧ ∀ v, v ≠ t → u.gp v = s.gp v

theorem State.updGp_cabled (s : State) (t : Nat) (f : GPort → GPort) : Cabled t (f (s.gp t)) s (s.updGp t f) :=
  ⟨⟨_, _, _, _, rfl⟩, s.gp_updGp t f, fun _ hv => s.gp_updGp_ne f hv⟩

theorem Cabled.updLaser {t : Nat} {x : GPort} {s u : State} (h : Cabled t x s u) (l : Nat) (f : Laser → Laser) :
    Cabled t x s (u.updLaser l f) := by
  obtain ⟨⟨_, _, _, _, rfl⟩, hown, hother⟩ := h
  exact ⟨⟨_, _, _, _, rfl⟩, hown, hother⟩

theorem State.miscabled_cabled (s : State) (t delay : Nat) : Cabled t (s.gp t).miscable s (s.miscabled t delay) := by
  refine Cabled.updLaser ⟨?_, ?_, fun v hv => ?_⟩ _ _
  · obtain ⟨log, hlog, -⟩ := State.logAdd_eq ((s.updGp t GPort.miscable).colEvent 6) (sev := sevError) (by decide)
      (s.owner (refG t)) (evNamed 3 "MISCABLED") (agentKind 3 t) [t, delay]
    rw [hlog]
    exact ⟨_, _, _, _, rfl⟩
  · rw [State.gp_logAdd, State.gp_colEvent, State.gp_updGp]
  · rw [State.gp_logAdd, State.gp_colEvent, State.gp_updGp_ne _ _ hv]

/-- One frame of the check on a port, by what it hears. -/
theorem State.cablePort_cabled (s : State) (t : Nat) (heard : Option Nat) :
    Cabled t ((s.gp t).cable s.topo.rack heard) s (s.cablePort t heard) := by
  cases heard with
  | none =>
    by_cases hrun : (s.gp t).failRun + 1 < 16
    · simp only [State.cablePort, GPort.cable, if_pos hrun]
      exact s.updGp_cabled t _
    · simp only [State.cablePort, GPort.cable, if_neg hrun]
      exact s.miscabled_cabled t 0
  | some d =>
    by_cases hfar : d < 50 ∨ 300 < d
    · have hfar' : (decide (d < 50) || decide (300 < d)) = true := by simpa using hfar
      simp only [State.cablePort, GPort.cable, if_pos hfar, if_pos hfar']
      exact s.miscabled_cabled t d
    · have hfar' : ¬(decide (d < 50) || decide (300 < d)) = true := by simpa using hfar
      by_cases hrun : (s.gp t).tagRun + 1 < 3
      · simp only [State.cablePort, GPort.cable, if_neg hfar, if_neg hfar', if_pos hrun]
        exact s.updGp_cabled t _
      · simp only [State.cablePort, GPort.cable, if_neg hfar, if_neg hfar', if_neg hrun]
        exact (s.updGp_cabled t _).updLaser _ _

/-! ### A frame of the check over all ports -/

/-- The delay after which a port heard its own tag in a frame. -/
def delayOf (heard : List (Nat × Nat)) (t : Nat) : Option Nat := (heard.find? (fun e => e.1 == t)).map (·.2)

/-- A frame of the check over some ports. -/
def State.cableAll (s : State) (heard : List (Nat × Nat)) (ts : List Nat) : State :=
  ts.foldl (fun s t => s.cablePort t (delayOf heard t)) s

theorem State.cablePort_actsOn (heard : List (Nat × Nat)) :
    ActsOn (fun (s : State) t => (s.gp t, s.topo.rack)) id (fun t x => (x.1.cable x.2 (delayOf heard t), x.2))
      (fun s t => s.cablePort t (delayOf heard t)) where
  own s t := by
    obtain ⟨⟨_, _, _, _, hframe⟩, hport, -⟩ := s.cablePort_cabled t (delayOf heard t)
    refine Prod.ext hport ?_
    rw [hframe]
  other s t u hu := by
    obtain ⟨⟨_, _, _, _, hframe⟩, -, hother⟩ := s.cablePort_cabled t (delayOf heard t)
    refine Prod.ext (hother u hu) ?_
    rw [hframe]

theorem State.cableAll_frame (s : State) (heard : List (Nat × Nat)) (ts : List Nat) :
    ∃ port laser events log, s.cableAll heard ts
      = { s with col := { s.col with port := port, laser := laser, events := events }, log := log } :=
  List.foldlRecOn ts _ (motive := fun u => ∃ port laser events log, u
      = { s with col := { s.col with port := port, laser := laser, events := events }, log := log }) ⟨_, _, _, _, rfl⟩
    (fun u ⟨_, _, _, _, hu⟩ t _ => by
      obtain ⟨⟨_, _, _, _, hframe⟩, -⟩ := u.cablePort_cabled t (delayOf heard t)
      rw [hframe, hu]
      exact ⟨_, _, _, _, rfl⟩)

/-- The ports the check has not judged. -/
def State.unjudged (s : State) : List Nat := (List.range 64).filter (fun t => (s.gp t).cabling == 0)

theorem State.mem_unjudged {s : State} {t : Nat} : t ∈ s.unjudged ↔ t < 64 ∧ (s.gp t).cabling = 0 := by
  simp [State.unjudged]

/-- The ports after a frame of the check. -/
def State.framed (s : State) (heard : List (Nat × Nat)) : State :=
  (s.advanceTo (s.nextMultiple 1000000)).cableAll heard s.unjudged

theorem State.gp_framed_judged (s : State) (heard : List (Nat × Nat)) {g : Nat} (h : (s.gp g).cabling ≠ 0) :
    (s.framed heard).gp g = s.gp g :=
  congrArg Prod.fst ((State.cablePort_actsOn heard).foldl_of_forall_ne (l := s.unjudged) (j := g)
    (fun t ht hgt => h (by rw [hgt]; exact (State.mem_unjudged.mp ht).2)) (s.advanceTo (s.nextMultiple 1000000)))

theorem State.gp_framed_open (s : State) (heard : List (Nat × Nat)) {g : Nat} (hg : g < 64) (h : (s.gp g).cabling = 0) :
    (s.framed heard).gp g = (s.gp g).cable s.topo.rack (delayOf heard g) :=
  congrArg Prod.fst ((State.cablePort_actsOn heard).foldl_of_mem Function.injective_id (l := s.unjudged)
    (List.nodup_range.filter _) (State.mem_unjudged.mpr ⟨hg, h⟩) (s.advanceTo (s.nextMultiple 1000000)))

theorem State.framed_frame (s : State) (heard : List (Nat × Nat)) : (s.framed heard).mod = s.mod
    ∧ (s.framed heard).ast = (s.advanceTo (s.nextMultiple 1000000)).ast := by
  obtain ⟨_, _, _, _, hframe⟩ := (s.advanceTo (s.nextMultiple 1000000)).cableAll_frame heard s.unjudged
  rw [State.framed, hframe]
  exact ⟨rfl, rfl⟩

/-! ### The end of the check (R147, R417) -/

/-- Slices that waited for the check of their ports hail. -/
def State.startHails (s : State) : State :=
  s.topo.slice.foldl (fun u e =>
    if e.2.hailPend && !s.uncheckedPort e.1 then u.updSlice e.1 (fun x => { x with hailPend := false, colour := 1 }) else u) s

theorem State.startHails_frame (s : State) : s.startHails.col = s.col ∧ s.startHails.mod = s.mod ∧ s.startHails.ast = s.ast :=
  List.foldlRecOn s.topo.slice _ (motive := fun u : State => u.col = s.col ∧ u.mod = s.mod ∧ u.ast = s.ast) ⟨rfl, rfl, rfl⟩
    (fun u hu e _ => by
      split
      · rw [State.updSlice_col, State.updSlice_mod, State.updSlice_ast]
        exact hu
      · exact hu)

/-- The check is open on some port. -/
def State.checkOpen (s : State) : Bool := (List.range 64).any (fun t => (s.gp t).cabling == 0)

theorem State.checkOpen_iff (s : State) : s.checkOpen = true ↔ ∃ g, g < 64 ∧ (s.gp g).cabling = 0 := by
  simp [State.checkOpen]

/-- A frame's verdict on the check as a whole. -/
def State.closeFrame (s : State) : State :=
  { s.startHails with col := { s.startHails.col with checking := s.checkOpen } }

/-- READY is entered where the check has ended in a start that awaits nothing else. -/
def State.readyFrame (s : State) : State :=
  if !s.checkOpen && s.closeFrame.mod == .starting && !s.closeFrame.ast.acquiring then s.closeFrame.enterReady else s.closeFrame

theorem cablingCheckFrame_next {heard : List (Nat × Nat)} {s : State} (h : s.col.checking = true) :
    exec (.cablingCheckFrame heard) s = .next (s.framed heard).readyFrame :=
  congrArg Host.Outcome.next (if_neg (by simp [h]))

theorem State.readyFrame_spec (s : State) : s.readyFrame.col = { s.col with checking := s.checkOpen } ∧ s.readyFrame.ast = s.ast
    ∧ (s.checkOpen = false → s.mod = .starting → s.ast.acquiring = false → s.readyFrame.mod = .ready) := by
  obtain ⟨hcol, hmod, hast⟩ := s.startHails_frame
  have hclose : s.closeFrame.col = { s.col with checking := s.checkOpen } := by rw [State.closeFrame, hcol]
  have hready : s.closeFrame.enterReady.col = s.closeFrame.col ∧ s.closeFrame.enterReady.ast = s.closeFrame.ast
      ∧ s.closeFrame.enterReady.mod = .ready :=
    ⟨State.logAdd_col .., State.logAdd_ast .., State.logAdd_mod ..⟩
  obtain ⟨hcol', hast', hmod'⟩ := hready
  unfold State.readyFrame
  split
  · exact ⟨hcol'.trans hclose, hast'.trans hast, fun _ _ _ => hmod'⟩
  · next hwait =>
    refine ⟨hclose, hast, fun h1 h2 h3 => absurd ?_ hwait⟩
    have hstart : s.closeFrame.mod = .starting := hmod.trans h2
    have hacq : s.closeFrame.ast.acquiring = false := (congrArg Ast.acquiring hast).trans h3
    rw [h1, hstart, hacq]
    rfl

/-- A port that hears nothing of its own tag. -/
theorem GPort.cable_unheard {x : GPort} (rack : Nat) (h : x.cabling = 0) :
    (x.cable rack none).cabling = (if 15 ≤ x.failRun then 2 else 0)
      ∧ (x.failRun < 15 → (x.cable rack none).failRun = x.failRun + 1 ∧ (x.cable rack none).tagRun = 0) := by
  by_cases hrun : x.failRun + 1 < 16
  · rw [GPort.cable, if_pos hrun, if_neg (by omega)]
    exact ⟨h, fun _ => ⟨rfl, rfl⟩⟩
  · rw [GPort.cable, if_neg hrun, if_pos (by omega)]
    exact ⟨rfl, fun hlt => absurd hlt (by omega)⟩

/-- A port that hears its own tag. -/
theorem GPort.cable_heard {x : GPort} (rack d : Nat) (h : x.cabling = 0) :
    (x.cable rack (some d)).cabling = (if d < 50 ∨ 300 < d then 2 else if 2 ≤ x.tagRun then 1 else 0)
      ∧ ((x.cable rack (some d)).cabling = 2 → (x.cable rack (some d)).st = 5)
      ∧ ((x.cable rack (some d)).cabling = 1 → (x.cable rack (some d)).st = 0)
      ∧ ((x.cable rack (some d)).cabling = 0 → (x.cable rack (some d)).tagRun = x.tagRun + 1) := by
  by_cases hfar : d < 50 ∨ 300 < d
  · simp [GPort.cable, hfar, GPort.miscable]
  · by_cases hrun : x.tagRun + 1 < 3
    · have hmore : ¬ 2 ≤ x.tagRun := by omega
      simp [GPort.cable, hfar, hrun, hmore, h]
    · have hlast : 2 ≤ x.tagRun := by omega
      simp [GPort.cable, hfar, hrun, hlast]

theorem cablingCheckFrame_judges (heard : List (Nat × Nat)) (s : State) (hopen : s.col.checking = true) :
    ∃ t, exec (.cablingCheckFrame heard) s = .next t ∧ t.ns = (s.ns / 1000000 + 1) * 1000000
      ∧ (∀ g, g < 64 → (s.gp g).cabling ≠ 0 → t.gp g = s.gp g)
      ∧ (∀ g, g < 64 → (s.gp g).cabling = 0 → heard.find? (fun e => e.1 == g) = none →
          (t.gp g).cabling = (if 15 ≤ (s.gp g).failRun then 2 else 0)
          ∧ ((s.gp g).failRun < 15 → (t.gp g).failRun = (s.gp g).failRun + 1 ∧ (t.gp g).tagRun = 0))
      ∧ (∀ g e, g < 64 → (s.gp g).cabling = 0 → heard.find? (fun e => e.1 == g) = some e →
          (t.gp g).cabling = (if e.2 < 50 ∨ 300 < e.2 then 2 else if 2 ≤ (s.gp g).tagRun then 1 else 0)
          ∧ ((t.gp g).cabling = 2 → (t.gp g).st = 5) ∧ ((t.gp g).cabling = 1 → (t.gp g).st = 0)
          ∧ ((t.gp g).cabling = 0 → (t.gp g).tagRun = (s.gp g).tagRun + 1))
      ∧ (t.col.checking = true ↔ ∃ g, g < 64 ∧ (t.gp g).cabling = 0)
      ∧ (t.col.checking = false → s.mod = .starting → s.ast.acquiring = false → t.mod = .ready) := by
  obtain ⟨hcol, hast, hready⟩ := (s.framed heard).readyFrame_spec
  obtain ⟨hmod, htime⟩ := s.framed_frame heard
  have hgp : ∀ g, (s.framed heard).readyFrame.gp g = (s.framed heard).gp g := fun g => by
    rw [State.gp, State.gp, hcol]
  have hchecking : (s.framed heard).readyFrame.col.checking = (s.framed heard).checkOpen := congrArg Col.checking hcol
  refine ⟨_, cablingCheckFrame_next hopen, ?_, fun g _ h => ?_, fun g hg h hnone => ?_, fun g e hg h hsome => ?_, ?_,
    fun h h1 h2 => ?_⟩
  · rw [State.ns, hast, htime]
    exact s.ns_advanceTo_nextMultiple (by decide)
  · rw [hgp, s.gp_framed_judged heard h]
  · rw [hgp, s.gp_framed_open heard hg h, delayOf, hnone]
    exact GPort.cable_unheard _ h
  · rw [hgp, s.gp_framed_open heard hg h, delayOf, hsome]
    exact GPort.cable_heard _ e.2 h
  · simp only [hchecking, hgp, State.checkOpen_iff]
  · exact hready (hchecking ▸ h) (hmod.trans h1) ((congrArg Ast.acquiring htime).trans h2)

theorem cablingCheckFrame_closed (heard : List (Nat × Nat)) (s : State) (h : s.col.checking = false) :
    exec (.cablingCheckFrame heard) s = .next s :=
  congrArg Host.Outcome.next (if_pos (by rw [h]; rfl))

/-! ### Ring heaters (R168) -/

/-- Warnings of rings that come out of alignment only add to the log. -/
theorem State.foldl_logAdd_frame (sev slice event : Nat) (agent : Nat → Nat) (args : Nat → List Nat) (l : List Nat) (s : State) :
    ∃ log, l.foldl (fun u x => u.logAdd sev slice event (agent x) (args x)) s = { s with log := log } := by
  induction l generalizing s with
  | nil => exact ⟨_, rfl⟩
  | cons x l ih =>
    obtain ⟨log, hlog⟩ := ih (s.logAdd sev slice event (agent x) (args x))
    refine ⟨log, hlog.trans ?_⟩
    rw [State.logAdd_frame]

/-- The heaters and errors that the drop monitors' misalignments give. -/
def State.ringsAfter (s : State) (errs : List Int) : Tbl (Nat × Int) :=
  s.col.ring.putAll (List.range 72) fun h =>
    ((s.advanceTo (s.nextMultiple 10000)).heaterPower errs h, satSigned 16 (errs.getD h 0))

theorem State.get_ringsAfter (s : State) (errs : List Int) {h : Nat} (hh : h < 72) : (s.ringsAfter errs).get h (0, 0)
    = ((s.advanceTo (s.nextMultiple 10000)).heaterPower errs h, satSigned 16 (errs.getD h 0)) := by
  rw [State.ringsAfter, Tbl.get_putAll_range _ _ _ hh]

/-- The heaters and errors of all rings at the next multiple of 10 µs. -/
def State.heatRings (s : State) (errs : List Int) : State :=
  { s.advanceTo (s.nextMultiple 10000) with col := { s.col with ring := s.ringsAfter errs } }

theorem State.ring_heatRings (s : State) (errs : List Int) : (s.heatRings errs).col.ring = s.ringsAfter errs := by
  rw [State.heatRings]

theorem ringHeaterUpdate_next {s : State} (errs : List Int) (h : s.gfRuns 5 = true) :
    ∃ log, exec (.ringHeaterUpdate errs) s = .next { s.heatRings errs with log := log } := by
  obtain ⟨log, hwarn⟩ := State.foldl_logAdd_frame sevWarning 0 (evNamed 3 "RING_MISALIGNED") (agentKind 0xE)
    (fun k => [k, toTwos 64 (satSigned 16 (errs.getD k 0))])
    ((List.range 72).filter (fun k => decide (500 < (satSigned 16 (errs.getD k 0)).natAbs)
      && decide ((s.col.ring.get k (0, 0)).2.natAbs ≤ 500))) (s.heatRings errs)
  exact ⟨log, congrArg Host.Outcome.next ((if_neg (by simp [h])).trans hwarn)⟩

theorem ringHeaterUpdate_heats (errs : List Int) (s : State) (h : s.gfRuns 5 = true) :
    ∃ t, exec (.ringHeaterUpdate errs) s = .next t ∧ t.ns = (s.ns / 10000 + 1) * 10000
      ∧ (∀ h, h < 72 → t.col.ring.get h (0, 0) = ({ s with ast := t.ast }.heaterPower errs h, satSigned 16 (errs.getD h 0)))
      ∧ t = { s with ast := { s.ast with raw := t.ast.raw }, col := { s.col with ring := t.col.ring }, log := t.log } := by
  obtain ⟨log, hnext⟩ := ringHeaterUpdate_next errs h
  refine ⟨_, hnext, s.ns_advanceTo_nextMultiple (by decide), fun k hk => ?_, ?_⟩
  · have hadvanced : ({ s with ast := (s.heatRings errs).ast } : State) = s.advanceTo (s.nextMultiple 10000) := rfl
    simp only [s.ring_heatRings, s.get_ringsAfter errs hk, hadvanced]
  · rw [State.heatRings, State.advanceTo]

theorem ringHeaterUpdate_stopped (errs : List Int) (s : State) (h : s.gfRuns 5 = false) :
    exec (.ringHeaterUpdate errs) s = .next s :=
  congrArg Host.Outcome.next (if_pos (by rw [h]; rfl))

/-! ### Glass-frog controllers (R170) -/

/-- The losses of a controller in the last 10 minutes, with the one now, newest first. -/
def State.gfLosses (s : State) (g : Nat) : List Nat :=
  s.ns :: (s.col.gf.get g (0, [])).2.filter (fun a => decide (s.ns < a + 600000000000))

/-- The third loss in 10 minutes stops a controller. -/
def State.gfStops (s : State) (g : Nat) : Bool := decide (3 ≤ (s.gfLosses g).length)

/-- The events after the loss of a controller: 8 for those of the colour plane. -/
def State.gfEvents (s : State) (g : Nat) : Nat := if g == 4 || g == 5 then setBit s.col.events 8 else s.col.events

/-- A controller lost, with its entry, before it is reloaded: stopped for good, or loading. -/
def State.gfLose (s : State) (g : Nat) : State :=
  State.logAdd { s with col := { s.col with
      gf := s.col.gf.put g (if s.gfStops g then 4 else 1, s.gfLosses g), events := s.gfEvents g } }
    (if s.gfStops g then sevError else sevWarning) 0 (evNamed 3 "GF_LOST") (agentKind 0xD (16 + g)) [g, (s.gfLosses g).length]

theorem gfControllerLost_next {g : Fin 8} {s : State} (h : s.gfRuns g = true) :
    exec (.gfControllerLost g) s = .next (
      if s.gfStops g || s.paused || s.clusterHalted 1 then s.gfLose g else (s.gfLose g).gfBack g) := by
  refine congrArg Host.Outcome.next ((if_neg (by simp [h])).trans ?_)
  unfold State.gfLose State.gfEvents
  by_cases hg : (g.val == 4 || g.val == 5) = true
  · simp only [if_pos hg]
    rfl
  · simp only [if_neg hg]
    rfl

theorem State.gfLose_spec (s : State) (g : Nat) :
    (∃ log, s.gfLose g = { s with log := log, col := { s.col with
        gf := s.col.gf.put g (if s.gfStops g then 4 else 1, s.gfLosses g), events := s.gfEvents g } })
      ∧ (s.gfLose g).log.created = s.log.created + 1 :=
  ⟨⟨_, State.logAdd_frame ..⟩, State.logAdd_created _ (by cases s.gfStops g <;> decide) _ _ _ _⟩

/-- A controller that is reloaded runs; relocks under way start over (R165). -/
theorem State.gfBack_spec (s : State) (g : Nat) : ∃ port laser, s.gfBack g = { s with col := { s.col with
    gf := s.col.gf.put g (2, (s.col.gf.get g (0, [])).2), port := port, laser := laser } } := by
  unfold State.gfBack
  split <;> exact ⟨_, _, rfl⟩

theorem gfControllerLost_reloads (g : Fin 8) (s : State) (hrun : s.gfRuns g = true) :
    ∃ t n, exec (.gfControllerLost g) s = .next t
      ∧ n = (((s.col.gf.get g (0, [])).2).filter (fun a => decide (s.ns < a + 600000000000))).length
      ∧ (t.col.gf.get g (0, [])).1 = (if 2 ≤ n then 4 else if s.paused = true ∨ s.clusterHalted 1 = true then 1 else 2)
      ∧ (g.val = 4 ∨ g.val = 5 → bit t.col.events 8 = true) ∧ t.log.created = s.log.created + 1
      ∧ (∀ k, k ≠ g.val → t.col.gf.find k = s.col.gf.find k) ∧ t = { s with col := t.col, log := t.log } := by
  obtain ⟨⟨log, hlose⟩, hcreated⟩ := s.gfLose_spec g
  have hevent : g.val = 4 ∨ g.val = 5 → bit (s.gfEvents g) 8 = true := fun hg => by
    rw [State.gfEvents, if_pos (by simpa using hg)]
    exact bit_setBit_self _ 8
  have hstop : 2 ≤ ((s.col.gf.get g (0, [])).2.filter (fun a => decide (s.ns < a + 600000000000))).length
      ↔ s.gfStops g = true := by
    rw [State.gfStops, State.gfLosses, List.length_cons, decide_eq_true_eq]
    omega
  have hnext := gfControllerLost_next hrun
  rw [hlose] at hnext hcreated
  by_cases hkept : (s.gfStops g || s.paused || s.clusterHalted 1) = true
  · rw [if_pos hkept] at hnext
    refine ⟨_, _, hnext, rfl, ?_, hevent, hcreated, fun k hk => Tbl.find_put_ne _ _ hk, rfl⟩
    simp only [Tbl.get_put, hstop]
    cases hlast : s.gfStops g with
    | true => rfl
    | false =>
      have hwait : s.paused = true ∨ s.clusterHalted 1 = true := by simpa [hlast] using hkept
      rw [if_neg Bool.false_ne_true, if_neg Bool.false_ne_true, if_pos hwait]
  · rw [if_neg hkept] at hnext
    obtain ⟨port, laser, hback⟩ := State.gfBack_spec { s with log := log, col := { s.col with
      gf := s.col.gf.put g (if s.gfStops g then 4 else 1, s.gfLosses g), events := s.gfEvents g } } g
    rw [hback] at hnext
    simp only [Bool.or_eq_true, not_or] at hkept
    obtain ⟨⟨hmore, hpaused⟩, hhalted⟩ := hkept
    refine ⟨_, _, hnext, rfl, ?_, hevent, hcreated,
      fun k hk => (Tbl.find_put_ne _ _ hk).trans (Tbl.find_put_ne _ _ hk), rfl⟩
    simp only [Tbl.get_put, hstop, if_neg hmore, if_neg (not_or.mpr ⟨hpaused, hhalted⟩)]

theorem gfControllerLost_stopped (g : Fin 8) (s : State) (h : s.gfRuns g = false) : exec (.gfControllerLost g) s = .next s :=
  congrArg Host.Outcome.next (if_pos (by rw [h]; rfl))

/-! ### LASER_SET (R172 to R174) -/

/-- How an accepted command ends whose own part is done, judging of the binnacle only what the start of a command keeps. -/
theorem State.hostRow_doneTraced {s : State} {op : Nat} {r : Req} {run : Req → State → CmdOut} {st w0 w1 : Nat} (t : Bnc → State)
    (hacc : accepts op r s = true) (htok : tokenless op = true)
    (hrun : ∀ b, b = { s.bnc with trace := b.trace, events := b.events } → run r { s with bnc := b } = .done (t b) st w0 w1)
    (hkept : ∀ b, (t b).hif = s.hif ∧ (t b).bnc = b ∧ (t b).out = s.out) :
    ∃ u, ran s op r run = .next u ∧ Completed r s u st w0 w1 ∧ Silent s u ∧ Quiet r s u
      ∧ ∃ b h n o, u = { t b with hif := h, bnc := n, out := o } := by
  obtain ⟨b, hstart, hb⟩ := State.started_eq htok s r
  obtain ⟨hhif, hbnc, hout⟩ := hkept b
  have hsame : ran s op r run = ran s op r (fun _ u => .done { t b with bnc := u.bnc } st w0 w1) := by
    rw [ran, ran, State.hostRow_accepted _ _ _ _ hacc, State.hostRow_accepted _ _ _ _ hacc, hstart, hrun b hb]
    exact congrArg (fun v : State => Host.Outcome.next (v.finish op r st w0 w1 (v.log.created != s.log.created)))
      (congrArg (fun n => { t b with bnc := n }) hbnc)
  obtain ⟨u, hu, hc, hs, hq, b', h, n, o, hframe⟩ := State.hostRow_done (s := s) (op := op) (r := r)
    (run := fun _ u => .done { t b with bnc := u.bnc } st w0 w1) (fun b' => { t b with bnc := b' }) hacc htok (fun _ => rfl)
    (fun _ => ⟨hhif, rfl, hout⟩)
  exact ⟨u, hsame.trans hu, hc, hs, hq, b, h, n, o, hframe⟩

/-- Cluster 1 is halted or not whatever the trace holds. -/
theorem State.clusterHalted_traced {s : State} {b : Bnc} (h : b = { s.bnc with trace := b.trace, events := b.events }) (k : Nat) :
    State.clusterHalted { s with bnc := b } k = s.clusterHalted k := by
  rw [h]
  rfl

/-- Only one laser, the spare groups and the free values differ. -/
def OneLaser (l : Nat) (s u : State) : Prop :=
  (∃ laser group free, u = { s with free := free, col := { s.col with laser := laser, group := group } })
    ∧ ∀ k, k ≠ l → u.laser k = s.laser k

theorem State.updLaser_oneLaser (s : State) (l n : Nat) (f : Laser → Laser) :
    OneLaser l s (State.updLaser { s with free := n } l f) :=
  ⟨⟨_, _, _, rfl⟩, fun _ hk => State.laser_updLaser_ne { s with free := n } f hk⟩

/-- A laser whose retest has passed is idle again. -/
def Laser.recover (x : Laser) : Laser := { x with st := 0, gate := false, attempts := 0, byMaint := false }

/-- A retest has passed; a spare that had failed stands by. -/
def State.retested (s : State) (l : Nat) : State :=
  if decide (64 ≤ l) && (s.grp (l - 64)).1 == 2 then
    { s.updLaser l Laser.recover with col := { (s.updLaser l Laser.recover).col with
      group := s.col.group.put (l - 64) (0, (s.grp (l - 64)).2) } }
  else s.updLaser l Laser.recover

theorem lasAct_retest (s : State) (n l : Nat) (x : Nat × List Nat) :
    lasAct (s, n) (l, 4, x) = if (s.fresh 1).1 == 1 then ((s.fresh 1).2.retested l, n) else ((s.fresh 1).2, n + 1) := rfl

theorem State.laser_retested (s : State) (l : Nat) : (s.retested l).laser l = (s.laser l).recover := by
  unfold State.retested
  split <;> exact s.laser_updLaser l _

theorem State.retested_oneLaser (s : State) (l n : Nat) : OneLaser l s (State.retested { s with free := n } l) := by
  unfold State.retested
  split <;> exact ⟨⟨_, _, _, rfl⟩, fun _ hk => State.laser_updLaser_ne { s with free := n } _ hk⟩

/-- An entry of LASER_SET works on the laser it names, whatever its mode. -/
theorem lasAct_oneLaser (s : State) (n : Nat) (e : Nat × Nat × Nat × List Nat) : OneLaser e.1 s (lasAct (s, n) e).1 := by
  obtain ⟨l, m, x⟩ := e
  match m with
  | 0 => exact s.updLaser_oneLaser l _ _
  | 1 => exact s.updLaser_oneLaser l _ _
  | 2 => exact s.updLaser_oneLaser l _ _
  | 3 => exact s.updLaser_oneLaser l _ _
  | 4 =>
    rw [lasAct_retest]
    split
    · exact s.retested_oneLaser l _
    · exact ⟨⟨_, _, _, rfl⟩, fun _ _ => rfl⟩
  | _ + 5 => exact s.updLaser_oneLaser l _ _

/-- Only a retest may leave a laser FAILED. -/
theorem lasAct_count (s : State) (e : Nat × Nat × Nat × List Nat) :
    (lasAct (s, 0) e).2 = if e.2.1 == 4 && (s.fresh 1).1 != 1 then 1 else 0 := by
  obtain ⟨l, m, x⟩ := e
  match m with
  | 0 => rfl
  | 1 => rfl
  | 2 => rfl
  | 3 => rfl
  | 4 =>
    rw [lasAct_retest]
    cases hpass : (s.fresh 1).1 == 1 <;> simp_all
  | _ + 5 => rfl

section
variable (s : State) (n l : Nat) (x : Nat × List Nat)

theorem lasAct_tune : (lasAct (s, n) (l, 0, x)).1.laser l = { s.laser l with
    st := 5, gate := false, byMaint := true, channel := x.1, measChannel := x.1, measValid := true
    freqErr := ((s.fresh 9).1 % 301 : Nat) - 150 } :=
  State.laser_updLaser _ _ _

theorem lasAct_drive : ∃ channel valid e, (lasAct (s, n) (l, 1, x)).1.laser l = { s.laser l with
    st := 5, gate := false, byMaint := true, measChannel := channel, measValid := valid, freqErr := e } :=
  ⟨_, _, _, State.laser_updLaser _ _ _⟩

theorem lasAct_open : (lasAct (s, n) (l, 2, x)).1.laser l = { s.laser l with gate := true, byMaint := true } :=
  State.laser_updLaser _ _ _

theorem lasAct_shut : (lasAct (s, n) (l, 3, x)).1.laser l = { s.laser l with gate := false, byMaint := true } :=
  State.laser_updLaser _ _ _

theorem lasAct_passes (h : ((s.fresh 1).1 == 1) = true) : (lasAct (s, n) (l, 4, x)).1.laser l = (s.laser l).recover := by
  rw [lasAct_retest, if_pos h]
  exact State.laser_retested _ l

theorem lasAct_fails (h : ((s.fresh 1).1 == 1) = false) : (lasAct (s, n) (l, 4, x)).1.laser l = s.laser l := by
  rw [lasAct_retest, h, if_neg Bool.false_ne_true]
  rfl

theorem lasAct_release : (lasAct (s, n) (l, 5, x)).1.laser l
    = { s.laser l with st := if (s.laser l).st == 5 then 0 else (s.laser l).st, gate := false, byMaint := false } :=
  State.laser_updLaser _ _ _

end

/-- The ranges of a block of one entry. -/
theorem ranges_lasRows {b : Bytes} (hzero : zeroAt b 2 14 = true) (hrows : ranges (lasRows b 0 []) = none)
    (es : List (Nat × Nat × Nat × List Nat)) :
    ranges ([(0, decide (1 ≤ 1 ∧ 1 ≤ 72)), (2, zeroAt b 2 14)]
      ++ (List.range 1).flatMap (fun i => lasRows b i ((es.take i).map Prod.fst))) = none := by
  have hflat : (List.range 1).flatMap (fun i => lasRows b i ((es.take i).map Prod.fst)) = lasRows b 0 [] := List.append_nil _
  rw [hflat, hzero]
  exact hrows

theorem cmdLaserSet_acts {r : Req} {s : State} {l m : Nat} (hl : le r.params 16 1 = l) (hm : le r.params 17 1 = m)
    (hone : r.b 0 2 = 1) (hzero : zeroAt r.params 2 14 = true) (hrows : ranges (lasRows r.params 0 []) = none)
    (hrun : s.clusterHalted 1 = false) (hfree : ∀ p, s.servedBy l = some p → s.owner (refG p) = 0)
    (hspare : l < 64 ∨ (s.grp (l - 64)).1 ≠ 1) (hopen : 64 ≤ l ∨ s.gOpen l = false) (hsound : m ≤ 3 → (s.laser l).st ≠ 4)
    (hfailed : m = 4 → (s.laser l).st = 4)
    (hlit : m = 2 → ((s.laser l).st = 2 ∨ (s.laser l).st = 5) ∧ (s.laser l).channel = 0 ∧ (s.laser l).measValid = true
      ∧ (s.laser l).measChannel = 0 ∧ (s.laser l).freqErr.natAbs ≤ 250 ∧ (64 ≤ l ∨ (s.gp l).cabling = 1)) :
    cmdLaserSet r s = .done (lasAct (s, 0) (lasEntry r.params 0)).1
      (if (lasAct (s, 0) (lasEntry r.params 0)).2 == 0 then 0 else 0x0502) 1 (lasAct (s, 0) (lasEntry r.params 0)).2 := by
  have hel : (lasEntry r.params 0).1 = l := hl
  have hem : (lasEntry r.params 0).2.1 = m := hm
  have hes : (List.range 1).map (lasEntry r.params) = [lasEntry r.params 0] := rfl
  have hspare' : (decide (64 ≤ l) && (s.grp (l - 64)).1 == 1) = false := by
    rcases hspare with h | h
    · simp [Nat.not_le.mpr h]
    · simp [h]
  have hopen' : (decide (l < 64) && s.gOpen l) = false := by
    rcases hopen with h | h
    · simp [Nat.not_lt.mpr h]
    · simp [h]
  have hstate : (if m == 4 then (s.laser l).st != 4 else decide (m ≤ 3) && (s.laser l).st == 4) = false := by
    by_cases h4 : m = 4
    · simp [h4, hfailed h4]
    · by_cases h3 : m ≤ 3
      · simp [h4, hsound h3]
      · simp [h4, h3]
  have hready : (m == 2 && !(((s.laser l).st == 2 || (s.laser l).st == 5) && (s.laser l).channel == 0
      && (s.laser l).measValid && (s.laser l).measChannel == 0 && decide ((s.laser l).freqErr.natAbs ≤ 250)
      && (decide (64 ≤ l) || (s.gp l).cabling == 1))) = false := by
    by_cases h2 : m = 2
    · obtain ⟨hst, hchannel, hvalid, hmeas, herr, hcabled⟩ := hlit h2
      have hst' : ((s.laser l).st == 2 || (s.laser l).st == 5) = true := by simpa using hst
      have hcabled' : (decide (64 ≤ l) || (s.gp l).cabling == 1) = true := by
        rw [Bool.or_eq_true, decide_eq_true_eq, beq_iff_eq]
        exact hcabled
      rw [hst', hchannel, hvalid, hmeas, hcabled', decide_eq_true herr]
      exact Bool.and_false _
    · simp [h2]
  simp only [cmdLaserSet, hone, hes, hrun, List.find?, hel, hem, hspare', hopen', hstate, hready, ranges_lasRows hzero hrows]
  cases hs : s.servedBy l with
  | none => rfl
  | some p =>
    simp only [hfree p hs]
    rfl

theorem cmdLaserSet_owned {r : Req} {s : State} {l p : Nat} (hl : le r.params 16 1 = l) (hone : r.b 0 2 = 1)
    (hzero : zeroAt r.params 2 14 = true) (hrows : ranges (lasRows r.params 0 []) = none) (hrun : s.clusterHalted 1 = false)
    (hserved : s.servedBy l = some p) (howner : s.owner (refG p) ≠ 0) : cmdLaserSet r s = .done s 0x0301 l 0 := by
  have hel : (lasEntry r.params 0).1 = l := hl
  have hes : (List.range 1).map (lasEntry r.params) = [lasEntry r.params 0] := rfl
  have hown : (s.owner (refG p) != 0) = true := bne_iff_ne.mpr howner
  simp only [cmdLaserSet, hone, hes, hrun, List.find?, hel, hserved, hown, ranges_lasRows hzero hrows, Bool.true_or]
  rfl

theorem laserSet_owned (r : Req) (l p : Nat) (s : State) (hacc : accepts 0x0B04 r s = true) (hone : r.b 0 2 = 1)
    (hzero : zeroAt r.params 2 14 = true) (hrows : ranges (lasRows r.params 0 []) = none) (hrun : s.clusterHalted 1 = false)
    (hl : l = le r.params 16 1) (hserved : s.servedBy l = some p) (howner : s.owner (refG p) ≠ 0) :
    ∃ t, exec (.laserSet r) s = .next t ∧ Completed r s t 0x0301 l 0 ∧ Silent s t ∧ Quiet r s t
      ∧ t = { s with hif := t.hif, bnc := t.bnc, out := t.out } := by
  obtain ⟨u, hu, hc, hs, hq, b, h, n, o, rfl⟩ := State.hostRow_doneTraced (s := s) (run := cmdLaserSet)
    (fun b => { s with bnc := b }) hacc rfl (fun b hb => cmdLaserSet_owned hl.symm hone hzero hrows
      ((State.clusterHalted_traced hb 1).trans hrun) (by exact hserved) (by exact howner)) (fun _ => ⟨rfl, rfl, rfl⟩)
  exact ⟨_, hu, hc, hs, hq, rfl⟩

theorem laserSet_acts (r : Req) (l m : Nat) (s : State) (hacc : accepts 0x0B04 r s = true) (hone : r.b 0 2 = 1)
    (hzero : zeroAt r.params 2 14 = true) (hrows : ranges (lasRows r.params 0 []) = none) (hrun : s.clusterHalted 1 = false)
    (hl : l = le r.params 16 1) (hm : m = le r.params 17 1) (hfree : ∀ p, s.servedBy l = some p → s.owner (refG p) = 0)
    (hspare : l < 64 ∨ (s.grp (l - 64)).1 ≠ 1) (hopen : 64 ≤ l ∨ s.gOpen l = false) (hsound : m ≤ 3 → (s.laser l).st ≠ 4)
    (hfailed : m = 4 → (s.laser l).st = 4)
    (hlit : m = 2 → ((s.laser l).st = 2 ∨ (s.laser l).st = 5) ∧ (s.laser l).channel = 0 ∧ (s.laser l).measValid = true
      ∧ (s.laser l).measChannel = 0 ∧ (s.laser l).freqErr.natAbs ≤ 250 ∧ (64 ≤ l ∨ (s.gp l).cabling = 1)) :
    ∃ t, exec (.laserSet r) s = .next t
      ∧ (m ≠ 4 → Completed r s t 0 1 0)
      ∧ (m = 0 → (t.laser l).st = 5 ∧ (t.laser l).channel = le r.params 18 1 ∧ (t.laser l).gate = false
          ∧ (t.laser l).freqErr.natAbs ≤ 150)
      ∧ (m = 1 → (t.laser l).st = 5 ∧ (t.laser l).gate = false ∧ (t.laser l).byMaint = true)
      ∧ (m = 2 → t.laser l = { s.laser l with gate := true, byMaint := true })
      ∧ (m = 3 → t.laser l = { s.laser l with gate := false, byMaint := true })
      ∧ (m = 4 → (Completed r s t 0 1 0 ∧ (t.laser l).st = 0 ∧ (t.laser l).attempts = 0)
          ∨ (Completed r s t 0x0502 1 1 ∧ t.laser l = s.laser l))
      ∧ (m = 5 → (t.laser l).gate = false ∧ (t.laser l).byMaint = false ∧ (t.laser l).st ≠ 5)
      ∧ (∀ k, k ≠ l → t.laser k = s.laser k) ∧ Silent s t ∧ Quiet r s t
      ∧ t = { s with hif := t.hif, bnc := t.bnc, out := t.out, free := t.free
                     col := { s.col with laser := t.col.laser, group := t.col.group } } := by
  obtain ⟨cur, he⟩ : ∃ cur, lasEntry r.params 0 = (l, m, le r.params 18 1, cur) := by
    rw [hl, hm]
    exact ⟨_, rfl⟩
  have hcount : ∀ b, (lasAct ({ s with bnc := b }, 0) (l, m, le r.params 18 1, cur)).2
      = (lasAct (s, 0) (l, m, le r.params 18 1, cur)).2 := fun b => by
    rw [lasAct_count, lasAct_count]
    rfl
  obtain ⟨u, hu, hc, hsilent, hquiet, b, h, n, o, rfl⟩ := State.hostRow_doneTraced (s := s) (run := cmdLaserSet)
    (st := if (lasAct (s, 0) (l, m, le r.params 18 1, cur)).2 == 0 then 0 else 0x0502) (w0 := 1)
    (w1 := (lasAct (s, 0) (l, m, le r.params 18 1, cur)).2)
    (fun b => (lasAct ({ s with bnc := b }, 0) (l, m, le r.params 18 1, cur)).1) hacc rfl
    (fun b hb => by
      have hact := cmdLaserSet_acts (s := { s with bnc := b }) hl.symm hm.symm hone hzero hrows
        ((State.clusterHalted_traced hb 1).trans hrun) hfree hspare hopen hsound hfailed hlit
      rwa [he, hcount] at hact)
    (fun b => by
      obtain ⟨⟨_, _, _, hone⟩, -⟩ := lasAct_oneLaser { s with bnc := b } 0 (l, m, le r.params 18 1, cur)
      rw [hone]
      exact ⟨rfl, rfl, rfl⟩)
  obtain ⟨⟨laser, group, free, hframe⟩, hother⟩ := lasAct_oneLaser { s with bnc := b } 0 (l, m, le r.params 18 1, cur)
  refine ⟨_, hu, fun h4 => ?_, fun h0 => ?_, fun h1 => ?_, fun h2 => ?_, fun h3 => ?_, fun h4 => ?_, fun h5 => ?_, hother,
    hsilent, hquiet, ?_⟩
  · rw [lasAct_count, beq_false_of_ne h4] at hc
    exact hc
  · subst h0
    have hlaser := lasAct_tune { s with bnc := b } 0 l (le r.params 18 1, cur)
    refine ⟨congrArg Laser.st hlaser, congrArg Laser.channel hlaser, congrArg Laser.gate hlaser, ?_⟩
    refine (congrArg (fun x => x.freqErr.natAbs) hlaser).trans_le ?_
    simp only
    omega
  · subst h1
    obtain ⟨_, _, _, hlaser⟩ := lasAct_drive { s with bnc := b } 0 l (le r.params 18 1, cur)
    exact ⟨congrArg Laser.st hlaser, congrArg Laser.gate hlaser, congrArg Laser.byMaint hlaser⟩
  · subst h2
    exact lasAct_open { s with bnc := b } 0 l _
  · subst h3
    exact lasAct_shut { s with bnc := b } 0 l _
  · subst h4
    rw [lasAct_count] at hc
    cases hpass : (s.fresh 1).1 == 1 with
    | true =>
      have hlaser := lasAct_passes { s with bnc := b } 0 l (le r.params 18 1, cur) hpass
      have hcond : ((4 : Nat) == 4 && (s.fresh 1).1 != 1) = false := by rw [bne, hpass]; rfl
      rw [hcond] at hc
      exact .inl ⟨hc, congrArg Laser.st hlaser, congrArg Laser.attempts hlaser⟩
    | false =>
      have hlaser := lasAct_fails { s with bnc := b } 0 l (le r.params 18 1, cur) hpass
      have hcond : ((4 : Nat) == 4 && (s.fresh 1).1 != 1) = true := by rw [bne, hpass]; rfl
      rw [hcond] at hc
      exact .inr ⟨hc, hlaser⟩
  · subst h5
    have hlaser := lasAct_release { s with bnc := b } 0 l (le r.params 18 1, cur)
    refine ⟨congrArg Laser.gate hlaser, congrArg Laser.byMaint hlaser, fun hst => ?_⟩
    have hkept := (congrArg Laser.st hlaser).symm.trans hst
    by_cases hmaint : (s.laser l).st = 5
    · rw [if_pos (by exact beq_iff_eq.mpr hmaint)] at hkept
      cases hkept
    · rw [if_neg (by exact fun h => hmaint (beq_iff_eq.mp h))] at hkept
      exact hmaint hkept
  · rw [hframe]

end Sys2Proof.Machine

namespace Sys2Proof.Proofs

open Sys2Proof.Machine

/-- Settles O38: the check port by port, the controllers by their losses, LASER_SET by the mode of its entry. -/
theorem cablingRingsAndHand : Obligations.CablingRingsAndHand :=
  ⟨cablingCheckFrame_judges, cablingCheckFrame_closed, ringHeaterUpdate_heats, ringHeaterUpdate_stopped, gfControllerLost_reloads,
    gfControllerLost_stopped, laserSet_acts, laserSet_owned⟩

end Sys2Proof.Proofs
end

section
/-! SUPPORT. The standing stream (R153, R156, R163, R164, R315 to R317): what a control frame counts and changes on its path,
and what a burst header opens, closes or reports at its receiver. -/

namespace Sys2Proof

/-- The later entry of a key stands. -/
theorem Tbl.put_put {α : Type} (t : Tbl α) (k : Nat) (v w : α) : (t.put k v).put k w = t.put k w := by
  induction t with
  | nil => simp [Tbl.put]
  | cons e t ih =>
    obtain ⟨j, u⟩ := e
    rcases Nat.lt_trichotomy j k with h | rfl | h
    · simp [Tbl.put, h, ih]
    · simp [Tbl.put]
    · simp [Tbl.put, Nat.not_lt.mpr h.le, h.ne']

end Sys2Proof

namespace Sys2Proof.Machine

open Safety

@[simp] theorem State.gp_queueStanding (s : State) (n r c : Nat) (b : Bytes) (t : Nat) : (s.queueStanding n r c b).gp t = s.gp t := rfl

theorem State.path_stq (s : State) (q : List StFrame) (u r : Nat) :
    State.path { s with col := { s.col with stq := q } } u r = s.path u r := rfl

/-! ### Frames of the standing stream (R156) -/

/-- Judging the paths changes only since when a request has had none that works (R298). -/
theorem State.judgePaths_frame (s : State) : ∃ reqs, s.judgePaths = { s with fm := { s.fm with reqs := reqs } } := ⟨_, rfl⟩

/-- A frame taken on a standing port changes only the counts of bytes received. -/
theorem State.path_standingIn (s : State) (g : Nat) (b : Bytes) (u r : Nat) :
    ∃ rx due, (s.standingIn g b).path u r = { s.path u r with rxBytes := rx, ackDue := due } := by
  by_cases hkey : 64 * u + r = 64 * g + (s.gp g).expectRack
  · refine ⟨(s.path u r).rxBytes + b.length, true, ?_⟩
    simp only [State.path, State.standingIn, State.updPath, hkey, Tbl.get_upd]
  · refine ⟨(s.path u r).rxBytes, (s.path u r).ackDue, ?_⟩
    simp only [State.path, State.standingIn, State.updPath, Tbl.get_upd_ne _ _ _ _ hkey]

theorem controlFrames_refused (g : Fin 64) (frame : Bytes) (s : State) (h : s.standingFrameOk g frame = false) :
    exec (.ackRecord g frame) s = .next s ∧ exec (.nakRecord g frame) s = .next s
      ∧ exec (.preambleRequest g frame) s = .next s ∧ exec (.foreignLight g frame) s = .next s
      ∧ exec (.credit g frame) s = .next s := by
  simp only [exec, execAckRecord, execNakRecord, execPreambleRequest, execForeignLight, execCredit, h, Bool.not_false, Bool.true_or,
    if_true, and_self]

theorem ackRecord_stream (g : Fin 64) (frame : Bytes) (u r n : Nat) (s : State) (hok : s.standingFrameOk g frame = true)
    (hkind : ctlKind frame = 0x23) (hpid : ctlPid frame = 0) (hu : u = bits (byteAt frame 16) 0 6) (hr : r = ctlRack frame)
    (hn : n = be frame 24 8) (hacked : (s.path u r).acked < n) (hsent : n ≤ (s.path u r).sent) :
    ∃ t, exec (.ackRecord g frame) s = .next t
      ∧ t.path u r = { s.path u r with
          acked := n, broken := false, unacked := (s.path u r).unacked.filter (fun x => decide (n < x.1)) }
      ∧ (∀ k, k ≠ 64 * u + r → t.col.path.find k = s.col.path.find k)
      ∧ t = { s with col := { s.col with path := t.col.path }, fm := { s.fm with reqs := t.fm.reqs } } := by
  have hnext : exec (.ackRecord g frame) s = .next (s.ackStanding u r n) := by
    simp only [exec, execAckRecord, hok, hkind, hpid, ← hu, ← hr, ← hn, bne_self_eq_false, beq_self_eq_true, Bool.not_true,
      Bool.or_self, Bool.false_eq_true, if_false, if_true]
  have hnew : (decide (n ≤ (s.path u r).acked) || decide ((s.path u r).sent < n)) = false := by
    rw [decide_eq_false (by omega), decide_eq_false (by omega), Bool.or_self]
  obtain ⟨reqs, hjudge⟩ := (s.updPath u r (fun x => { x with
    acked := n, broken := false, unacked := x.unacked.filter (fun x => decide (n < x.1)) })).judgePaths_frame
  refine ⟨_, hnext, ?_⟩
  simp only [State.ackStanding, hnew, Bool.false_eq_true, if_false, hjudge]
  exact ⟨s.path_updPath u r _, fun k hk => Tbl.find_put_ne _ _ hk, rfl⟩

/-- A passage whose leg's bytes on a port have arrived up to `n` (R156). -/
def Passage.acknowledge (p : Passage) (t n : Nat) : Passage :=
  let prog := spreadAck p (p.senders t) n p.prog
  let sum := fun (q : Tbl GProg) => ((p.senders t).map (fun gk => (q.get (progKey gk.1 gk.2) ⟨0, 0, 0, []⟩).acked)).foldl (· + ·) 0
  { p with prog := prog, bytesOut := p.bytesOut + (sum prog - sum p.prog) }

theorem ackRecord_leg (g : Fin 64) (frame : Bytes) (p : Passage) (s : State) (hok : s.standingFrameOk g frame = true)
    (hkind : ctlKind frame = 0x23) (hpid : ctlPid frame ≠ 0)
    (hfind : s.psg.find (psgKey (ctlSlice frame) (ctlPid frame)) = some p) (hst : p.st = .running ∨ p.st = .stalled)
    (hleg : ctlLeg frame = p.leg) (hiter : ctlIter frame = p.iter % 2 ^ 48)
    (hdest : (s.gp (bits (byteAt frame 16) 0 6)).dest = ctlRack frame) :
    ∃ t q, exec (.ackRecord g frame) s = .next t ∧ t.psg.find (psgKey (ctlSlice frame) (ctlPid frame)) = some q
      ∧ q = { p with prog := q.prog, bytesOut := q.bytesOut } ∧ p.bytesOut ≤ q.bytesOut
      ∧ OtherPassages (ctlSlice frame) (ctlPid frame) s t ∧ t = { s with psg := t.psg } := by
  have hst' : (p.st == .running || p.st == .stalled) = true := by simpa using hst
  have hput : exec (.ackRecord g frame) s = .next { s with
      psg := s.psg.put (psgKey (ctlSlice frame) (ctlPid frame)) (p.acknowledge (bits (byteAt frame 16) 0 6) (be frame 24 8)) } := by
    simp only [exec, execAckRecord, hok, hkind, beq_false_of_ne hpid, hfind, hst', hleg, hiter, hdest, bne_self_eq_false,
      Bool.not_true, Bool.or_self, Bool.false_eq_true, if_false, State.updPsg_eq hfind]
    rfl
  exact ⟨_, _, hput, Tbl.find_put _ _ _, rfl, Nat.le_add_right _ _, OtherPassages.of_put rfl, rfl⟩

/-- The frames of a standing stream that are lost wait again, ahead of the others; the rest stay sent. -/
def State.sendAgain (s : State) (n u r : Nat) (hit : Nat × Nat × Nat × Bytes → Bool) : State :=
  let lost := (s.path u r).unacked.filter hit
  let s1 := s.updPath u r (fun x => { x with
    sent := x.sent - unackedBytes lost
    unacked := (x.unacked.filter (fun x => !hit x)).map (fun x =>
      (x.1 - unackedBytes (lost.filter (fun v => decide (v.1 ≤ x.1))), x.2)) })
  { s1 with col := { s1.col with stq := lost.map (fun x => (⟨n, r, precOf x.2.2.2, x.2.2.2, true⟩ : StFrame)) ++ s1.col.stq } }

theorem State.unacked_sendAgain (s : State) (n u r : Nat) (hit : Nat × Nat × Nat × Bytes → Bool) :
    ((s.sendAgain n u r hit).path u r).unacked.map (fun x => x.2)
      = ((s.path u r).unacked.filter (fun x => !hit x)).map (fun x => x.2) := by
  have hpath : ((s.sendAgain n u r hit).path u r).unacked
      = ((s.path u r).unacked.filter (fun x => !hit x)).map (fun x => (x.1 - unackedBytes
          (((s.path u r).unacked.filter hit).filter (fun v => decide (v.1 ≤ x.1))), x.2)) := by
    simp only [State.sendAgain, State.path_stq, State.path_updPath]
  rw [hpath, List.map_map]
  rfl

theorem nakRecord_stream (g : Fin 64) (frame : Bytes) (u r : Nat) (hit : Nat × Nat × Nat × Bytes → Bool) (s : State)
    (hok : s.standingFrameOk g frame = true) (hkind : ctlKind frame = 0x24) (hpid : ctlPid frame = 0)
    (hlo : 1 ≤ byteAt frame 17) (hhi : byteAt frame 17 ≤ 16) (hu : u = bits (byteAt frame 16) 0 6) (hr : r = ctlRack frame)
    (hhit : hit = (fun x => named (nakRanges frame) (x.2.1 - flitsOf x.2.2.2.length) x.2.1)) :
    ∃ t, exec (.nakRecord g frame) s = .next t
      ∧ t.col.stq = ((s.path u r).unacked.filter hit).map (fun x => ⟨ctlSlice frame, r, precOf x.2.2.2, x.2.2.2, true⟩)
          ++ s.col.stq
      ∧ (t.path u r).unacked.map (fun x => x.2) = ((s.path u r).unacked.filter (fun x => !hit x)).map (fun x => x.2)
      ∧ t = { s with col := { s.col with path := t.col.path, stq := t.col.stq } } := by
  obtain ⟨rx, due, hpath⟩ := s.path_standingIn g frame u r
  have hunacked : ((s.standingIn g frame).path u r).unacked = (s.path u r).unacked := by rw [hpath]
  have hnone : ((byteAt frame 17 == 0) = false) := beq_false_of_ne (by omega)
  have hmany : decide (16 < byteAt frame 17) = false := decide_eq_false (by omega)
  refine ⟨(s.standingIn g frame).sendAgain (ctlSlice frame) u r hit, ?_, ?_, ?_, rfl⟩
  · simp only [exec, execNakRecord, hok, hkind, hpid, hnone, hmany, ← hu, ← hr, hhit, bne_self_eq_false, beq_self_eq_true,
      Bool.not_true, Bool.or_self, Bool.false_eq_true, if_false, if_true]
    rfl
  · rw [← hunacked]
    rfl
  · rw [← hunacked]
    exact State.unacked_sendAgain _ _ _ _ _

theorem preambleRequest_again (g : Fin 64) (frame : Bytes) (u : Nat) (p : Passage) (s : State)
    (hok : s.standingFrameOk g frame = true) (hkind : ctlKind frame = 0x25) (hu : u = bits (byteAt frame 16) 0 6)
    (hfind : s.psg.find (psgKey (ctlSlice frame) (ctlPid frame)) = some p)
    (hst : p.st = .running ∨ p.st = .stalled ∨ p.st = .parked) (hleg : ctlLeg frame = p.leg)
    (hiter : ctlIter frame = p.iter % 2 ^ 48) (hlit : (s.gp u).st = 2) (hrole : (s.gp u).role = 1)
    (hdest : (s.gp u).dest = ctlRack frame) :
    ∃ t, exec (.preambleRequest g frame) s = .next t
      ∧ t.out = s.out ++ [.burst u (burstHeader 0 s.topo.hall s.topo.rack u (s.gp u).dest (ctlSlice frame) (ctlPid frame)
          p.leg p.iter 0 p.digest 0) []]
      ∧ t = { s with col := { s.col with path := t.col.path }, out := t.out } := by
  have hst' : (p.st == .running || p.st == .stalled || p.st == .parked) = true := by simpa [or_assoc] using hst
  have hfind' : (s.standingIn g frame).psg.find (psgKey (ctlSlice frame) (ctlPid frame)) = some p := hfind
  have hgp : (s.standingIn g frame).gp u = s.gp u := rfl
  refine ⟨(s.standingIn g frame).emit (.burst u (burstHeader 0 s.topo.hall s.topo.rack u (s.gp u).dest (ctlSlice frame)
    (ctlPid frame) p.leg p.iter 0 p.digest 0) []), ?_, rfl, rfl⟩
  simp only [exec, execPreambleRequest, hok, hkind, ← hu, hfind', hgp, hst', hleg, hiter, hlit, hrole, hdest, bne_self_eq_false,
    Bool.not_true, Bool.or_self, Bool.false_eq_true, if_false]
  rfl

/-! ### Foreign light reported (R164) -/

/-- A report finds a port that it may relock. -/
theorem foreignLight_reports {g : Fin 64} {frame : Bytes} {u : Nat} {s : State} (hok : s.standingFrameOk g frame = true)
    (hkind : ctlKind frame = 0x26) (hu : u = bits (byteAt frame 16) 0 6) :
    exec (.foreignLight g frame) s = .next ((s.standingIn g frame).foreignReport u) := by
  simp only [exec, execForeignLight, hok, hkind, ← hu, bne_self_eq_false, Bool.not_true, Bool.or_self, Bool.false_eq_true, if_false]

/-- The port relocked for foreign light not more than 10 ms before. -/
def GPort.foreignAgain (x : GPort) (now : Nat) : Bool :=
  match x.foreignAt with
  | some a => decide (now ≤ a + 10000000)
  | none => false

theorem GPort.foreignAgain_first {x : GPort} {now : Nat} (h : ∀ a, x.foreignAt = some a → a + 10000000 < now) :
    x.foreignAgain now = false := by
  unfold GPort.foreignAgain
  split
  · next a hat => exact decide_eq_false (Nat.not_le.mpr (h a hat))
  · rfl

theorem GPort.foreignAgain_soon {x : GPort} {now a : Nat} (hat : x.foreignAt = some a) (h : now ≤ a + 10000000) :
    x.foreignAgain now = true := by
  simp only [GPort.foreignAgain, hat, h, decide_true]

theorem State.foreignReport_eq {s : State} {u : Nat} (h4 : (s.gp u).st ≠ 4) (h5 : (s.gp u).st ≠ 5) (h6 : (s.gp u).st ≠ 6)
    (htake : (s.gp u).takeover = false) :
    s.foreignReport u = if (s.gp u).foreignAgain s.ns then s.laserFail (s.gp u).laser
      else (s.updGp u (fun x => { x with st := 3, attempts := 0, foreignRun := true })).updLaser (s.gp u).laser
        (fun l => { l with gate := false, st := if l.st == 2 then 3 else l.st }) := by
  simp only [State.foreignReport, beq_false_of_ne h4, beq_false_of_ne h5, beq_false_of_ne h6, htake, Bool.or_self,
    Bool.false_eq_true, if_false]
  rfl

theorem foreignLight_relocks (g : Fin 64) (frame : Bytes) (u : Nat) (s : State) (hok : s.standingFrameOk g frame = true)
    (hkind : ctlKind frame = 0x26) (hu : u = bits (byteAt frame 16) 0 6) (h4 : (s.gp u).st ≠ 4) (h5 : (s.gp u).st ≠ 5)
    (h6 : (s.gp u).st ≠ 6) (htake : (s.gp u).takeover = false)
    (hago : ∀ a, (s.gp u).foreignAt = some a → a + 10000000 < s.ns) :
    ∃ t, exec (.foreignLight g frame) s = .next t
      ∧ t.gp u = { s.gp u with st := 3, attempts := 0, foreignRun := true } ∧ (∀ q, q ≠ u → t.gp q = s.gp q)
      ∧ (t.laser (s.gp u).laser).gate = false
      ∧ t = { s with col := { s.col with path := t.col.path, port := t.col.port, laser := t.col.laser } } := by
  have hgp : (s.standingIn g frame).gp u = s.gp u := rfl
  have hfirst : (s.gp u).foreignAgain (s.standingIn g frame).ns = false := GPort.foreignAgain_first hago
  refine ⟨_, foreignLight_reports hok hkind hu, ?_⟩
  rw [State.foreignReport_eq (s := s.standingIn g frame) h4 h5 h6 htake, hgp, hfirst, if_neg Bool.false_ne_true]
  refine ⟨?_, fun q hq => ?_, congrArg Laser.gate (State.laser_updLaser _ _ _), rfl⟩
  · rw [State.gp_updLaser, State.gp_updGp, hgp]
  · rw [State.gp_updLaser, State.gp_updGp_ne _ _ hq]
    rfl

theorem foreignLight_again (g : Fin 64) (frame : Bytes) (u a : Nat) (s : State) (hok : s.standingFrameOk g frame = true)
    (hkind : ctlKind frame = 0x26) (hu : u = bits (byteAt frame 16) 0 6) (h4 : (s.gp u).st ≠ 4) (h5 : (s.gp u).st ≠ 5)
    (h6 : (s.gp u).st ≠ 6) (htake : (s.gp u).takeover = false) (hat : (s.gp u).foreignAt = some a)
    (hsoon : s.ns ≤ a + 10000000) :
    ∃ t, exec (.foreignLight g frame) s = .next t ∧ (t.laser (s.gp u).laser).st = 4 ∧ (t.laser (s.gp u).laser).gate = false := by
  have hgp : (s.standingIn g frame).gp u = s.gp u := rfl
  have hagain : (s.gp u).foreignAgain (s.standingIn g frame).ns = true := GPort.foreignAgain_soon hat hsoon
  obtain ⟨hst, hgate, -, -⟩ := (s.standingIn g frame).laserFail_spec (s.gp u).laser
  refine ⟨_, foreignLight_reports hok hkind hu, ?_⟩
  rw [State.foreignReport_eq (s := s.standingIn g frame) h4 h5 h6 htake, hgp, hagain, if_pos rfl]
  exact ⟨hst, hgate⟩

theorem credit_raises (g : Fin 64) (frame : Bytes) (u r : Nat) (s : State) (hok : s.standingFrameOk g frame = true)
    (hkind : ctlKind frame = 0x27) (hu : u = bits (byteAt frame 16) 0 6) (hr : r = ctlRack frame) :
    ∃ t, exec (.credit g frame) s = .next t ∧ (t.path u r).limit = newLimit (s.path u r).limit (be frame 18 2)
      ∧ t = { s with col := { s.col with path := t.col.path } } := by
  obtain ⟨rx, due, hpath⟩ := s.path_standingIn g frame u r
  refine ⟨(s.standingIn g frame).updPath u r (fun x => { x with limit := newLimit x.limit (be frame 18 2) }), ?_, ?_, rfl⟩
  · simp only [exec, execCredit, hok, hkind, ← hu, ← hr, bne_self_eq_false, Bool.not_true, Bool.or_self, Bool.false_eq_true, if_false]
  · rw [State.path_updPath, hpath]

/-! ### Burst headers (R153) -/

/-- A preamble or header that fails closes the burst and is counted; a request for another may be queued. -/
theorem State.preambleFail_spec (s : State) (g : Nat) :
    (s.preambleFail g).gp g = { s.gp g with burst := none, preambleFails := satInc 8 (s.gp g).preambleFails }
      ∧ (∀ q, q ≠ g → (s.preambleFail g).gp q = s.gp q)
      ∧ s.preambleFail g
        = { s with col := { s.col with port := (s.preambleFail g).col.port, stq := (s.preambleFail g).col.stq } } := by
  unfold State.preambleFail
  split
  · refine ⟨?_, fun q hq => ?_, rfl⟩
    · rw [State.gp_queueStanding, State.gp_updGp]
    · rw [State.gp_queueStanding, State.gp_updGp_ne _ _ hq]
  · exact ⟨s.gp_updGp g _, fun q hq => s.gp_updGp_ne _ hq, rfl⟩

/-- Foreign light is event 4 and one ERROR; a report may be queued. -/
theorem State.foreignLight_spec (s : State) (g r : Nat) :
    bit (s.foreignLight g r).col.events 4 = true ∧ (s.foreignLight g r).log.created = s.log.created + 1
      ∧ (∀ q, (s.foreignLight g r).gp q = s.gp q)
      ∧ s.foreignLight g r = { s with
          col := { s.col with events := (s.foreignLight g r).col.events, stq := (s.foreignLight g r).col.stq }
          log := (s.foreignLight g r).log } := by
  obtain ⟨log, hlog, hcreated⟩ := (s.colEvent 4).logAdd_eq (sev := sevError) (by decide) (s.owner (refG g))
    (evNamed 3 "FOREIGN_LIGHT") (agentKind 3 g) [g, r]
  unfold State.foreignLight
  simp only [hlog]
  split
  · exact ⟨bit_setBit_self _ _, hcreated, fun _ => rfl, rfl⟩
  · exact ⟨bit_setBit_self _ _, hcreated, fun _ => rfl, rfl⟩

theorem burstHeader_loopback (g : Fin 64) (header : Option Bytes) (flit : Bytes) (s : State) (h : (s.gp g).st = 6) :
    exec (.burstHeader g header flit) s = .next s := by
  simp only [exec, execBurstHeader, h, beq_self_eq_true, Bool.true_or, if_true]

section
variable {g : Fin 64} {b flit : Bytes} {s : State} (hst : (s.gp g).st ≠ 6)
include hst

theorem burstHeader_fails {header : Option Bytes} (hlit : s.col.dark = false)
    (hbad : header = none ∨ ∃ b, header = some b ∧ headerGood b = false) :
    exec (.burstHeader g header flit) s = .next (s.preambleFail g) := by
  rcases hbad with rfl | ⟨b, rfl, hbad⟩
  · simp only [exec, execBurstHeader, beq_false_of_ne hst, hlit, Bool.and_false, Bool.or_self, Bool.false_eq_true, if_false]
  · simp only [exec, execBurstHeader, beq_false_of_ne hst, hlit, hbad, Bool.and_false, Bool.or_self, Bool.false_eq_true, if_false,
      Bool.not_false, if_true]

theorem burstHeader_foreign (hlit : s.col.dark = false) (hgood : headerGood b = true)
    (helse : (bhdr b).dst ≠ s.topo.rack ∨ (bhdr b).port ≠ g.val ∨ (bhdr b).hall ≠ s.topo.hall
      ∨ (bhdr b).chan ≠ channelTo (bhdr b).src (bhdr b).dst) :
    exec (.burstHeader g (some b) flit) s
      = .next ((s.updGp g (fun x => { x with burst := none })).foreignLight g (bhdr b).src) := by
  have hother : ((bhdr b).dst != s.topo.rack || (bhdr b).port != g.val || (bhdr b).chan != channelTo (bhdr b).src (bhdr b).dst
      || (bhdr b).hall != s.topo.hall) = true := by
    rcases helse with h | h | h | h <;> simp [h]
  simp only [exec, execBurstHeader, beq_false_of_ne hst, hlit, hgood, hother, Bool.and_false, Bool.or_self, Bool.false_eq_true,
    Bool.not_true, if_false, Bool.true_or, if_true]

section
variable (hgood : headerGood b = true) (hdst : (bhdr b).dst = s.topo.rack) (hport : (bhdr b).port = g.val)
  (hhall : (bhdr b).hall = s.topo.hall) (hchan : (bhdr b).chan = channelTo (bhdr b).src (bhdr b).dst)
include hgood hdst hport hhall hchan

theorem burstHeader_atLeg (hport' : (s.standingPorts (s.owner (refG g))).contains g.val = false)
    (hsource : ((s.legsAt g).map (fun x => x.2.2.2.2.2)).contains (bhdr b).src = true) :
    exec (.burstHeader g (some b) flit) s = .next (s.legHeader g (bhdr b)) := by
  simp only [exec, execBurstHeader, beq_false_of_ne hst, hgood, hport', hdst ▸ hchan, hdst, hport, hhall, hsource, bne_self_eq_false,
    Bool.false_and, Bool.or_self, Bool.false_eq_true, Bool.not_true, if_false]

theorem burstHeader_atStanding (hlit : s.col.dark = false) (hstanding : (s.standingPorts (s.owner (refG g))).contains g.val = true)
    (hvalid : (s.gp g).expectValid = true) (hsrc : (bhdr b).src = (s.gp g).expectRack) :
    exec (.burstHeader g (some b) flit) s = .next (s.standingHeader g (bhdr b) flit) := by
  have hsource : [(s.gp g).expectRack].contains (bhdr b).src = true := by simp [hsrc]
  simp only [exec, execBurstHeader, beq_false_of_ne hst, hlit, hgood, hstanding, hvalid, hdst ▸ hchan, hdst, hport, hhall, hsource,
    bne_self_eq_false, Bool.and_false, Bool.or_self, Bool.false_eq_true, Bool.not_true, if_false, if_true]

end

end

theorem burstHeader_bad (g : Fin 64) (header : Option Bytes) (flit : Bytes) (s : State) (hst : (s.gp g).st ≠ 6)
    (hlit : s.col.dark = false) (hbad : header = none ∨ ∃ b, header = some b ∧ headerGood b = false) :
    ∃ t, exec (.burstHeader g header flit) s = .next t
      ∧ t.gp g = { s.gp g with burst := none, preambleFails := satInc 8 (s.gp g).preambleFails }
      ∧ (∀ q, q ≠ g.val → t.gp q = s.gp q) ∧ t = { s with col := { s.col with port := t.col.port, stq := t.col.stq } } := by
  exact ⟨_, burstHeader_fails hst hlit hbad, s.preambleFail_spec g⟩

theorem burstHeader_elsewhere (g : Fin 64) (b flit : Bytes) (s : State) (hst : (s.gp g).st ≠ 6) (hlit : s.col.dark = false)
    (hgood : headerGood b = true)
    (helse : (bhdr b).dst ≠ s.topo.rack ∨ (bhdr b).port ≠ g.val ∨ (bhdr b).hall ≠ s.topo.hall
      ∨ (bhdr b).chan ≠ channelTo (bhdr b).src (bhdr b).dst) :
    ∃ t, exec (.burstHeader g (some b) flit) s = .next t ∧ (t.gp g).burst = none ∧ bit t.col.events 4 = true
      ∧ t.log.created = s.log.created + 1 ∧ (∀ q, q ≠ g.val → t.gp q = s.gp q) := by
  obtain ⟨hevent, hcreated, hgp, -⟩ := (s.updGp g (fun x => { x with burst := none })).foreignLight_spec g (bhdr b).src
  exact ⟨_, burstHeader_foreign hst hlit hgood helse,
    congrArg GPort.burst ((hgp g).trans (s.gp_updGp g _)), hevent, hcreated, fun q hq => (hgp q).trans (s.gp_updGp_ne _ hq)⟩

theorem burstHeader_leg (g : Fin 64) (b flit : Bytes) (x : Nat × Nat × Passage × Nat × Nat × Nat) (s : State)
    (hst : (s.gp g).st ≠ 6) (hleg : (s.standingPorts (s.owner (refG g))).contains g.val = false) (hgood : headerGood b = true)
    (hdst : (bhdr b).dst = s.topo.rack) (hport : (bhdr b).port = g.val) (hhall : (bhdr b).hall = s.topo.hall)
    (hchan : (bhdr b).chan = channelTo (bhdr b).src (bhdr b).dst) (_hkind : (bhdr b).kind = 0)
    (hfound : (s.legsAt g).find? (fun x => (bhdr b).kind == 0 && (bhdr b).slice == x.1 && (bhdr b).pid == x.2.1
      && (bhdr b).digest == x.2.2.1.digest && (bhdr b).leg == x.2.2.2.1 && (bhdr b).iter == x.2.2.2.2.1 % 2 ^ 48
      && (bhdr b).src == x.2.2.2.2.2) = some x) :
    ∃ t, exec (.burstHeader g (some b) flit) s = .next t
      ∧ t.gp g = { s.gp g with burst := some (x.1, x.2.1, (bhdr b).leg, (bhdr b).iter) }
      ∧ (∀ q, q ≠ g.val → t.gp q = s.gp q) ∧ t = { s with col := { s.col with port := t.col.port } } := by
  have hmatch := List.find?_some hfound
  simp only [Bool.and_eq_true, beq_iff_eq] at hmatch
  obtain ⟨-, hsrc⟩ := hmatch
  have hsource : ((s.legsAt g).map (fun x => x.2.2.2.2.2)).contains (bhdr b).src = true :=
    List.contains_iff_mem.mpr (hsrc ▸ List.mem_map_of_mem (List.mem_of_find?_eq_some hfound))
  have hopen : s.legHeader g (bhdr b)
      = s.updGp g (fun y => { y with burst := some (x.1, x.2.1, (bhdr b).leg, (bhdr b).iter) }) := by
    simp only [State.legHeader, hfound]
  refine ⟨_, burstHeader_atLeg hst hgood hdst hport hhall hchan hleg hsource, ?_⟩
  rw [hopen]
  exact ⟨s.gp_updGp g _, fun q hq => s.gp_updGp_ne _ hq, rfl⟩

theorem burstHeader_standing (g : Fin 64) (b flit : Bytes) (n : Nat) (s : State) (hst : (s.gp g).st ≠ 6)
    (hlit : s.col.dark = false) (hn : n = s.owner (refG g)) (hstanding : (s.standingPorts n).contains g.val = true)
    (hgood : headerGood b = true) (hdst : (bhdr b).dst = s.topo.rack) (hport : (bhdr b).port = g.val)
    (hhall : (bhdr b).hall = s.topo.hall) (hchan : (bhdr b).chan = channelTo (bhdr b).src (bhdr b).dst)
    (hvalid : (s.gp g).expectValid = true) (hsrc : (bhdr b).src = (s.gp g).expectRack) (hslice : (bhdr b).slice = n)
    (hslot : (bhdr b).slot = s.col.slot) (hpid : (bhdr b).pid = 0)
    (hkind : (bhdr b).kind = 1 ∧ (bhdr b).digest = s.compassDigest n ∨ (bhdr b).kind = 2) :
    ∃ t, exec (.burstHeader g (some b) flit) s = .next t
      ∧ t.gp g = { s.gp g with burst := some (n, 0, 0, 0), errLeg := none } ∧ (∀ q, q ≠ g.val → t.gp q = s.gp q)
      ∧ (t.path g (bhdr b).src).limit = newLimit (s.path g (bhdr b).src).limit
          ((Config.standingCredit.toNat + (bhdr b).cred) % 65536)
      ∧ t = { s with col := { s.col with port := t.col.port, path := t.col.path } } := by
  have hopen : s.standingHeader g (bhdr b) flit
      = (s.updGp g (fun x => { x with burst := some (n, 0, 0, 0), errLeg := none })).updPath g (bhdr b).src (fun x => { x with
          limit := newLimit x.limit ((Config.standingCredit.toNat + (bhdr b).cred) % 65536) }) := by
    rcases hkind with ⟨hkind, hdigest⟩ | hkind
    · simp [State.standingHeader, hkind, ← hn, hslice, hslot, hpid, hdigest]
    · simp [State.standingHeader, hkind, ← hn, hslice, hslot, hpid]
  refine ⟨_, burstHeader_atStanding hst hgood hdst hport hhall hchan hlit (hn ▸ hstanding) hvalid hsrc, ?_⟩
  rw [hopen]
  refine ⟨?_, fun q hq => ?_, congrArg Path.limit (State.path_updPath _ _ _ _), rfl⟩
  · rw [State.gp_updPath, State.gp_updGp]
  · rw [State.gp_updPath, State.gp_updGp_ne _ _ hq]

/-! ### HAIL bursts (R315 to R317) -/

/-- A slice that has heard its own digest from a rack on a port; READY in colour once that was the last. -/
def Slice.hear (x : Slice) (src port : Nat) (last : Bool) : Slice :=
  { x with heard := setBit x.heard src, heardPorts := setBit x.heardPorts port, mismatch := clrBit x.mismatch src
           colour := if last then 2 else x.colour }

/-- Every other rack, and every standing port, has been heard once `src` is heard on `port`. -/
def State.lastHeard (s : State) (n src port : Nat) (x : Slice) : Bool :=
  x.colour == 1 && (s.others x.rackMask).all (bit (setBit x.heard src)) && (s.standingPorts n).all (bit (setBit x.heardPorts port))

theorem Slice.colour_hear (s : State) (n src port : Nat) (x : Slice) :
    (x.hear src port (s.lastHeard n src port x)).colour = 2 ↔ x.colour = 2
      ∨ x.colour = 1 ∧ (∀ r ∈ s.others x.rackMask, bit (setBit x.heard src) r = true)
        ∧ ∀ p ∈ s.standingPorts n, bit (setBit x.heardPorts port) p = true := by
  have hlast : s.lastHeard n src port x = true ↔ x.colour = 1
      ∧ (∀ r ∈ s.others x.rackMask, bit (setBit x.heard src) r = true)
      ∧ ∀ p ∈ s.standingPorts n, bit (setBit x.heardPorts port) p = true := by
    simp only [State.lastHeard, Bool.and_eq_true, beq_iff_eq, List.all_eq_true, and_assoc]
  rw [← hlast, Slice.hear]
  cases s.lastHeard n src port x <;> simp

section
variable {s : State} {n t : Nat} {x : Slice} {h : BHdr} {flit : Bytes} (hfind : s.topo.slice.find n = some x)
  (hgood : flitGood flit = true) (htype : ftypeOf flit = 3) (hnode : be flit 20 8 ≠ 0)
include hfind hgood htype hnode

theorem State.hailIn_own (hdigest : h.digest = s.sliceDigest n) :
    s.hailIn t n h flit
      = { s with topo := { s.topo with slice := s.topo.slice.put n (x.hear h.src t (s.lastHeard n h.src t x)) } } := by
  have hget : s.topo.slice.get n (Slice.new 0 0 0 0) = x := by rw [Tbl.get, hfind]; rfl
  have hnode' : ((hailOf flit).nodeId == 0) = false := beq_false_of_ne hnode
  simp only [State.hailIn, hget, hgood, htype, hnode', hdigest, bne_self_eq_false, Bool.not_true, Bool.or_self, Bool.false_eq_true,
    if_false, beq_self_eq_true, if_true, State.updSlice_eq _ hfind]
  rfl

/-- Another digest is recorded against its rack, with an ERROR at most once a minute. -/
theorem State.hailIn_other (hdigest : h.digest ≠ s.sliceDigest n) : ∃ at_ log,
    s.hailIn t n h flit = { s with
      topo := { s.topo with slice := s.topo.slice.put n { x with mismatch := setBit x.mismatch h.src, mismatchAt := at_ } }
      log := log } := by
  have hget : s.topo.slice.get n (Slice.new 0 0 0 0) = x := by rw [Tbl.get, hfind]; rfl
  have hnode' : ((hailOf flit).nodeId == 0) = false := beq_false_of_ne hnode
  simp only [State.hailIn, hget, hgood, htype, hnode', beq_false_of_ne hdigest, bne_self_eq_false, Bool.not_true, Bool.or_self,
    Bool.false_eq_true, if_false, State.updSlice_eq _ hfind]
  split_ifs
  · rw [State.logAdd_frame, State.updSlice_eq _ (Tbl.find_put _ _ _), Tbl.put_put]
    exact ⟨_, _, rfl⟩
  · exact ⟨_, _, rfl⟩

end

theorem burstHeader_hail (g : Fin 64) (b flit : Bytes) (n : Nat) (x : Slice) (s : State) (hst : (s.gp g).st ≠ 6)
    (hlit : s.col.dark = false) (hn : n = s.owner (refG g)) (hstanding : (s.standingPorts n).contains g.val = true)
    (hgood : headerGood b = true) (hdst : (bhdr b).dst = s.topo.rack) (hport : (bhdr b).port = g.val)
    (hhall : (bhdr b).hall = s.topo.hall) (hchan : (bhdr b).chan = channelTo (bhdr b).src (bhdr b).dst)
    (hvalid : (s.gp g).expectValid = true) (hsrc : (bhdr b).src = (s.gp g).expectRack) (hkind : (bhdr b).kind = 4)
    (hslice : (bhdr b).slice = 0) (hflit : flitGood flit = true) (htype : ftypeOf flit = 3) (hnode : be flit 20 8 ≠ 0)
    (hfind : s.topo.slice.find n = some x) :
    ((bhdr b).digest = s.sliceDigest n →
      ∃ t y, exec (.burstHeader g (some b) flit) s = .next t ∧ t.topo.slice.find n = some y
        ∧ y = { x with heard := y.heard, heardPorts := y.heardPorts, mismatch := y.mismatch, colour := y.colour }
        ∧ bit y.heard (bhdr b).src = true ∧ bit y.heardPorts g = true ∧ bit y.mismatch (bhdr b).src = false
        ∧ (y.colour = 2 ↔ x.colour = 2 ∨ x.colour = 1 ∧ (∀ r ∈ s.others x.rackMask, bit y.heard r = true)
            ∧ ∀ p ∈ s.standingPorts n, bit y.heardPorts p = true)
        ∧ (∀ m, m ≠ n → t.topo.slice.find m = s.topo.slice.find m)
        ∧ t = { s with topo := { s.topo with slice := t.topo.slice } })
    ∧ ((bhdr b).digest ≠ s.sliceDigest n →
      ∃ t y, exec (.burstHeader g (some b) flit) s = .next t ∧ t.topo.slice.find n = some y
        ∧ bit y.mismatch (bhdr b).src = true ∧ y.colour = x.colour
        ∧ t = { s with topo := { s.topo with slice := t.topo.slice }, log := t.log }) := by
  have hhail : exec (.burstHeader g (some b) flit) s = .next (s.hailIn g n (bhdr b) flit) := by
    rw [burstHeader_atStanding hst hgood hdst hport hhall hchan hlit (hn ▸ hstanding) hvalid hsrc]
    simp only [State.standingHeader, hkind, hslice, beq_self_eq_true, if_true, hn]
  rw [hhail]
  refine ⟨fun hdigest => ?_, fun hdigest => ?_⟩
  · rw [State.hailIn_own hfind hflit htype hnode hdigest]
    exact ⟨_, _, rfl, Tbl.find_put _ _ _, rfl, bit_setBit_self _ _, bit_setBit_self _ _, bit_clrBit_self _ _,
      Slice.colour_hear s n _ _ x, fun m hm => Tbl.find_put_ne _ _ hm, rfl⟩
  · obtain ⟨at_, log, hother⟩ := State.hailIn_other (t := g) hfind hflit htype hnode hdigest
    rw [hother]
    exact ⟨_, _, rfl, Tbl.find_put _ _ _, bit_setBit_self _ _, rfl, rfl⟩

theorem foreignPilot_expected (g rack : Fin 64) (s : State) (hvalid : (s.gp g).expectValid = true)
    (hrack : (s.gp g).expectRack = rack.val) : exec (.foreignPilot g rack) s = .next s := by
  simp only [exec, execForeignPilot, hvalid, hrack, beq_self_eq_true, Bool.and_self, if_true]

theorem foreignPilot_reports (g rack : Fin 64) (s : State)
    (h : (s.gp g).expectValid = false ∨ (s.gp g).expectRack ≠ rack.val) :
    ∃ t, exec (.foreignPilot g rack) s = .next t ∧ (t.gp g).pilotRack = rack.val ∧ (t.gp g).pilotValid = true
      ∧ bit t.col.events 4 = true ∧ t.log.created = s.log.created + 1 ∧ (∀ q, q ≠ g.val → t.gp q = s.gp q)
      ∧ t = { s with col := { s.col with port := t.col.port, events := t.col.events, stq := t.col.stq }, log := t.log } := by
  have hunexpected : ((s.gp g).expectValid && (s.gp g).expectRack == rack.val) = false := by
    rcases h with h | h <;> simp [h]
  obtain ⟨hevent, hcreated, hgp, hframe⟩ := (s.updGp g (fun y => { y with
    pilotRack := rack, pilotValid := true, pilots := 1 + b2n (s.gp g).expectValid })).foreignLight_spec g rack
  have hport := (hgp g).trans (s.gp_updGp g _)
  refine ⟨_, ?_, congrArg GPort.pilotRack hport, congrArg GPort.pilotValid hport, hevent, hcreated,
    fun q hq => (hgp q).trans (s.gp_updGp_ne _ hq), ?_⟩
  · simp only [exec, execForeignPilot, hunexpected, Bool.false_eq_true, if_false]
    rfl
  · rw [hframe]
    rfl

end Sys2Proof.Machine

namespace Sys2Proof.Proofs

open Sys2Proof.Machine

/-- Settles O36: the control frames by kind, then the headers from the ones refused to the ones taken. -/
theorem standingStreams : Obligations.StandingStreams :=
  ⟨⟨controlFrames_refused, ackRecord_stream, ackRecord_leg, nakRecord_stream, preambleRequest_again, foreignLight_relocks,
      foreignLight_again, credit_raises⟩,
    burstHeader_loopback, burstHeader_bad, burstHeader_elsewhere, burstHeader_leg, burstHeader_standing, burstHeader_hail,
    foreignPilot_expected, foreignPilot_reports⟩

end Sys2Proof.Proofs
end

section
/-! SUPPORT. The compass (R157 to R160, R170, R315): what a slot leaves alone, the burst that a standing port of a slice that
hails sends, and when the standing ports go dark. -/

namespace Sys2Proof.Machine

open Safety

/-! ### What a slot leaves alone -/

/-- Only the streams over the standing ports, passages and fabric requests differ. -/
def StreamsOnly (s t : State) : Prop :=
  ∃ path stq psg fm, t = { s with col := { s.col with path := path, stq := stq }, psg := psg, fm := fm }

theorem StreamsOnly.rfl {s : State} : StreamsOnly s s := ⟨_, _, _, _, Eq.refl s⟩

theorem StreamsOnly.trans {s t u : State} : StreamsOnly s t → StreamsOnly t u → StreamsOnly s u := by
  rintro ⟨_, _, _, _, rfl⟩ ⟨_, _, _, _, rfl⟩
  exact ⟨_, _, _, _, Eq.refl _⟩

theorem StreamsOnly.foldl {α : Type} {g : State → α → State} (h : ∀ s x, StreamsOnly s (g s x)) (l : List α) (s : State) :
    StreamsOnly s (l.foldl g s) :=
  List.foldlRecOn l g (motive := StreamsOnly s) StreamsOnly.rfl (fun _ ht x _ => ht.trans (h _ x))

theorem StreamsOnly.gp {s t : State} (h : StreamsOnly s t) (q : Nat) : t.gp q = s.gp q := by
  obtain ⟨_, _, _, _, rfl⟩ := h
  exact Eq.refl _

theorem StreamsOnly.dark {s t : State} : StreamsOnly s t → t.col.dark = s.col.dark := by
  rintro ⟨_, _, _, _, rfl⟩
  exact Eq.refl _

theorem StreamsOnly.sent {s t : State} {o : Out} (h : StreamsOnly s t) (ho : o ∈ s.out) : o ∈ t.out := by
  obtain ⟨_, _, _, _, rfl⟩ := h
  exact ho

theorem State.updPsg_streamsOnly (s : State) (n pid : Nat) (f : Passage → Passage) : StreamsOnly s (s.updPsg n pid f) :=
  ⟨_, _, _, _, s.updPsg_frame n pid f⟩

theorem State.queueStanding_streamsOnly (s : State) (n r c : Nat) (b : Bytes) : StreamsOnly s (s.queueStanding n r c b) :=
  ⟨_, _, _, _, rfl⟩

theorem State.sendReadies_streamsOnly (s : State) (n : Nat) : StreamsOnly s (s.sendReadies n) := by
  unfold State.sendReadies
  split
  · exact StreamsOnly.rfl
  · refine StreamsOnly.foldl (fun s e => ?_) _ s
    dsimp only
    split
    · split
      · exact StreamsOnly.rfl
      · refine StreamsOnly.foldl (fun s r => ?_) _ s
        split_ifs
        · exact (s.queueStanding_streamsOnly _ _ _ _).trans (State.updPsg_streamsOnly _ _ _ _)
        · exact StreamsOnly.rfl
    · exact StreamsOnly.rfl

theorem State.sendNaks_streamsOnly (s : State) (n : Nat) : StreamsOnly s (s.sendNaks n) := by
  refine StreamsOnly.foldl (fun s e => ?_) _ s
  split
  · exact StreamsOnly.rfl
  · refine StreamsOnly.foldl (fun s x => ?_) _ s
    dsimp only
    split_ifs
    · exact StreamsOnly.rfl
    · exact (s.queueStanding_streamsOnly _ _ _ _).trans (State.updPsg_streamsOnly _ _ _ _)

theorem State.queueAcks_streamsOnly (s : State) (n dst : Nat) : StreamsOnly s (s.queueAcks n dst) := by
  refine StreamsOnly.foldl (fun s u => ?_) _ s
  split
  · exact ⟨_, _, _, _, rfl⟩
  · exact StreamsOnly.rfl

theorem State.sendItem_streamsOnly (acc : State × List Bytes) (t dst : Nat) (i : StItem) :
    StreamsOnly acc.1 (State.sendItem acc t dst i).1 := by
  simp only [State.sendItem]
  split
  · split
    · exact ⟨_, _, _, _, rfl⟩
    · exact ⟨_, _, _, _, rfl⟩
  · split
    · exact ⟨_, _, _, _, rfl⟩
    · exact ⟨_, _, _, _, rfl⟩

theorem State.breakPaths_streamsOnly (s : State) (n : Nat) : StreamsOnly s (s.breakPaths n) := by
  refine StreamsOnly.foldl (fun s t => StreamsOnly.foldl (fun s r => ?_) _ s) _ s
  dsimp only
  split_ifs
  · exact StreamsOnly.rfl
  · exact ⟨_, _, _, _, rfl⟩

theorem State.judgePaths_streamsOnly (s : State) : StreamsOnly s s.judgePaths := ⟨_, _, _, _, rfl⟩

/-- Beside the streams, only global ports, lasers, takes, free values and what was sent differ. -/
def SlotOnly (s t : State) : Prop :=
  ∃ ports lasers path stq psg fm sxt out free, t = { s with
    col := { s.col with port := ports, laser := lasers, path := path, stq := stq }
    psg := psg, fm := fm, sxt := sxt, out := out, free := free }

theorem StreamsOnly.slotOnly {s t : State} : StreamsOnly s t → SlotOnly s t := by
  rintro ⟨_, _, _, _, rfl⟩
  exact ⟨_, _, _, _, _, _, _, _, _, Eq.refl _⟩

theorem PortsOnly.slotOnly {s t : State} : PortsOnly s t → SlotOnly s t := by
  rintro ⟨_, _, rfl⟩
  exact ⟨_, _, _, _, _, _, _, _, _, Eq.refl _⟩

theorem SlotOnly.rfl {s : State} : SlotOnly s s := StreamsOnly.rfl.slotOnly

theorem SlotOnly.trans {s t u : State} : SlotOnly s t → SlotOnly t u → SlotOnly s u := by
  rintro ⟨_, _, _, _, _, _, _, _, _, rfl⟩ ⟨_, _, _, _, _, _, _, _, _, rfl⟩
  exact ⟨_, _, _, _, _, _, _, _, _, Eq.refl _⟩

theorem SlotOnly.foldl {α : Type} {g : State → α → State} (h : ∀ s x, SlotOnly s (g s x)) (l : List α) (s : State) :
    SlotOnly s (l.foldl g s) :=
  List.foldlRecOn l g (motive := SlotOnly s) SlotOnly.rfl (fun _ ht x _ => ht.trans (h _ x))

theorem SlotOnly.ast {s t : State} : SlotOnly s t → t.ast = s.ast := by
  rintro ⟨_, _, _, _, _, _, _, _, _, rfl⟩
  rfl

theorem SlotOnly.slot {s t : State} : SlotOnly s t → t.col.slot = s.col.slot := by
  rintro ⟨_, _, _, _, _, _, _, _, _, rfl⟩
  rfl

theorem State.emit_slotOnly (s : State) (o : Out) : SlotOnly s (s.emit o) := ⟨_, _, _, _, _, _, _, _, _, rfl⟩

theorem State.sendSlot_slotOnly (s : State) (n k t dst : Nat) : SlotOnly s (s.sendSlot n k t dst) := by
  simp only [State.sendSlot]
  split
  · exact ⟨_, _, _, _, _, _, _, _, _, rfl⟩
  · have hsent : ∀ items : List StItem, StreamsOnly s
        (items.foldl (fun acc i => State.sendItem acc t dst i) (s.queueAcks n dst, [])).1 := fun items =>
      List.foldlRecOn items _ (motive := fun acc => StreamsOnly s acc.1) (s.queueAcks_streamsOnly n dst)
        (fun acc ht i _ => ht.trans (State.sendItem_streamsOnly acc t dst i))
    split
    · exact (hsent _).slotOnly.trans (State.emit_slotOnly _ _)
    · exact (hsent _).slotOnly.trans (State.emit_slotOnly _ _)

theorem State.slotPort_slotOnly (s : State) (n k u t : Nat) : SlotOnly s (s.slotPort n k u t) := by
  unfold State.slotPort
  split
  · dsimp only
    split_ifs
    · exact ⟨_, _, _, _, _, _, _, _, _, rfl⟩
    · exact (PortsOnly.trans ⟨_, _, rfl⟩ (State.blankPort_portsOnly _ t)).slotOnly
    · exact SlotOnly.trans ⟨_, _, _, _, _, _, _, _, _, rfl⟩ (State.sendSlot_slotOnly _ _ _ _ _)
  · exact (s.blankPort_portsOnly t).slotOnly

theorem State.slotSlice_slotOnly (s : State) (n k : Nat) : SlotOnly s (s.slotSlice n k) := by
  have htakes : ∀ s : State, SlotOnly s (s.idleTakes n) := fun s => by
    unfold State.idleTakes
    split
    · exact SlotOnly.rfl
    · exact ⟨_, _, _, _, _, _, _, _, _, rfl⟩
  exact (((s.sendReadies_streamsOnly n).trans (State.sendNaks_streamsOnly _ n)).slotOnly.trans (htakes _)).trans
    ((SlotOnly.foldl (fun s (ut : Nat × Nat) => s.slotPort_slotOnly n k ut.1 ut.2) _ _).trans
      (State.breakPaths_streamsOnly _ n).slotOnly)

/-! ### Darkness (R159, R170) -/

theorem State.darkStanding_portsOnly (s : State) : PortsOnly s s.darkStanding := by
  unfold State.darkStanding
  refine PortsOnly.foldl (fun s t => ?_) _ s
  split
  · exact s.blankPort_portsOnly t
  · exact PortsOnly.rfl

/-- The gates of all standing ports close, at one instant. -/
theorem State.gp_darkStanding (s : State) {t : Nat} (ht : t < 64) (hrole : (s.gp t).role = 2) :
    s.darkStanding.gp t = (s.gp t).blank s.ns := by
  have hblank : ActsOn (fun (s : State) t => (s.ns, s.gp t)) id (fun _ x => (x.1, if x.2.role == 2 then x.2.blank x.1 else x.2))
      (fun s t => if (s.gp t).role == 2 then s.blankPort t else s) := by
    have hns : ∀ (s : State) t, (s.blankPort t).ns = s.ns := fun s t => by
      obtain ⟨_, _, h⟩ := s.blankPort_portsOnly t
      rw [h]
      rfl
    refine ⟨fun s t => ?_, fun s t u hu => ?_⟩
    · simp only [id]
      split
      · rw [hns, State.gp_blankPort]
      · rfl
    · split
      · rw [hns, State.gp_blankPort_ne s (by exact hu)]
      · rfl
  have hport := hblank.foldl_of_mem Function.injective_id List.nodup_range (List.mem_range.mpr ht) s
  have hgp := congrArg Prod.snd hport
  simp only [id, hrole, beq_self_eq_true, if_true] at hgp
  exact hgp

theorem GPort.st_blank {x : GPort} (now : Nat) (h3 : x.st ≠ 3) (h4 : x.st ≠ 4) (h5 : x.st ≠ 5) : (x.blank now).st = 0 := by
  simp only [GPort.blank, beq_false_of_ne h3, beq_false_of_ne h4, beq_false_of_ne h5, Bool.or_self, Bool.false_eq_true, if_false]

/-- Going dark blanks the standing ports and is event 10; beside it only lasers differ. -/
theorem State.compassDark_eq (s : State) : ∃ ports lasers, s.compassDark = { s with
      col := { s.col with port := ports, laser := lasers, dark := true, events := setBit s.col.events 10 } }
    ∧ ∀ g, g < 64 → (s.gp g).role = 2 → Tbl.get ports g (GPort.reset g) = (s.gp g).blank s.ns := by
  obtain ⟨ports, lasers, h⟩ := s.darkStanding_portsOnly
  refine ⟨ports, lasers, ?_, fun g hg hrole => ?_⟩
  · rw [State.compassDark, h]
    rfl
  · have hport := s.gp_darkStanding hg hrole
    rw [h] at hport
    exact hport

/-- A module that goes dark with an entry in the log. -/
theorem State.compassDark_logAdd (s : State) {sev : Nat} (hsev : sev ≠ 0) (n e a : Nat) (args : List Nat) : ∃ ports lasers log,
    s.compassDark.logAdd sev n e a args = { s with
        col := { s.col with port := ports, laser := lasers, dark := true, events := setBit s.col.events 10 }
        log := log }
      ∧ log.created = s.log.created + 1 := by
  obtain ⟨ports, lasers, hdark, -⟩ := s.compassDark_eq
  obtain ⟨log, hlog, hcreated⟩ := s.compassDark.logAdd_eq hsev n e a args
  rw [hlog, hdark]
  rw [hdark] at hcreated
  exact ⟨ports, lasers, log, rfl, hcreated⟩

theorem colourSequencerFault_dark (s : State) (h : s.col.seqFault = false) : ∃ t, exec .colourSequencerFault s = .next t
    ∧ t.col.seqFault = true ∧ t.col.dark = true ∧ bit t.col.events 10 = true ∧ t.log.created = s.log.created + 1
    ∧ (∀ g, g < 64 → (s.gp g).role = 2 → (s.gp g).st ≠ 3 → (s.gp g).st ≠ 4 → (s.gp g).st ≠ 5 → (t.gp g).st = 0)
    ∧ t = { s with col := t.col, log := t.log } := by
  obtain ⟨ports, lasers, hdark, hports⟩ := s.compassDark_eq
  obtain ⟨log, hlog, hcreated⟩ := State.logAdd_eq { s.compassDark with col := { s.compassDark.col with seqFault := true } }
    (sev := sevCritical) (by decide) 0 (evNamed 3 "SEQUENCER_FAULT") agentNone []
  refine ⟨{ s with
      col := { s.col with
        port := ports, laser := lasers, dark := true, events := setBit s.col.events 10, seqFault := true }
      log := log }, ?_, rfl, rfl, bit_setBit_self _ _, ?_, fun g hg hrole h3 h4 h5 => ?_, rfl⟩
  · simp only [exec, execColourSequencerFault, h, Bool.false_eq_true, if_false]
    rw [hlog, hdark]
  · rw [hcreated, hdark]
  · exact (congrArg GPort.st (hports g hg hrole)).trans (GPort.st_blank _ h3 h4 h5)

theorem colourSequencerFault_stands (s : State) (h : s.col.seqFault = true) : exec .colourSequencerFault s = .next s := by
  simp only [exec, execColourSequencerFault, h, if_true]

/-! ### The holdover margin (R159) -/

theorem State.ns_advanceTo {s : State} {t : Nat} (h : s.ns < t) : (s.advanceTo t).ns = t := by
  have hraw : s.ast.raw < t * unitsPerNs := (Nat.div_lt_iff_lt_mul (by decide)).mp h
  rw [State.ns, State.advanceTo, max_eq_right hraw.le, Nat.mul_div_cancel _ (by decide)]

/-- The margin of the `n`th second of holdover, with its event at the first. -/
def State.widen (s : State) (n : Nat) : State :=
  let s1 := { s with col := { s.col with margin := min 500 (5 * n) } }
  if s.col.margin == 0 then s1.colEvent 9 else s1

theorem State.widen_eq (s : State) (n : Nat) :
    ∃ events, s.widen n = { s with col := { s.col with margin := min 500 (5 * n), events := events } } := by
  simp only [State.widen]
  split
  · exact ⟨_, rfl⟩
  · exact ⟨_, rfl⟩

theorem holdoverMarginStep_next {s : State} {n : Nat} (hst : s.ast.st = .holdover ∨ s.ast.st = .unqualified)
    (hbegun : s.ast.h0 ≤ s.ns) (hn : n = (s.ns - s.ast.h0) / 1000000000 + 1) :
    exec .holdoverMarginStep s = .next (if decide (500 < 5 * n) && !s.col.dark then
        ((s.advanceTo (s.ast.h0 + n * 1000000000)).widen n).compassDark.logAdd sevError 0 (evNamed 3 "COMPASS_DARK") agentNone
          [s.ast.st.code]
      else (s.advanceTo (s.ast.h0 + n * 1000000000)).widen n) := by
  obtain ⟨events, hwiden⟩ := (s.advanceTo (s.ast.h0 + n * 1000000000)).widen_eq n
  have hdark : ((s.advanceTo (s.ast.h0 + n * 1000000000)).widen n).col.dark = s.col.dark := by rw [hwiden]; rfl
  have hst' : (s.ast.st == .holdover || s.ast.st == .unqualified) = true := by
    rcases hst with h | h <;> rw [h] <;> rfl
  rw [← hdark, hn]
  simp only [exec, execHoldoverMarginStep, hst', Nat.not_lt.mpr hbegun, Bool.not_true, decide_false, Bool.or_self,
    Bool.false_eq_true, if_false]
  rfl

theorem holdoverMarginStep_widens (s : State) (hst : s.ast.st = .holdover ∨ s.ast.st = .unqualified) (hbegun : s.ast.h0 ≤ s.ns) :
    ∃ t n, exec .holdoverMarginStep s = .next t ∧ n = (s.ns - s.ast.h0) / 1000000000 + 1
      ∧ t.ns = s.ast.h0 + n * 1000000000 ∧ t.col.margin = min 500 (5 * n)
      ∧ (n ≤ 100 → t.col.dark = s.col.dark ∧ t.log = s.log)
      ∧ (100 < n → t.col.dark = true ∧ (s.col.dark = false → bit t.col.events 10 = true ∧ t.log.created = s.log.created + 1))
      ∧ t = { s with ast := { s.ast with raw := t.ast.raw }, col := t.col, log := t.log } := by
  obtain ⟨n, hn⟩ : ∃ n, n = (s.ns - s.ast.h0) / 1000000000 + 1 := ⟨_, rfl⟩
  have hlater : s.ns < s.ast.h0 + n * 1000000000 := by omega
  have hns := State.ns_advanceTo hlater
  obtain ⟨events, hwiden⟩ := (s.advanceTo (s.ast.h0 + n * 1000000000)).widen_eq n
  have hnext := holdoverMarginStep_next hst hbegun hn
  by_cases hdark : (decide (500 < 5 * n) && !s.col.dark) = true
  · rw [if_pos hdark] at hnext
    simp only [Bool.and_eq_true, decide_eq_true_eq, Bool.not_eq_true'] at hdark
    obtain ⟨ports, lasers, log, hlog, hcreated⟩ := ((s.advanceTo (s.ast.h0 + n * 1000000000)).widen n).compassDark_logAdd
      (sev := sevError) (by decide) 0 (evNamed 3 "COMPASS_DARK") agentNone [s.ast.st.code]
    rw [hlog, hwiden] at hnext
    rw [hwiden] at hcreated
    exact ⟨_, n, hnext, hn, hns, rfl, fun h => by omega, fun _ => ⟨rfl, fun _ => ⟨bit_setBit_self _ _, hcreated⟩⟩, rfl⟩
  · rw [if_neg hdark, hwiden] at hnext
    have hstill : 100 < n → s.col.dark = true := fun h => by
      have hmargin : decide (500 < 5 * n) = true := decide_eq_true (by omega)
      simpa [hmargin] using hdark
    exact ⟨_, n, hnext, hn, hns, rfl, fun _ => ⟨rfl, rfl⟩,
      fun h => ⟨hstill h, fun hlit => absurd (hstill h) (by rw [hlit]; decide)⟩, rfl⟩

theorem holdoverMarginStep_none (s : State) (h : s.ast.st = .locked ∨ s.ast.st = .freeRunning) :
    exec .holdoverMarginStep s = .next s := by
  have hst : (s.ast.st == .holdover || s.ast.st == .unqualified) = false := by
    rcases h with h | h <;> rw [h] <;> rfl
  simp only [exec, execHoldoverMarginStep, hst, Bool.not_false, Bool.true_or, if_true]

/-! ### Slots (R157 to R159) -/

/-- The state at the boundary at which the next slot begins. -/
def State.atSlot (s : State) : State :=
  let s1 := (s.advanceTo (s.nextMultiple 2000)).compassClock
  { s1 with col := { s1.col with slot := s.ns / 2000 + 1 } }

theorem compassSlot_next (s : State) : exec .compassSlot s = .next (if s.atSlot.col.dark then s.atSlot
    else ((s.atSlot.topo.slice.filter (fun e => decide (1 ≤ e.2.colour))).foldl
      (fun t e => t.slotSlice e.1 (s.ns / 2000 + 1)) s.atSlot).judgePaths) := by
  have hk : s.nextMultiple 2000 / 2000 = s.ns / 2000 + 1 := Nat.mul_div_cancel _ (by decide)
  simp only [exec, execCompassSlot, hk]
  rfl

/-- LOCKED resumes the rotation. -/
theorem State.compassClock_locked {s : State} (hst : s.ast.st = .locked) (hsound : s.col.seqFault = false) :
    s.compassClock = { s with col := { s.col with dark := false, margin := 0 } } := by
  have hturn : (s.ast.st == .locked && !s.col.seqFault) = true := by rw [hst, hsound]; rfl
  rw [State.compassClock, if_pos hturn]

/-- FREE_RUNNING stops it. -/
theorem State.compassClock_freeRunning {s : State} (hst : s.ast.st = .freeRunning) (hlit : s.col.dark = false) :
    s.compassClock = s.compassDark.logAdd sevError 0 (evNamed 3 "COMPASS_DARK") agentNone [3] := by
  have hturn : (s.ast.st == .locked && !s.col.seqFault) = false := by rw [hst]; rfl
  have hstop : (s.ast.st == .freeRunning && !s.col.dark) = true := by rw [hst, hlit]; rfl
  rw [State.compassClock, hturn, if_neg Bool.false_ne_true, if_pos hstop]

/-- A module that is dark stays so, where no lock resumes the rotation. -/
theorem State.compassClock_dark {s : State} (hdark : s.col.dark = true) (h : s.ast.st ≠ .locked ∨ s.col.seqFault = true) :
    s.compassClock = s := by
  have hturn : (s.ast.st == .locked && !s.col.seqFault) = false := by
    rcases h with h | h
    · rw [beq_false_of_ne h, Bool.false_and]
    · rw [h, Bool.not_true, Bool.and_false]
  have hstop : (s.ast.st == .freeRunning && !s.col.dark) = false := by rw [hdark, Bool.not_true, Bool.and_false]
  rw [State.compassClock, hturn, hstop, if_neg Bool.false_ne_true, if_neg Bool.false_ne_true]

theorem State.ast_compassClock (s : State) : s.compassClock.ast = s.ast := by
  unfold State.compassClock
  split_ifs
  · rfl
  · obtain ⟨ports, lasers, hdark, -⟩ := s.compassDark_eq
    rw [State.logAdd_ast, hdark]
  · rfl

theorem compassSlot_slot (s : State) :
    ∃ t, exec .compassSlot s = .next t ∧ t.col.slot = s.ns / 2000 + 1 ∧ t.ns = (s.ns / 2000 + 1) * 2000 := by
  have hns : s.atSlot.ns = (s.ns / 2000 + 1) * 2000 :=
    (congrArg (fun a : Ast => a.raw / unitsPerNs) (State.ast_compassClock _)).trans (s.ns_advanceTo_nextMultiple (by decide))
  refine ⟨_, compassSlot_next s, ?_⟩
  split
  · exact ⟨rfl, hns⟩
  · have hslot := (SlotOnly.foldl (fun t (e : Nat × Slice) => t.slotSlice_slotOnly e.1 (s.ns / 2000 + 1))
      (s.atSlot.topo.slice.filter (fun e => decide (1 ≤ e.2.colour))) s.atSlot).trans (State.judgePaths_streamsOnly _).slotOnly
    exact ⟨hslot.slot, (congrArg (fun a : Ast => a.raw / unitsPerNs) hslot.ast).trans hns⟩

theorem compassSlot_freeRuns (s : State) (hst : s.ast.st = .freeRunning) (hlit : s.col.dark = false) :
    ∃ t, exec .compassSlot s = .next t ∧ t.col.dark = true ∧ bit t.col.events 10 = true
      ∧ t.log.created = s.log.created + 1 ∧ t.out = s.out := by
  obtain ⟨ports, lasers, log, hdark, hcreated⟩ := (s.advanceTo (s.nextMultiple 2000)).compassDark_logAdd (sev := sevError) (by decide) 0
    (evNamed 3 "COMPASS_DARK") agentNone [3]
  have hnext := compassSlot_next s
  rw [State.atSlot, State.compassClock_freeRunning (s := s.advanceTo _) hst hlit, hdark] at hnext
  exact ⟨_, hnext, rfl, bit_setBit_self _ _, hcreated, rfl⟩

theorem compassSlot_dark (s : State) (hdark : s.col.dark = true) (h : s.ast.st ≠ .locked ∨ s.col.seqFault = true) :
    ∃ t, exec .compassSlot s = .next t
      ∧ t = { s with ast := { s.ast with raw := t.ast.raw }, col := { s.col with slot := s.ns / 2000 + 1 } } := by
  have hnext := compassSlot_next s
  rw [State.atSlot, State.compassClock_dark (s := s.advanceTo _) hdark h, if_pos (by exact hdark)] at hnext
  exact ⟨_, hnext, rfl⟩

/-! ### A HAIL flit (R183, R185, R208) -/

section
variable (pay : Bytes)

theorem length_hailFlit : (sealFlit (beBytes 1 0x30) pay).length = 256 := by
  simp only [sealFlit, List.length_append, length_padTo, length_leBytes]

/-- The header bytes of a HAIL flit: the type, then zeros. -/
theorem byteAt_hailFlit {i : Nat} (h : i < 16) : byteAt (sealFlit (beBytes 1 0x30) pay) i = if i = 0 then 0x30 else 0 := by
  have hbody : i < (padTo 16 (beBytes 1 0x30) ++ padTo 232 pay).length := by
    rw [List.length_append, length_padTo]
    omega
  rw [sealFlit, byteAt_append_left _ hbody, byteAt_append_left _ (by rwa [length_padTo]), byteAt_padTo _ h]
  cases i with
  | zero => rfl
  | succ i => rfl

theorem ftypeOf_hailFlit : ftypeOf (sealFlit (beBytes 1 0x30) pay) = 3 := by
  rw [ftypeOf, byteAt_hailFlit pay (by decide)]
  rfl

/-- The CRC at the end of a flit is that of its body. -/
theorem le_sealFlit (hdr : Bytes) : le (sealFlit hdr pay) 248 8 = crc64 ((sealFlit hdr pay).take 248) := by
  have hlen : (padTo 16 hdr ++ padTo 232 pay).length = 248 := by rw [List.length_append, length_padTo, length_padTo]
  have hcrc : crc64 (padTo 16 hdr ++ padTo 232 pay) < 256 ^ 8 := (BitVec.isLt _).trans_le (by decide)
  rw [sealFlit, le_append_right _ _ hlen.le, hlen, le_leBytes, Nat.mod_eq_of_lt hcrc, List.take_left' hlen]

theorem flitGood_hailFlit : flitGood (sealFlit (beBytes 1 0x30) pay) = true := by
  have hzero : zeroAt (sealFlit (beBytes 1 0x30) pay) 13 3 = true := zeroAt_of_byteAt (fun j hj => by
    rw [byteAt_hailFlit pay (by omega), if_neg (by omega)])
  have hone : byteAt (sealFlit (beBytes 1 0x30) pay) 1 = 0 := byteAt_hailFlit pay (by decide)
  have hseven : byteAt (sealFlit (beBytes 1 0x30) pay) 7 = 0 := byteAt_hailFlit pay (by decide)
  simp only [flitGood, length_hailFlit, le_sealFlit, ftypeOf_hailFlit, hone, hseven, hzero, beq_self_eq_true]
  rfl

end

/-! ### The standing ports of a slice that hails (R158, R160, R315) -/

/-- What hailing leaves alone: beside ports, lasers and free values, only more is sent. -/
def HailOnly (s t : State) : Prop := ∃ ports lasers out free, t = { s with
  col := { s.col with port := ports, laser := lasers }, out := s.out ++ out, free := free }

theorem PortsOnly.hailOnly {s t : State} : PortsOnly s t → HailOnly s t := by
  rintro ⟨ports, lasers, rfl⟩
  exact ⟨ports, lasers, [], _, by rw [List.append_nil]⟩

theorem HailOnly.rfl {s : State} : HailOnly s s := PortsOnly.rfl.hailOnly

theorem HailOnly.trans {s t u : State} : HailOnly s t → HailOnly t u → HailOnly s u := by
  rintro ⟨_, _, o, _, rfl⟩ ⟨_, _, o', _, rfl⟩
  exact ⟨_, _, o ++ o', _, by rw [List.append_assoc]⟩

theorem HailOnly.topo {s t : State} : HailOnly s t → t.topo = s.topo := by
  rintro ⟨_, _, _, _, rfl⟩
  exact Eq.refl _

theorem HailOnly.dark {s t : State} : HailOnly s t → t.col.dark = s.col.dark := by
  rintro ⟨_, _, _, _, rfl⟩
  exact Eq.refl _

theorem HailOnly.sent {s t : State} {o : Out} (h : HailOnly s t) (ho : o ∈ s.out) : o ∈ t.out := by
  obtain ⟨_, _, _, _, rfl⟩ := h
  exact List.mem_append_left _ ho

/-- Slice `n` hails. -/
def State.Hails (s : State) (n : Nat) : Prop := (s.topo.slice.get n (Slice.new 0 0 0 0)).colour = 1

theorem State.sendSlot_hail {s : State} {n : Nat} (h : s.Hails n) (k t dst : Nat) : ∃ seq,
    s.sendSlot n k t dst = { s with
      out := s.out ++ [.burst t (burstHeader 4 s.topo.hall s.topo.rack t dst 0 0 0 0 0 (s.sliceDigest n) (s.path t dst).rxFreed)
        [sealFlit (beBytes 1 0x30) (s.hailPayload (refG t) seq)]]
      free := s.free + 1 } := by
  have hhail : ((s.topo.slice.get n (Slice.new 0 0 0 0)).colour == 1 || 2000 * k % 1000000000 == 0) = true := by
    rw [h, beq_self_eq_true, Bool.true_or]
  refine ⟨(s.fresh 32).1, ?_⟩
  simp only [State.sendSlot, hhail, if_true]
  rfl

/-- Standing port `t` opens its gate, tuned to its target. -/
def State.openSlot (s : State) (t dst : Nat) : State :=
  (s.updGp t (fun x => { x with st := 2, attempts := 0 })).updLaser (s.gp t).laser (fun l => { l with
    st := 2, gate := true, channel := channelTo s.topo.rack dst, measChannel := channelTo s.topo.rack dst, measValid := true
    freqErr := 0 })

/-- A standing port set to its slot's target and source. -/
def GPort.aim (x : GPort) (rack dst src : Nat) : GPort :=
  { x with role := 2, dest := dst, channel := channelTo rack dst, expectRack := src, expectValid := true, burst := none }

theorem State.slotPort_eq {s : State} {n k u dst src : Nat} (t : Nat) (hdst : s.compassDest n k u = some dst)
    (hsrc : s.compassSource n k u = some src) :
    s.slotPort n k u t = if (s.gp t).st == 3 || (s.gp t).st == 4 || (s.gp t).st == 5 || (s.gp t).st == 6
        then s.updGp t (GPort.aim · s.topo.rack dst src)
      else if s.takenPort t || s.gOpen t then (s.updGp t (GPort.aim · s.topo.rack dst src)).blankPort t
      else ((s.updGp t (GPort.aim · s.topo.rack dst src)).openSlot t dst).sendSlot n k t dst := by
  have hst : ((s.updGp t (GPort.aim · s.topo.rack dst src)).gp t).st = (s.gp t).st := by rw [State.gp_updGp]; rfl
  simp only [State.slotPort, hdst, hsrc, ← hst]
  rfl

theorem State.gp_openSlot (s : State) (t dst : Nat) : (s.openSlot t dst).gp t = { s.gp t with st := 2, attempts := 0 } := by
  rw [State.openSlot, State.gp_updLaser, State.gp_updGp]

theorem State.gp_openSlot_ne (s : State) {t q : Nat} (dst : Nat) (h : q ≠ t) : (s.openSlot t dst).gp q = s.gp q := by
  rw [State.openSlot, State.gp_updLaser, State.gp_updGp_ne _ _ h]

/-- No other port differs after port `t` took its slot. -/
theorem State.slotPort_hail {s : State} {n : Nat} (h : s.Hails n) (k u t : Nat) :
    HailOnly s (s.slotPort n k u t) ∧ ∀ q, q ≠ t → (s.slotPort n k u t).gp q = s.gp q := by
  have hblank : ∀ s' : State, PortsOnly s s' → (∀ q, q ≠ t → s'.gp q = s.gp q) →
      HailOnly s (s'.blankPort t) ∧ ∀ q, q ≠ t → (s'.blankPort t).gp q = s.gp q := fun s' hs hgp =>
    ⟨(hs.trans (s'.blankPort_portsOnly t)).hailOnly, fun q hq => (s'.gp_blankPort_ne hq).trans (hgp q hq)⟩
  cases hdst : s.compassDest n k u with
  | none =>
    have hdark : s.slotPort n k u t = s.blankPort t := by simp only [State.slotPort, hdst]
    rw [hdark]
    exact hblank s PortsOnly.rfl (fun _ _ => rfl)
  | some dst =>
    cases hsrc : s.compassSource n k u with
    | none =>
      have hdark : s.slotPort n k u t = s.blankPort t := by simp only [State.slotPort, hdst, hsrc]
      rw [hdark]
      exact hblank s PortsOnly.rfl (fun _ _ => rfl)
    | some src =>
      have haim : PortsOnly s (s.updGp t (GPort.aim · s.topo.rack dst src)) := ⟨_, _, rfl⟩
      have hother : ∀ q, q ≠ t → (s.updGp t (GPort.aim · s.topo.rack dst src)).gp q = s.gp q := fun q hq => s.gp_updGp_ne _ hq
      rw [State.slotPort_eq t hdst hsrc]
      split_ifs
      · exact ⟨haim.hailOnly, hother⟩
      · exact hblank _ haim hother
      · obtain ⟨seq, hsend⟩ := State.sendSlot_hail (s := (s.updGp t (GPort.aim · s.topo.rack dst src)).openSlot t dst) h k t dst
        rw [hsend]
        exact ⟨⟨_, _, _, _, rfl⟩, fun q hq => (State.gp_openSlot_ne _ dst hq).trans (hother q hq)⟩

/-- Port `t`, number `u` of slice `n`, may send its HAIL burst to `dst` in slot `k`. -/
structure State.MayHail (s : State) (n k u t dst src : Nat) : Prop where
  hails : s.Hails n
  dest : s.compassDest n k u = some dst
  source : s.compassSource n k u = some src
  sound : ((s.gp t).st == 3 || (s.gp t).st == 4 || (s.gp t).st == 5 || (s.gp t).st == 6) = false
  takes : s.sxt.takes = []
  shut : s.gOpen t = false

/-- The slot of a port that may hail, after other ports took theirs: the burst it sends, and how it stands. -/
theorem HailOnly.slotPort_sends {s a : State} {n k u t dst src : Nat} (ha : HailOnly s a) (hgp : a.gp t = s.gp t)
    (h : s.MayHail n k u t dst src) : ∃ seq,
    .burst t (burstHeader 4 s.topo.hall s.topo.rack t dst 0 0 0 0 0 (s.sliceDigest n) (s.path t dst).rxFreed)
        [sealFlit (beBytes 1 0x30) (s.hailPayload (refG t) seq)] ∈ (a.slotPort n k u t).out
      ∧ (a.slotPort n k u t).gp t = { (s.gp t).aim s.topo.rack dst src with st := 2, attempts := 0 } := by
  have hsound := h.sound
  rw [← hgp] at hsound
  have htaken : s.takenPort t = false := by rw [State.takenPort, h.takes, List.any_nil]
  obtain ⟨ports, lasers, out, free, rfl⟩ := ha
  obtain ⟨seq, hsend⟩ := State.sendSlot_hail (s := (State.updGp { s with col := { s.col with port := ports, laser := lasers }
                                                                         out := s.out ++ out, free := free } t
    (GPort.aim · s.topo.rack dst src)).openSlot t dst) h.hails k t dst
  refine ⟨seq, ?_⟩
  rw [State.slotPort_eq t (by exact h.dest) (by exact h.source), hsound, if_neg Bool.false_ne_true,
    if_neg (by simpa using ⟨htaken, h.shut⟩), hsend]
  refine ⟨List.mem_append_right _ (List.mem_singleton.mpr (Eq.refl _)), (State.gp_openSlot _ t dst).trans ?_⟩
  rw [State.gp_updGp, hgp]

theorem HailOnly.hails {s t : State} {n : Nat} (h : HailOnly s t) (hs : s.Hails n) : t.Hails n := by
  rw [State.Hails, h.topo]
  exact hs

/-- The slots of other ports leave a port as it is. -/
theorem State.slotPorts_hail {s : State} {n : Nat} (h : s.Hails n) (k : Nat) (l : List (Nat × Nat)) :
    HailOnly s (l.foldl (fun s ut => s.slotPort n k ut.1 ut.2) s)
      ∧ ∀ q, q ∉ l.map Prod.snd → (l.foldl (fun s ut => s.slotPort n k ut.1 ut.2) s).gp q = s.gp q := by
  refine List.foldlRecOn l _ (motive := fun t => HailOnly s t ∧ ∀ q, q ∉ l.map Prod.snd → t.gp q = s.gp q)
    ⟨HailOnly.rfl, fun _ _ => rfl⟩ (fun t ht ut hut => ?_)
  obtain ⟨hframe, hgp⟩ := ht
  obtain ⟨hstep, hother⟩ := State.slotPort_hail (hframe.hails h) k ut.1 ut.2
  exact ⟨hframe.trans hstep, fun q hq => (hother q (fun heq => hq (heq ▸ List.mem_map_of_mem hut))).trans (hgp q hq)⟩

theorem map_snd_numbered {α : Type} (l : List α) (k : Nat) : (numbered l k).map Prod.snd = l := by
  induction l generalizing k with
  | nil => rfl
  | cons x l ih => rw [numbered, List.map_cons, ih]

theorem mem_numbered {α : Type} {l : List α} {i : Nat} {x : α} (h : l[i]? = some x) (k : Nat) : (k + i, x) ∈ numbered l k := by
  induction l generalizing i k with
  | nil => simp at h
  | cons y l ih =>
    cases i with
    | zero =>
      rw [List.getElem?_cons_zero, Option.some.injEq] at h
      exact h ▸ List.mem_cons_self
    | succ i =>
      rw [List.getElem?_cons_succ] at h
      have hlater := ih h (k + 1)
      rw [Nat.add_right_comm] at hlater
      exact List.mem_cons_of_mem _ hlater

theorem State.nodup_standingPorts (s : State) (n : Nat) : (s.standingPorts n).Nodup := by
  have hports : (s.gports n).Nodup := by
    unfold State.gports
    split
    · exact List.nodup_nil
    · exact List.nodup_range.filter _
  unfold State.standingPorts
  split
  · exact List.nodup_nil
  · exact hports.sublist (List.drop_sublist _ _)

/-- A slice that hails and runs no passage has only its ports and paths to see to in a slot. -/
theorem State.slotSlice_hail {s : State} {n : Nat} (h : s.Hails n) (hidle : s.passagesOf n = []) (htakes : s.sxt.takes = []) (k : Nat) :
    s.slotSlice n k = ((numbered (s.standingPorts n) 0).foldl (fun s ut => s.slotPort n k ut.1 ut.2) s).breakPaths n := by
  have hreadies : s.sendReadies n = s := by
    rw [State.sendReadies, if_pos]
    rw [h]
    exact Bool.or_true _
  have hnaks : s.sendNaks n = s := by rw [State.sendNaks, hidle, List.foldl_nil]
  have hidleTakes : s.idleTakes n = s := by
    have hmap : ∀ f, s.sxt.takes.map f = s.sxt.takes := fun f => by rw [htakes, List.map_nil]
    rw [State.idleTakes, hidle, List.any_nil, if_neg Bool.false_ne_true, hmap]
  simp only [State.slotSlice, hreadies, hnaks, hidleTakes]

/-- The slot of one standing port of a slice that hails. -/
theorem State.slotSlice_sends {s : State} {n k u t dst src : Nat} (h : s.MayHail n k u t dst src) (hidle : s.passagesOf n = [])
    (hlit : s.col.dark = false) (hport : (s.standingPorts n)[u]? = some t) : ∃ seq,
    .burst t (burstHeader 4 s.topo.hall s.topo.rack t dst 0 0 0 0 0 (s.sliceDigest n) (s.path t dst).rxFreed)
        [sealFlit (beBytes 1 0x30) (s.hailPayload (refG t) seq)] ∈ (s.slotSlice n k).out
      ∧ (s.slotSlice n k).gp t = { (s.gp t).aim s.topo.rack dst src with st := 2, attempts := 0 }
      ∧ (s.slotSlice n k).col.dark = false := by
  obtain ⟨l, l', hsplit⟩ := List.append_of_mem (mem_numbered hport 0)
  rw [Nat.zero_add] at hsplit
  have hnodup : (l.map Prod.snd ++ t :: l'.map Prod.snd).Nodup := by
    have hports := s.nodup_standingPorts n
    rwa [← map_snd_numbered (s.standingPorts n) 0, hsplit, List.map_append, List.map_cons] at hports
  have hbefore : t ∉ l.map Prod.snd := fun hmem => (List.disjoint_of_nodup_append hnodup) hmem List.mem_cons_self
  have hafter : t ∉ l'.map Prod.snd := (List.nodup_cons.mp (List.Nodup.of_append_right hnodup)).1
  obtain ⟨hframe, hgp⟩ := State.slotPorts_hail h.hails k l
  obtain ⟨seq, hsent, hstands⟩ := hframe.slotPort_sends (hgp t hbefore) h
  obtain ⟨hstep, -⟩ := State.slotPort_hail (hframe.hails h.hails) k u t
  obtain ⟨hrest, hrestGp⟩ := State.slotPorts_hail (hstep.hails (hframe.hails h.hails)) k l'
  rw [State.slotSlice_hail h.hails hidle h.takes, hsplit, List.foldl_append, List.foldl_cons]
  have hbreak := State.breakPaths_streamsOnly (l'.foldl (fun s ut => s.slotPort n k ut.1 ut.2)
    ((l.foldl (fun s ut => s.slotPort n k ut.1 ut.2) s).slotPort n k u t)) n
  exact ⟨seq, hbreak.sent (hrest.sent hsent), (hbreak.gp t).trans ((hrestGp t hafter).trans hstands),
    hbreak.dark.trans (((hframe.trans hstep).trans hrest).dark.trans hlit)⟩

theorem State.atSlot_locked {s : State} (hst : s.ast.st = .locked) (hsound : s.col.seqFault = false) : ∃ ast,
    s.atSlot = { s with ast := ast, col := { s.col with dark := false, margin := 0, slot := s.ns / 2000 + 1 } } := by
  rw [State.atSlot, State.compassClock_locked (s := s.advanceTo _) hst hsound]
  exact ⟨_, rfl⟩

/-- Where the clock is LOCKED, the one slice with a colour has its slot. -/
theorem compassSlot_only {s : State} {n : Nat} {x : Slice} (hst : s.ast.st = .locked) (hsound : s.col.seqFault = false)
    (honly : s.topo.slice.filter (fun e => decide (1 ≤ e.2.colour)) = [(n, x)]) : ∃ ast s1 t,
    s1 = { s with ast := ast, col := { s.col with dark := false, margin := 0, slot := s.ns / 2000 + 1 } }
      ∧ exec .compassSlot s = .next t ∧ StreamsOnly (s1.slotSlice n (s.ns / 2000 + 1)) t := by
  obtain ⟨ast, hat⟩ := State.atSlot_locked hst hsound
  have hnext := compassSlot_next s
  rw [hat] at hnext
  simp only [honly, Bool.false_eq_true, if_false, List.foldl_cons, List.foldl_nil] at hnext
  exact ⟨ast, _, _, rfl, hnext, State.judgePaths_streamsOnly _⟩

theorem compassSlot_hails (n : Nat) (x : Slice) (g : Fin 64) (u dst src : Nat) (s : State) (hst : s.ast.st = .locked)
    (hseq : s.col.seqFault = false) (honly : s.topo.slice.filter (fun e => decide (1 ≤ e.2.colour)) = [(n, x)])
    (hfind : s.topo.slice.find n = some x) (hhail : x.colour = 1) (hidle : s.passagesOf n = []) (htakes : s.sxt.takes = [])
    (hport : (s.standingPorts n)[u]? = some g.val) (hdst : s.compassDest n (s.ns / 2000 + 1) u = some dst)
    (hsrc : s.compassSource n (s.ns / 2000 + 1) u = some src) (h3 : (s.gp g).st ≠ 3) (h4 : (s.gp g).st ≠ 4)
    (h5 : (s.gp g).st ≠ 5) (h6 : (s.gp g).st ≠ 6) (hopen : s.gOpen g = false) :
    ∃ t f, exec .compassSlot s = .next t
      ∧ .burst g (burstHeader 4 s.topo.hall s.topo.rack g dst 0 0 0 0 0 (s.sliceDigest n) (s.path g dst).rxFreed) [f] ∈ t.out
      ∧ flitGood f = true ∧ ftypeOf f = 3 ∧ (t.gp g).st = 2 ∧ (t.gp g).role = 2 ∧ (t.gp g).dest = dst
      ∧ (t.gp g).channel = channelTo s.topo.rack dst ∧ (t.gp g).expectRack = src ∧ (t.gp g).expectValid = true
      ∧ t.col.dark = false := by
  obtain ⟨ast, s1, t, hs1, hnext, hjudge⟩ := compassSlot_only hst hseq honly
  have hsound : ((s.gp g).st == 3 || (s.gp g).st == 4 || (s.gp g).st == 5 || (s.gp g).st == 6) = false := by
    rw [beq_false_of_ne h3, beq_false_of_ne h4, beq_false_of_ne h5, beq_false_of_ne h6]
    rfl
  have hhails : s.Hails n := by
    rw [State.Hails, Tbl.get, hfind]
    exact hhail
  have hmay : s1.MayHail n (s.ns / 2000 + 1) u g dst src := by
    subst hs1
    exact ⟨hhails, hdst, hsrc, hsound, htakes, hopen⟩
  obtain ⟨seq, hsent, hstands, hlit⟩ := State.slotSlice_sends hmay (by rw [hs1]; exact hidle) (by rw [hs1]) (by rw [hs1]; exact hport)
  have hgp := (hjudge.gp g).trans hstands
  have hrack : s1.topo.rack = s.topo.rack := by rw [hs1]
  refine ⟨t, _, hnext, ?_, flitGood_hailFlit (s1.hailPayload (refG g) seq), ftypeOf_hailFlit _, congrArg GPort.st hgp,
    congrArg GPort.role hgp, congrArg GPort.dest hgp, ?_, congrArg GPort.expectRack hgp, congrArg GPort.expectValid hgp,
    hjudge.dark.trans hlit⟩
  · have hburst := hjudge.sent hsent
    subst hs1
    exact hburst
  · rw [← hrack]
    exact congrArg GPort.channel hgp

end Sys2Proof.Machine

namespace Sys2Proof.Proofs

open Sys2Proof.Machine

/-- Settles O35: the slot in every state of the clock, the margin of holdover, and the sequencer's fault. -/
theorem compassSlots : Obligations.CompassSlots :=
  ⟨compassSlot_slot, compassSlot_hails, compassSlot_freeRuns, compassSlot_dark, holdoverMarginStep_widens, holdoverMarginStep_none,
    colourSequencerFault_dark, colourSequencerFault_stands⟩

end Sys2Proof.Proofs
end

section
/-! SUPPORT. The bytes of a link flit: fields most significant byte first, the header a port writes, and what a receiver
reads of a flit sealed with it (06 R183 to R185). -/

namespace Sys2Proof

/-! ### Fields most significant byte first -/

theorem be_two (b : Bytes) (i : Nat) : be b i 2 = byteAt b i * 256 + byteAt b (i + 1) := by simp [be, List.range_succ]

/-- A field depends on its own bytes only. -/
theorem be_congr {a b : Bytes} {i n : Nat} (h : ∀ k < n, byteAt a (i + k) = byteAt b (i + k)) : be a i n = be b i n :=
  List.foldl_ext _ _ _ fun acc k hk => by rw [h k (List.mem_range.mp hk)]

/-- Two bytes of a value, most significant first, give it back modulo 2^16. -/
theorem be_two_of_bytes {b : Bytes} {i v : Nat} (hhigh : byteAt b i = v / 256 % 256) (hlow : byteAt b (i + 1) = v % 256) :
    be b i 2 = v % 65536 := by
  rw [be_two, hhigh, hlow]
  omega

theorem byteAt_bytesAt (b : Bytes) {i n k : Nat} (h : k < n) : byteAt (bytesAt b i n) k = byteAt b (i + k) := by
  simp [byteAt, bytesAt, List.getD_eq_getElem?_getD, h]

namespace Machine

/-! ### A payload read behind 16 bytes of header -/

theorem byteAt_afterHeader (b : Bytes) {i : Nat} (hlow : 16 ≤ i) (hhigh : i < 248) :
    byteAt (zeros 16 ++ bytesAt b 16 232) i = byteAt b i := by
  rw [byteAt_append_right _ (by rwa [length_zeros]), length_zeros, byteAt_bytesAt _ (by omega), Nat.add_sub_cancel' hlow]

theorem be_afterHeader (b : Bytes) {i n : Nat} (hlow : 16 ≤ i) (hhigh : i + n ≤ 248) :
    be (zeros 16 ++ bytesAt b 16 232) i n = be b i n :=
  be_congr fun k hk => byteAt_afterHeader b (by omega) (by omega)

/-! ### Sealed flits (R183) -/

theorem length_sealFlit (hdr pay : Bytes) : (sealFlit hdr pay).length = 256 := by
  simp only [sealFlit, List.length_append, length_padTo, length_leBytes]

section
variable {hdr : Bytes} (hlen : hdr.length = 16) (pay : Bytes)
include hlen

theorem sealFlit_eq : sealFlit hdr pay = hdr ++ (padTo 232 pay ++ leBytes 8 (crc64 (hdr ++ padTo 232 pay))) := by
  rw [sealFlit, padTo_of_length hlen, List.append_assoc]

theorem byteAt_sealFlit {i : Nat} (h : i < 16) : byteAt (sealFlit hdr pay) i = byteAt hdr i := by
  rw [sealFlit_eq hlen, byteAt_append_left _ (hlen.symm ▸ h)]

theorem bytesAt_sealFlit : bytesAt (sealFlit hdr pay) 16 232 = padTo 232 pay := by
  rw [sealFlit_eq hlen, bytesAt, take_drop_between hlen (length_padTo 232 pay)]

end

/-! ### The header a port writes (R184, R197) -/

section
variable (x : LPort) (ftype vc seq last : Nat) (sof eof : Bool) (pay : Bytes)

theorem LPort.length_header : (x.header ftype vc sof eof seq last).length = 16 := rfl

theorem LPort.byteAt_header_type : byteAt (x.header ftype vc sof eof seq last) 0 = (16 * ftype + 2 * vc + b2n sof) % 256 :=
  BitVec.toNat_ofNat _ _

theorem LPort.byteAt_header_eof : byteAt (x.header ftype vc sof eof seq last) 1 = 128 * b2n eof := by
  cases eof <;> rfl

theorem b2n_le_one (b : Bool) : b2n b ≤ 1 := by cases b <;> decide

/-- The flit that a port puts out, with its own acknowledgement and limits. -/
def LPort.flit : Bytes := sealFlit (x.header ftype vc sof eof seq last) pay

variable {ftype vc}

theorem LPort.ftypeOf_flit (htype : ftype ≤ 5) (hvc : vc < 8) : ftypeOf (x.flit ftype vc seq last sof eof pay) = ftype := by
  have hsof := b2n_le_one sof
  rw [ftypeOf, LPort.flit, byteAt_sealFlit (x.length_header ..) _ (by decide), LPort.byteAt_header_type]
  omega

theorem LPort.fvcOf_flit (ftype : Nat) (hvc : vc < 8) : fvcOf (x.flit ftype vc seq last sof eof pay) = vc := by
  have hsof := b2n_le_one sof
  rw [fvcOf, LPort.flit, byteAt_sealFlit (x.length_header ..) _ (by decide), LPort.byteAt_header_type, bits]
  omega

theorem LPort.fsofOf_flit (ftype vc : Nat) : fsofOf (x.flit ftype vc seq last sof eof pay) = sof := by
  have hbit : (16 * ftype + 2 * vc + b2n sof) % 256 / 2 ^ 0 % 2 = b2n sof := by
    have hsof := b2n_le_one sof
    omega
  rw [fsofOf, LPort.flit, byteAt_sealFlit (x.length_header ..) _ (by decide), LPort.byteAt_header_type, bit, hbit]
  cases sof <;> rfl

theorem LPort.feofOf_flit (ftype vc : Nat) : feofOf (x.flit ftype vc seq last sof eof pay) = eof := by
  rw [feofOf, LPort.flit, byteAt_sealFlit (x.length_header ..) _ (by decide), LPort.byteAt_header_eof]
  cases eof <;> rfl

theorem LPort.fseqOf_flit (ftype vc : Nat) : fseqOf (x.flit ftype vc seq last sof eof pay) = seq % 65536 := by
  have hbyte : ∀ i < 16, byteAt (x.flit ftype vc seq last sof eof pay) i = byteAt (x.header ftype vc sof eof seq last) i :=
    fun _ => byteAt_sealFlit (x.length_header ..) _
  exact be_two_of_bytes ((hbyte 2 (by decide)).trans (BitVec.toNat_ofNat _ _)) ((hbyte 3 (by decide)).trans (BitVec.toNat_ofNat _ _))

theorem LPort.payload_flit (ftype vc : Nat) : bytesAt (x.flit ftype vc seq last sof eof pay) 16 232 = padTo 232 pay :=
  bytesAt_sealFlit (x.length_header ..) pay

/-- Whatever a port sends is good at the far end (R185). -/
theorem LPort.flitGood_flit (htype : ftype ≤ 5) (hvc : vc < 8) : flitGood (x.flit ftype vc seq last sof eof pay) = true := by
  have hlen : (x.flit ftype vc seq last sof eof pay).length = 256 := length_sealFlit _ pay
  have hbyte : ∀ i < 16, byteAt (x.flit ftype vc seq last sof eof pay) i = byteAt (x.header ftype vc sof eof seq last) i :=
    fun _ => byteAt_sealFlit (x.length_header ..) _
  have hcrc : le (x.flit ftype vc seq last sof eof pay) 248 8 = crc64 ((x.flit ftype vc seq last sof eof pay).take 248) :=
    le_sealFlit pay _
  have hone : bits (byteAt (x.flit ftype vc seq last sof eof pay) 1) 0 7 = 0 := by
    rw [hbyte 1 (by decide), LPort.byteAt_header_eof]
    cases eof <;> rfl
  have hseven : byteAt (x.flit ftype vc seq last sof eof pay) 7 = 0 := hbyte 7 (by decide)
  have hzero : zeroAt (x.flit ftype vc seq last sof eof pay) 13 3 = true := zeroAt_of_byteAt fun j hj => by
    rw [hbyte _ (by omega)]
    match j, hj with
    | 0, _ => rfl
    | 1, _ => rfl
    | 2, _ => rfl
  simp [flitGood, hlen, hcrc, hone, hseven, hzero, x.ftypeOf_flit seq last sof eof pay htype hvc, htype]

end

end Machine
end Sys2Proof
end

section
/-! SUPPORT. The registers of a terminated port: what each operation of the link writes of them, and that the other ports
stand (06 R184, R190, R192 to R194, R212). -/

namespace Sys2Proof.Machine

open Safety

/-! ### What leaves the registers of a port alone -/

section
variable (s : State) (p : Nat)
@[simp] theorem State.lp_emit (o : Out) : (s.emit o).lp p = s.lp p := rfl
@[simp] theorem State.lp_lcount (name : String) (q n : Nat) : (s.lcount name q n).lp p = s.lp p := rfl
@[simp] theorem State.lp_loseSession (q : Nat) : (s.loseSession q).lp p = s.lp p := rfl
@[simp] theorem State.lp_logAdd (a b c d : Nat) (l : List Nat) : (s.logAdd a b c d l).lp p = s.lp p := by
  rw [State.lp, State.logAdd_lnk, State.lp]
@[simp] theorem State.ns_logAdd (a b c d : Nat) (l : List Nat) : (s.logAdd a b c d l).ns = s.ns := by
  rw [State.ns, State.logAdd_ast, State.ns]
end

/-! ### The other ports stand -/

/-- The registers of every terminated port but one stand. -/
def OtherLinks (p : Nat) (s t : State) : Prop := ∀ q, q ≠ p → t.lp q = s.lp q

theorem OtherLinks.trans {p : Nat} {s t u : State} (h : OtherLinks p s t) (h' : OtherLinks p t u) : OtherLinks p s u :=
  fun q hq => (h' q hq).trans (h q hq)

theorem OtherLinks.of_lp {p : Nat} {s t : State} (h : ∀ q, t.lp q = s.lp q) : OtherLinks p s t := fun q _ => h q

theorem OtherLinks.rfl {p : Nat} {s : State} : OtherLinks p s s := fun _ _ => Eq.refl _

theorem State.updLp_otherLinks (s : State) (p : Nat) (f : LPort → LPort) : OtherLinks p s (s.updLp p f) :=
  fun _ hq => s.lp_updLp_ne f hq

theorem State.logAdd_otherLinks (s : State) (p : Nat) {a b c d : Nat} {l : List Nat} : OtherLinks p s (s.logAdd a b c d l) :=
  .of_lp fun q => s.lp_logAdd q a b c d l

/-- A change of one port's registers is a change of nothing else. -/
theorem State.updLp_onlyLink (s : State) (p : Nat) (f : LPort → LPort) : OnlyLink p s (s.updLp p f) :=
  ⟨rfl, s.updLp_otherLinks p f⟩

/-- A change of one port's registers and of its counters. -/
theorem State.updLp_lcount_linkAndCounters (s : State) (p : Nat) (f : LPort → LPort) (name : String) (n : Nat) :
    LinkAndCounters p s ((s.updLp p f).lcount name p n) :=
  ⟨rfl, s.updLp_otherLinks p f⟩

/-! ### Faults of a port (R194, R212) -/

/-- The retrains and failed trainings of a port in the last 60 s. -/
def State.recentFaults (s : State) (p : Nat) : List Nat :=
  (s.lp p).faults.filter (fun a => decide (s.ns < a + 60000000000))

/-- A port that is FAILED: its session is gone (R212, R301). -/
def LPort.failed (x : LPort) (now : Nat) : LPort :=
  { x.untrained with st := .failed, since := now, lanes := List.replicate 4 false, keep := false, sessId := 0, retry := none
                     wasFailed := true }

theorem State.lp_failPort (s : State) (p : Nat) : (s.failPort p).lp p = (s.lp p).failed s.ns := by
  rw [State.failPort, State.lp_logAdd, State.lp_loseSession, State.lp_updLp]
  rfl

theorem State.failPort_otherLinks (s : State) (p : Nat) : OtherLinks p s (s.failPort p) :=
  (s.updLp_otherLinks p _).trans (State.logAdd_otherLinks _ p)

theorem State.failPort_created (s : State) (p : Nat) : (s.failPort p).log.created = s.log.created + 1 :=
  State.logAdd_created _ (by decide) ..

@[simp] theorem State.ns_failPort (s : State) (p : Nat) : (s.failPort p).ns = s.ns := State.ns_logAdd ..

/-- The fault just counted, before the recent ones. -/
def State.faulted (s : State) (p : Nat) : State := s.updLp p (fun x => { x with faults := s.ns :: s.recentFaults p })

theorem State.lp_faulted (s : State) (p : Nat) : (s.faulted p).lp p = { s.lp p with faults := s.ns :: s.recentFaults p } :=
  s.lp_updLp p _

theorem State.linkFault_survives {s : State} {p : Nat} (h : (s.recentFaults p).length < 3) : s.linkFault p = s.faulted p :=
  if_neg (by simpa [State.recentFaults] using h)

theorem State.linkFault_fails {s : State} {p : Nat} (h : 3 ≤ (s.recentFaults p).length) : s.linkFault p = (s.faulted p).failPort p :=
  if_pos (by simpa [State.recentFaults] using h)

/-- Up to the fourth fault only the fault is kept; the fourth fails the port with one entry. -/
theorem State.linkFault_cases (s : State) (p : Nat) :
    (s.recentFaults p).length < 3 ∧ s.linkFault p = s.faulted p
      ∨ 3 ≤ (s.recentFaults p).length ∧ s.linkFault p = (s.faulted p).failPort p := by
  rcases Nat.lt_or_ge (s.recentFaults p).length 3 with h | h
  · exact .inl ⟨h, State.linkFault_survives h⟩
  · exact .inr ⟨h, State.linkFault_fails h⟩

theorem State.linkFault_otherLinks (s : State) (p : Nat) : OtherLinks p s (s.linkFault p) := by
  rcases s.linkFault_cases p with ⟨-, h⟩ | ⟨-, h⟩ <;> rw [h]
  · exact s.updLp_otherLinks p _
  · exact (s.updLp_otherLinks p _).trans (State.failPort_otherLinks _ p)

@[simp] theorem State.ns_linkFault (s : State) (p : Nat) : (s.linkFault p).ns = s.ns := by
  rcases s.linkFault_cases p with ⟨-, h⟩ | ⟨-, h⟩ <;> rw [h]
  · rfl
  · exact State.ns_failPort _ p

/-! ### A retrain (R194) -/

theorem State.retrain_idle {s : State} {p : Nat} (h : (s.lp p).st ≠ .active) : s.retrain p = s := by
  rw [State.retrain, if_pos (bne_iff_ne.mpr h)]

/-- A port in RETRAIN, which asks to keep its session. -/
def LPort.retraining (x : LPort) (now : Nat) : LPort := { x.untrained with st := .retrain, keep := true, since := now }

/-- What a retrain of an ACTIVE port does: RETRAIN with one entry, or FAILED with two where it is the fourth fault. -/
theorem State.retrain_spec {s : State} {p : Nat} (hst : (s.lp p).st = .active) :
    ((s.recentFaults p).length < 3 → ((s.retrain p).lp p = { (s.lp p).retraining s.ns with faults := s.ns :: s.recentFaults p }
        ∧ (s.retrain p).log.created = s.log.created + 1))
      ∧ (3 ≤ (s.recentFaults p).length → ((s.retrain p).lp p).st = .failed ∧ (s.retrain p).log.created = s.log.created + 2)
      ∧ OtherLinks p s (s.retrain p) := by
  have hactive : ¬((s.lp p).st != .active) = true := by simp [hst]
  rw [State.retrain, if_neg hactive]
  extract_lets s1
  have hs1 : s1.lp p = (s.lp p).retraining s.ns := by rw [State.lp_lcount, State.lp_updLp]; rfl
  generalize hs2 : s1.logAdd _ _ _ _ _ = s2
  have hlp : s2.lp p = (s.lp p).retraining s.ns := by rw [← hs2, State.lp_logAdd, hs1]
  have hns : s2.ns = s.ns := by rw [← hs2, State.ns_logAdd]; rfl
  have hcreated : s2.log.created = s.log.created + 1 := by rw [← hs2]; exact State.logAdd_created s1 (by decide) ..
  have hrecent : s2.recentFaults p = s.recentFaults p := by rw [State.recentFaults, hlp, hns]; rfl
  have hothers : OtherLinks p s s2 := by
    rw [← hs2]
    exact (s.updLp_otherLinks p _).trans (s1.logAdd_otherLinks p)
  refine ⟨fun h => ?_, fun h => ?_, hothers.trans (s2.linkFault_otherLinks p)⟩
  · rw [State.linkFault_survives (hrecent ▸ h), State.lp_faulted, hlp, hns, hrecent]
    exact ⟨rfl, hcreated⟩
  · rw [State.linkFault_fails (hrecent ▸ h), State.lp_failPort, State.failPort_created]
    exact ⟨rfl, congrArg (· + 1) hcreated⟩

/-! ### A retransmission is asked for (R193) -/

/-- The RETRY_REQ a port sends: its type, the SEQ expected, the cause and the number of requests. -/
def LPort.retryFlit (x : LPort) (cause : Nat) : Bytes :=
  beBytes 1 2 ++ beBytes 2 x.rxSeq ++ beBytes 1 cause ++ zeros 1 ++ beBytes 4 (x.reqCount + 1)

theorem LPort.retryFlit_type (x : LPort) (cause : Nat) : byteAt (x.retryFlit cause) 0 = 2 := rfl

theorem LPort.retryFlit_expects (x : LPort) (cause : Nat) : be (x.retryFlit cause) 1 2 = x.rxSeq % 65536 :=
  be_two_of_bytes (BitVec.toNat_ofNat _ _) (BitVec.toNat_ofNat _ _)

theorem LPort.retryFlit_cause (x : LPort) (cause : Nat) : byteAt (x.retryFlit cause) 3 = cause % 256 := BitVec.toNat_ofNat _ _

/-- A port that waits for a retransmission and asks for it first. -/
def LPort.asking (x : LPort) (cause : Nat) : LPort :=
  { x with retry := some cause, reqCount := x.reqCount + 1, local_ := x.retryFlit cause :: x.local_ }

theorem State.startRetry_idle {s : State} {p : Nat} (cause : Nat) (h : (s.lp p).st ≠ .active) : s.startRetry p cause = s := by
  simp [State.startRetry, h]

theorem State.startRetry_asks {s : State} {p : Nat} (cause : Nat) (hst : (s.lp p).st = .active) (hretry : (s.lp p).retry = none) :
    s.startRetry p cause = (s.updLp p (LPort.asking · cause)).lcount "RETRY_SENT" p 1 := by
  simp [State.startRetry, hst, hretry]
  rfl

/-- A flit discarded outside ACTIVE is only counted (R185). -/
theorem State.discardFlit_counts {s : State} {p : Nat} (cause : Nat) (h : (s.lp p).st ≠ .active) :
    s.discardFlit p cause = s.lcount "FLIT_DISCARDS" p 1 :=
  State.startRetry_idle cause h

theorem State.discardFlit_linkAndCounters (s : State) (p cause : Nat) : LinkAndCounters p s (s.discardFlit p cause) := by
  unfold State.discardFlit State.startRetry
  extract_lets x
  split
  · exact ⟨rfl, OtherLinks.rfl⟩
  · exact ⟨rfl, State.updLp_otherLinks _ p _⟩

/-! ### Acknowledgements (R192) -/

theorem findIdxFrom_none {α : Type} {f : α → Bool} {l : List α} (h : ∀ x ∈ l, f x = false) (i : Nat) : findIdxFrom f l i = none := by
  induction l generalizing i with
  | nil => rfl
  | cons x l ih =>
    rw [findIdxFrom, if_neg (by simp [h x List.mem_cons_self]), ih (fun y hy => h y (List.mem_cons_of_mem _ hy))]

theorem findIdxFrom_split {α : Type} {f : α → Bool} {pre post : List α} {x : α} (hpre : ∀ y ∈ pre, f y = false) (hx : f x = true)
    (i : Nat) : findIdxFrom f (pre ++ x :: post) i = some (i + pre.length, x) := by
  induction pre generalizing i with
  | nil => simp [findIdxFrom, hx]
  | cons y pre ih =>
    rw [List.cons_append, findIdxFrom, if_neg (by simp [hpre y List.mem_cons_self]),
      ih (fun z hz => hpre z (List.mem_cons_of_mem _ hz)), List.length_cons, Nat.add_right_comm, Nat.add_assoc]

theorem LPort.covered_none {x : LPort} {a : Nat} (h : ∀ f ∈ x.replay, f.seq ≠ a) : x.covered a = ([], x) := by
  rw [LPort.covered, findIdxFrom_none fun f hf => beq_false_of_ne (h f hf)]

theorem LPort.covered_split {x : LPort} {a : Nat} {pre post : List TxFlit} {f : TxFlit} (hreplay : x.replay = pre ++ f :: post)
    (hf : f.seq = a) (hpre : ∀ y ∈ pre, y.seq ≠ a) :
    x.covered a = (pre ++ [f], { x with replay := post, ackSeq := a, replayRun := 0 }) := by
  have hfind := findIdxFrom_split (post := post) (fun y hy => beq_false_of_ne (hpre y hy)) (beq_iff_eq.mpr hf) 0
  rw [← hreplay] at hfind
  have htake : x.replay.take (0 + pre.length + 1) = pre ++ [f] := by simp [hreplay, List.take_append]
  have hdrop : x.replay.drop (0 + pre.length + 1) = post := by simp [hreplay, List.drop_append]
  rw [LPort.covered, hfind]
  simp only [htake, hdrop]

/-- An acknowledgement covers nothing, or the flits up to the first with its SEQ. -/
theorem LPort.covered_cases (x : LPort) (a : Nat) : x.covered a = ([], x) ∨ ∃ pre f post, x.replay = pre ++ f :: post
    ∧ x.covered a = (pre ++ [f], { x with replay := post, ackSeq := a, replayRun := 0 }) := by
  cases h : x.replay.find? (fun f => f.seq == a) with
  | none => exact .inl (LPort.covered_none fun f hf => by simpa using List.find?_eq_none.mp h f hf)
  | some f =>
    obtain ⟨hf, pre, post, hreplay, hpre⟩ := List.find?_eq_some_iff_append.mp h
    exact .inr ⟨pre, f, post, hreplay, LPort.covered_split hreplay (beq_iff_eq.mp hf) fun y hy => by simpa using hpre y hy⟩

theorem State.creditAcked_frame (s : State) (tag : Option (Nat × Nat × Nat × Nat)) (n : Nat) :
    ∃ psg, s.creditAcked tag n = { s with psg := psg } := by
  unfold State.creditAcked State.updPsg
  split
  · exact ⟨_, rfl⟩
  · split <;> exact ⟨_, rfl⟩

theorem State.foldl_creditAcked_frame (l : List (Option (Nat × Nat × Nat × Nat) × Nat)) (s : State) :
    ∃ psg, l.foldl (fun s g => s.creditAcked g.1 g.2) s = { s with psg := psg } :=
  List.foldlRecOn l _ (motive := fun t => ∃ psg, t = { s with psg := psg }) ⟨_, rfl⟩ fun t ht g _ => by
    obtain ⟨_, rfl⟩ := ht
    exact State.creditAcked_frame _ g.1 g.2

/-- An acknowledgement that covers nothing changes nothing; another takes the flits it covers out of the replay buffer, and
notes them on their frames and passages. -/
theorem State.ackIn_spec (s : State) (p a : Nat) :
    (s.lp p).covered a = ([], s.lp p) ∧ s.ackIn p a = s
      ∨ ∃ pre f post sentq txq psg, (s.lp p).replay = pre ++ f :: post
        ∧ (s.lp p).covered a = (pre ++ [f], { s.lp p with replay := post, ackSeq := a, replayRun := 0 })
        ∧ s.ackIn p a = { s.updLp p (fun _ => { s.lp p with replay := post, ackSeq := a, replayRun := 0
                                                            sentq := sentq, txq := txq }) with psg := psg } := by
  rcases (s.lp p).covered_cases a with h | ⟨pre, f, post, hreplay, h⟩
  · exact .inl ⟨h, by rw [State.ackIn, h]; rfl⟩
  · have hsome : ¬(pre ++ [f] == []) = true := by simp
    rw [State.ackIn, h]
    dsimp only
    rw [if_neg hsome]
    obtain ⟨psg, hpsg⟩ := State.foldl_creditAcked_frame _ _
    exact .inr ⟨pre, f, post, _, _, psg, hreplay, rfl, hpsg⟩

/-- The limits that a flit advertises, taken over (R184, R197). -/
def LPort.hearing (f : Bytes) (x : LPort) : LPort :=
  let put := fun (l : List Nat) (on : Bool) (v n : Nat) => if on then l.set v (newLimit (l.getD v 0) n) else l
  { x with limit := put (put x.limit (bit (byteAt f 6) 7) (bits (byteAt f 6) 4 3) (be f 8 2)) (bit (byteAt f 6) 3)
                      (bits (byteAt f 6) 0 3) (be f 10 2) }

theorem State.headerIn_eq (s : State) (p : Nat) (f : Bytes) : s.headerIn p f = (s.ackIn p (fackOf f)).updLp p (LPort.hearing f) := rfl

theorem State.headerIn_uncovered {s : State} {p : Nat} {f : Bytes} (h : ∀ x ∈ (s.lp p).replay, x.seq ≠ fackOf f) :
    s.headerIn p f = s.updLp p (LPort.hearing f) := by
  rcases s.ackIn_spec p (fackOf f) with ⟨-, hack⟩ | ⟨_, _, _, _, _, _, -, hcov, -⟩
  · rw [State.headerIn_eq, hack]
  · simp [LPort.covered_none h] at hcov

theorem State.lp_updLp_psg (s : State) (p : Nat) (f : LPort → LPort) (psg : Tbl Passage) :
    ({ s.updLp p f with psg := psg } : State).lp p = f (s.lp p) := s.lp_updLp p f

/-- Of its port, an acknowledgement writes the replay buffer and the frames that wait for it. -/
theorem State.lp_ackIn (s : State) (p a : Nat) : (s.ackIn p a).lp p = { s.lp p with
    replay := ((s.ackIn p a).lp p).replay, ackSeq := ((s.ackIn p a).lp p).ackSeq, replayRun := ((s.ackIn p a).lp p).replayRun
    sentq := ((s.ackIn p a).lp p).sentq, txq := ((s.ackIn p a).lp p).txq } := by
  rcases s.ackIn_spec p a with ⟨-, h⟩ | ⟨_, _, _, _, _, _, -, -, h⟩ <;> rw [h]
  rw [State.lp_updLp_psg]

/-- What an acknowledgement leaves in the replay buffer was there before. -/
theorem State.replay_ackIn {s : State} {p a : Nat} {f : TxFlit} (h : f ∈ ((s.ackIn p a).lp p).replay) : f ∈ (s.lp p).replay := by
  rcases s.ackIn_spec p a with ⟨-, hack⟩ | ⟨pre, g, post, sentq, txq, psg, hreplay, -, hack⟩ <;> rw [hack] at h
  · exact h
  · rw [State.lp_updLp_psg] at h
    rw [hreplay]
    exact List.mem_append_right _ (List.mem_cons_of_mem _ h)

theorem State.lp_ackIn_covered (s : State) (p a : Nat) : (s.ackIn p a).lp p = { ((s.lp p).covered a).2 with
    sentq := ((s.ackIn p a).lp p).sentq, txq := ((s.ackIn p a).lp p).txq } := by
  rcases s.ackIn_spec p a with ⟨hcov, h⟩ | ⟨_, _, _, _, _, _, -, hcov, h⟩ <;> rw [h, hcov]
  rw [State.lp_updLp_psg]

theorem State.ackIn_otherLinks (s : State) (p a : Nat) : OtherLinks p s (s.ackIn p a) := by
  rcases s.ackIn_spec p a with ⟨-, h⟩ | ⟨_, _, _, _, _, _, -, -, h⟩ <;> rw [h]
  · exact .rfl
  · exact s.updLp_otherLinks p _

theorem State.ackIn_frame (s : State) (p a : Nat) :
    s.ackIn p a = { s with lnk := { s.lnk with port := (s.ackIn p a).lnk.port }, psg := (s.ackIn p a).psg } := by
  rcases s.ackIn_spec p a with ⟨-, h⟩ | ⟨_, _, _, _, _, _, -, -, h⟩ <;> rw [h]
  rfl

/-! ### What every good flit brings (R184) -/

theorem State.lp_headerIn (s : State) (p : Nat) (f : Bytes) : (s.headerIn p f).lp p = { s.lp p with
    replay := ((s.headerIn p f).lp p).replay, ackSeq := ((s.headerIn p f).lp p).ackSeq
    replayRun := ((s.headerIn p f).lp p).replayRun, sentq := ((s.headerIn p f).lp p).sentq, txq := ((s.headerIn p f).lp p).txq
    limit := ((s.headerIn p f).lp p).limit } := by
  rw [State.headerIn_eq, State.lp_updLp, State.lp_ackIn]
  rfl

theorem State.headerIn_otherLinks (s : State) (p : Nat) (f : Bytes) : OtherLinks p s (s.headerIn p f) :=
  (s.ackIn_otherLinks p _).trans (State.updLp_otherLinks _ p _)

theorem State.headerIn_frame (s : State) (p : Nat) (f : Bytes) :
    s.headerIn p f = { s with lnk := { s.lnk with port := (s.headerIn p f).lnk.port }, psg := (s.headerIn p f).psg } := by
  rw [State.headerIn_eq, State.ackIn_frame]
  rfl

section
variable (s : State) (p : Nat) (f : Bytes)
@[simp] theorem State.st_headerIn : ((s.headerIn p f).lp p).st = (s.lp p).st := by rw [State.lp_headerIn]
@[simp] theorem State.rxSeq_headerIn : ((s.headerIn p f).lp p).rxSeq = (s.lp p).rxSeq := by rw [State.lp_headerIn]
@[simp] theorem State.retry_headerIn : ((s.headerIn p f).lp p).retry = (s.lp p).retry := by rw [State.lp_headerIn]
@[simp] theorem State.open_headerIn : ((s.headerIn p f).lp p).open_ = (s.lp p).open_ := by rw [State.lp_headerIn]
@[simp] theorem State.local_headerIn : ((s.headerIn p f).lp p).local_ = (s.lp p).local_ := by rw [State.lp_headerIn]
@[simp] theorem State.headerIn_topo : (s.headerIn p f).topo = s.topo := by rw [State.headerIn_frame]
@[simp] theorem State.headerIn_ast : (s.headerIn p f).ast = s.ast := by rw [State.headerIn_frame]
end

end Sys2Proof.Machine
end

section
/-! SUPPORT. Training, its sessions and their end: the sessions that READY opens (06 R186 to R191, R194, R212); and statement
O32. -/

namespace Sys2Proof.Machine

open Safety

/-! ### Sessions (R190) -/

/-- Frames of the session before, from their first flit, without the responses that are lost with it. -/
def LPort.resent (x : LPort) : LPort :=
  { x with
    sentq := []
    txq := ((x.sentq ++ x.txq).filter (fun f => byteAt f.bytes 0 != 0x11)).map (fun f => { f with done := 0, fid := 0, counted := 0 }) }

theorem State.queueError_frame (s : State) (q : Nat) : ∃ fm, s.queueError q = { s with fm := fm } := by
  unfold State.queueError State.updQueue
  split <;> exact ⟨_, rfl⟩

theorem State.resendFrames_frame (s : State) (p : Nat) : ∃ fm, s.resendFrames p = { s.updLp p LPort.resent with fm := fm } :=
  List.foldlRecOn _ _ (motive := fun t => ∃ fm, t = { s.updLp p LPort.resent with fm := fm }) ⟨_, rfl⟩ fun t ht f _ => by
    obtain ⟨_, rfl⟩ := ht
    obtain ⟨_, h⟩ := State.queueError_frame { s.updLp p LPort.resent with fm := _ } (fhdr f.bytes).qp
    rw [h]
    exact ⟨_, rfl⟩

/-- The registers with which a new session starts: SEQ 0, an empty replay buffer, and the limits both sides advertise. -/
def LPort.afresh (x : LPort) : LPort :=
  { x.resent with
    txSeq := 0, rxSeq := 0, ackSeq := 0xFFFF, replay := [], replayAt := none, replayOf := none, replayRun := 0
    sent := List.replicate 8 0, limit := (List.range 8).map (fun v => be (zeros 16 ++ x.lastTrain) (28 + 2 * v) 2)
    ownLimit := ownAdvert, open_ := [], heldq := x.heldq.map (fun h => (h.1, h.2.1, 0)), frameId := 0, retry := none
    reqCount := 0, hailSeq := 0 }

theorem State.newSession_spec (s : State) (p : Nat) : (s.newSession p).lp p = (s.lp p).afresh ∧ OtherLinks p s (s.newSession p)
    ∧ (s.newSession p).out = s.out := by
  obtain ⟨fm, h⟩ := s.resendFrames_frame p
  have hlp : (s.resendFrames p).lp p = (s.lp p).resent := by rw [h]; exact s.lp_updLp p _
  have hothers : OtherLinks p s (s.resendFrames p) := by rw [h]; exact s.updLp_otherLinks p _
  have hout : (s.resendFrames p).out = s.out := by rw [h]; rfl
  unfold State.newSession
  split
  all_goals
    simp only [State.lp_lcount, State.lp_updLp, State.lp_loseSession, hlp]
    exact ⟨rfl, hothers.trans (State.updLp_otherLinks _ p _), hout⟩

theorem State.lp_keptSession (s : State) (p : Nat) : (s.keptSession p).lp p = { s.lp p with
    replay := ((s.keptSession p).lp p).replay, ackSeq := ((s.keptSession p).lp p).ackSeq
    replayRun := ((s.keptSession p).lp p).replayRun, sentq := ((s.keptSession p).lp p).sentq
    txq := ((s.keptSession p).lp p).txq, limit := ((s.keptSession p).lp p).limit
    replayAt := ((s.keptSession p).lp p).replayAt, replayOf := ((s.keptSession p).lp p).replayOf, retry := none } := by
  rw [State.keptSession, State.lp_updLp, State.lp_ackIn]

theorem State.replay_keptSession {s : State} {p : Nat} {f : TxFlit} (h : f ∈ ((s.keptSession p).lp p).replay) :
    f ∈ (s.lp p).replay := by
  rw [State.keptSession, State.lp_updLp] at h
  exact State.replay_ackIn h

theorem State.keptSession_otherLinks (s : State) (p : Nat) : OtherLinks p s (s.keptSession p) :=
  (s.ackIn_otherLinks p _).trans (State.updLp_otherLinks _ p _)

theorem State.keptSession_out (s : State) (p : Nat) : (s.keptSession p).out = s.out := by
  rw [State.keptSession, State.updLp_out, State.ackIn_frame]

/-! ### Into ACTIVE (R188) -/

/-- The session that a port opens: kept, or new. -/
def State.session (s : State) (p : Nat) : State := if (s.lp p).keeps then s.keptSession p else s.newSession p

theorem State.session_kept {s : State} {p : Nat} (h : (s.lp p).keeps = true) : s.session p = s.keptSession p := if_pos h

theorem State.session_new {s : State} {p : Nat} (h : (s.lp p).keeps = false) : s.session p = s.newSession p :=
  if_neg (by simp [h])

theorem State.session_otherLinks (s : State) (p : Nat) : OtherLinks p s (s.session p) := by
  unfold State.session
  split
  · exact s.keptSession_otherLinks p
  · exact (s.newSession_spec p).2.1

theorem State.session_out (s : State) (p : Nat) : (s.session p).out = s.out := by
  unfold State.session
  split
  · exact s.keptSession_out p
  · exact (s.newSession_spec p).2.2

/-- A port ACTIVE in its session with the far side. -/
def LPort.active (x : LPort) : LPort :=
  { x with st := .active, sessId := x.farId, keep := false, trainActive := 0, wasFailed := false }

/-- READY has gone both ways 8 times in NEGOTIATE (R188). -/
def LPort.ready (x : LPort) : Prop := x.st = .negotiate ∧ 8 ≤ x.readyTx ∧ 8 ≤ x.readyRx

/-- A port tries to be ACTIVE: nothing happens until READY, which opens its session. -/
theorem State.tryActive_cases (s : State) (p : Nat) : ¬(s.lp p).ready ∧ s.tryActive p = s
    ∨ (s.tryActive p).lp p = ((s.session p).lp p).active ∧ OtherLinks p s (s.tryActive p)
      ∧ (s.tryActive p).out = s.out := by
  unfold State.tryActive
  extract_lets x s1 s2
  have hs2 : s2.lp p = ((s.session p).lp p).active := by
    rw [show s2 = _ from rfl, State.lp_updLp]
    rfl
  have hothers : OtherLinks p s s2 := (s.session_otherLinks p).trans (State.updLp_otherLinks _ p _)
  have hout : s2.out = s.out := s.session_out p
  split
  · right
    split
    · exact ⟨(State.lp_logAdd ..).trans hs2, hothers.trans (State.logAdd_otherLinks _ p), (State.logAdd_out ..).trans hout⟩
    · exact ⟨hs2, hothers, hout⟩
  · rename_i h
    exact .inl ⟨fun hready => h (by simpa [LPort.ready, and_assoc] using hready), rfl⟩

theorem State.tryActive_idle {s : State} {p : Nat} (h : (s.lp p).readyTx < 8) : s.tryActive p = s := by
  simp [State.tryActive, Nat.not_le.mpr h]

theorem State.tryActive_enters {s : State} {p : Nat} (hready : (s.lp p).ready) :
    (s.tryActive p).lp p = ((s.session p).lp p).active ∧ OtherLinks p s (s.tryActive p) := by
  rcases s.tryActive_cases p with ⟨hnot, -⟩ | ⟨hlp, hothers, -⟩
  · exact absurd hready hnot
  · exact ⟨hlp, hothers⟩

/-! ### TRAIN flits in NEGOTIATE (R187 to R190) -/

theorem linkVersion_some {f : Bytes} (hmin : trainVerMin f ≤ 1) (hmax : 1 ≤ trainVerMax f) : linkVersion f = some 1 := by
  simp [linkVersion, hmin, hmax]

theorem linkVersion_none {f : Bytes} (h : 1 < trainVerMin f ∨ trainVerMax f < 1) : linkVersion f = none := by
  rw [linkVersion, if_neg]
  rw [decide_eq_true_eq]
  omega

/-- The registers after a good TRAIN flit of version `v` (R188, R189). -/
def LPort.trained (f : Bytes) (v : Nat) (x : LPort) : LPort :=
  let c := bytesAt f 16 232
  let run := if x.lastTrain == c then x.trainRun + 1 else 1
  let ready := decide (8 ≤ run) && x.lanes.all id
  { x with
    lastTrain := c, trainRun := run
    version := if ready then v else x.version
    farRole := if ready then byteAt f 22 else x.farRole
    farId := if ready then trainNode f else x.farId
    farDepth := if ready then be f 26 2 else x.farDepth
    readyRx := if trainReady f then x.readyRx + 1 else x.readyRx }

/-- The state after a good TRAIN flit, before the port tries to be ACTIVE. -/
def State.train (s : State) (p : Nat) (f : Bytes) : State := s.updLp p (LPort.trained f 1)

theorem State.lp_train (s : State) (p : Nat) (f : Bytes) : (s.train p f).lp p = (s.lp p).trained f 1 := s.lp_updLp p _

section
variable {p : Fin 256} {flit : Bytes} {s : State} (hlive : s.lpLive p = true) (hst : (s.lp p).st = .negotiate)
  (hgood : flitGood flit = true) (htype : ftypeOf flit = 5) (hnode : trainNode flit ≠ 0)
include hlive hst hgood htype hnode

theorem trainFlit_next : exec (.trainFlit p flit) s = .next (s.negotiate p flit) := by
  simp [exec, execTrainFlit, hlive, hst, hgood, htype, hnode]

/-- The version is one the module has. -/
theorem trainFlit_supported (hmin : trainVerMin flit ≤ 1) (hmax : 1 ≤ trainVerMax flit) :
    exec (.trainFlit p flit) s = .next ((s.train p flit).tryActive p) := by
  rw [trainFlit_next hlive hst hgood htype hnode, State.negotiate, linkVersion_some hmin hmax]
  rfl

theorem trainFlit_counts (hmin : trainVerMin flit ≤ 1) (hmax : 1 ≤ trainVerMax flit) (htx : (s.lp p).readyTx < 8) :
    ∃ t, exec (.trainFlit p flit) s = .next t ∧ (t.lp p).st = .negotiate ∧ (t.lp p).lastTrain = bytesAt flit 16 232
      ∧ (t.lp p).trainRun = (if (s.lp p).lastTrain = bytesAt flit 16 232 then (s.lp p).trainRun + 1 else 1)
      ∧ (t.lp p).readyRx = (s.lp p).readyRx + (if trainReady flit then 1 else 0) ∧ OnlyLink p s t := by
  have hidle : (s.train p flit).tryActive p = s.train p flit := State.tryActive_idle (by rw [State.lp_train]; exact htx)
  refine ⟨s.train p flit, by rw [trainFlit_supported hlive hst hgood htype hnode hmin hmax, hidle], ?_⟩
  rw [State.lp_train]
  refine ⟨hst, rfl, by simp [LPort.trained], ?_, s.updLp_onlyLink p _⟩
  simp only [LPort.trained]
  split <;> rfl

/-- The READY that makes the eighth both ways opens the session. -/
theorem trainFlit_opens (hmin : trainVerMin flit ≤ 1) (hmax : 1 ≤ trainVerMax flit) (htx : 8 ≤ (s.lp p).readyTx)
    (hrx : 7 ≤ (s.lp p).readyRx) (hready : trainReady flit = true) : ∃ t, exec (.trainFlit p flit) s = .next t
      ∧ t.lp p = (((s.train p flit).session p).lp p).active ∧ OtherLinks p s t := by
  have hall : ((s.train p flit).lp p).ready := by
    rw [State.lp_train]
    exact ⟨hst, htx, by simpa [LPort.trained, hready] using hrx⟩
  obtain ⟨hlp, hothers⟩ := State.tryActive_enters hall
  exact ⟨_, trainFlit_supported hlive hst hgood htype hnode hmin hmax, hlp, (s.updLp_otherLinks p _).trans hothers⟩

theorem trainFlit_newSession (hmin : trainVerMin flit ≤ 1) (hmax : 1 ≤ trainVerMax flit) (htx : 8 ≤ (s.lp p).readyTx)
    (hrx : 7 ≤ (s.lp p).readyRx) (hready : trainReady flit = true) (hsess : (s.lp p).sessId = 0) :
    ∃ t, exec (.trainFlit p flit) s = .next t ∧ (t.lp p).st = .active ∧ (t.lp p).txSeq = 0 ∧ (t.lp p).rxSeq = 0
      ∧ (t.lp p).ackSeq = 0xFFFF ∧ (t.lp p).replay = [] ∧ (t.lp p).ownLimit = ownAdvert
      ∧ (t.lp p).limit = (List.range 8).map (fun v => be flit (28 + 2 * v) 2) ∧ (t.lp p).sessId = (t.lp p).farId
      ∧ (∀ q, q ≠ p.val → t.lp q = s.lp q) := by
  obtain ⟨t, hnext, hlp, hothers⟩ := trainFlit_opens hlive hst hgood htype hnode hmin hmax htx hrx hready
  have hnew : ((s.train p flit).lp p).keeps = false := by simp [State.lp_train, LPort.keeps, LPort.trained, hsess]
  obtain ⟨hafresh, -, -⟩ := (s.train p flit).newSession_spec p
  rw [State.session_new hnew, hafresh, State.lp_train] at hlp
  have hlimit : ((s.lp p).trained flit 1).afresh.limit = (List.range 8).map (fun v => be flit (28 + 2 * v) 2) :=
    List.map_congr_left fun v hv => be_afterHeader flit (by omega) (by have := List.mem_range.mp hv; omega)
  refine ⟨t, hnext, ?_⟩
  rw [hlp]
  exact ⟨rfl, rfl, rfl, rfl, rfl, rfl, hlimit, rfl, hothers⟩

theorem trainFlit_keptSession (hmin : trainVerMin flit ≤ 1) (hmax : 1 ≤ trainVerMax flit) (htx : 8 ≤ (s.lp p).readyTx)
    (hrx : 7 ≤ (s.lp p).readyRx) (hready : trainReady flit = true) (hkeep : (s.lp p).keep = true)
    (hfar : trainKeep flit = true) (hsess : (s.lp p).sessId = trainNode flit) :
    ∃ t, exec (.trainFlit p flit) s = .next t ∧ (t.lp p).st = .active ∧ (t.lp p).txSeq = (s.lp p).txSeq
      ∧ (t.lp p).rxSeq = (s.lp p).rxSeq ∧ (t.lp p).sent = (s.lp p).sent ∧ (t.lp p).ownLimit = (s.lp p).ownLimit
      ∧ (∀ f ∈ (t.lp p).replay, f ∈ (s.lp p).replay) ∧ (∀ q, q ≠ p.val → t.lp q = s.lp q) := by
  obtain ⟨t, hnext, hlp, hothers⟩ := trainFlit_opens hlive hst hgood htype hnode hmin hmax htx hrx hready
  have hasks : trainKeep (zeros 16 ++ bytesAt flit 16 232) = true := by
    rw [trainKeep, byteAt_afterHeader flit (by decide) (by decide)]
    exact hfar
  have hsame : trainNode (zeros 16 ++ bytesAt flit 16 232) = trainNode flit := be_afterHeader flit (by decide) (by decide)
  have hkeeps : ((s.train p flit).lp p).keeps = true := by
    simp [State.lp_train, LPort.keeps, LPort.trained, hkeep, hsess, hnode, hasks, hsame]
  have hreplay : ∀ f ∈ (((s.train p flit).keptSession p).lp p).replay, f ∈ (s.lp p).replay := fun f hf => by
    have h := State.replay_keptSession hf
    rwa [State.lp_train] at h
  rw [State.session_kept hkeeps] at hlp
  refine ⟨t, hnext, ?_⟩
  rw [hlp]
  refine ⟨rfl, ?_, ?_, ?_, ?_, hreplay, hothers⟩
  all_goals
    rw [State.lp_keptSession, State.lp_train]
    rfl

end

/-! ### A version that the module has not (R189, R311) -/

/-- What a quarantine writes of the ports, before its entry in the log (R311). -/
def State.quarantined (s : State) (t cause : Nat) : State :=
  if cause == 2 then
    (List.range 8).foldl (fun s i =>
      if (s.tp (t / 8 * 8 + i)).lit || t / 8 * 8 + i == t
      then s.updTp (t / 8 * 8 + i) (fun p => { p with st := .quarantined, cause := 2 }) else s) s
  else s.updTp t (fun p => { p with st := .quarantined, cause := cause })

theorem State.quarantine_eq (s : State) (t cause : Nat) : s.quarantine t cause
    = (s.quarantined t cause).logAdd (if cause == 1 || cause == 3 then sevNotice else sevWarning) (s.owner t)
        (evNamed 7 "QUARANTINED") (agentKind 0 t) [t, cause] := rfl

theorem State.quarantined_reprobed (s : State) (t cause : Nat) : Reprobed s (s.quarantined t cause) := by
  unfold State.quarantined
  split
  · refine List.foldlRecOn _ _ (motive := Reprobed s) .rfl fun u hu i _ => ?_
    split
    · exact hu.trans (u.updTp_reprobed _ _)
    · exact hu
  · exact s.updTp_reprobed t _

theorem Reprobed.lp {s t : State} (h : Reprobed s t) (p : Nat) : t.lp p = s.lp p := by
  obtain ⟨⟨_, _, rfl⟩, -⟩ := h
  rfl

theorem Reprobed.log {s t : State} (h : Reprobed s t) : t.log = s.log := by
  obtain ⟨⟨_, _, rfl⟩, -⟩ := h
  rfl

theorem State.lp_quarantine (s : State) (t cause p : Nat) : (s.quarantine t cause).lp p = s.lp p := by
  rw [State.quarantine_eq, State.lp_logAdd, (s.quarantined_reprobed t cause).lp]

theorem State.quarantine_created (s : State) (t cause : Nat) : (s.quarantine t cause).log.created = s.log.created + 1 := by
  have hsev : (if cause == 1 || cause == 3 then sevNotice else sevWarning) ≠ 0 := by split <;> decide
  rw [State.quarantine_eq, State.logAdd_created _ hsev, (s.quarantined_reprobed t cause).log]

/-- The port INCOMPATIBLE, with its entry (R189). -/
def State.incompatible (s : State) (p : Nat) (f : Bytes) : State :=
  (s.updLp p (fun x => { x.untrained with st := .incompatible, lastTrain := bytesAt f 16 232 })).logAdd sevNotice
    (s.owner (refP p)) (evNamed 4 "INCOMPATIBLE") (agentKind 2 p) [p, trainVerMin f, trainVerMax f]

/-- Beside the port, the front port that lands on it may go into quarantine (R311). -/
theorem State.negotiate_incompatible {s : State} {f : Bytes} (p : Nat) (h : linkVersion f = none) :
    s.negotiate p f = s.incompatible p f ∨ ∃ t, s.negotiate p f = ((s.incompatible p f).quarantine t 3).endProbe t := by
  rw [State.negotiate, h]
  dsimp only
  split
  · split
    · exact .inr ⟨_, rfl⟩
    · exact .inl rfl
  · exact .inl rfl

theorem State.incompatible_created (s : State) (p : Nat) (f : Bytes) :
    (s.incompatible p f).log.created = s.log.created + 1 := State.logAdd_created _ (by decide) ..

theorem State.st_incompatible (s : State) (p : Nat) (f : Bytes) : ((s.incompatible p f).lp p).st = .incompatible := by
  rw [State.incompatible, State.lp_logAdd, State.lp_updLp]

theorem trainFlit_incompatible {p : Fin 256} {flit : Bytes} {s : State} (hlive : s.lpLive p = true)
    (hst : (s.lp p).st = .negotiate) (hgood : flitGood flit = true) (htype : ftypeOf flit = 5) (hnode : trainNode flit ≠ 0)
    (hversion : 1 < trainVerMin flit ∨ trainVerMax flit < 1) :
    ∃ t, exec (.trainFlit p flit) s = .next t ∧ (t.lp p).st = .incompatible ∧ s.log.created < t.log.created := by
  have hst' := s.st_incompatible p flit
  have hlog := s.incompatible_created p flit
  refine ⟨_, trainFlit_next hlive hst hgood htype hnode, ?_⟩
  rcases s.negotiate_incompatible p (linkVersion_none hversion) with h | ⟨k, h⟩ <;> rw [h]
  · exact ⟨hst', by omega⟩
  · have hend := ((s.incompatible p flit).quarantine k 3).endProbe_reprobed k
    rw [hend.lp, hend.log, State.lp_quarantine, State.quarantine_created]
    exact ⟨hst', by omega⟩

theorem trainFlit_discards {p : Fin 256} {flit : Bytes} {s : State} (hlive : s.lpLive p = true)
    (hst : (s.lp p).st = .negotiate) (hbad : flitGood flit = false ∨ ftypeOf flit ≠ 5 ∨ trainNode flit = 0) :
    ∃ t, exec (.trainFlit p flit) s = .next t ∧ t.lp p = s.lp p ∧ LinkAndCounters p s t := by
  have hdiscard : (!flitGood flit || ftypeOf flit != 5 || trainNode flit == 0) = true := by
    rcases hbad with h | h | h <;> simp [h]
  refine ⟨s.discardFlit p 1, by simp [exec, execTrainFlit, hlive, hst, hdiscard], ?_, s.discardFlit_linkAndCounters p 1⟩
  rw [State.discardFlit_counts 1 (by simp [hst]), State.lp_lcount]

/-! ### Attempts (R186, R191, R212) -/

theorem signalDetect_starts (p : Fin 256) (s : State) (hlive : s.lpLive p = true)
    (h : (s.lp p).st = .acquire ∨ (s.lp p).st = .off ∧ s.landed p = true) :
    ∃ t, exec (.signalDetect p) s = .next t
      ∧ t.lp p = { (s.lp p).untrained with st := .acquire, signal := true, since := s.ns } ∧ OnlyLink p s t := by
  have hstarts : (s.lpLive p && ((s.lp p).st == .acquire || ((s.lp p).st == .off && s.landed p))) = true := by
    rcases h with h | ⟨h, hlanded⟩
    · simp [hlive, h]
    · simp [hlive, h, hlanded]
  exact ⟨_, congrArg Host.Outcome.next (if_pos hstarts), s.lp_updLp p _, s.updLp_onlyLink p _⟩

theorem signalDetect_idle (p : Fin 256) (s : State)
    (h : s.lpLive p = false ∨ (s.lp p).st ≠ .acquire ∧ ((s.lp p).st ≠ .off ∨ s.landed p = false)) :
    exec (.signalDetect p) s = .next s := by
  have hidle : ¬(s.lpLive p && ((s.lp p).st == .acquire || ((s.lp p).st == .off && s.landed p))) = true := by
    rcases h with h | ⟨h, h' | h'⟩
    · simp [h]
    · simp [h, h']
    · simp [h, h']
  exact congrArg Host.Outcome.next (if_neg hidle)

theorem equaliserConverged_aligns (p : Fin 256) (s : State) (hst : (s.lp p).st = .acquire) (hsignal : (s.lp p).signal = true) :
    ∃ t, exec (.equaliserConverged p) s = .next t ∧ t.lp p = { s.lp p with st := .align } ∧ OnlyLink p s t :=
  ⟨_, congrArg Host.Outcome.next (if_pos (by simp [hst, hsignal])), s.lp_updLp p _, s.updLp_onlyLink p _⟩

theorem syncLockAcquired_locks (p : Fin 256) (lane : Fin 4) (decoded : Bool) (s : State)
    (hst : (s.lp p).st = .align ∨ (s.lp p).st = .retrain) :
    ∃ t, exec (.syncLockAcquired p lane decoded) s = .next t
      ∧ t.lp p = { s.lp p with
          lanes := (s.lp p).lanes.set lane true
          st := if ((s.lp p).lanes.set lane true).all id = true ∧ decoded = true then .negotiate else (s.lp p).st }
      ∧ OnlyLink p s t := by
  have htakes : ¬((s.lp p).st == .off || (s.lp p).st == .failed || (s.lp p).st == .acquire) = true := by
    rcases hst with h | h <;> simp [h]
  have htrains : ((s.lp p).st == .align || (s.lp p).st == .retrain) = true := by
    rcases hst with h | h <;> simp [h]
  refine ⟨_, congrArg Host.Outcome.next (if_neg htakes), ?_, s.updLp_onlyLink p _⟩
  rw [State.lp_updLp]
  dsimp only
  rw [htrains, Bool.true_and]
  simp only [Bool.and_eq_true]
  split <;> rfl

/-- A port back in ACQUIRE when its training has taken 100 ms (R191). -/
def State.timedOut (s : State) (p : Nat) : State :=
  (s.advanceTo ((s.lp p).since + 100000000)).updLp p (fun x => { x.untrained with
    st := .acquire, since := (s.advanceTo ((s.lp p).since + 100000000)).ns, lanes := List.replicate 4 false })

theorem trainingTimeout_next {p : Fin 256} {s : State} (hsignal : (s.lp p).signal = true)
    (hst : (s.lp p).st = .acquire ∨ (s.lp p).st = .align ∨ (s.lp p).st = .negotiate ∨ (s.lp p).st = .retrain) :
    exec (.trainingTimeout p) s = .next ((s.timedOut p).linkFault p) := by
  have htrains : ((s.lp p).signal && [LSt.acquire, .align, .negotiate, .retrain].contains (s.lp p).st) = true := by
    rcases hst with h | h | h | h <;> rw [hsignal, h] <;> rfl
  exact congrArg Host.Outcome.next (if_pos htrains)

theorem State.lp_timedOut (s : State) (p : Nat) : (s.timedOut p).lp p = { (s.lp p).untrained with
    st := .acquire, since := (s.timedOut p).ns, lanes := List.replicate 4 false } := State.lp_updLp _ p _

theorem trainingTimeout_counts (p : Fin 256) (s : State) (hsignal : (s.lp p).signal = true)
    (hst : (s.lp p).st = .acquire ∨ (s.lp p).st = .align ∨ (s.lp p).st = .negotiate ∨ (s.lp p).st = .retrain) :
    ∃ t, exec (.trainingTimeout p) s = .next t ∧ (s.lp p).since + 100000000 ≤ t.ns
      ∧ (((s.lp p).faults.filter (fun a => decide (t.ns < a + 60000000000))).length < 3 → (t.lp p).st = .acquire)
      ∧ (3 ≤ ((s.lp p).faults.filter (fun a => decide (t.ns < a + 60000000000))).length → (t.lp p).st = .failed
          ∧ (t.lp p).sessId = 0 ∧ t.log.created = s.log.created + 1)
      ∧ (∀ q, q ≠ p.val → t.lp q = s.lp q) := by
  have hothers : OtherLinks p s (s.timedOut p) := State.updLp_otherLinks _ p _
  have hrecent : (s.timedOut p).recentFaults p
      = (s.lp p).faults.filter (fun a => decide ((s.timedOut p).ns < a + 60000000000)) := by
    rw [State.recentFaults, State.lp_timedOut]
    rfl
  refine ⟨_, trainingTimeout_next hsignal hst, ?_⟩
  rw [State.ns_linkFault, ← hrecent]
  refine ⟨s.le_ns_advanceTo _, fun h => ?_, fun h => ?_, hothers.trans (State.linkFault_otherLinks _ p)⟩
  · rw [State.linkFault_survives h, State.lp_faulted, State.lp_timedOut]
  · rw [State.linkFault_fails h, State.lp_failPort, State.failPort_created]
    exact ⟨rfl, rfl, rfl⟩

theorem failedPortRetry_acquires (p : Fin 256) (s : State) (hst : (s.lp p).st = .failed)
    (hdie : s.mem.deadDies.contains (p.val / 64) = false) :
    ∃ t, exec (.failedPortRetry p) s = .next t ∧ t.lp p = { s.lp p with st := .acquire, since := t.ns }
      ∧ (s.lp p).since + 60000000000 ≤ t.ns ∧ (∀ q, q ≠ p.val → t.lp q = s.lp q)
      ∧ t = { s with ast := { s.ast with raw := t.ast.raw }, lnk := { s.lnk with port := t.lnk.port } } := by
  have hretries : ((s.lp p).st == .failed && !s.mem.deadDies.contains (p.val / 64)) = true := by rw [hst, hdie]; rfl
  exact ⟨_, congrArg Host.Outcome.next (if_pos hretries), State.lp_updLp _ p _, s.le_ns_advanceTo _,
    State.updLp_otherLinks _ p _, rfl⟩

theorem failedPortRetry_idle (p : Fin 256) (s : State) (h : (s.lp p).st ≠ .failed) : exec (.failedPortRetry p) s = .next s :=
  congrArg Host.Outcome.next (if_neg (by simp [h]))

/-! ### Retrains of an ACTIVE port and the end of a session (R194, R212) -/

/-- A row that retrains an ACTIVE port, after writing no more than which lanes hold sync lock. -/
theorem retrains_of_next {p : Fin 256} {c : Instr} {lane : Fin 4} {lanes : List Bool} {s s1 : State}
    (hnext : exec c s = .next (s1.retrain p)) (hlp : s1.lp p = { s.lp p with lanes := lanes }) (hst : (s.lp p).st = .active)
    (hns : s1.ns = s.ns) (hlog : s1.log = s.log) (hothers : OtherLinks p s s1)
    (hlanes : c = .syncLoss p lane → lanes = (s.lp p).lanes.set lane false) : ∃ t, exec c s = .next t
      ∧ (((s.lp p).faults.filter (fun a => decide (s.ns < a + 60000000000))).length < 3 → (t.lp p).st = .retrain
          ∧ (t.lp p).keep = true ∧ (t.lp p).sessId = (s.lp p).sessId ∧ (t.lp p).replay = (s.lp p).replay
          ∧ (c = .syncLoss p lane → (t.lp p).lanes = (s.lp p).lanes.set lane false)
          ∧ t.log.created = s.log.created + 1)
      ∧ (3 ≤ ((s.lp p).faults.filter (fun a => decide (s.ns < a + 60000000000))).length → (t.lp p).st = .failed
          ∧ t.log.created = s.log.created + 2)
      ∧ (∀ q, q ≠ p.val → t.lp q = s.lp q) := by
  have hrecent : s1.recentFaults p = (s.lp p).faults.filter (fun a => decide (s.ns < a + 60000000000)) := by
    rw [State.recentFaults, hlp, hns]
  obtain ⟨hsurvives, hfails, hrest⟩ := State.retrain_spec (s := s1) (p := p) (by rw [hlp]; exact hst)
  rw [← hrecent, ← hlog]
  refine ⟨_, hnext, fun h => ?_, hfails, hothers.trans hrest⟩
  obtain ⟨ht, hcreated⟩ := hsurvives h
  rw [ht, hlp]
  exact ⟨rfl, rfl, rfl, rfl, hlanes, hcreated⟩

theorem activePort_retrains (p : Fin 256) (c : Instr) (flit : Bytes) (lane : Fin 4) (s : State) (hlive : s.lpLive p = true)
    (hst : (s.lp p).st = .active)
    (hc : c = .syncLoss p lane ∨ c = .noGoodCrcTimeout p ∨ (c = .trainFlit p flit ∧ flitGood flit = true ∧ ftypeOf flit = 5
      ∧ trainNode flit ≠ 0 ∧ 64 ≤ (s.lp p).trainActive)) :
    ∃ t, exec c s = .next t
      ∧ (((s.lp p).faults.filter (fun a => decide (s.ns < a + 60000000000))).length < 3 → (t.lp p).st = .retrain
          ∧ (t.lp p).keep = true ∧ (t.lp p).sessId = (s.lp p).sessId ∧ (t.lp p).replay = (s.lp p).replay
          ∧ (c = .syncLoss p lane → (t.lp p).lanes = (s.lp p).lanes.set lane false)
          ∧ t.log.created = s.log.created + 1)
      ∧ (3 ≤ ((s.lp p).faults.filter (fun a => decide (s.ns < a + 60000000000))).length → (t.lp p).st = .failed
          ∧ t.log.created = s.log.created + 2)
      ∧ (∀ q, q ≠ p.val → t.lp q = s.lp q) := by
  rcases hc with rfl | rfl | ⟨rfl, hgood, htype, hnode, hmany⟩
  · have hnext : exec (.syncLoss p lane) s = .next (((s.updLp p (fun x => { x with lanes := x.lanes.set lane false })).lcount
        "SYNC_LOSSES" p 1).retrain p) := by simp [exec, execSyncLoss, hlive, hst]
    exact retrains_of_next hnext (s.lp_updLp p _) hst rfl rfl (s.updLp_otherLinks p _) fun _ => rfl
  · exact retrains_of_next (s1 := s) rfl rfl hst rfl rfl .rfl nofun
  · have hnext : exec (.trainFlit p flit) s = .next (s.retrain p) := by
      simp [exec, execTrainFlit, hlive, hst, hgood, htype, hnode, hmany]
    exact retrains_of_next hnext rfl hst rfl rfl .rfl nofun

theorem noGoodCrcTimeout_idle (p : Fin 256) (s : State) (h : (s.lp p).st ≠ .active) : exec (.noGoodCrcTimeout p) s = .next s :=
  congrArg Host.Outcome.next (State.retrain_idle h)

theorem trainFlit_activeCounts (p : Fin 256) (flit : Bytes) (s : State) (hlive : s.lpLive p = true) (hst : (s.lp p).st = .active)
    (hgood : flitGood flit = true) (htype : ftypeOf flit = 5) (hnode : trainNode flit ≠ 0) (hfew : (s.lp p).trainActive < 64) :
    ∃ t, exec (.trainFlit p flit) s = .next t ∧ t.lp p = { s.lp p with trainActive := (s.lp p).trainActive + 1 }
      ∧ OnlyLink p s t := by
  have hnext : exec (.trainFlit p flit) s = .next (s.updLp p (fun x => { x with trainActive := x.trainActive + 1 })) := by
    simp [exec, execTrainFlit, hlive, hst, hgood, htype, hnode, Nat.not_le.mpr hfew]
  exact ⟨_, hnext, s.lp_updLp p _, s.updLp_onlyLink p _⟩

theorem signalLoss_ends (p : Fin 256) (s : State) (hlive : s.lpLive p = true) (hoff : (s.lp p).st ≠ .off)
    (hfailed : (s.lp p).st ≠ .failed) :
    ∃ t, exec (.signalLoss p) s = .next t
      ∧ t.lp p = { (s.lp p).untrained with
          st := if s.landed p then .acquire else .off, signal := false, since := s.ns, lanes := List.replicate 4 false
          keep := (s.lp p).sessId != 0, retry := none }
      ∧ OnlyLink p s t :=
  ⟨_, congrArg Host.Outcome.next (if_neg (by simp [hlive, hoff, hfailed])), s.lp_updLp p _, s.updLp_onlyLink p _⟩

theorem sessionHoldExpiry_drops (p : Fin 256) (s : State) (hsignal : (s.lp p).signal = false) (hsess : (s.lp p).sessId ≠ 0)
    (hkeep : (s.lp p).keep = true) :
    ∃ t, exec (.sessionHoldExpiry p) s = .next t ∧ t.lp p = { s.lp p with keep := false }
      ∧ (s.lp p).since + 1000000000 ≤ t.ns ∧ (∀ q, q ≠ p.val → t.lp q = s.lp q)
      ∧ t = { s with ast := { s.ast with raw := t.ast.raw }, lnk := { s.lnk with port := t.lnk.port } } :=
  ⟨_, congrArg Host.Outcome.next (if_pos (by simp [hsignal, hsess, hkeep])), State.lp_updLp _ p _, s.le_ns_advanceTo _,
    State.updLp_otherLinks _ p _, rfl⟩

end Sys2Proof.Machine

namespace Sys2Proof.Proofs

open Sys2Proof.Machine

/-- Settles O32: the attempts, TRAIN flits and sessions of a training, and the retrains and losses that end a session. -/
theorem linkTrainingAndRetrains : Obligations.LinkTrainingAndRetrains :=
  ⟨⟨signalDetect_starts, signalDetect_idle, equaliserConverged_aligns, syncLockAcquired_locks,
      fun _ _ _ hlive hst hgood htype hnode => trainFlit_counts hlive hst hgood htype hnode,
      fun _ _ _ hlive hst hgood htype hnode => trainFlit_newSession hlive hst hgood htype hnode,
      fun _ _ _ hlive hst hgood htype hnode => trainFlit_keptSession hlive hst hgood htype hnode,
      fun _ _ _ hlive hst hgood htype hnode => trainFlit_incompatible hlive hst hgood htype hnode,
      fun _ _ _ hlive hst => trainFlit_discards hlive hst,
      trainingTimeout_counts, failedPortRetry_acquires, failedPortRetry_idle⟩,
    activePort_retrains, noGoodCrcTimeout_idle, trainFlit_activeCounts, signalLoss_ends, sessionHoldExpiry_drops⟩

end Sys2Proof.Proofs
end

section
/-! SUPPORT. The receiver of a terminated port: flits in and out of sequence, acknowledgements, codewords discarded, and
requests to replay (06 R184, R185, R192 to R194). -/

namespace Sys2Proof.Machine

open Safety

/-! ### Flits discarded (R185, R193) -/

/-- On an ACTIVE port that does not wait yet, a flit discarded is asked for. -/
theorem State.discardFlit_asks {s : State} {p : Nat} (cause : Nat) (hst : (s.lp p).st = .active) (hretry : (s.lp p).retry = none) :
    s.discardFlit p cause = ((s.lcount "FLIT_DISCARDS" p 1).updLp p (LPort.asking · cause)).lcount "RETRY_SENT" p 1 :=
  State.startRetry_asks cause hst hretry

theorem flitReceived_idle (p : Fin 256) (flit : Bytes) (s : State) (h : s.lpLive p = false ∨ (s.lp p).st ≠ .active) :
    exec (.flitReceived p flit) s = .next s :=
  congrArg Host.Outcome.next (if_pos (by rcases h with h | h <;> simp [h]))

theorem flitReceived_discards (p : Fin 256) (flit : Bytes) (s : State) (hlive : s.lpLive p = true) (hst : (s.lp p).st = .active)
    (hbad : flitGood flit = false) (hretry : (s.lp p).retry = none) :
    ∃ t b, exec (.flitReceived p flit) s = .next t ∧ byteAt b 0 = 2 ∧ be b 1 2 = (s.lp p).rxSeq % 65536 ∧ byteAt b 3 = 1
      ∧ t.lp p = { s.lp p with retry := some 1, reqCount := (s.lp p).reqCount + 1, local_ := b :: (s.lp p).local_ }
      ∧ LinkAndCounters p s t := by
  have hnext : exec (.flitReceived p flit) s = .next (s.discardFlit p 1) := by simp [exec, execFlitReceived, hlive, hst, hbad]
  refine ⟨_, (s.lp p).retryFlit 1, hnext, (s.lp p).retryFlit_type 1, (s.lp p).retryFlit_expects 1, (s.lp p).retryFlit_cause 1,
    ?_, s.discardFlit_linkAndCounters p 1⟩
  rw [State.discardFlit_asks 1 hst hretry, State.lp_lcount, State.lp_updLp, State.lp_lcount]
  rfl

/-! ### FRAME flits (R185, R193, R200) -/

/-- What the assembly of frames writes of a port: the frames open, the credit freed and the NAKs queued. -/
def Assembled (p : Nat) (s t : State) : Prop :=
  (∃ frames credit queue, t.lp p = { s.lp p with open_ := frames, ownLimit := credit, txq := queue }) ∧ OtherLinks p s t

theorem Assembled.rfl {p : Nat} {s : State} : Assembled p s s := ⟨⟨_, _, _, Eq.refl _⟩, .rfl⟩

theorem Assembled.trans {p : Nat} {s t u : State} : Assembled p s t → Assembled p t u → Assembled p s u := by
  rintro ⟨⟨_, _, _, ht⟩, hothers⟩ ⟨⟨_, _, _, hu⟩, hothers'⟩
  exact ⟨⟨_, _, _, by rw [hu, ht]⟩, hothers.trans hothers'⟩

theorem State.setOpen_assembled (s : State) (p : Nat) (f : Tbl (Bytes × Nat) → Tbl (Bytes × Nat)) :
    Assembled p s (s.updLp p (fun x => { x with open_ := f x.open_ })) :=
  ⟨⟨_, _, _, s.lp_updLp p _⟩, s.updLp_otherLinks p _⟩

theorem State.freeCredit_assembled (s : State) (p vc flits : Nat) : Assembled p s (s.freeCredit p vc flits) :=
  ⟨⟨_, _, _, s.lp_updLp p _⟩, s.updLp_otherLinks p _⟩

theorem State.nak_assembled (s : State) (p : Nat) (b : Bytes) (cause : Nat) : Assembled p s (s.nak p b cause) :=
  ⟨⟨_, _, _, s.lp_updLp p _⟩, s.updLp_otherLinks p _⟩

theorem State.dropOpen_assembled (s : State) (p vc : Nat) : Assembled p s (s.dropOpen p vc) := by
  unfold State.dropOpen
  split
  · exact .rfl
  · exact ((s.setOpen_assembled p (·.del vc)).trans (State.freeCredit_assembled _ p vc _)).trans (State.nak_assembled _ p _ 7)

/-- A flit that joins no frame, goes on with one, or ends one that is whole or not. -/
theorem State.assemble_assembled (s : State) (p : Nat) (f : Bytes) : Assembled p s (s.assemble p f) := by
  unfold State.assemble
  extract_lets vc s1
  have hs1 : Assembled p s s1 := by
    unfold s1
    split
    · exact s.dropOpen_assembled p vc
    · exact .rfl
  split
  · exact (hs1.trans (s1.freeCredit_assembled p vc 1)).trans (State.nak_assembled _ p _ 7)
  · rename_i b n _
    extract_lets b1
    split
    · exact hs1.trans (s1.setOpen_assembled p (·.put vc (b1, n + 1)))
    · have hclosed := hs1.trans (s1.setOpen_assembled p (·.del vc))
      split
      · exact hclosed
      · exact (hclosed.trans (State.freeCredit_assembled _ p vc (n + 1))).trans (State.nak_assembled _ p _ 7)

theorem State.probing_headerIn (s : State) (p : Nat) (f : Bytes) : (s.headerIn p f).probing p = s.probing p := by
  rw [State.probing, State.headerIn_topo, State.probing]

section
variable {p : Fin 256} {flit : Bytes} {s : State} (hlive : s.lpLive p = true) (hst : (s.lp p).st = .active)
  (hgood : flitGood flit = true)
include hlive hst hgood

theorem flitReceived_frame (htype : ftypeOf flit = 1) :
    exec (.flitReceived p flit) s = .next ((s.headerIn p flit).frameFlit p flit) := by
  simp [exec, execFlitReceived, hlive, hst, hgood, htype]

theorem flitReceived_other (htype : ftypeOf flit ≠ 1) : exec (.flitReceived p flit) s = .next (s.headerIn p flit) := by
  simp [exec, execFlitReceived, hlive, hst, hgood, htype]

theorem flitReceived_inSequence (htype : ftypeOf flit = 1) (hseq : fseqOf flit = (s.lp p).rxSeq) (hprobe : s.probing p = false) :
    ∃ t, exec (.flitReceived p flit) s = .next t ∧ (t.lp p).rxSeq = ((s.lp p).rxSeq + 1) % 65536 ∧ (t.lp p).retry = none
      ∧ (t.lp p).st = .active ∧ (∀ q, q ≠ p.val → t.lp q = s.lp q) := by
  refine ⟨_, flitReceived_frame hlive hst hgood htype, ?_⟩
  rw [State.frameFlit, State.probing_headerIn, if_neg (by simp [hprobe]), if_pos (by simp [hseq])]
  generalize hs1 : (s.headerIn p flit).updLp p _ = s1
  obtain ⟨⟨frames, credit, queue, hlp⟩, hothers⟩ := s1.assemble_assembled p flit
  have hs1lp : s1.lp p = { (s.headerIn p flit).lp p with rxSeq := ((s.lp p).rxSeq + 1) % 65536, retry := none } := by
    rw [← hs1, State.lp_updLp, State.rxSeq_headerIn]
  have hs1others : OtherLinks p s s1 := by
    rw [← hs1]
    exact (s.headerIn_otherLinks p flit).trans (State.updLp_otherLinks _ p _)
  rw [hlp, hs1lp]
  exact ⟨rfl, rfl, (s.st_headerIn p flit).trans hst, hs1others.trans hothers⟩

theorem flitReceived_outOfSequence (htype : ftypeOf flit = 1) (hseq : fseqOf flit ≠ (s.lp p).rxSeq)
    (hprobe : s.probing p = false) (hretry : (s.lp p).retry = none) :
    ∃ t, exec (.flitReceived p flit) s = .next t ∧ (t.lp p).rxSeq = (s.lp p).rxSeq ∧ (t.lp p).retry = some 3
      ∧ (t.lp p).open_ = (s.lp p).open_ ∧ (∀ q, q ≠ p.val → t.lp q = s.lp q) := by
  have hasks := State.startRetry_asks (s := s.headerIn p flit) 3 ((s.st_headerIn p flit).trans hst)
    ((s.retry_headerIn p flit).trans hretry)
  refine ⟨_, flitReceived_frame hlive hst hgood htype, ?_⟩
  rw [State.frameFlit, State.probing_headerIn, if_neg (by simp [hprobe]), if_neg (by simp [hseq]), if_neg (by simp [hretry]),
    hasks, State.lp_lcount, State.lp_updLp]
  exact ⟨s.rxSeq_headerIn p flit, rfl, s.open_headerIn p flit,
    (s.headerIn_otherLinks p flit).trans (State.updLp_otherLinks _ p _)⟩

theorem flitReceived_acknowledges {pre post : List TxFlit} {f : TxFlit} (htype : ftypeOf flit = 0)
    (hreplay : (s.lp p).replay = pre ++ f :: post) (hf : f.seq = fackOf flit) (hpre : ∀ x ∈ pre, x.seq ≠ fackOf flit)
    (hfirst : bit (byteAt flit 6) 7 = true) (hsecond : bit (byteAt flit 6) 3 = false) (hlimit : (s.lp p).limit.length = 8) :
    ∃ t, exec (.flitReceived p flit) s = .next t ∧ (t.lp p).replay = post ∧ (t.lp p).ackSeq = fackOf flit
      ∧ (t.lp p).limit.getD (bits (byteAt flit 6) 4 3) 0
          = newLimit ((s.lp p).limit.getD (bits (byteAt flit 6) 4 3) 0) (be flit 8 2)
      ∧ (t.lp p).rxSeq = (s.lp p).rxSeq ∧ (∀ q, q ≠ p.val → t.lp q = s.lp q) := by
  have hlp := s.lp_ackIn_covered p (fackOf flit)
  rw [LPort.covered_split hreplay hf hpre] at hlp
  have hchannel : bits (byteAt flit 6) 4 3 < (s.lp p).limit.length := hlimit ▸ Nat.mod_lt _ (by decide)
  have hheard : ((s.headerIn p flit).lp p).limit = (s.lp p).limit.set (bits (byteAt flit 6) 4 3)
      (newLimit ((s.lp p).limit.getD (bits (byteAt flit 6) 4 3) 0) (be flit 8 2)) := by
    rw [State.headerIn_eq, State.lp_updLp, hlp]
    simp [LPort.hearing, hfirst, hsecond]
  refine ⟨_, flitReceived_other hlive hst hgood (by simp [htype]), ?_, ?_, ?_, s.rxSeq_headerIn p flit,
    s.headerIn_otherLinks p flit⟩
  · rw [State.headerIn_eq, State.lp_updLp, hlp]
    rfl
  · rw [State.headerIn_eq, State.lp_updLp, hlp]
    rfl
  · rw [hheard]
    simp [List.getD_eq_getElem?_getD, hchannel]

end

/-! ### Codewords discarded (R181, R212) -/

/-- The counts of a codeword discarded with the flits it touches. -/
def State.codewordLost (s : State) (p flits : Nat) : State :=
  ((s.lcount "FEC_CW_UNCORRECTABLE" p 1).lcount "FLIT_DISCARDS" p flits).updLp p (fun x => { x with
    cwSecond := s.secs, cwCount := if x.cwSecond == s.secs then x.cwCount + 1 else 1 })

theorem codewordUncorrectable_next {p : Fin 256} {s : State} (flits : Nat) (hlive : s.lpLive p = true)
    (hst : (s.lp p).st = .active) : exec (.codewordUncorrectable p flits) s = .next ((s.codewordLost p flits).startRetry p 2)
      ∨ ∃ args, exec (.codewordUncorrectable p flits) s = .next
          ((((s.codewordLost p flits).startRetry p 2).updLp p (fun x => { x with cwWarnAt := some s.ns })).logAdd sevWarning
            (s.owner (refP p)) (evNamed 4 "CODEWORDS_DISCARDED") (agentKind 2 p) args) := by
  have hruns : ¬(!s.lpLive p || (s.lp p).st == .off || (s.lp p).st == .failed) = true := by simp [hlive, hst]
  have hnext : exec (.codewordUncorrectable p flits) s = .next _ := congrArg Host.Outcome.next (if_neg hruns)
  rw [hnext]
  extract_lets s1 s2 x due
  split
  · exact .inr ⟨_, rfl⟩
  · exact .inl rfl

theorem codewordUncorrectable_asks (p : Fin 256) (flits : Nat) (s : State) (hlive : s.lpLive p = true)
    (hst : (s.lp p).st = .active) (hretry : (s.lp p).retry = none) :
    ∃ t, exec (.codewordUncorrectable p flits) s = .next t ∧ (t.lp p).retry = some 2
      ∧ (t.lp p).cwCount = (if (s.lp p).cwSecond = s.secs then (s.lp p).cwCount + 1 else 1)
      ∧ (t.lp p).rxSeq = (s.lp p).rxSeq ∧ (∀ q, q ≠ p.val → t.lp q = s.lp q)
      ∧ t = { s with lnk := { s.lnk with port := t.lnk.port }, bnc := { s.bnc with ctr := t.bnc.ctr }, log := t.log } := by
  have hlost : (s.codewordLost p flits).lp p = { s.lp p with
      cwSecond := s.secs, cwCount := if (s.lp p).cwSecond == s.secs then (s.lp p).cwCount + 1 else 1 } := State.lp_updLp _ p _
  have hothers : OtherLinks p s (s.codewordLost p flits) := State.updLp_otherLinks _ p _
  have hasks := State.startRetry_asks (s := s.codewordLost p flits) (p := p) 2 (by rw [hlost]; exact hst) (by rw [hlost]; exact hretry)
  have hcount : ∀ n, (if (s.lp p).cwSecond == s.secs then n + 1 else 1) = if (s.lp p).cwSecond = s.secs then n + 1 else 1 :=
    fun n => by simp
  rcases codewordUncorrectable_next flits hlive hst with h | ⟨args, h⟩
  · refine ⟨_, h, ?_⟩
    rw [hasks, State.lp_lcount, State.lp_updLp, hlost]
    exact ⟨rfl, hcount _, rfl, hothers.trans (State.updLp_otherLinks _ p _), rfl⟩
  · refine ⟨_, h, ?_⟩
    rw [hasks, State.lp_logAdd, State.lp_updLp, State.lp_lcount, State.lp_updLp, hlost]
    refine ⟨rfl, hcount _, rfl, ?_, ?_⟩
    · exact ((hothers.trans (State.updLp_otherLinks _ p _)).trans (State.updLp_otherLinks _ p _)).trans
        (State.logAdd_otherLinks _ p)
    · rw [State.logAdd_frame]
      rfl

/-! ### Requests to replay (R193, R194) -/

/-- A RETRY_REQ heard: its acknowledgement and its limits, and the count of it. -/
def State.retryHeard (s : State) (p : Nat) (f : Bytes) : State := (s.headerIn p f).lcount "RETRY_RECEIVED" p 1

/-- A replay starts (R193). -/
def State.replaying (s : State) (p seq run : Nat) : State :=
  s.updLp p (fun x => { x with replayAt := some seq, replayOf := some seq, replayRun := run })

section
variable {p : Fin 256} {flit : Bytes} {s : State} (hlive : s.lpLive p = true) (hst : (s.lp p).st = .active)
  (hgood : flitGood flit = true) (htype : ftypeOf flit = 2) (hnone : ∀ x ∈ (s.lp p).replay, x.seq ≠ fackOf flit)
  (hbehind : be flit 16 2 ≠ (s.lp p).txSeq)
include hnone

theorem State.lp_retryHeard : (s.retryHeard p flit).lp p = (s.lp p).hearing flit := by
  rw [State.retryHeard, State.lp_lcount, State.headerIn_uncovered hnone, State.lp_updLp]

theorem State.retryHeard_linkAndCounters : LinkAndCounters p s (s.retryHeard p flit) := by
  rw [State.retryHeard, State.headerIn_uncovered hnone]
  exact s.updLp_lcount_linkAndCounters p _ _ 1

include hlive hst hgood htype hbehind

theorem retryReq_gone (hgone : ∀ f ∈ (s.lp p).replay, f.seq ≠ be flit 16 2) :
    exec (.retryReq p flit) s = .next ((s.retryHeard p flit).retrain p) := by
  refine congrArg Host.Outcome.next ?_
  rw [if_neg (by simp [hlive, hst]), if_neg (by simp [hgood, htype])]
  extract_lets s1 x e start
  have hx : x = (s.lp p).hearing flit := State.lp_retryHeard hnone
  rw [if_neg (by rw [hx]; simpa [LPort.hearing] using hbehind), if_pos (by rw [hx]; simpa [LPort.hearing] using hgone)]
  rfl

/-- The flit expected stands in the replay buffer, and no replay is under way. -/
theorem retryReq_stands (hstands : ∃ f ∈ (s.lp p).replay, f.seq = be flit 16 2) (hfree : (s.lp p).replayAt = none) {n : Nat}
    (hn : n = if (s.lp p).replayOf = some (be flit 16 2) then (s.lp p).replayRun + 1 else 1) :
    exec (.retryReq p flit) s = .next (
      if 8 ≤ n then (s.retryHeard p flit).retrain p else (s.retryHeard p flit).replaying p (be flit 16 2) n) := by
  refine congrArg Host.Outcome.next ?_
  rw [if_neg (by simp [hlive, hst]), if_neg (by simp [hgood, htype])]
  extract_lets s1 x e start
  have hx : x = (s.lp p).hearing flit := State.lp_retryHeard hnone
  have hat : x.replayAt = none := by rw [hx]; exact hfree
  have hrun : (if x.replayOf == some e then x.replayRun + 1 else 1) = n := by rw [hx, hn]; simp [LPort.hearing, e]
  rw [if_neg (by rw [hx]; simpa [LPort.hearing] using hbehind), if_neg (by rw [hx]; simpa [LPort.hearing] using hstands), hat]
  dsimp only
  rw [hrun]
  simp only [decide_eq_true_eq]
  rfl

theorem retryReq_replays (hstands : ∃ f ∈ (s.lp p).replay, f.seq = be flit 16 2) (hfree : (s.lp p).replayAt = none)
    (hfirst : (s.lp p).replayOf ≠ some (be flit 16 2)) :
    ∃ t, exec (.retryReq p flit) s = .next t ∧ (t.lp p).replayAt = some (be flit 16 2)
      ∧ (t.lp p).replayOf = some (be flit 16 2) ∧ (t.lp p).replayRun = 1 ∧ (t.lp p).replay = (s.lp p).replay
      ∧ (t.lp p).st = .active ∧ LinkAndCounters p s t := by
  have hnext := retryReq_stands hlive hst hgood htype hnone hbehind hstands hfree (n := 1) (by rw [if_neg hfirst])
  obtain ⟨hframe, hothers⟩ := State.retryHeard_linkAndCounters hnone
  refine ⟨_, hnext, ?_⟩
  rw [if_neg (by decide), State.replaying, State.lp_updLp, State.lp_retryHeard hnone]
  refine ⟨rfl, rfl, rfl, rfl, hst, ?_, OtherLinks.trans hothers (State.updLp_otherLinks _ p _)⟩
  rw [hframe]
  rfl

/-- The replay asked for is gone, or brought nothing seven times. -/
theorem retryReq_retrains (hlost : (∀ f ∈ (s.lp p).replay, f.seq ≠ be flit 16 2)
      ∨ (s.lp p).replayAt = none ∧ (s.lp p).replayOf = some (be flit 16 2) ∧ 7 ≤ (s.lp p).replayRun)
    (hfew : ((s.lp p).faults.filter (fun a => decide (s.ns < a + 60000000000))).length < 3) :
    ∃ t, exec (.retryReq p flit) s = .next t ∧ (t.lp p).st = .retrain ∧ (t.lp p).keep = true := by
  have hlp := State.lp_retryHeard hnone
  have hnext : exec (.retryReq p flit) s = .next ((s.retryHeard p flit).retrain p) := by
    by_cases hgone : ∀ f ∈ (s.lp p).replay, f.seq ≠ be flit 16 2
    · exact retryReq_gone hlive hst hgood htype hnone hbehind hgone
    · obtain ⟨hfree, hof, hrun⟩ := hlost.resolve_left hgone
      have hstands : ∃ f ∈ (s.lp p).replay, f.seq = be flit 16 2 := by simpa using hgone
      rw [retryReq_stands hlive hst hgood htype hnone hbehind hstands hfree rfl, if_pos hof, if_pos (by omega)]
  have hns : (s.retryHeard p flit).ns = s.ns := by
    rw [State.retryHeard, State.headerIn_uncovered hnone]
    rfl
  obtain ⟨hsurvives, -⟩ := State.retrain_spec (s := s.retryHeard p flit) (p := p) (by rw [hlp]; exact hst)
  obtain ⟨ht, -⟩ := hsurvives (by rw [State.recentFaults, hlp, hns]; exact hfew)
  refine ⟨_, hnext, ?_⟩
  rw [ht]
  exact ⟨rfl, rfl⟩

end

/-! ### A request repeated (R193) -/

theorem retryReqRepeat_asks (p : Fin 256) (c : Nat) (s : State) (hretry : (s.lp p).retry = some c) (hst : (s.lp p).st = .active) :
    ∃ t b, exec (.retryReqRepeat p) s = .next t ∧ byteAt b 0 = 2 ∧ be b 1 2 = (s.lp p).rxSeq % 65536 ∧ byteAt b 3 = c % 256
      ∧ t.lp p = { s.lp p with retry := some c, reqCount := (s.lp p).reqCount + 1, local_ := b :: (s.lp p).local_ }
      ∧ LinkAndCounters p s t := by
  have hlp := s.lp_updLp p (fun x => { x with retry := none })
  have hasks := State.startRetry_asks (s := s.updLp p (fun x => { x with retry := none })) (p := p) c (by rw [hlp]; exact hst)
    (by rw [hlp])
  have hnext : exec (.retryReqRepeat p) s = .next ((s.updLp p (fun x => { x with retry := none })).startRetry p c) := by
    simp only [exec, execRetryReqRepeat, hretry]
  refine ⟨_, (s.lp p).retryFlit c, hnext, (s.lp p).retryFlit_type c, (s.lp p).retryFlit_expects c, (s.lp p).retryFlit_cause c, ?_⟩
  rw [hasks, State.lp_lcount, State.lp_updLp, hlp]
  exact ⟨rfl, rfl, (s.updLp_otherLinks p _).trans (State.updLp_otherLinks _ p _)⟩

theorem retryReqRepeat_idle (p : Fin 256) (s : State) (h : (s.lp p).retry = none) : exec (.retryReqRepeat p) s = .next s := by
  simp only [exec, execRetryReqRepeat, h]

end Sys2Proof.Machine
end

section
/-! SUPPORT. The transmitter of a terminated port: the flit of a slot, the codeword pair that a fifth flit ends, and the frames
it carries (06 R179, R183, R184, R187, R192, R197, R198); and statement O33. -/

namespace Sys2Proof.Machine

/-! ### The end of a slot (R179, R183) -/

/-- The position in the codeword pair, and the count of the pair. -/
def LPort.place (x : LPort) : Nat × Nat := (x.pos, x.pair)

/-- A slot ends: the fifth flit sends the pair, another moves on in it. -/
def State.endSlot (s : State) (p : Nat) : State :=
  if (s.lp p).pos == 4 then s.sendPair p else s.updLp p (fun x => { x with pos := x.pos + 1 })

theorem State.endSlot_pair {s : State} {p : Nat} (h : (s.lp p).pos = 4) : s.endSlot p = s.sendPair p := if_pos (by simp [h])

theorem State.endSlot_flit {s : State} {p : Nat} (h : (s.lp p).pos ≠ 4) :
    s.endSlot p = s.updLp p (fun x => { x with pos := x.pos + 1 }) := if_neg (by simp [h])

theorem State.lp_endSlot (s : State) (p : Nat) :
    ∃ pos pair buf scr, (s.endSlot p).lp p = { s.lp p with pos := pos, pair := pair, pairBuf := buf, scr := scr } := by
  by_cases h : (s.lp p).pos = 4
  · rw [State.endSlot_pair h]
    exact ⟨_, _, _, _, s.lp_updLp p _⟩
  · rw [State.endSlot_flit h]
    exact ⟨_, _, _, _, s.lp_updLp p _⟩

theorem State.endSlot_otherLinks (s : State) (p : Nat) : OtherLinks p s (s.endSlot p) := by
  by_cases h : (s.lp p).pos = 4
  · rw [State.endSlot_pair h]
    exact s.updLp_otherLinks p _
  · rw [State.endSlot_flit h]
    exact s.updLp_otherLinks p _

/-- The position and the pair after a slot; the fifth flit empties the pair and puts it out last. -/
theorem State.place_endSlot (s : State) (p : Nat) :
    ((s.endSlot p).lp p).pos = (if (s.lp p).pos = 4 then 0 else (s.lp p).pos + 1)
      ∧ ((s.endSlot p).lp p).pair = (if (s.lp p).pos = 4 then ((s.lp p).pair + 1) % 256 else (s.lp p).pair)
      ∧ ((s.lp p).pos = 4 → ((s.endSlot p).lp p).pairBuf = [] ∧ ∃ l, (s.endSlot p).out.getLast? = some (.pair p l)) := by
  by_cases h : (s.lp p).pos = 4
  · have hlp : (s.endSlot p).lp p = { s.lp p with
        pos := 0, pair := ((s.lp p).pair + 1) % 256, pairBuf := [], scr := ((s.endSlot p).lp p).scr } := by
      rw [State.endSlot_pair h, State.sendPair, State.lp_emit, State.lp_updLp]
    rw [if_pos h, if_pos h, hlp]
    refine ⟨rfl, rfl, fun _ => ⟨rfl, ?_⟩⟩
    rw [State.endSlot_pair h]
    exact ⟨_, List.getLast?_concat⟩
  · rw [if_neg h, if_neg h, State.endSlot_flit h, State.lp_updLp]
    exact ⟨rfl, rfl, fun h' => absurd h' h⟩

/-! ### One flit -/

/-- A flit went out on the port, before anything else put out. -/
def Sends (p : Nat) (f : Bytes) (s t : State) : Prop := ∃ rest, t.out = s.out ++ .flit p f :: rest

theorem Sends.of_out {p : Nat} {f : Bytes} {s t u : State} (h : Sends p f s t) (hout : u.out = t.out) : Sends p f s u := by
  obtain ⟨rest, ht⟩ := h
  exact ⟨rest, hout.trans ht⟩

theorem Sends.emit {p : Nat} {f : Bytes} {s t : State} (h : Sends p f s t) (o : Out) : Sends p f s (t.emit o) := by
  obtain ⟨rest, ht⟩ := h
  exact ⟨rest ++ [o], by rw [State.emit, ht, List.append_assoc, List.cons_append]⟩

theorem Sends.endSlot {p : Nat} {f : Bytes} {s t : State} (h : Sends p f s t) : Sends p f s (t.endSlot p) := by
  by_cases hpos : (t.lp p).pos = 4
  · rw [State.endSlot_pair hpos]
    exact (h.of_out (u := t.updLp p _) rfl).emit _
  · rw [State.endSlot_flit hpos]
    exact h.of_out rfl

theorem State.putFlit_otherLinks (s : State) (p : Nat) {ftype vc seq last : Nat} {sof eof : Bool} {pay : Bytes} :
    OtherLinks p s (s.putFlit p ftype vc sof eof seq last pay) := s.updLp_otherLinks p _

section
variable (s : State) (p ftype vc seq last : Nat) (sof eof : Bool) (pay : Bytes)

theorem State.lp_putFlit : ∃ credit buf, (s.putFlit p ftype vc sof eof seq last pay).lp p
    = { s.lp p with crNext := credit, pairBuf := buf } := ⟨_, _, s.lp_updLp p _⟩

theorem State.putFlit_sends :
    Sends p ((s.lp p).flit ftype vc seq last sof eof pay) s (s.putFlit p ftype vc sof eof seq last pay) := ⟨[], rfl⟩

@[simp] theorem State.place_putFlit : ((s.putFlit p ftype vc sof eof seq last pay).lp p).place = (s.lp p).place := by
  obtain ⟨_, _, h⟩ := s.lp_putFlit p ftype vc seq last sof eof pay
  rw [h]
  rfl

end

/-! ### Training (R187) -/

theorem State.place_session (s : State) (p : Nat) : ((s.session p).lp p).place = (s.lp p).place := by
  cases h : (s.lp p).keeps with
  | true => rw [State.session_kept h, State.lp_keptSession]; rfl
  | false => rw [State.session_new h, (s.newSession_spec p).1]; rfl

theorem State.place_tryActive (s : State) (p : Nat) : ((s.tryActive p).lp p).place = (s.lp p).place := by
  rcases s.tryActive_cases p with ⟨-, h⟩ | ⟨h, -, -⟩
  · rw [h]
  · rw [h]
    exact s.place_session p

theorem State.tryActive_out (s : State) (p : Nat) : (s.tryActive p).out = s.out := by
  rcases s.tryActive_cases p with ⟨-, h⟩ | ⟨-, -, h⟩
  · rw [h]
  · exact h

/-- RETRAIN goes to ALIGN with the first flit (R186). -/
def State.aligning (s : State) (p : Nat) : State :=
  s.updLp p (fun x => { x with st := if x.st == .retrain then .align else x.st })

theorem State.lp_aligning {s : State} {p : Nat} (h : (s.lp p).st ≠ .retrain) : (s.aligning p).lp p = s.lp p := by
  rw [State.aligning, State.lp_updLp, if_neg (by simp [h])]

theorem State.trainPayload_aligning {s : State} {p : Nat} (h : (s.lp p).st ≠ .retrain) :
    (s.aligning p).trainPayload p = s.trainPayload p := by
  rw [State.trainPayload, State.lp_aligning h]
  rfl

theorem State.sendTrain_sends (s : State) (p : Nat) :
    Sends p (((s.aligning p).lp p).flit 5 0 0 0 false false ((s.aligning p).trainPayload p)) s (s.sendTrain p) :=
  ((s.aligning p).putFlit_sends p 5 0 0 0 false false _).of_out (State.tryActive_out _ p)

theorem State.place_sendTrain (s : State) (p : Nat) : ((s.sendTrain p).lp p).place = (s.lp p).place := by
  obtain ⟨_, _, h⟩ := (s.aligning p).lp_putFlit p 5 0 0 0 false false ((s.aligning p).trainPayload p)
  refine (State.place_tryActive _ p).trans ?_
  rw [State.lp_updLp]
  refine (congrArg LPort.place h).trans ?_
  rw [State.aligning, State.lp_updLp]
  rfl

/-! ### What an ACTIVE port sends -/

theorem State.sentBlocks_skkOnly (s : State) (slice pid : Nat) (p : Passage) (src : Nat) (r : Nat × Nat) (c n : Nat) :
    SkkOnly s (s.sentBlocks slice pid p src r c n) := by
  refine SkkOnly.foldl (fun t i => ?_) _ s
  extract_lets blk w s1
  have hs1 : SkkOnly t s1 := t.countNum_skkOnly ..
  split
  · refine hs1.trans (SkkOnly.foldl (fun u kv => ?_) _ s1)
    split
    · exact u.recordResid_skkOnly ..
    · exact .rfl
  · exact hs1

theorem State.nextFrame_lnk {s s1 : State} {slice pid gi k n : Nat} {b : Bytes} (h : s.nextFrame slice pid gi k = some (b, n, s1)) :
    s1.lnk = s.lnk := by
  unfold State.nextFrame at h
  split at h
  · cases h
  · rename_i p _
    extract_lets g r x left m fr s2 at h
    split at h
    · cases h
    · obtain ⟨_, hskk⟩ := s.sentBlocks_skkOnly slice pid p g.src r x.cursor m
      simp only [Option.some.injEq, Prod.mk.injEq] at h
      obtain ⟨-, -, rfl⟩ := h
      rw [State.updPsg_lnk, hskk]

theorem State.feed_idle {s : State} {p : Nat} (h : s.senderOf p = none) : s.feed p = s := by
  simp [State.feed, h]

/-- A DATA frame that joins the queue moves nothing in the codeword pair. -/
theorem State.place_feed (s : State) (p : Nat) : ((s.feed p).lp p).place = (s.lp p).place := by
  unfold State.feed
  split
  · rfl
  · split
    · rfl
    · split
      · rfl
      · rename_i b _ s1 hnext
        rw [State.sendOn, State.lp_updLp, State.lp, State.nextFrame_lnk hnext]
        rfl

/-- The time that virtual channels waited for credit, of all the state the port's own register and counters (R211). -/
theorem State.countWaits_spec (s : State) (p : Nat) :
    (∃ waits, (s.countWaits p).lp p = { s.lp p with creditWait := waits }) ∧ OtherLinks p s (s.countWaits p)
      ∧ (s.countWaits p).out = s.out :=
  List.foldlRecOn _ _
    (motive := fun t => (∃ waits, t.lp p = { s.lp p with creditWait := waits }) ∧ OtherLinks p s t ∧ t.out = s.out)
    ⟨⟨_, rfl⟩, .rfl, rfl⟩ fun t ht v _ => by
      obtain ⟨⟨_, hlp⟩, hothers, hout⟩ := ht
      extract_lets w
      refine ⟨?_, hothers.trans (State.updLp_otherLinks _ p _), hout⟩
      rw [State.lp_lcount, State.lp_updLp, hlp]
      exact ⟨_, rfl⟩

theorem State.place_countWaits (s : State) (p : Nat) : ((s.countWaits p).lp p).place = (s.lp p).place := by
  obtain ⟨⟨_, h⟩, -⟩ := s.countWaits_spec p
  rw [h]
  rfl

theorem State.place_sendReplay (s : State) (p q : Nat) : ((s.sendReplay p q).lp p).place = (s.lp p).place := by
  unfold State.sendReplay
  split
  · rw [State.place_putFlit, State.lp_updLp]
    rfl
  · rw [State.lp_lcount, State.lp_updLp]
    exact s.place_putFlit ..

theorem State.place_sendLocal (s : State) (p : Nat) (b : Bytes) : ((s.sendLocal p b).lp p).place = (s.lp p).place := by
  rw [State.sendLocal, State.place_putFlit, State.lp_updLp]
  rfl

/-! ### The flit of a frame (R192, R197, R202) -/

/-- A frame as it goes: the first flit gives it its FRAME_ID. -/
def LPort.numbered (x : LPort) (f : TxFrame) : TxFrame :=
  if f.done == 0 then { f with bytes := setFrameId f.bytes x.frameId, fid := x.frameId } else f

/-- The payload of the next flit of a frame. -/
def LPort.chunk (x : LPort) (f : TxFrame) : Bytes := bytesAt (x.numbered f).bytes (x.numbered f).done 232

/-- The next flit of a frame is its last. -/
def LPort.ends (x : LPort) (f : TxFrame) : Bool := decide ((x.numbered f).bytes.length ≤ (x.numbered f).done + 232)

/-- A FRAME_ID lengthens a frame only where the frame is shorter than its header. -/
theorem length_setFrameId_le_iff {b : Bytes} (id : Nat) (h : 16 ≤ b.length) : (setFrameId b id).length ≤ 232 ↔ b.length ≤ 232 := by
  unfold setFrameId
  extract_lets o
  have ho : o ≤ 28 := by
    unfold o
    split <;> decide
  have hlow : o = 12 ∨ 24 ≤ o := by
    unfold o
    split <;> decide
  simp only [List.length_append, List.length_take, List.length_drop, length_beBytes]
  omega

theorem LPort.ends_iff (x : LPort) {f : TxFrame} (h : 16 ≤ f.bytes.length) : x.ends f = true ↔ f.bytes.length ≤ f.done + 232 := by
  unfold LPort.ends LPort.numbered
  split
  · rename_i hfirst
    simpa [beq_iff_eq.mp hfirst] using length_setFrameId_le_iff x.frameId h
  · exact decide_eq_true_iff

/-- The registers `x` after the flit, which `y` chose before it. -/
def LPort.sending (y : LPort) (f : TxFrame) (x : LPort) : LPort :=
  let h := { y.numbered f with done := (y.numbered f).done + (y.chunk f).length }
  { x with
    txSeq := (x.txSeq + 1) % 65536
    replay := x.replay ++ [⟨x.txSeq, f.vc, f.done == 0, y.ends f, y.chunk f, (y.numbered f).fid⟩]
    sent := x.sent.set f.vc ((x.sent.getD f.vc 0 + 1) % 65536)
    frameId := if f.done == 0 then (x.frameId + 1) % 2 ^ 32 else x.frameId
    txq := if y.ends f then x.txq.erase f else x.txq.map (fun z => if z == f then h else z)
    sentq := if y.ends f then x.sentq ++ [h] else x.sentq }

theorem LPort.length_txq_sending (y : LPort) (f : TxFrame) {x : LPort} {q : List TxFrame} (h : x.txq = f :: q) :
    (y.sending f x).txq.length = if y.ends f then q.length else q.length + 1 := by
  unfold LPort.sending
  dsimp only
  rw [h]
  split
  · rw [List.erase_cons_head]
  · rw [List.length_map, List.length_cons]

/-- The flit of a frame as the port sends it. -/
def LPort.frameFlit (x : LPort) (f : TxFrame) : Bytes :=
  x.flit 1 f.vc x.txSeq (if x.ends f then (x.chunk f).length else 0) (f.done == 0) (x.ends f) (x.chunk f)

/-- The state after the flit, before the record of a frame that has gone whole. -/
def State.flitSent (s : State) (p : Nat) (f : TxFrame) : State :=
  (s.putFlit p 1 f.vc (f.done == 0) ((s.lp p).ends f) (s.lp p).txSeq (if (s.lp p).ends f then ((s.lp p).chunk f).length else 0)
    ((s.lp p).chunk f)).updLp p ((s.lp p).sending f)

theorem State.sendFrameFlit_eq (s : State) (p : Nat) (f : TxFrame) : s.sendFrameFlit p f
    = if (s.lp p).ends f then (s.flitSent p f).emit (.frame p f.vc ((s.lp p).numbered f).bytes) else s.flitSent p f := rfl

theorem State.lp_flitSent (s : State) (p : Nat) (f : TxFrame) :
    ∃ credit buf, (s.flitSent p f).lp p = (s.lp p).sending f { s.lp p with crNext := credit, pairBuf := buf } := by
  obtain ⟨credit, buf, h⟩ := s.lp_putFlit p 1 f.vc (s.lp p).txSeq (if (s.lp p).ends f then ((s.lp p).chunk f).length else 0)
    (f.done == 0) ((s.lp p).ends f) ((s.lp p).chunk f)
  exact ⟨credit, buf, (State.lp_updLp _ p _).trans (congrArg _ h)⟩

theorem State.flitSent_otherLinks (s : State) (p : Nat) (f : TxFrame) : OtherLinks p s (s.flitSent p f) :=
  OtherLinks.trans (s.putFlit_otherLinks p) (State.updLp_otherLinks _ p _)

theorem State.flitSent_sends (s : State) (p : Nat) (f : TxFrame) : Sends p ((s.lp p).frameFlit f) s (s.flitSent p f) := ⟨[], rfl⟩

/-- What the flit of a frame writes of its port, and that it goes out. -/
theorem State.sendFrameFlit_spec (s : State) (p : Nat) (f : TxFrame) : Sends p ((s.lp p).frameFlit f) s (s.sendFrameFlit p f)
    ∧ (∃ credit buf, (s.sendFrameFlit p f).lp p = (s.lp p).sending f { s.lp p with crNext := credit, pairBuf := buf })
    ∧ OtherLinks p s (s.sendFrameFlit p f) := by
  rw [State.sendFrameFlit_eq]
  split
  · exact ⟨(s.flitSent_sends p f).emit _, s.lp_flitSent p f, s.flitSent_otherLinks p f⟩
  · exact ⟨s.flitSent_sends p f, s.lp_flitSent p f, s.flitSent_otherLinks p f⟩

theorem State.place_sendFrameFlit (s : State) (p : Nat) (f : TxFrame) : ((s.sendFrameFlit p f).lp p).place = (s.lp p).place := by
  obtain ⟨-, ⟨_, _, h⟩, -⟩ := s.sendFrameFlit_spec p f
  rw [h]
  rfl

/-- Whatever an ACTIVE port sends, it does not move on in the pair. -/
theorem State.place_sendActive (s : State) (p : Nat) : ((s.sendActive p).lp p).place = (s.lp p).place := by
  refine Eq.trans ?_ (s.place_feed p)
  unfold State.sendActive
  extract_lets s0 x idle
  split
  · exact s0.place_putFlit ..
  · split
    · exact s0.place_sendLocal p _
    · exact s0.place_sendReplay p _
    · split
      · exact s0.place_sendLocal p _
      · have hwaits := s0.place_countWaits p
        split
        · exact (State.place_putFlit ..).trans hwaits
        · split
          · exact (State.place_sendFrameFlit _ p _).trans hwaits
          · exact (State.place_putFlit ..).trans hwaits

/-- The first frame of the queue goes on, where credit and room allow and no pause bars it. -/
theorem State.sendActive_frame {s : State} {p : Nat} {f : TxFrame} {q : List TxFrame} (hsender : s.senderOf p = none)
    (hfree : (s.lp p).ringHold = none) (hlocal : (s.lp p).local_ = []) (hreplay : (s.lp p).replayAt = none) (hprobe : s.probing p = false)
    (hroom : (s.lp p).room = true) (hqueue : (s.lp p).txq = f :: q)
    (hcredit : (s.lp p).hasCredit f.vc = true) (hpause : s.paused = true → 2 ≤ f.vc ∨ f.done ≠ 0) :
    s.sendActive p = (s.countWaits p).sendFrameFlit p f := by
  have hmay : (s.paused && decide (f.vc ≤ 1) && f.done == 0) = false := by
    cases hp : s.paused with
    | false => rfl
    | true =>
      rcases hpause hp with h | h
      · simp [show ¬f.vc ≤ 1 by omega]
      · simp [h]
  have hpick : (s.lp p).pick s.paused (f :: q) [] = some f := by simp [LPort.pick, hcredit, hmay]
  rw [State.sendActive, State.feed_idle hsender]
  simp [hfree, hlocal, hreplay, hprobe, hroom, hqueue, hpick]

/-! ### The slot of a port (R183, R186) -/

theorem flitSlot_silent (p : Fin 256) (s : State)
    (h : s.lpLive p = false ∨ (s.lp p).st = .off ∨ (s.lp p).st = .acquire ∨ (s.lp p).st = .failed) :
    exec (.flitSlot p) s = .next s := by
  rcases h with h | h | h | h <;> simp [exec, execFlitSlot, h]

section
variable {p : Fin 256} {s : State} (hlive : s.lpLive p = true)
include hlive

theorem flitSlot_active (hst : (s.lp p).st = .active) : exec (.flitSlot p) s = .next ((s.sendActive p).endSlot p) := by
  simp [exec, execFlitSlot, State.endSlot, hlive, hst]

theorem flitSlot_training
    (hst : (s.lp p).st = .align ∨ (s.lp p).st = .negotiate ∨ (s.lp p).st = .retrain ∨ (s.lp p).st = .incompatible) :
    exec (.flitSlot p) s = .next ((s.sendTrain p).endSlot p) := by
  rcases hst with h | h | h | h <;> simp [exec, execFlitSlot, State.endSlot, hlive, h]

/-- A port that sends does its flit, then its slot ends. -/
theorem flitSlot_sends (hoff : (s.lp p).st ≠ .off) (hacquire : (s.lp p).st ≠ .acquire) (hfailed : (s.lp p).st ≠ .failed) :
    ∃ t : State, exec (.flitSlot p) s = .next (t.endSlot p) ∧ (t.lp p).place = (s.lp p).place := by
  cases hst : (s.lp p).st with
  | off => exact absurd hst hoff
  | acquire => exact absurd hst hacquire
  | failed => exact absurd hst hfailed
  | active => exact ⟨_, flitSlot_active hlive hst, s.place_sendActive p⟩
  | align => exact ⟨_, flitSlot_training hlive (.inl hst), s.place_sendTrain p⟩
  | negotiate => exact ⟨_, flitSlot_training hlive (.inr (.inl hst)), s.place_sendTrain p⟩
  | retrain => exact ⟨_, flitSlot_training hlive (.inr (.inr (.inl hst))), s.place_sendTrain p⟩
  | incompatible => exact ⟨_, flitSlot_training hlive (.inr (.inr (.inr hst))), s.place_sendTrain p⟩

theorem flitSlot_moves (hoff : (s.lp p).st ≠ .off) (hacquire : (s.lp p).st ≠ .acquire) (hfailed : (s.lp p).st ≠ .failed) :
    ∃ t, exec (.flitSlot p) s = .next t
      ∧ (t.lp p).pos = (if (s.lp p).pos = 4 then 0 else (s.lp p).pos + 1)
      ∧ (t.lp p).pair = (if (s.lp p).pos = 4 then ((s.lp p).pair + 1) % 256 else (s.lp p).pair)
      ∧ ((s.lp p).pos = 4 → (t.lp p).pairBuf = [] ∧ ∃ l, t.out.getLast? = some (.pair p l)) := by
  obtain ⟨t, hnext, hplace⟩ := flitSlot_sends hlive hoff hacquire hfailed
  obtain ⟨hpos, hpair⟩ := Prod.mk.inj hplace
  refine ⟨_, hnext, ?_⟩
  rw [← hpos, ← hpair]
  exact t.place_endSlot p

theorem flitSlot_trains (hst : (s.lp p).st = .align ∨ (s.lp p).st = .negotiate ∨ (s.lp p).st = .incompatible) :
    ∃ t f rest, exec (.flitSlot p) s = .next t ∧ t.out = s.out ++ .flit p f :: rest ∧ flitGood f = true ∧ ftypeOf f = 5
      ∧ bytesAt f 16 232 = padTo 232 (s.trainPayload p) := by
  have hretrain : (s.lp p).st ≠ .retrain := by rcases hst with h | h | h <;> simp [h]
  have hnext := flitSlot_training hlive (by tauto)
  obtain ⟨rest, hout⟩ := (s.sendTrain_sends p).endSlot
  refine ⟨_, _, rest, hnext, hout, LPort.flitGood_flit _ _ _ _ _ _ (by decide) (by decide),
    LPort.ftypeOf_flit _ _ _ _ _ _ (by decide) (by decide), ?_⟩
  rw [LPort.payload_flit, State.trainPayload_aligning hretrain]

variable (hst : (s.lp p).st = .active)
include hst

/-- IDLE takes nothing from the queues and no SEQ. -/
theorem flitSlot_idles (hidle : s.sendActive p = s.putFlit p 0 0 false false 0 0 []) :
    ∃ t f rest, exec (.flitSlot p) s = .next t ∧ t.out = s.out ++ .flit p f :: rest ∧ flitGood f = true ∧ ftypeOf f = 0
      ∧ (t.lp p).replay = (s.lp p).replay ∧ (t.lp p).txSeq = (s.lp p).txSeq ∧ (t.lp p).txq = (s.lp p).txq
      ∧ (∀ q, q ≠ p.val → t.lp q = s.lp q) := by
  have hnext := flitSlot_active hlive hst
  rw [hidle] at hnext
  obtain ⟨rest, hout⟩ := (s.putFlit_sends p 0 0 0 0 false false []).endSlot
  obtain ⟨_, _, hput⟩ := s.lp_putFlit p 0 0 0 0 false false []
  obtain ⟨_, _, _, _, hend⟩ := (s.putFlit p 0 0 false false 0 0 []).lp_endSlot p
  refine ⟨_, _, rest, hnext, hout, LPort.flitGood_flit _ _ _ _ _ _ (by decide) (by decide),
    LPort.ftypeOf_flit _ _ _ _ _ _ (by decide) (by decide), ?_⟩
  rw [hend, hput]
  exact ⟨rfl, rfl, rfl, OtherLinks.trans (s.putFlit_otherLinks p) (State.endSlot_otherLinks _ p)⟩

variable (hsender : s.senderOf p = none)
include hsender

theorem flitSlot_idle (hnothing : (s.lp p).ringHold.isSome = true
      ∨ (s.lp p).local_ = [] ∧ (s.lp p).replayAt = none ∧ (s.lp p).txq = []) :
    ∃ t f rest, exec (.flitSlot p) s = .next t ∧ t.out = s.out ++ .flit p f :: rest ∧ flitGood f = true ∧ ftypeOf f = 0
      ∧ (t.lp p).replay = (s.lp p).replay ∧ (t.lp p).txSeq = (s.lp p).txSeq ∧ (t.lp p).txq = (s.lp p).txq
      ∧ (∀ q, q ≠ p.val → t.lp q = s.lp q) := by
  refine flitSlot_idles hlive hst ?_
  rw [State.sendActive, State.feed_idle hsender]
  rcases hnothing with hhold | ⟨hlocal, hreplay, hqueue⟩
  · exact if_pos hhold
  · have hwaits : s.countWaits p = s := by simp [State.countWaits, hqueue, nubNat]
    simp [hlocal, hreplay, hqueue, hwaits, LPort.pick]

variable (hfree : (s.lp p).ringHold = none)
include hfree

theorem flitSlot_asks {b : Bytes} {l : List Bytes} (hlocal : (s.lp p).local_ = b :: l) (htype : byteAt b 0 = 2) :
    ∃ t f rest, exec (.flitSlot p) s = .next t ∧ t.out = s.out ++ .flit p f :: rest ∧ flitGood f = true ∧ ftypeOf f = 2
      ∧ bytesAt f 16 232 = padTo 232 (b.drop 1) ∧ (t.lp p).local_ = l := by
  have hsends : s.sendActive p
      = (s.updLp p (fun x => { x with local_ := x.local_.erase b })).putFlit p 2 0 false false 0 0 (b.drop 1) := by
    rw [State.sendActive, State.feed_idle hsender]
    simp [hfree, hlocal, htype, State.sendLocal]
  have hnext := flitSlot_active hlive hst
  rw [hsends] at hnext
  generalize hs1 : s.updLp p (fun x => { x with local_ := x.local_.erase b }) = s1 at hnext
  have hlp : (s1.lp p).local_ = l := by rw [← hs1, State.lp_updLp, hlocal, List.erase_cons_head]
  have hout1 : s1.out = s.out := by rw [← hs1, State.updLp_out]
  obtain ⟨rest, hout⟩ := (s1.putFlit_sends p 2 0 0 0 false false (b.drop 1)).endSlot
  obtain ⟨_, _, hput⟩ := s1.lp_putFlit p 2 0 0 0 false false (b.drop 1)
  obtain ⟨_, _, _, _, hend⟩ := (s1.putFlit p 2 0 false false 0 0 (b.drop 1)).lp_endSlot p
  refine ⟨_, _, rest, hnext, hout1 ▸ hout, LPort.flitGood_flit _ _ _ _ _ _ (by decide) (by decide),
    LPort.ftypeOf_flit _ _ _ _ _ _ (by decide) (by decide), LPort.payload_flit _ _ _ _ _ _ _ _, ?_⟩
  rw [hend, hput]
  exact hlp

theorem flitSlot_sendsFrame {f : TxFrame} {q : List TxFrame} (hlocal : (s.lp p).local_ = []) (hreplay : (s.lp p).replayAt = none)
    (hprobe : s.probing p = false) (hroom : (s.lp p).room = true) (hqueue : (s.lp p).txq = f :: q)
    (hcredit : (s.lp p).hasCredit f.vc = true) (hvc : f.vc < 8) (hpause : s.paused = true → 2 ≤ f.vc ∨ f.done ≠ 0)
    (hsent : (s.lp p).sent.length = 8) (hlength : 16 ≤ f.bytes.length) :
    ∃ t x rest, exec (.flitSlot p) s = .next t ∧ t.out = s.out ++ .flit p x :: rest ∧ flitGood x = true ∧ ftypeOf x = 1
      ∧ fvcOf x = f.vc ∧ fseqOf x = (s.lp p).txSeq % 65536 ∧ (fsofOf x = true ↔ f.done = 0)
      ∧ (feofOf x = true ↔ f.bytes.length ≤ f.done + 232)
      ∧ (t.lp p).txSeq = ((s.lp p).txSeq + 1) % 65536
      ∧ (t.lp p).sent.getD f.vc 0 = ((s.lp p).sent.getD f.vc 0 + 1) % 65536
      ∧ (∃ e, (t.lp p).replay = (s.lp p).replay ++ [e] ∧ e.seq = (s.lp p).txSeq ∧ e.vc = f.vc)
      ∧ (t.lp p).txq.length = (if f.bytes.length ≤ f.done + 232 then q.length else q.length + 1)
      ∧ (∀ k, k ≠ p.val → t.lp k = s.lp k) := by
  have hnext := flitSlot_active hlive hst
  rw [State.sendActive_frame hsender hfree hlocal hreplay hprobe hroom hqueue hcredit hpause] at hnext
  obtain ⟨⟨_, hwaits⟩, hothers, hout1⟩ := s.countWaits_spec p
  obtain ⟨hsends, ⟨_, _, hsending⟩, hothers'⟩ := (s.countWaits p).sendFrameFlit_spec p f
  obtain ⟨rest, hout⟩ := hsends.endSlot
  obtain ⟨_, _, _, _, hend⟩ := ((s.countWaits p).sendFrameFlit p f).lp_endSlot p
  have hends := ((s.countWaits p).lp p).ends_iff hlength
  refine ⟨_, _, rest, hnext, hout1 ▸ hout, LPort.flitGood_flit _ _ _ _ _ _ (by decide) hvc,
    LPort.ftypeOf_flit _ _ _ _ _ _ (by decide) hvc, LPort.fvcOf_flit _ _ _ _ _ _ _ hvc, ?_, ?_, ?_, ?_⟩
  · rw [LPort.fseqOf_flit, hwaits]
  · rw [LPort.fsofOf_flit, beq_iff_eq]
  · rw [LPort.feofOf_flit, hends]
  have hqueued : ((((s.countWaits p).sendFrameFlit p f).endSlot p).lp p).txq.length
      = if f.bytes.length ≤ f.done + 232 then q.length else q.length + 1 := by
    have hleft := ((s.countWaits p).lp p).length_txq_sending f (x := (s.countWaits p).lp p) (q := q) (by rw [hwaits]; exact hqueue)
    simp only [hends] at hleft
    rw [hend, hsending]
    exact hleft
  refine ⟨?_, ?_, ?_, hqueued, (hothers.trans hothers').trans (State.endSlot_otherLinks _ p)⟩ <;> rw [hend, hsending, hwaits]
  · rfl
  · simp [LPort.sending, List.getD_eq_getElem?_getD, hsent, hvc]
  · exact ⟨_, rfl, rfl, rfl⟩

end

end Sys2Proof.Machine

namespace Sys2Proof.Proofs

open Sys2Proof.Machine

/-- Settles O33: what a flit, a codeword or a request to replay does at the receiver, and what each slot of the transmitter
puts out. -/
theorem linkFramesBothWays : Obligations.LinkFramesBothWays :=
  ⟨⟨flitReceived_idle, flitReceived_discards,
      fun _ _ _ hlive hst hgood => flitReceived_inSequence hlive hst hgood,
      fun _ _ _ hlive hst hgood => flitReceived_outOfSequence hlive hst hgood,
      fun _ _ _ _ _ _ hlive hst hgood => flitReceived_acknowledges hlive hst hgood,
      codewordUncorrectable_asks,
      fun _ _ _ hlive hst hgood htype hnone hbehind => retryReq_replays hlive hst hgood htype hnone hbehind,
      fun _ _ _ hlive hst hgood htype hnone hbehind => retryReq_retrains hlive hst hgood htype hnone hbehind,
      retryReqRepeat_asks, retryReqRepeat_idle⟩,
    flitSlot_silent,
    fun _ _ hlive hst => flitSlot_trains hlive hst,
    fun _ _ hlive hst hsender => flitSlot_idle hlive hst hsender,
    fun _ _ _ _ hlive hst hsender hfree => flitSlot_asks hlive hst hsender hfree,
    fun _ _ _ _ hlive hst hsender hfree hlocal hreplay hprobe hroom hqueue hcredit hvc hpause hsent _ hlength =>
      flitSlot_sendsFrame hlive hst hsender hfree hlocal hreplay hprobe hroom hqueue hcredit hvc hpause hsent hlength,
    fun _ _ hlive hoff hacquire hfailed => flitSlot_moves hlive hoff hacquire hfailed⟩

end Sys2Proof.Proofs
end

section
/-! SUPPORT. HAIL, time transfer, NAK and the error ratio of a terminated port, and the judging of an identity that a HAIL
brings (06 R207 to R209, R212, 10 R309, R311); and statement O34. -/

namespace Sys2Proof.Machine

open Safety

/-! ### What discovery keeps of a port (R306, R309) -/

section
variable (s : State) (t : Nat)
@[simp] theorem State.tp_updTp (f : TPort → TPort) : (s.updTp t f).tp t = f (s.tp t) := Tbl.get_upd _ _ _ _
@[simp] theorem State.tp_logAdd (a b c d : Nat) (l : List Nat) : (s.logAdd a b c d l).tp t = s.tp t := by
  rw [State.tp, State.logAdd_topo, State.tp]
end

theorem State.tp_updTp_ne (s : State) {t k : Nat} (f : TPort → TPort) (h : t ≠ k) : (s.updTp k f).tp t = s.tp t :=
  Tbl.get_upd_ne _ _ _ _ h

theorem Retargeted.tp {s t : State} (h : Retargeted s t) (k : Nat) : t.tp k = s.tp k := by
  obtain ⟨⟨_, rfl⟩, -⟩ := h
  rfl

/-- The end of a probe leaves what is known of its port (R307). -/
theorem State.tp_endProbe (s : State) (t : Nat) : (s.endProbe t).tp t = { s.tp t with probe := none } := by
  unfold State.endProbe
  split
  · rename_i h
    rw [← h]
  · rw [State.tp_updTp, (State.aim_retargeted _ _ _).tp, (State.aim_retargeted _ _ _).tp, (State.aim_retargeted _ _ _).tp,
      (State.aim_retargeted _ _ _).tp]

theorem State.tp_remap (s : State) (t k : Nat) : (s.remap t).tp k = s.tp k := by
  unfold State.remap
  split
  · rfl
  · extract_lets a m
    split
    · rfl
    · exact State.tp_logAdd ..

theorem State.tp_rejoin (s : State) (t k : Nat) : (s.rejoin t).tp k = s.tp k := by
  unfold State.rejoin
  split <;> rfl

/-- A quarantine writes the state of a port and its cause (R311). -/
theorem State.tp_quarantined (s : State) (t cause : Nat) :
    ∃ st c, (s.quarantined t cause).tp t = { s.tp t with st := st, cause := c } := by
  unfold State.quarantined
  split
  · refine List.foldlRecOn _ _ (motive := fun u : State => ∃ st c, u.tp t = { s.tp t with st := st, cause := c })
      ⟨_, _, rfl⟩ fun u hu i _ => ?_
    obtain ⟨st, c, hu⟩ := hu
    split
    · by_cases hi : t = t / 8 * 8 + i
      · rw [← hi, State.tp_updTp, hu]
        exact ⟨_, _, rfl⟩
      · rw [State.tp_updTp_ne _ _ hi]
        exact ⟨st, c, hu⟩
    · exact ⟨st, c, hu⟩
  · exact ⟨_, _, s.tp_updTp t _⟩

theorem State.tp_quarantine (s : State) (t cause : Nat) :
    ∃ st c, (s.quarantine t cause).tp t = { s.tp t with st := st, cause := c } := by
  rw [State.quarantine_eq, State.tp_logAdd]
  exact s.tp_quarantined t cause

/-- A cause other than MIXED quarantines the one port. -/
theorem State.tp_quarantine_one (s : State) (t : Nat) {cause : Nat} (h : cause ≠ 2) :
    (s.quarantine t cause).tp t = { s.tp t with st := .quarantined, cause := cause } := by
  rw [State.quarantine_eq, State.tp_logAdd, State.quarantined, if_neg (by simp [h]), State.tp_updTp]

theorem State.tp_found (s : State) (t : Nat) : (s.found t).tp t = { s.tp t with
    st := if s.inCircuit t then .inCircuit else .found
    cause := 0, admitted := (s.tp t).nodeId, admitCause := 0, silentNoted := false } := s.tp_updTp t _

/-! ### An identity is recorded and judged (R309, R311) -/

/-- What discovery keeps of a port, with the identity that it reports at a time. -/
def TPort.reporting (x : TPort) (h : Hail) (now : Nat) : TPort :=
  { x with hasId := true, nodeId := h.nodeId, kind := h.kind, link := h.link, hall := h.hall, rack := h.rack
           version := h.version, farSlice := h.slice, seenS := now }

/-- The identity recorded; a new NODE_ID in a circuit is one NOTICE (R312). -/
def State.identified (s : State) (t : Nat) (h : Hail) : State :=
  if s.inCircuit t && (s.tp t).hasId && (s.tp t).nodeId != h.nodeId then
    (s.updTp t (TPort.reporting · h s.secs)).logAdd sevNotice (s.owner t) (evNamed 7 "NEW_NODE_ID") (agentKind 0 t) [t, h.nodeId]
  else s.updTp t (TPort.reporting · h s.secs)

/-- A verdict of R311 on a port: 0 finds it, another cause quarantines it. -/
def State.ruled (s : State) (t cause : Nat) : State := if cause = 0 then s.found t else s.quarantine t cause

theorem State.tp_identified (s : State) (t : Nat) (h : Hail) : (s.identified t h).tp t = (s.tp t).reporting h s.secs := by
  unfold State.identified
  split
  · rw [State.tp_logAdd, State.tp_updTp]
  · exact s.tp_updTp t _

theorem State.identified_topo (s : State) (t : Nat) (h : Hail) :
    (s.identified t h).topo = { s.topo with tport := (s.identified t h).topo.tport } := by
  unfold State.identified
  split
  · rw [State.logAdd_topo]
    rfl
  · rfl

/-- The state after the verdict, which a port that is QUARANTINED, FAILED or DARK does not get. -/
def State.verdict (s : State) (t : Nat) (h : Hail) : State :=
  if (s.tp t).st == .quarantined || (s.tp t).st == .failed || (s.tp t).st == .dark then s.identified t h
  else (s.identified t h).ruled t ((s.identified t h).judge t h)

theorem State.judgeHail_eq (s : State) (t : Nat) (h : Hail) :
    s.judgeHail t h = (((s.verdict t h).endProbe t).remap t).rejoin t := by
  unfold State.judgeHail
  extract_lets old s1 s2 s3
  have hs3 : s3 = s.verdict t h := by
    unfold s3 State.verdict
    split
    · rfl
    · split
      · rename_i hfound
        exact (if_pos hfound).symm
      · rename_i hcause
        exact (if_neg hcause).symm
  rw [hs3]

theorem State.tp_judgeHail (s : State) (t : Nat) (h : Hail) :
    (s.judgeHail t h).tp t = { (s.verdict t h).tp t with probe := none } := by
  rw [State.judgeHail_eq, State.tp_rejoin, State.tp_remap, State.tp_endProbe]

/-- The verdict writes what discovery makes of the identity, never the identity itself. -/
theorem State.tp_verdict (s : State) (t : Nat) (h : Hail) : ∃ st cause admitted admitCause noted,
    (s.verdict t h).tp t = { (s.tp t).reporting h s.secs with
      st := st, cause := cause, admitted := admitted, admitCause := admitCause, silentNoted := noted } := by
  unfold State.verdict State.ruled
  split
  · rw [State.tp_identified]
    exact ⟨_, _, _, _, _, rfl⟩
  · split
    · rw [State.tp_found, State.tp_identified]
      exact ⟨_, _, _, _, _, rfl⟩
    · obtain ⟨_, _, hq⟩ := (s.identified t h).tp_quarantine t ((s.identified t h).judge t h)
      rw [hq, State.tp_identified]
      exact ⟨_, _, _, _, _, rfl⟩

theorem State.judgeHail_records (s : State) (t : Nat) (h : Hail) :
    ((s.judgeHail t h).tp t).hasId = true ∧ ((s.judgeHail t h).tp t).nodeId = h.nodeId
      ∧ ((s.judgeHail t h).tp t).kind = h.kind ∧ ((s.judgeHail t h).tp t).seenS = s.secs
      ∧ ((s.judgeHail t h).tp t).probe = none := by
  obtain ⟨_, _, _, _, _, hverdict⟩ := s.tp_verdict t h
  rw [State.tp_judgeHail, hverdict]
  exact ⟨rfl, rfl, rfl, rfl, rfl⟩

section
variable {s : State} {t : Nat} {h : Hail}

theorem State.judge_role (hrole : h.kind = 1 ∧ isX t = true ∨ h.kind = 0 ∧ isX t = false) : s.judge t h = 5 := by
  rcases hrole with ⟨hkind, hclass⟩ | ⟨hkind, hclass⟩ <;> simp [State.judge, hkind, hclass]

variable (hclass : isX t = true) (hkind : h.kind = 0)
include hclass hkind

theorem State.judge_foreign (hforeign : h.hall ≠ s.topo.hall ∨ h.strap = 1 ∨ h.rack = s.topo.rack) : s.judge t h = 4 := by
  rcases hforeign with h' | h' | h' <;> simp [State.judge, hkind, hclass, h']

theorem State.judge_found (hhigh : 640 ≤ t) (hhall : h.hall = s.topo.hall) (hstrap : h.strap ≠ 1) (hrack : h.rack ≠ s.topo.rack)
    (howner : s.owner t ≠ 0) : s.judge t h = 0 := by
  have hmixed : s.mixed t = false := if_pos (decide_eq_true hhigh)
  simp [State.judge, hkind, hclass, hhall, hstrap, hrack, howner, hmixed]

end

section
variable (s : State) (t : Nat) (h : Hail)

theorem State.identified_owner (k : Nat) : (s.identified t h).owner k = s.owner k := by
  rw [State.owner, State.identified_topo]
  rfl

theorem State.identified_inCircuit (k : Nat) : (s.identified t h).inCircuit k = s.inCircuit k := by
  rw [State.inCircuit, State.identified_topo]
  rfl

theorem State.identified_place : (s.identified t h).topo.hall = s.topo.hall ∧ (s.identified t h).topo.rack = s.topo.rack := by
  rw [State.identified_topo]
  exact ⟨rfl, rfl⟩

variable {s t h} (hquarantined : (s.tp t).st ≠ .quarantined) (hfailed : (s.tp t).st ≠ .failed) (hdark : (s.tp t).st ≠ .dark)
include hquarantined hfailed hdark

theorem State.verdict_ruled : s.verdict t h = (s.identified t h).ruled t ((s.identified t h).judge t h) :=
  if_neg (by simp [hquarantined, hfailed, hdark])

/-- A cause other than MIXED leaves the port QUARANTINED with it. -/
theorem State.judgeHail_quarantines {cause : Nat} (hjudge : (s.identified t h).judge t h = cause) (hsome : cause ≠ 0)
    (hone : cause ≠ 2) : ((s.judgeHail t h).tp t).st = .quarantined ∧ ((s.judgeHail t h).tp t).cause = cause := by
  rw [State.tp_judgeHail, State.verdict_ruled hquarantined hfailed hdark, hjudge, State.ruled, if_neg hsome,
    State.tp_quarantine_one _ _ hone]
  exact ⟨rfl, rfl⟩

theorem State.judgeHail_finds (hjudge : (s.identified t h).judge t h = 0) :
    ((s.judgeHail t h).tp t).st = (if s.inCircuit t then .inCircuit else .found)
      ∧ ((s.judgeHail t h).tp t).admitted = h.nodeId := by
  rw [State.tp_judgeHail, State.verdict_ruled hquarantined hfailed hdark, hjudge, State.ruled, if_pos rfl, State.tp_found,
    State.tp_identified, State.identified_inCircuit]
  exact ⟨rfl, rfl⟩

end

/-! ### HAIL (R208) -/

theorem State.landedT_headerIn (s : State) (p : Nat) (f : Bytes) (k : Nat) : (s.headerIn p f).landedT k = s.landedT k := by
  rw [State.headerIn_frame]
  rfl

theorem hail_next {p : Fin 256} {flit : Bytes} {k : Nat} {s : State} (hlive : s.lpLive p = true) (hst : (s.lp p).st = .active)
    (hgood : flitGood flit = true) (htype : ftypeOf flit = 3) (hnode : be flit 20 8 ≠ 0) (hlanded : s.landedT p = some k)
    (hclass : isAX k = true) (hpaused : s.paused = false) :
    exec (.hail p flit) s = .next ((s.headerIn p flit).judgeHail k (hailOf flit)) := by
  simp [exec, execHail, hlive, hst, hgood, htype, hailOf, hnode, State.landedT_headerIn, hlanded, hclass,
    hpaused]

theorem hail_judges (p : Fin 256) (flit : Bytes) (k : Nat) (s : State) (hlive : s.lpLive p = true) (hst : (s.lp p).st = .active)
    (hgood : flitGood flit = true) (htype : ftypeOf flit = 3) (hnode : be flit 20 8 ≠ 0) (hlanded : s.landedT p = some k)
    (hclass : isAX k = true) (_ : k < 768) (hpaused : s.paused = false) :
    ∃ t, exec (.hail p flit) s = .next t ∧ (t.tp k).hasId = true ∧ (t.tp k).nodeId = be flit 20 8
      ∧ (t.tp k).kind = byteAt flit 17 ∧ (t.tp k).seenS = s.secs ∧ (t.tp k).probe = none
      ∧ ((s.tp k).st ≠ .quarantined → (s.tp k).st ≠ .failed → (s.tp k).st ≠ .dark →
          (byteAt flit 17 = 1 ∧ isX k = true ∨ byteAt flit 17 = 0 ∧ isX k = false →
            (t.tp k).st = .quarantined ∧ (t.tp k).cause = 5)
          ∧ (isX k = true → byteAt flit 17 = 0 → (bits (byteAt flit 28) 0 4 ≠ s.topo.hall ∨ bits (byteAt flit 30) 0 2 = 1
              ∨ bits (byteAt flit 29) 0 6 = s.topo.rack) → (t.tp k).st = .quarantined ∧ (t.tp k).cause = 4)
          ∧ (640 ≤ k → isX k = true → byteAt flit 17 = 0 → bits (byteAt flit 28) 0 4 = s.topo.hall →
              bits (byteAt flit 30) 0 2 ≠ 1 → bits (byteAt flit 29) 0 6 ≠ s.topo.rack → s.owner k ≠ 0 →
              (t.tp k).st = (if s.inCircuit k then .inCircuit else .found) ∧ (t.tp k).admitted = be flit 20 8)) := by
  refine ⟨_, hail_next hlive hst hgood htype hnode hlanded hclass hpaused, ?_⟩
  generalize hs1 : s.headerIn p flit = s1
  have htopo : s1.topo = s.topo := by rw [← hs1, State.headerIn_topo]
  have htp : s1.tp k = s.tp k := by rw [State.tp, htopo, State.tp]
  have hsecs : s1.secs = s.secs := by rw [← hs1, State.secs, State.ns, State.headerIn_ast, State.secs, State.ns]
  have howner : (s1.identified k (hailOf flit)).owner k = s.owner k := by
    rw [State.identified_owner, State.owner, htopo, State.owner]
  have hcircuit : s1.inCircuit k = s.inCircuit k := by rw [State.inCircuit, htopo, State.inCircuit]
  obtain ⟨hhall, hrack⟩ := s1.identified_place k (hailOf flit)
  rw [htopo] at hhall hrack
  obtain ⟨hid, hnodeId, hkind, hseen, hprobe⟩ := s1.judgeHail_records k (hailOf flit)
  refine ⟨hid, hnodeId, hkind, hseen.trans hsecs, hprobe, ?_⟩
  rw [← htp, ← hcircuit, ← hhall, ← hrack, ← howner]
  intro hquarantined hfailed hdark
  refine ⟨fun hrole => ?_, fun hX h0 hforeign => ?_, fun hhigh hX h0 hsame hstrap hother howned => ?_⟩
  · exact State.judgeHail_quarantines hquarantined hfailed hdark (State.judge_role hrole) (by decide) (by decide)
  · exact State.judgeHail_quarantines hquarantined hfailed hdark (State.judge_foreign hX h0 hforeign) (by decide) (by decide)
  · exact State.judgeHail_finds hquarantined hfailed hdark (State.judge_found hX h0 hhigh hsame hstrap hother howned)

theorem hail_discards (p : Fin 256) (flit : Bytes) (s : State) (hlive : s.lpLive p = true) (hst : (s.lp p).st = .active)
    (hbad : flitGood flit = false ∨ ftypeOf flit ≠ 3 ∨ be flit 20 8 = 0) :
    ∃ t, exec (.hail p flit) s = .next t ∧ t.topo = s.topo ∧ LinkAndCounters p s t := by
  have hdiscard : (!flitGood flit || ftypeOf flit != 3 || (hailOf flit).nodeId == 0) = true := by
    rcases hbad with h | h | h <;> simp [h, hailOf]
  obtain ⟨hframe, hothers⟩ := s.discardFlit_linkAndCounters p 1
  refine ⟨s.discardFlit p 1, by simp [exec, execHail, hlive, hst, hdiscard], ?_, hframe, hothers⟩
  rw [hframe]

theorem hailSend_queues (p : Fin 256) (s : State) (hlive : s.lpLive p = true) (hst : (s.lp p).st = .active) :
    ∃ t, exec (.hailSend p) s = .next t
      ∧ t.lp p = { s.lp p with
          hailSeq := ((s.lp p).hailSeq + 1) % 2 ^ 32
          local_ := (s.lp p).local_ ++ [beBytes 1 3 ++ s.hailPayload (refP p) ((s.lp p).hailSeq + 1)] }
      ∧ OnlyLink p s t :=
  ⟨_, congrArg Host.Outcome.next (if_pos (by simp [hlive, hst])), s.lp_updLp p _, s.updLp_onlyLink p _⟩

/-! ### Time transfer (R209) -/

theorem sync_queues (s : State) : ∃ t, exec .sync s = .next t
    ∧ (∀ p x, s.lnk.port.find p = some x → x.st = .active →
        (t.lp p).timeSeq = (x.timeSeq + 1) % 65536 ∧ (t.lp p).local_.length = x.local_.length + 1)
    ∧ (∀ p x, s.lnk.port.find p = some x → x.st ≠ .active → t.lp p = x)
    ∧ t = { s with lnk := { s.lnk with port := t.lnk.port } } := by
  refine ⟨_, rfl, fun p x hx hst => ?_, fun p x hx hst => ?_, rfl⟩ <;> simp [State.lp, Tbl.get, Tbl.find_mapVal, hx, hst]

theorem delayReq_answers (p : Fin 256) (flit : Bytes) (s : State) (hlive : s.lpLive p = true) (hst : (s.lp p).st = .active)
    (hgood : flitGood flit = true) (htype : ftypeOf flit = 4) (hrequest : byteAt flit 16 = 1) :
    ∃ t, exec (.delayReq p flit) s = .next t
      ∧ (t.lp p).local_ = (s.lp p).local_ ++ [beBytes 1 4 ++ s.timePayload 2 (be flit 18 2) s.time16]
      ∧ (∀ q, q ≠ p.val → t.lp q = s.lp q) ∧ t.ast = s.ast := by
  have hnext : exec (.delayReq p flit) s = .next ((s.headerIn p flit).updLp p (fun x => { x with
      local_ := x.local_ ++ [beBytes 1 4 ++ s.timePayload 2 (be flit 18 2) s.time16] })) := by
    simp [exec, execDelayReq, hlive, hst, hgood, htype, hrequest]
  refine ⟨_, hnext, ?_, (s.headerIn_otherLinks p flit).trans (State.updLp_otherLinks _ p _), s.headerIn_ast p flit⟩
  rw [State.lp_updLp, State.local_headerIn]

/-! ### NAK and the error ratio (R207, R212) -/

theorem nak_frees (p : Fin 256) (frame : Bytes) (s : State) (hlive : s.lpLive p = true) (hkind : ctlKind frame = 0x20) :
    ∃ t, exec (.nak p frame) s = .next t
      ∧ t.lp p = { s.lp p with
          ownLimit := (s.lp p).ownLimit.set 6 (((s.lp p).ownLimit.getD 6 0 + flitsOf frame.length) % 65536) }
      ∧ LinkAndCounters p s t :=
  ⟨_, congrArg Host.Outcome.next (if_pos (by simp [hlive, hkind])), State.lp_updLp _ p _, rfl,
    State.updLp_otherLinks (s.lcount "NAKS_RECEIVED" p 1) p _⟩

/-- The bit that the transmitter sends of the error ratio. -/
def State.degraded (s : State) (p : Nat) (above : Bool) : State := s.updLp p (fun x => { x with fecDegraded := above })

section
variable {p : Fin 256} {above : Bool} {s : State} (hlive : s.lpLive p = true)
include hlive

/-- No WARNING is due below the limit, nor within 10 minutes of the last. -/
theorem fecDegraded_quiet (h : above = false ∨ ∃ a, (s.lp p).fecWarnAt = some a ∧ s.ns < a + 600000000000) :
    exec (.fecDegraded p above) s = .next (s.degraded p above) := by
  rcases h with h | ⟨a, h, hearly⟩
  · simp [exec, execFecDegraded, hlive, h, State.degraded]
  · simp [exec, execFecDegraded, hlive, h, Nat.not_le.mpr hearly, State.degraded]

theorem fecDegraded_warns (habove : above = true) (hdue : ∀ a, (s.lp p).fecWarnAt = some a → a + 600000000000 ≤ s.ns) :
    exec (.fecDegraded p above) s = .next (((s.degraded p above).updLp p (fun x => { x with fecWarnAt := some s.ns })).logAdd
      sevWarning (s.owner (refP p)) (evNamed 4 "FEC_DEGRADED") (agentKind 2 p) [p]) := by
  cases h : (s.lp p).fecWarnAt with
  | none => simp [exec, execFecDegraded, hlive, h, habove, State.degraded]
  | some a => simp [exec, execFecDegraded, hlive, h, habove, hdue a h, State.degraded]

end

theorem fecDegraded_sends (p : Fin 256) (above : Bool) (s : State) (hlive : s.lpLive p = true) :
    ∃ t, exec (.fecDegraded p above) s = .next t ∧ (t.lp p).fecDegraded = above
      ∧ (above = false → t.log = s.log)
      ∧ (above = true → (s.lp p).fecWarnAt = none → t.log.created = s.log.created + 1 ∧ (t.lp p).fecWarnAt = some s.ns)
      ∧ (∀ a, (s.lp p).fecWarnAt = some a → s.ns < a + 600000000000 → t.log = s.log)
      ∧ (∀ q, q ≠ p.val → t.lp q = s.lp q)
      ∧ t = { s with lnk := { s.lnk with port := t.lnk.port }, log := t.log } := by
  have hlp : (s.degraded p above).lp p = { s.lp p with fecDegraded := above } := s.lp_updLp p _
  have hothers : OtherLinks p s (s.degraded p above) := s.updLp_otherLinks p _
  by_cases hquiet : above = false ∨ ∃ a, (s.lp p).fecWarnAt = some a ∧ s.ns < a + 600000000000
  · refine ⟨_, fecDegraded_quiet hlive hquiet, by rw [hlp], fun _ => rfl, fun habove hnone => ?_, fun _ _ _ => rfl, hothers, rfl⟩
    rcases hquiet with h | ⟨a, h, -⟩
    · rw [h] at habove
      cases habove
    · rw [h] at hnone
      cases hnone
  · obtain ⟨habove, hdue⟩ := not_or.mp hquiet
    refine ⟨_, fecDegraded_warns hlive (by simpa using habove) fun a h => Nat.not_lt.mp fun hearly => hdue ⟨a, h, hearly⟩, ?_, ?_,
      fun _ _ => ⟨?_, ?_⟩, fun a h hearly => ?_, ?_, ?_⟩
    · rw [State.lp_logAdd, State.lp_updLp, hlp]
    · exact fun h => absurd h habove
    · exact State.logAdd_created _ (by decide) ..
    · rw [State.lp_logAdd, State.lp_updLp]
    · exact absurd ⟨a, h, hearly⟩ hdue
    · exact (hothers.trans (State.updLp_otherLinks _ p _)).trans (State.logAdd_otherLinks _ p)
    · rw [State.logAdd_frame]
      rfl

end Sys2Proof.Machine

namespace Sys2Proof.Proofs

open Sys2Proof.Machine

/-- Settles O34: an identity recorded and judged, the flits of HAIL and time queued, a NAK's credit, and the warning of the
error ratio. -/
theorem hailTimeAndNak : Obligations.HailTimeAndNak :=
  ⟨hail_judges, hail_discards, hailSend_queues, sync_queues, delayReq_answers,
    fun p frame s hlive hkind _ => nak_frees p frame s hlive hkind, fecDegraded_sends⟩

end Sys2Proof.Proofs
end
